-- ==== Sys2Proof/Word.lean ====
section
/-! DEFINITION. The word types of the Wharvel 2860 and their plainest arithmetic: bytes, and the
millisecond time base whose differences are taken modulo 2^32 (R1). -/

namespace Sys2Proof

/-- One byte, as the line frame and the terminal link carry it. -/
abbrev Byte := BitVec 8

/-- A value of the station's time base: milliseconds modulo 2^32 (R1). -/
abbrev Time := BitVec 32

/-- The milliseconds from `start` to `now`, as a difference modulo 2^32 (R1). -/
def Time.since (now start : Time) : Nat := (now - start).toNat

end Sys2Proof
end

