-- ==== Sys2Proof/Config.lean ====
section
/-! DEFINITION. What an installation fixes, and the model's one free value. -/

namespace Sys2Proof

/-- The four strap levels as they are read once at the end of reset (R23, Table 0-6): each one of
eight levels. -/
structure Straps where
  sta : Fin 8
  stb : Fin 8
  role : Fin 8
  mode : Fin 8
  deriving DecidableEq, Repr

/-- The straps of `State.reset`: STA 1, STB 6, ROLE 0, MODE 0, the till 14 at 250 kbit/s of the
spec's examples. DESIGN CHOICE (log 3): the spec leaves the straps to the installer; the command
RESET reads any others. -/
def Config.resetStraps : Straps := ⟨1, 6, 0, 0⟩

/-- A byte the spec leaves open. It has no body, so nothing can be proved of it; the argument is
the counter `State.free` (logs 13, 23, 36). -/
opaque Config.freeByte : Nat → Byte

end Sys2Proof
end

