-- ==== Sys2Proof/Syntax.lean ====
section
/-! DEFINITION. The commands of the 2860: the line frames (Tables 1-1 to 1-3), the request bodies
(Table 10-7), and `Instr`, one constructor for each row of spec/opcode_table.json. -/

namespace Sys2Proof

/-! ## Named values that frames and requests carry -/

/-- The two roles, fixed by the ROLE strap (R23); code in PRESENCE: 0 till, 1 kitchen. -/
inductive Role where
  | till | kitchen
  deriving DecidableEq, Repr

/-- Printer state field of PRESENCE (Table 1-3): 0 OK, 1 LATCHED, 2 RETRYING, 3 DOWN. -/
inductive PrinterState where
  | ok | latched | retrying | down
  deriving DecidableEq, Repr

/-- Priority of a ticket, and band of a queued entry: 0 NORMAL, 1 RUSH (Table 1-3, R84). -/
inductive Band where
  | normal | rush
  deriving DecidableEq, Repr

/-- Kitchen state of a PROGRESS (Table 1-3): 0 QUEUED, 1 FIRED, 2 READY, 3 LATE, 4 REFUSED. -/
inductive KitchenState where
  | queued | fired | ready | late | refused
  deriving DecidableEq, Repr

/-- Outcome of a WITHDRAW-REPLY (Table 1-3): 0 REMOVED, 1 FIRED, 2 UNKNOWN. -/
inductive WithdrawOutcome where
  | removed | fired | unknown
  deriving DecidableEq, Repr

/-- Reason of a SHARE-DENY (Table 1-3, R140), code 0 to 7 in this order. -/
inductive DenyReason where
  | null | wrongHome | absent | stale | range | settled | held | pending
  deriving DecidableEq, Repr

/-- Tender of a payment: 0 CASH, 1 CARD (Table 1-3). -/
inductive Tender where
  | cash | card
  deriving DecidableEq, Repr

/-- Outcome of a SHARE-CLOSE (Table 1-3): 0 PAID-RECORDED, 1 RETURN-RECORDED, 2 CONFLICT. -/
inductive CloseOutcome where
  | paidRecorded | returnRecorded | conflict
  deriving DecidableEq, Repr

/-- One decoded cell of the line (R2): a 0, a 1, or a coding violation without a data value. -/
inductive Cell where
  | zero | one | violation
  deriving DecidableEq, Repr

/-! ## Line frames -/

/-- A ticket reference: number 1-4095 and generation 0-15 (R7). -/
structure Ref where
  number : Nat
  gen : Nat
  deriving DecidableEq, Repr

/-- The body of a PRESENCE (Table 1-3, R33). -/
structure PresenceFields where
  role : Role
  cls : Nat
  mark : Nat
  depth : Nat
  freeSlots : Nat
  accepting : Bool
  printer : PrinterState
  lastCall : Bool
  deriving DecidableEq, Repr

/-- One line item of an OFFER (Table 1-3): quantity, label, note (absent when empty). -/
structure OfferItem where
  qty : Nat
  label : List Byte
  note : List Byte
  deriving DecidableEq, Repr

/-- The body of an OFFER (Table 1-3, R66). -/
structure OfferFields where
  ref : Ref
  cls : Nat
  priority : Band
  attempt : Nat
  items : List OfferItem
  deriving DecidableEq, Repr

/-- A share's amounts record (Table 7-1, R133), also the money fields of SHARE-GRANT. -/
structure Amounts where
  goods : Nat
  discount : Nat
  net : Nat
  tax0 : Nat
  tax1 : Nat
  tax2 : Nat
  tax3 : Nat
  deposits : Nat
  total : Nat
  deriving DecidableEq, Repr

/-- The sixteen frame kinds with their body fields, in the order of Table 1-2 (R6, R7). -/
inductive FrameBody where
  | presence (p : PresenceFields)
  | offer (o : OfferFields)
  | bid (origin : Nat) (ref : Ref) (depth : Nat)
  | award (ref : Ref) (awardee : Nat) (mask : Byte)
  | progress (ref : Ref) (kstate : KitchenState) (mask : Byte)
  | withdraw (ref : Ref) (position : Nat)
  | withdrawReply (ref : Ref) (position : Nat) (outcome : WithdrawOutcome) (nowEmpty : Bool)
  | revoke (ref : Ref)
  | collect (ref : Ref)
  | shareAsk (code share : Nat)
  | shareGrant (code share : Nat) (amounts : Amounts)
  | shareDeny (code share : Nat) (reason : DenyReason)
  | shareSettle (code share : Nat) (tender : Tender) (settled : Nat) (adjustment : Int)
  | shareReturn (code share : Nat)
  | shareClose (code share : Nat) (outcome : CloseOutcome)
  | lastCall
  deriving DecidableEq, Repr

/-- A line frame: destination code, source station and body (Table 1-1). -/
structure Frame where
  dest : Nat
  src : Nat
  body : FrameBody
  deriving DecidableEq, Repr

/-! ## Request bodies of more than a few fields -/

/-- The body of CONFIGURE (Tables 2-2 and 10-7), as the request carries it. -/
structure ConfigureFields where
  tax0 : Nat
  tax1 : Nat
  tax2 : Nat
  tax3 : Nat
  fire : Nat
  warn : Nat
  late : Nat
  lineFault : Nat
  noResponse : Nat
  cut : Nat
  deriving DecidableEq, Repr

/-- The line fields of ADD-LINE (R45, Table 10-7), as the request carries them. -/
structure LineFields where
  label : List Byte
  note : List Byte
  qty : Nat
  price : Nat
  taxGroup : Nat
  deposit : Nat
  cls : Nat
  restricted : Nat
  deriving DecidableEq, Repr

/-- An edge of SCK (R166): a rising edge, with the level SDI has at it, or a falling edge. -/
inductive ClockEdge where
  | rise (sdi : Bool)
  | fall
  deriving DecidableEq, Repr

/-! ## The commands -/

/-- The commands of the block, one constructor for each row of spec/opcode_table.json, in the
table's order. Requests carry the body fields of Table 10-7; deliveries carry the destination, the
source and the body fields of the frame delivered (log 4); a timer's row names the record the timer
belongs to. -/
inductive Instr where
  | reset (straps : Straps)
  | transactionBegin
  | selRise
  | ignoredTransaction (kind : Byte) (body : List Byte)
  | configure (fields : ConfigureFields)
  | start
  | signOn (operator level : Nat)
  | signOff (slot : Nat)
  | openTab (slot : Nat)
  | addLine (slot code : Nat) (line : LineFields)
  | voidLine (slot code line : Nat)
  | wasteLine (slot code line : Nat)
  | closeTab (slot code : Nat)
  | lastCall (slot : Nat)
  | split (slot code count : Nat)
  | assign (slot code line kind share : Nat) (weights : List Nat)
  | discount (slot code share percent : Nat)
  | send (slot code priority : Nat)
  | retryTicket (slot number : Nat)
  | collect (slot number : Nat)
  | take (slot code share : Nat)
  | pay (slot code share tender tendered : Nat)
  | giveBack (slot code share : Nat)
  | takeRemote (slot code share : Nat)
  | forceRelease (slot code share : Nat)
  | clearOrphan (slot code share : Nat)
  | bump (slot origin number : Nat)
  | reprint (slot origin number : Nat)
  | clearPrinter (slot : Nat)
  | fetch
  | fetchReplyEnd
  | queryState
  | queryStation (station : Nat)
  | queryTab (code first : Nat)
  | queryShare (code share : Nat)
  | queryTicket (number : Nat)
  | queryQueue (part first : Nat)
  | queryBorrowed (position : Nat)
  | queryTotals (slot : Nat)
  | receptionEnd
  | transmissionStart
  | transmissionComplete
  | collision (heard : Cell)
  | jamEnd
  | joinWindowEnd
  | presenceTimerExpiry
  | silenceTimerExpiry (station : Nat)
  | presence (dest src : Nat) (p : PresenceFields)
  | offer (dest src : Nat) (o : OfferFields)
  | bid (dest src origin : Nat) (ref : Ref) (depth : Nat)
  | bidHeardAtKitchen (dest src origin : Nat) (ref : Ref) (depth : Nat)
  | award (dest src : Nat) (ref : Ref) (awardee : Nat) (mask : Byte)
  | progress (dest src : Nat) (ref : Ref) (kstate : KitchenState) (mask : Byte)
  | withdraw (dest src : Nat) (ref : Ref) (position : Nat)
  | withdrawReply (dest src : Nat) (ref : Ref) (position : Nat) (outcome : WithdrawOutcome)
      (nowEmpty : Bool)
  | revoke (dest src : Nat) (ref : Ref)
  | collectFrame (dest src : Nat) (ref : Ref)
  | lastCallFrame (dest src : Nat)
  | shareAsk (dest src code share : Nat)
  | shareGrant (dest src code share : Nat) (amounts : Amounts)
  | shareDeny (dest src code share : Nat) (reason : DenyReason)
  | shareSettle (dest src code share : Nat) (tender : Tender) (settled : Nat) (adjustment : Int)
  | shareReturn (dest src code share : Nat)
  | shareClose (dest src code share : Nat) (outcome : CloseOutcome)
  | offerWindowExpiry (number : Nat)
  | awardWaitExpiry (number : Nat)
  | withdrawReplyWaitExpiry (number position : Nat)
  | bidDelayExpiry (origin number : Nat)
  | tentativeExpiry (origin number : Nat)
  | lapsedItemExpiry (origin number : Nat)
  | warnTimerExpiry (origin number : Nat)
  | lateTimerExpiry (origin number : Nat)
  | passReadyRepeat (origin number : Nat)
  | passExpiry (origin number : Nat)
  | askWaitExpiry (code share : Nat)
  | holdLimitExpiry (code share : Nat)
  | repeatWaitExpiry (code share : Nat)
  | printerLineAccepted
  | cutAccepted
  | handshakeLimitExpiry
  | faultAsserted
  | faultReleased
  | deglitchTimerExpiry
  | retryCheck
  | recoveryEnd
  | lineTransition (halves : Nat)
  | syncPatternMatch
  | destinationCharacter
  | frameAbandoned
  | linkByteComplete (edges : List ClockEdge)
  | strobeReleased
  | busyAsserted
  | busyReleased
  deriving DecidableEq, Repr

end Sys2Proof
end

