-- ==== Sys2Proof/Machine/Bytes.lean ====
section
/-! DEFINITION. Bytes: big-endian fields (R4, R166), readers that take a field off the front of a
byte list, and the label and note characters (R7). -/

namespace Sys2Proof.Machine

/-- A number as one byte. -/
def byte (n : Nat) : Byte := BitVec.ofNat 8 n

/-- Two bytes, high byte first. -/
def be16 (n : Nat) : List Byte := [byte (n / 256), byte n]

/-- Four bytes, high byte first. -/
def be32 (n : Nat) : List Byte :=
  [byte (n / 16777216), byte (n / 65536), byte (n / 256), byte n]

/-- Six bytes, high byte first: a slot total of cents (Table 10-4). -/
def be48 (n : Nat) : List Byte := be16 (n / 4294967296) ++ be32 n

/-- Two's complement in six bytes: the rounding sum (Table 10-4). -/
def be48Int (i : Int) : List Byte := be48 (BitVec.ofInt 48 i).toNat

/-- A flag as one byte, 0 or 1. -/
def flagByte (b : Bool) : Byte := if b then 1#8 else 0#8

/-- An adjustment, two's complement in one byte (R7, Table 10-4). -/
def adjustmentByte (i : Int) : Byte := BitVec.ofInt 8 i

/-- The eight bits of a byte in the order of the terminal link, most significant first (R166). -/
def linkBits (b : Byte) : List Bool := (List.range 8).map fun i => b.getMsbD i

/-- The edges of SCK that clock one byte in (R166): each bit is sampled at a rising edge, with a falling
edge before it. With SCK low the first falling edge is none. -/
def clockByte (b : Byte) : List ClockEdge := (linkBits b).flatMap fun sdi => [.fall, .rise sdi]

/-- The byte that bits spell, most significant first (R166). -/
def byteOfLink (bits : List Bool) : Byte := byte (bits.foldl (fun n b => 2 * n + b.toNat) 0)

/-- Takes one byte off the front. -/
def rd8 : List Byte → Option (Nat × List Byte)
  | a :: r => some (a.toNat, r)
  | [] => none

/-- Takes two bytes off the front, high byte first. -/
def rd16 : List Byte → Option (Nat × List Byte)
  | a :: b :: r => some (a.toNat * 256 + b.toNat, r)
  | _ => none

/-- Takes four bytes off the front, high byte first. -/
def rd32 : List Byte → Option (Nat × List Byte)
  | a :: b :: c :: d :: r =>
      some (((a.toNat * 256 + b.toNat) * 256 + c.toNat) * 256 + d.toNat, r)
  | _ => none

/-- Takes a counted run of bytes off the front: its length byte, then that many bytes. -/
def rdCounted : List Byte → Option (List Byte × List Byte)
  | n :: r => if n.toNat ≤ r.length then some (r.take n.toNat, r.drop n.toNat) else none
  | [] => none

/-- A counted run of bytes: its length byte, then the bytes. -/
def counted (bs : List Byte) : List Byte := byte bs.length :: bs

/-- Label and note characters are 20H to 7EH (R7, R44). -/
def printable (b : Byte) : Bool := 0x20 ≤ b.toNat && b.toNat ≤ 0x7E

/-- The two decimal digits of a number below 100, as characters. -/
def digits2 (n : Nat) : List Byte := [byte (48 + n / 10 % 10), byte (48 + n % 10)]

/-- The four decimal digits of a number below 10000, as characters. -/
def digits4 (n : Nat) : List Byte := digits2 (n / 100) ++ digits2 n

end Sys2Proof.Machine
end

