-- ==== Sys2Proof/Decode.lean ====
section
/-! DEFINITION. The requests of Table 10-7 as kind byte and body bytes: `encodeRequest` and
`decodeRequest` (R168), and `decodeTableWord`, the table's words (no row of the table has bits). -/

namespace Sys2Proof

open Machine

/-- Slot and code, as most requests open (Table 10-7). -/
def slotCodeBytes (slot code : Nat) : List Byte := byte slot :: be16 code

/-- The kind code and body bytes of a request (Table 10-7, each field coded by Table 10-4); none for
a command that is no request. -/
def encodeRequest : Instr → Option (Byte × List Byte)
  | .configure f => some (0x01#8,
      be16 f.tax0 ++ be16 f.tax1 ++ be16 f.tax2 ++ be16 f.tax3 ++ [byte f.fire] ++ be16 f.warn
        ++ be16 f.late ++ [byte f.lineFault, byte f.noResponse, byte f.cut])
  | .start => some (0x02#8, [])
  | .signOn operator level => some (0x03#8, be16 operator ++ [byte level])
  | .signOff slot => some (0x04#8, [byte slot])
  | .openTab slot => some (0x10#8, [byte slot])
  | .addLine slot code l => some (0x11#8,
      slotCodeBytes slot code ++ counted l.label ++ counted l.note ++ [byte l.qty] ++ be16 l.price
        ++ [byte l.taxGroup] ++ be16 l.deposit ++ [byte l.cls, byte l.restricted])
  | .voidLine slot code line => some (0x12#8, slotCodeBytes slot code ++ [byte line])
  | .wasteLine slot code line => some (0x13#8, slotCodeBytes slot code ++ [byte line])
  | .closeTab slot code => some (0x14#8, slotCodeBytes slot code)
  | .lastCall slot => some (0x15#8, [byte slot])
  | .split slot code count => some (0x18#8, slotCodeBytes slot code ++ [byte count])
  | .assign slot code line kind share weights => some (0x19#8,
      slotCodeBytes slot code ++ [byte line, byte kind, byte share] ++ weights.map byte)
  | .discount slot code share percent =>
      some (0x1A#8, slotCodeBytes slot code ++ [byte share, byte percent])
  | .send slot code priority => some (0x20#8, slotCodeBytes slot code ++ [byte priority])
  | .retryTicket slot number => some (0x21#8, slotCodeBytes slot number)
  | .collect slot number => some (0x22#8, slotCodeBytes slot number)
  | .take slot code share => some (0x28#8, slotCodeBytes slot code ++ [byte share])
  | .pay slot code share tender tendered =>
      some (0x29#8, slotCodeBytes slot code ++ [byte share, byte tender] ++ be32 tendered)
  | .giveBack slot code share => some (0x2A#8, slotCodeBytes slot code ++ [byte share])
  | .takeRemote slot code share => some (0x2B#8, slotCodeBytes slot code ++ [byte share])
  | .forceRelease slot code share => some (0x2C#8, slotCodeBytes slot code ++ [byte share])
  | .clearOrphan slot code share => some (0x2D#8, slotCodeBytes slot code ++ [byte share])
  | .bump slot origin number => some (0x30#8, byte slot :: byte origin :: be16 number)
  | .reprint slot origin number => some (0x31#8, byte slot :: byte origin :: be16 number)
  | .clearPrinter slot => some (0x32#8, [byte slot])
  | .fetch => some (0x40#8, [])
  | .queryState => some (0x41#8, [])
  | .queryStation station => some (0x42#8, [byte station])
  | .queryTab code first => some (0x43#8, be16 code ++ [byte first])
  | .queryShare code share => some (0x44#8, be16 code ++ [byte share])
  | .queryTicket number => some (0x45#8, be16 number)
  | .queryQueue part first => some (0x46#8, [byte part, byte first])
  | .queryBorrowed position => some (0x47#8, [byte position])
  | .queryTotals slot => some (0x48#8, [byte slot])
  | _ => none

/-- The rest of a body must be used up: a length other than the table's is no request (R168). -/
def whole (i : Instr) (rest : List Byte) : Option Instr := if rest = [] then some i else none

/-- Takes the slot and a two byte field off the front of a body. -/
def rdSlotCode (bs : List Byte) : Option (Nat × Nat × List Byte) := do
  let (slot, r) ← rd8 bs
  let (code, r) ← rd16 r
  some (slot, code, r)

/-- A body of slot, code and one byte. -/
def slotCodeByte (f : Nat → Nat → Nat → Instr) (bs : List Byte) : Option Instr := do
  let (slot, code, r) ← rdSlotCode bs
  let (x, r) ← rd8 r
  whole (f slot code x) r

/-- The request a kind byte and a body spell, with every field as it was sent; none where the kind
is not one of the codes of Table 10-7 or the body length differs from the table's (R168). -/
def decodeRequest (kind : Byte) (body : List Byte) : Option Instr :=
  match kind.toNat with
  | 0x01 => do
      let (t0, r) ← rd16 body
      let (t1, r) ← rd16 r
      let (t2, r) ← rd16 r
      let (t3, r) ← rd16 r
      let (f, r) ← rd8 r
      let (w, r) ← rd16 r
      let (l, r) ← rd16 r
      let (lf, r) ← rd8 r
      let (nr, r) ← rd8 r
      let (cut, r) ← rd8 r
      whole (.configure ⟨t0, t1, t2, t3, f, w, l, lf, nr, cut⟩) r
  | 0x02 => whole .start body
  | 0x03 => do
      let (operator, r) ← rd16 body
      let (level, r) ← rd8 r
      whole (.signOn operator level) r
  | 0x04 => do
      let (slot, r) ← rd8 body
      whole (.signOff slot) r
  | 0x10 => do
      let (slot, r) ← rd8 body
      whole (.openTab slot) r
  | 0x11 => do
      let (slot, code, r) ← rdSlotCode body
      let (label, r) ← rdCounted r
      let (note, r) ← rdCounted r
      let (qty, r) ← rd8 r
      let (price, r) ← rd16 r
      let (group, r) ← rd8 r
      let (deposit, r) ← rd16 r
      let (cls, r) ← rd8 r
      let (restricted, r) ← rd8 r
      whole (.addLine slot code ⟨label, note, qty, price, group, deposit, cls, restricted⟩) r
  | 0x12 => slotCodeByte .voidLine body
  | 0x13 => slotCodeByte .wasteLine body
  | 0x14 => do
      let (slot, code, r) ← rdSlotCode body
      whole (.closeTab slot code) r
  | 0x15 => do
      let (slot, r) ← rd8 body
      whole (.lastCall slot) r
  | 0x18 => slotCodeByte .split body
  | 0x19 => do
      let (slot, code, r) ← rdSlotCode body
      let (line, r) ← rd8 r
      let (kind, r) ← rd8 r
      let (share, r) ← rd8 r
      if r.length = 8 then some (.assign slot code line kind share (r.map BitVec.toNat)) else none
  | 0x1A => do
      let (slot, code, r) ← rdSlotCode body
      let (share, r) ← rd8 r
      let (percent, r) ← rd8 r
      whole (.discount slot code share percent) r
  | 0x20 => slotCodeByte .send body
  | 0x21 => do
      let (slot, number, r) ← rdSlotCode body
      whole (.retryTicket slot number) r
  | 0x22 => do
      let (slot, number, r) ← rdSlotCode body
      whole (.collect slot number) r
  | 0x28 => slotCodeByte .take body
  | 0x29 => do
      let (slot, code, r) ← rdSlotCode body
      let (share, r) ← rd8 r
      let (tender, r) ← rd8 r
      let (tendered, r) ← rd32 r
      whole (.pay slot code share tender tendered) r
  | 0x2A => slotCodeByte .giveBack body
  | 0x2B => slotCodeByte .takeRemote body
  | 0x2C => slotCodeByte .forceRelease body
  | 0x2D => slotCodeByte .clearOrphan body
  | 0x30 => do
      let (slot, r) ← rd8 body
      let (origin, r) ← rd8 r
      let (number, r) ← rd16 r
      whole (.bump slot origin number) r
  | 0x31 => do
      let (slot, r) ← rd8 body
      let (origin, r) ← rd8 r
      let (number, r) ← rd16 r
      whole (.reprint slot origin number) r
  | 0x32 => do
      let (slot, r) ← rd8 body
      whole (.clearPrinter slot) r
  | 0x40 => whole .fetch body
  | 0x41 => whole .queryState body
  | 0x42 => do
      let (station, r) ← rd8 body
      whole (.queryStation station) r
  | 0x43 => do
      let (code, r) ← rd16 body
      let (first, r) ← rd8 r
      whole (.queryTab code first) r
  | 0x44 => do
      let (code, r) ← rd16 body
      let (share, r) ← rd8 r
      whole (.queryShare code share) r
  | 0x45 => do
      let (number, r) ← rd16 body
      whole (.queryTicket number) r
  | 0x46 => do
      let (part, r) ← rd8 body
      let (first, r) ← rd8 r
      whole (.queryQueue part first) r
  | 0x47 => do
      let (position, r) ← rd8 body
      whole (.queryBorrowed position) r
  | 0x48 => do
      let (slot, r) ← rd8 body
      whole (.queryTotals slot) r
  | _ => none

/-- The command a word of spec/opcode_table.json spells. No row of the table has bits (98_reader.md:
no row with fixed bits, no row with fields), so no word spells one. -/
def decodeTableWord (_nbits _w : Nat) : Option Instr := none

end Sys2Proof
end

