-- ==== Sys2Proof/Machine/State.lean ====
section
/-! DEFINITION. The state of the 2860 as plain data, block by block in the spec's own names, and the
state right after reset. Money is in cents, times are values of the station's time base. -/

namespace Sys2Proof.Machine

/-! ## Clock and join machine -/

/-- The station's clock. `time` is the time base (R1). `msPhase` is how many half bit times of the
running millisecond have passed, `halfBits` counts half bit times since reset; its upper 32 bits are
the bit-time count (R3). Log 1. -/
structure Clock where
  time : Time
  msPhase : Nat
  halfBits : BitVec 33
  deriving DecidableEq, Repr

/-- Join states (Table 2-1). -/
inductive JoinState where
  | strapFault | config | joining | onLine | duplicate
  deriving DecidableEq, Repr

/-- What a printer fault of one kind leads to (Table 2-2). -/
inductive Response where
  | latch | retry | skip
  deriving DecidableEq, Repr

/-- The CONFIGURE figures (Table 2-2); a role's unused figures keep their defaults (R26). -/
structure Figures where
  tax0 : Nat
  tax1 : Nat
  tax2 : Nat
  tax3 : Nat
  fire : Nat
  warn : Nat
  late : Nat
  lineFault : Response
  noResponse : Response
  cut : Byte
  deriving DecidableEq, Repr

/-- The join machine (R23 to R32). `startMark` is 0 until captured; `windowFrom` is when the join
window began; `presenceFrom` is when the presence timer last ran out. -/
structure Join where
  state : JoinState
  startMark : Nat
  windowFrom : Option Time
  presenceFrom : Option Time
  figures : Figures
  deriving DecidableEq, Repr

/-! ## Line controller -/

/-- Line states (R3). -/
inductive LineState where
  | idle | busy | sending | jamming
  deriving DecidableEq, Repr

/-- Frame receiver states (R8). -/
inductive RxState where
  | off | hunt | address | take
  deriving DecidableEq, Repr

/-- The frame receiver (R8 to R10). `openHalf`: a half bit interval has been seen and awaits its
second half. `history`: the last decoded cells, newest first, at most sixteen. `cells`: the cells
collected since the sync pattern (ADDRESS) or since the destination (TAKE), newest first.
`dest`: the destination, the first byte of the frame in TAKE. `violation`: for how many half bit
times the coding violations at the end of a reception have lasted without a break (R10, log 11). -/
structure Receiver where
  state : RxState
  openHalf : Bool
  history : List Cell
  cells : List Cell
  dest : Nat
  violation : Nat
  deriving DecidableEq, Repr

/-- The blocks that queue frames (R14). -/
inductive Owner where
  | stationTable | tabTable | ticketTable | kitchenQueue | settlementUnit
  deriving DecidableEq, Repr

/-- A queued frame (R14): the frame, its owning block, deferral class, collision count n and
backoff k. `wait`: it is a frame of a record that times a wait from its end, and starts that wait where it
still applies (R65, R86, R148, R151); an AWARD that answers a second bidder (R69), a SHARE-RETURN that
answers an unmatched grant (R148) and a frame whose record has let it go (R16, log 28) are none. -/
structure TxItem where
  frame : Frame
  owner : Owner
  cls : Nat
  n : Nat
  k : Nat
  wait : Bool
  deriving DecidableEq, Repr

/-- The line controller. `state` is none in STRAP-FAULT (R3). `since` counts half bit times since the
last transition on the pair, whichever station drove it, up to 131071; the idle count is its half.
`waiting` is the transmit queue in its order (R14), `sending` the frame in transmission, `txPos` the
half bit times of that frame or of its jam already on the line. -/
structure LineCtl where
  state : Option LineState
  since : Nat
  rx : Receiver
  inbound : List Frame
  waiting : List TxItem
  sending : Option TxItem
  txPos : Nat
  deriving DecidableEq, Repr

/-! ## Station table -/

/-- A station table entry that is PRESENT or SILENT (Table 2-4); an ABSENT one is none. -/
structure Heard where
  silent : Bool
  role : Role
  cls : Nat
  mark : Nat
  lastHeard : Time
  depth : Nat
  freeSlots : Nat
  accepting : Bool
  printer : PrinterState
  lastCall : Bool
  deriving DecidableEq, Repr

/-- Why a station, awardee or holder is lost. -/
inductive Lost where
  | silent | restarted
  deriving DecidableEq, Repr

/-! ## Tabs, lines, shares -/

/-- How a line is divided among the shares (R44, R126). -/
inductive Alloc where
  | allEqual
  | one (k : Nat)
  | weighted (weights : List Nat)
  deriving DecidableEq, Repr

/-- Line states of a tab's line (Table 3-4). -/
inductive TabLineState where
  | entered | sent | withdrawing | fired | ready | served | void | waste
  deriving DecidableEq, Repr

/-- A line of a tab (Table 3-3). `place` is the ticket number and position. -/
structure TabLine where
  label : List Byte
  note : List Byte
  qty : Nat
  price : Nat
  taxGroup : Nat
  deposit : Nat
  cls : Nat
  restricted : Bool
  alloc : Alloc
  state : TabLineState
  place : Option (Nat × Nat)
  deriving DecidableEq, Repr

/-- The payment fields of a PAID share (Table 8-1). -/
structure Payment where
  tender : Tender
  settled : Nat
  adjustment : Int
  station : Nat
  operator : Option Nat
  time : Time
  deriving DecidableEq, Repr

/-- Share states with the fields each holds (Table 8-1). -/
inductive ShareState where
  | opened
  | empty
  | heldLocal (slot : Nat)
  | heldRemote (station mark : Nat)
  | adrift (station mark : Nat) (reason : Lost)
  | paid (payment : Payment)
  deriving DecidableEq, Repr

/-- A share record (Tables 7-1 and 8-1). -/
structure Share where
  discount : Nat
  amounts : Amounts
  state : ShareState
  deriving DecidableEq, Repr

/-- Tab states (Table 3-7). -/
inductive TabState where
  | opened | paying | closed
  deriving DecidableEq, Repr

/-- A tab (Table 3-1); the share count is the number of shares. -/
structure Tab where
  code : Nat
  state : TabState
  operator : Nat
  openedAt : Time
  lines : List TabLine
  shares : List Share
  gross : Nat
  total : Nat
  deriving DecidableEq, Repr

/-- A tab slot: its issue counter, and its tab or none (R40). -/
structure TabSlot where
  issue : Nat
  tab : Option Tab
  deriving DecidableEq, Repr

/-! ## Ticket table -/

/-- Ticket states (Table 4-2). -/
inductive TicketState where
  | offering | stranded | placing | placed | fired | ready
  deriving DecidableEq, Repr

/-- The kitchen awarded a ticket (Table 4-1). -/
structure Awardee where
  station : Nat
  mark : Nat
  depth : Nat
  deriving DecidableEq, Repr

/-- A kitchen that may still hold an earlier generation (Table 4-1, R78). -/
structure StaleHolder where
  station : Nat
  mark : Nat
  gen : Nat
  deriving DecidableEq, Repr

/-- The timed exchange in progress of a ticket, with the time it began (R65). -/
inductive TicketWait where
  | none
  | offerWindow (start : Time)
  | awardWait (start : Time)
  deriving DecidableEq, Repr

/-- A withdrawal outstanding at a position (R74): the attempt, and the start of its reply wait once
the WITHDRAW has ended. -/
structure Withdrawal where
  position : Nat
  attempt : Nat
  wait : Option Time
  deriving DecidableEq, Repr

/-- A ticket record (Table 4-1). `live` has bit p set when position p is live. -/
structure Ticket where
  number : Nat
  gen : Nat
  cls : Nat
  slot : Nat
  issue : Nat
  positions : List Nat
  live : Byte
  priority : Band
  state : TicketState
  attempt : Nat
  awardee : Option Awardee
  repeats : Nat
  lost : Option Lost
  stale : Option StaleHolder
  kmask : Byte
  late : Bool
  sent : Time
  placed : Option Time
  ready : Option Time
  wait : TicketWait
  withdrawals : List Withdrawal
  deriving DecidableEq, Repr

/-! ## Kitchen queue -/

/-- A line of a queue entry, a bid or a lapsed-bid item: the OFFER's item and its live flag. -/
structure KitchenLine where
  item : OfferItem
  live : Bool
  deriving DecidableEq, Repr

/-- The stage of a bid (Table 5-2): DELAY with its start and length, QUEUED, or AWAITING with the
start of the tentative expiry. -/
inductive BidStage where
  | delay (start : Time) (length : Nat)
  | queued
  | awaiting (start : Time)
  deriving DecidableEq, Repr

/-- A bid record (Table 5-2). `lines` is empty for the bid of a TENTATIVE entry, which holds the
offered lines as its own. `seq` is the model's stamp of the order in which bids started (log 33). -/
structure Bid where
  gen : Nat
  priority : Band
  lines : List KitchenLine
  stage : BidStage
  seq : Nat
  deriving DecidableEq, Repr

/-- Queue entry states (Table 5-1). -/
inductive EntryState where
  | tentative | queued | fired | revokedFired
  deriving DecidableEq, Repr

/-- Print states (Table 5-1). -/
inductive PrintState where
  | none | waiting | printing | printed | unprinted
  deriving DecidableEq, Repr

/-- A queue entry (Table 5-1). `firedSeq` is the model's stamp of the order of firing (log 33). -/
structure Entry where
  origin : Nat
  mark : Nat
  number : Nat
  gen : Nat
  priority : Band
  band : Band
  state : EntryState
  lines : List KitchenLine
  arrival : Option Time
  seq : Nat
  warn : Bool
  late : Bool
  print : PrintState
  bid : Option Bid
  firedSeq : Nat
  deriving DecidableEq, Repr

/-- A lapsed-bid item (R88). -/
structure Lapsed where
  origin : Nat
  mark : Nat
  number : Nat
  gen : Nat
  priority : Band
  lines : List KitchenLine
  time : Time
  deriving DecidableEq, Repr

/-- A pass entry (R101). `stopped`: its READY repeats have stopped (R105). -/
structure PassEntry where
  origin : Nat
  mark : Nat
  number : Nat
  gen : Nat
  live : Byte
  bumped : Time
  sends : Nat
  stopped : Bool
  deriving DecidableEq, Repr

/-- The kitchen queue (chapter 5). -/
structure Kitchen where
  entries : List Entry
  arrivalSeq : Nat
  bidSeq : Nat
  fireSeq : Nat
  lapsed : List Lapsed
  pass : List PassEntry
  deriving DecidableEq, Repr

/-! ## Printer port -/

/-- Port states (Table 6-2). -/
inductive PortState where
  | idle | sending | latched | retryWait | down
  deriving DecidableEq, Repr

/-- Fault kinds (R107, R108). -/
inductive FaultKind where
  | lineFault | noResponse
  deriving DecidableEq, Repr

/-- A print list item (R110). -/
structure PrintItem where
  origin : Nat
  number : Nat
  reprint : Bool
  deriving DecidableEq, Repr

/-- A ticket in a lane (R109): the entry's origin and reference, the lane's copy of the image, the
index of the next image line, the reprint standing, and whether the entry is still in the queue
(R114, log 32). -/
structure LaneTicket where
  origin : Nat
  ref : Ref
  image : List (List Byte)
  next : Nat
  reprint : Bool
  held : Bool
  deriving DecidableEq, Repr

/-- What the port is sending: a printer line or the cut code with the bytes still to be accepted,
the first of them in progress, or a recovery (R112, R113, R118). -/
inductive Job where
  | none
  | line (bytes : List Byte)
  | cut
  | recovery
  deriving DecidableEq, Repr

/-- The handshake stage, with the start of its limit (R106, R107). -/
inductive Stage where
  | rest
  | readyWait (start : Time)
  | strobe
  | ackWait (start : Time)
  | releaseWait (start : Time)
  deriving DecidableEq, Repr

/-- The deglitch timer of FAULT (R108): not running, running, or run out for this assertion. -/
inductive Deglitch where
  | off
  | running (start : Time)
  | used
  deriving DecidableEq, Repr

/-- The printer port (chapter 6). `primeLeft` is what is left of a PRIME pulse in half bit times; at
a till PRIME is held asserted instead (R121). `retryFrom` is the time from which the next retry
check is measured. -/
structure Port where
  state : PortState
  left : Option LaneTicket
  right : Option LaneTicket
  list : List PrintItem
  faultKind : Option FaultKind
  retryFrom : Option Time
  cutOwed : Bool
  job : Job
  stage : Stage
  pd : Byte
  primeLeft : Nat
  deglitch : Deglitch
  busyPin : Bool
  faultPin : Bool
  deriving DecidableEq, Repr

/-! ## Borrowed shares -/

/-- Borrowed-share entry states (Table 8-3). -/
inductive BorrowedState where
  | asking | borrowed | confirming | returning | orphaned
  deriving DecidableEq, Repr

/-- The wait of a borrowed-share entry (Table 8-2), with the time it began. -/
inductive BorrowedWait where
  | none
  | ask (start : Time)
  | hold (start : Time)
  | again (start : Time)
  deriving DecidableEq, Repr

/-- Tender, settled amount and adjustment of a borrowed payment (R149). -/
structure Taken where
  tender : Tender
  settled : Nat
  adjustment : Int
  deriving DecidableEq, Repr

/-- A borrowed-share entry (Table 8-2). `paused`: its repeat wait has run out while the home silent
flag was set (R151, R153). -/
structure Borrowed where
  code : Nat
  share : Nat
  slot : Nat
  state : BorrowedState
  homeMark : Nat
  homeSilent : Bool
  amounts : Option Amounts
  taken : Option Taken
  created : Time
  granted : Option Time
  paid : Option Time
  attempts : Nat
  wait : BorrowedWait
  paused : Bool
  deriving DecidableEq, Repr

/-! ## Operator block -/

/-- The six totals of a slot or of the closed shifts (Table 9-1, R163). -/
structure Totals where
  cash : Nat
  card : Nat
  rounding : Int
  shares : Nat
  voids : Nat
  wastes : Nat
  deriving DecidableEq, Repr

/-- A slot record (Table 9-1). -/
structure SlotRecord where
  operator : Nat
  level : Nat
  since : Time
  totals : Totals
  deriving DecidableEq, Repr

/-- The closed-shift totals and the shifts closed count (R163). -/
structure ClosedShifts where
  totals : Totals
  shifts : Nat
  deriving DecidableEq, Repr

/-! ## Terminal link and notices -/

/-- Transaction phases (Table 10-2). -/
inductive Phase where
  | rest | kind | length | body | turnaround | reply | spent | ignoring
  deriving DecidableEq, Repr

/-- Reply codes (Table 10-5), in code order. -/
inductive ReplyCode where
  | done | accepted | field | level | notSigned | state | full | unserved | restricted | limit
  | locked | pending | short | holding | unknown | offline | lineBusy | role | config
  deriving DecidableEq, Repr

/-- A reply: its result code and its body (R169). -/
structure Reply where
  code : ReplyCode
  body : List Byte
  deriving DecidableEq, Repr

/-- What the FETCH in progress returned (R173): nothing, the oldest notice, or an OVERFLOW, with the
time of the first notice lost since it was taken. -/
inductive Fetching where
  | empty
  | notice
  | overflow (loss : Option Time)
  deriving DecidableEq, Repr

/-- The terminal link (Table 10-2): SEL, the level of SCK, the level SDO is driven to while it is driven
(R166), the phase, the bits of the byte in progress that SDI has given, first bit first (R166), the
request kind, the stated length, the body bytes received, the reply, and how many of its bytes have been
clocked. -/
structure Link where
  sel : Bool
  sck : Bool
  sdoBit : Bool
  phase : Phase
  bits : List Bool
  kind : Byte
  length : Nat
  body : List Byte
  reply : Option Reply
  clocked : Nat
  fetching : Option Fetching
  deriving DecidableEq, Repr

/-- Causes of a reissue, the rows of Table 4-5. -/
inductive ReissueCause where
  | awardExhausted | refused | awardeeSilent | awardeeRestarted | holdsNothing | retrySilent
  | retryRestarted
  deriving DecidableEq, Repr

/-- Causes of REVOKED and REVOKED-WHILE-FIRED (R103, R105). -/
inductive RevokeCause where
  | revoke | originRestarted
  deriving DecidableEq, Repr

/-- The notice kinds with their fields (Table 10-6), in code order; OVERFLOW never stands in the
queue (R173). -/
inductive NoticeBody where
  | duplicate (station : Nat)
  | present (station mark : Nat)
  | silent (station mark : Nat)
  | restarted (station old new : Nat)
  | lastCall (station : Nat)
  | tabFreed (code : Nat)
  | stranded (ref : Ref) (code : Nat)
  | placed (ref : Ref) (code awardee depth : Nat) (kmask : Byte)
  | ready (ref : Ref) (code awardee : Nat) (kmask : Byte)
  | late (ref : Ref) (code awardee : Nat) (kmask : Byte)
  | withdrawFailed (ref : Ref) (code line : Nat)
  | withdrawRefused (ref : Ref) (code line : Nat)
  | kitchenLost (ref : Ref) (code awardee : Nat) (lost : Lost)
  | reissued (ref : Ref) (code : Nat) (former : Option Nat) (cause : ReissueCause)
  | ticketAccepted (origin : Nat) (ref : Ref) (band : Band) (live : Nat)
  | ticketRefused (origin : Nat) (ref : Ref)
  | ticketFired (origin : Nat) (ref : Ref)
  | warn (origin : Nat) (ref : Ref) (state : EntryState) (arrival : Time)
  | lineWithdrawn (origin : Nat) (ref : Ref) (position : Nat)
  | revoked (origin : Nat) (ref : Ref) (cause : RevokeCause)
  | revokedWhileFired (origin : Nat) (ref : Ref) (cause : RevokeCause)
  | ticketCollected (origin : Nat) (ref : Ref)
  | passDropped (origin : Nat) (ref : Ref)
  | passExpired (origin : Nat) (ref : Ref)
  | printerFault (kind : FaultKind) (response : Response)
  | printerResumed
  | ticketUnprinted (origin : Nat) (ref : Ref)
  | shareGranted (code share total : Nat)
  | shareDenied (code share : Nat) (reason : DenyReason)
  | askFailed (code share : Nat)
  | holdExpired (code share slot : Nat)
  | settleConfirmed (code share : Nat) (tender : Tender) (settled : Nat)
  | returnConfirmed (code share : Nat)
  | settleConflict (code share slot : Nat) (tender : Tender) (settled : Nat)
  | homeLost (code share slot : Nat) (before : BorrowedState)
  | shareRecovered (code share station mark : Nat)
  | remotePaid (code share station : Nat) (tender : Tender) (settled : Nat)
  | conflict (code share source : Nat) (tender : Tender) (settled : Nat) (shareState : Byte)
  | remoteReturned (code share station : Nat)
  | shareAdrift (code share station mark : Nat) (reason : Lost)
  | shareReleased (code share station : Nat) (reason : Lost)
  | shiftReport (slot operator level : Nat) (since off : Time) (totals : Totals)
  deriving DecidableEq, Repr

/-- A notice: the time at which it was created, its kind and fields (R171). -/
structure Notice where
  time : Time
  body : NoticeBody
  deriving DecidableEq, Repr

/-! ## The whole state -/

/-- The state of the block. `pending` is the queue of commands that are waiting, first in, first
out; `free` counts the free values taken (the model's own field, log 13). Everything else is the
spec's (INVENTORY.md, State). -/
structure State where
  pending : List Instr
  clock : Clock
  straps : Straps
  join : Join
  line : LineCtl
  stations : Vector (Option Heard) 62
  tabs : Vector TabSlot 32
  lastCall : Bool
  tickets : List Ticket
  nextTicket : Nat
  kitchen : Kitchen
  port : Port
  borrowed : List Borrowed
  slots : Vector (Option SlotRecord) 4
  closed : ClosedShifts
  link : Link
  notices : List Notice
  overflow : Option Time
  free : Nat
  deriving DecidableEq, Repr

/-- Reasons a step can stop with a fault. The spec stops the part nowhere, so no command faults: the
type has no constructor (INVENTORY.md, Faults). -/
inductive Fault where
  deriving DecidableEq, Repr

/-- Reasons a command can be refused. -/
inductive Refusal where
  /-- The command has no meaning in the model yet. Raised by no command of this model; safe. -/
  | notModelled (mnemonic : String)
  deriving DecidableEq, Repr

/-! ## Reset -/

/-- A receiver in the given state with nothing collected (R8). -/
def Receiver.fresh (state : RxState) : Receiver :=
  { state := state, openHalf := false, history := [], cells := [], dest := 0, violation := 0 }

/-- No amount taken. -/
def Totals.zero : Totals :=
  { cash := 0, card := 0, rounding := 0, shares := 0, voids := 0, wastes := 0 }

/-- The defaults of Table 2-2. -/
def Figures.default : Figures :=
  { tax0 := 0, tax1 := 0, tax2 := 0, tax3 := 0, fire := 3, warn := 240, late := 480,
    lineFault := .latch, noResponse := .latch, cut := 0x0C#8 }

/-- The link at rest (Table 10-9): SCK low, SDO not driven (R166). -/
def Link.atRest (sel : Bool) : Link :=
  { sel := sel, sck := false, sdoBit := true, phase := .rest, bits := [], kind := 0#8, length := 0,
    body := [], reply := none, clocked := 0, fetching := none }

/-- The straps are invalid when the station number is 0 or 63 or the MODE level is 6 or 7 (R23). -/
def Straps.invalid (p : Straps) : Bool :=
  let number := 8 * p.sta.val + p.stb.val
  number == 0 || number == 63 || 6 ≤ p.mode.val

/-- Half bit times in a millisecond at the strapped rate (R23). In a MODE of 6 or 7 the line rate is
not known; the model then counts the millisecond as at 250 kbit/s (log 13). -/
def Straps.halvesPerMs (p : Straps) : Nat :=
  match p.mode.val with
  | 2 | 3 => 1000
  | 4 | 5 => 2000
  | _ => 500

/-- The machine right after a reset that read the given straps, as Tables 1-7, 2-7, 3-9, 4-8, 5-5,
6-5, 7-9, 8-7, 9-4 and 10-9 give it. A kitchen's port pulses PRIME for 500 microseconds (R109). -/
def State.afterReset (straps : Straps) : State :=
  { pending := []
    clock := { time := 0#32, msPhase := 0, halfBits := 0#33 }
    straps := straps
    join :=
      { state := if Straps.invalid straps then .strapFault else .config
        startMark := 0, windowFrom := none, presenceFrom := none, figures := Figures.default }
    line :=
      { state := if Straps.invalid straps then none else some .idle
        since := 0, rx := Receiver.fresh .off, inbound := [], waiting := [], sending := none,
        txPos := 0 }
    stations := Vector.replicate 62 none
    tabs := Vector.replicate 32 { issue := 0, tab := none }
    lastCall := false
    tickets := []
    nextTicket := 1
    kitchen :=
      { entries := [], arrivalSeq := 0, bidSeq := 0, fireSeq := 0, lapsed := [], pass := [] }
    port :=
      { state := .idle, left := none, right := none, list := [], faultKind := none,
        retryFrom := none, cutOwed := false, job := .none, stage := .rest, pd := 0#8,
        primeLeft := if straps.role.val = 0 then 0 else Straps.halvesPerMs straps / 2,
        deglitch := .off, busyPin := false, faultPin := false }
    borrowed := []
    slots := Vector.replicate 4 none
    closed := { totals := Totals.zero, shifts := 0 }
    link := Link.atRest false
    notices := []
    overflow := none
    free := 0 }

/-- The machine right after reset with the straps of `Config.resetStraps` (log 3), every pin
released (log 34). -/
def State.reset : State := State.afterReset Config.resetStraps

end Sys2Proof.Machine
end

