-- ==== Sys2Proof/Machine/Limits.lean ====
section
/-! DEFINITION. The spec's fixed limits: capacities of its tables and queues, and its waits in
milliseconds unless said otherwise. -/

namespace Sys2Proof.Machine

/-- The inbound queue holds up to 8 frames (R12). -/
def inboundCapacity : Nat := 8
/-- The transmit queue holds up to 16 frames, the one in transmission counted (R14). -/
def txCapacity : Nat := 16
/-- A frame is dropped at its sixteenth collision (R21). -/
def collisionLimit : Nat := 16
/-- The notice queue holds up to 32 notices (R171). -/
def noticeCapacity : Nat := 32
/-- A tab has up to 24 lines (R45). -/
def lineCapacity : Nat := 24
/-- The ticket table holds up to 32 records (R60). -/
def ticketCapacity : Nat := 32
/-- A ticket has up to 8 positions (R64). -/
def ticketSize : Nat := 8
/-- The kitchen queue holds up to 24 entries (R83). -/
def queueCapacity : Nat := 24
/-- The lapsed-bid list holds up to 4 items (R88). -/
def lapsedCapacity : Nat := 4
/-- The pass list holds up to 12 entries (R101). -/
def passCapacity : Nat := 12
/-- The borrowed-share table holds up to 8 entries (R146). -/
def borrowedCapacity : Nat := 8
/-- A tab's goods gross is at most 500,000 cents (R45). -/
def goodsLimit : Nat := 500000

/-- Join window (R27). -/
def joinWindow : Nat := 2500
/-- Presence interval (R32). -/
def presenceInterval : Nat := 1000
/-- Silence limit (R37). -/
def silenceLimit : Nat := 3500
/-- Offer window (R67). -/
def offerWindow : Nat := 150
/-- The last offer attempt (R67). -/
def lastAttempt : Nat := 4
/-- Award wait (R70). -/
def awardWait : Nat := 300
/-- AWARD frames repeated before a reissue (R70). -/
def awardRepeats : Nat := 2
/-- Reply wait of a withdrawal (R74). -/
def replyWait : Nat := 200
/-- WITHDRAW attempts (R74). -/
def withdrawAttempts : Nat := 3
/-- Tentative expiry (R86). -/
def tentativeLimit : Nat := 400
/-- Life of a lapsed-bid item (R88). -/
def lapsedLimit : Nat := 2000
/-- Second and third READY of a pass entry (R101). -/
def passSecond : Nat := 2000
def passThird : Nat := 6000
/-- Life of a pass entry (R101). -/
def passLimit : Nat := 600000
/-- Handshake limit (R107). -/
def handshakeLimit : Nat := 2000
/-- FAULT must stay asserted this long (R108). -/
def deglitchLimit : Nat := 50
/-- Retry check interval (R119). -/
def retryInterval : Nat := 5000
/-- Ask wait (R148). -/
def askWait : Nat := 300
/-- Asks before a borrowed entry gives up (R148). -/
def askAttempts : Nat := 3
/-- Hold limit (R150). -/
def holdLimit : Nat := 180000
/-- Repeat wait (R151). -/
def repeatWait : Nat := 1000

/-- The jam lasts 32 bit times (R19), in half bit times. -/
def jamHalves : Nat := 64
/-- Two bit times without a transition end activity (R2), in half bit times. -/
def idleHalves : Nat := 4
/-- The idle count stops at 65535 bit times (R3), in half bit times. -/
def sinceCeiling : Nat := 131071

end Sys2Proof.Machine
end

