-- ==== Sys2Proof/Machine/Frames.lean ====
section
/-! DEFINITION. The line frame: kinds, deferral classes, field ranges, layout, frame check and cells
(R4 to R7, R11; Tables 1-1 to 1-3). -/

namespace Sys2Proof.Machine

/-! ## Codes of the values a frame carries (Table 1-3) -/

def Role.code : Role → Nat
  | .till => 0 | .kitchen => 1

def Role.ofCode (n : Nat) : Option Role := [Role.till, .kitchen][n]?

def PrinterState.code : PrinterState → Nat
  | .ok => 0 | .latched => 1 | .retrying => 2 | .down => 3

def PrinterState.ofCode (n : Nat) : Option PrinterState :=
  [PrinterState.ok, .latched, .retrying, .down][n]?

def Band.code : Band → Nat
  | .normal => 0 | .rush => 1

def Band.ofCode (n : Nat) : Option Band := [Band.normal, .rush][n]?

def KitchenState.code : KitchenState → Nat
  | .queued => 0 | .fired => 1 | .ready => 2 | .late => 3 | .refused => 4

def KitchenState.ofCode (n : Nat) : Option KitchenState :=
  [KitchenState.queued, .fired, .ready, .late, .refused][n]?

def WithdrawOutcome.code : WithdrawOutcome → Nat
  | .removed => 0 | .fired => 1 | .unknown => 2

def WithdrawOutcome.ofCode (n : Nat) : Option WithdrawOutcome :=
  [WithdrawOutcome.removed, .fired, .unknown][n]?

def DenyReason.code : DenyReason → Nat
  | .null => 0 | .wrongHome => 1 | .absent => 2 | .stale => 3
  | .range => 4 | .settled => 5 | .held => 6 | .pending => 7

def DenyReason.ofCode (n : Nat) : Option DenyReason :=
  [DenyReason.null, .wrongHome, .absent, .stale, .range, .settled, .held, .pending][n]?

def Tender.code : Tender → Nat
  | .cash => 0 | .card => 1

def Tender.ofCode (n : Nat) : Option Tender := [Tender.cash, .card][n]?

def CloseOutcome.code : CloseOutcome → Nat
  | .paidRecorded => 0 | .returnRecorded => 1 | .conflict => 2

def CloseOutcome.ofCode (n : Nat) : Option CloseOutcome :=
  [CloseOutcome.paidRecorded, .returnRecorded, .conflict][n]?

/-- A flag field must be 0 or 1. -/
def flagOfCode (n : Nat) : Option Bool := [false, true][n]?

/-! ## Kinds and deferral classes (Table 1-2) -/

/-- The kind code of a frame (R6, Table 1-2). -/
def FrameBody.kind : FrameBody → Nat
  | .presence .. => 0x01 | .offer .. => 0x02 | .bid .. => 0x03 | .award .. => 0x04
  | .progress .. => 0x05 | .withdraw .. => 0x06 | .withdrawReply .. => 0x07 | .revoke .. => 0x08
  | .collect .. => 0x09 | .shareAsk .. => 0x0A | .shareGrant .. => 0x0B | .shareDeny .. => 0x0C
  | .shareSettle .. => 0x0D | .shareReturn .. => 0x0E | .shareClose .. => 0x0F | .lastCall => 0x10

/-- The deferral class of a frame kind (R6, Table 1-2). -/
def FrameBody.deferral : FrameBody → Nat
  | .presence .. => 2 | .offer .. => 1 | .bid .. => 1 | .award .. => 0
  | .progress .. => 0 | .withdraw .. => 1 | .withdrawReply .. => 0 | .revoke .. => 2
  | .collect .. => 2 | .shareAsk .. => 1 | .shareGrant .. => 0 | .shareDeny .. => 0
  | .shareSettle .. => 1 | .shareReturn .. => 1 | .shareClose .. => 0 | .lastCall => 2

/-! ## Ranges (Table 1-3) -/

/-- A station number is 1-62. -/
def stationNumber (n : Nat) : Bool := 1 ≤ n && n ≤ 62

/-- A ticket reference's ranges: number 1-4095, generation 0-15. -/
def Ref.valid (r : Ref) : Bool := 1 ≤ r.number && r.number ≤ 4095 && r.gen ≤ 15

def PresenceFields.valid (p : PresenceFields) : Bool :=
  (match p.role with
    | .till => p.cls == 0
    | .kitchen => 1 ≤ p.cls && p.cls ≤ 7)
  && 1 ≤ p.mark && p.mark ≤ 65535 && p.depth ≤ 24 && p.freeSlots ≤ 24

def OfferItem.valid (i : OfferItem) : Bool :=
  1 ≤ i.qty && i.qty ≤ 60 && 1 ≤ i.label.length && i.label.length ≤ 12 && i.note.length ≤ 12
  && i.label.all printable && i.note.all printable

def OfferFields.valid (o : OfferFields) : Bool :=
  Ref.valid o.ref && 1 ≤ o.cls && o.cls ≤ 7 && o.attempt ≤ 4
  && 1 ≤ o.items.length && o.items.length ≤ 8 && o.items.all OfferItem.valid

def Amounts.valid (a : Amounts) : Bool :=
  a.goods ≤ 500000 && a.discount ≤ 250000 && a.net ≤ 500000
  && a.tax0 ≤ 125000 && a.tax1 ≤ 125000 && a.tax2 ≤ 125000 && a.tax3 ≤ 125000
  && a.deposits ≤ 720000 && a.total ≤ 1345000

/-- A tab code on the line: every value 0-65535; a share index: 0-7 (R7). -/
def shareRefValid (code share : Nat) : Bool := code ≤ 65535 && share ≤ 7

/-- Every body field lies in the range Table 1-3 gives (R11, last condition). -/
def FrameBody.valid : FrameBody → Bool
  | .presence p => PresenceFields.valid p
  | .offer o => OfferFields.valid o
  | .bid origin ref depth => stationNumber origin && Ref.valid ref && depth ≤ 24
  | .award ref awardee mask => Ref.valid ref && stationNumber awardee && mask != 0#8
  | .progress ref _ _ => Ref.valid ref
  | .withdraw ref pos => Ref.valid ref && pos ≤ 7
  | .withdrawReply ref pos _ _ => Ref.valid ref && pos ≤ 7
  | .revoke ref => Ref.valid ref
  | .collect ref => Ref.valid ref
  | .shareAsk code share => shareRefValid code share
  | .shareGrant code share a => shareRefValid code share && Amounts.valid a
  | .shareDeny code share _ => shareRefValid code share
  | .shareSettle code share _ settled adj =>
      shareRefValid code share && settled ≤ 1345000 && -2 ≤ adj && adj ≤ 2
  | .shareReturn code share => shareRefValid code share
  | .shareClose code share _ => shareRefValid code share
  | .lastCall => true

/-- A frame with fields in range: source 1-62, a destination of one byte, a valid body (R11). -/
def Frame.valid (f : Frame) : Bool :=
  f.dest ≤ 255 && stationNumber f.src && FrameBody.valid f.body

/-! ## Layout (Tables 1-1 and 1-3) -/

def refBytes (r : Ref) : List Byte := be16 r.number ++ [byte r.gen]

/-- The nine money fields in the order of Table 1-3. -/
def amountsBytes (a : Amounts) : List Byte :=
  be32 a.goods ++ be32 a.discount ++ be32 a.net ++ be32 a.tax0 ++ be32 a.tax1 ++ be32 a.tax2
    ++ be32 a.tax3 ++ be32 a.deposits ++ be32 a.total

def itemBytes (i : OfferItem) : List Byte := byte i.qty :: (counted i.label ++ counted i.note)

/-- The body fields of a frame in the order of Table 1-3 (R7). -/
def FrameBody.bytes : FrameBody → List Byte
  | .presence p =>
      [byte (Role.code p.role), byte p.cls] ++ be16 p.mark
        ++ [byte p.depth, byte p.freeSlots, flagByte p.accepting, byte (PrinterState.code p.printer),
            flagByte p.lastCall]
  | .offer o =>
      refBytes o.ref ++ [byte o.cls, byte (Band.code o.priority), byte o.attempt,
        byte o.items.length] ++ o.items.flatMap itemBytes
  | .bid origin ref depth => byte origin :: (refBytes ref ++ [byte depth])
  | .award ref awardee mask => refBytes ref ++ [byte awardee, mask]
  | .progress ref kstate mask => refBytes ref ++ [byte (KitchenState.code kstate), mask]
  | .withdraw ref pos => refBytes ref ++ [byte pos]
  | .withdrawReply ref pos outcome e =>
      refBytes ref ++ [byte pos, byte (WithdrawOutcome.code outcome), flagByte e]
  | .revoke ref => refBytes ref
  | .collect ref => refBytes ref
  | .shareAsk code share => be16 code ++ [byte share]
  | .shareGrant code share a => be16 code ++ [byte share] ++ amountsBytes a
  | .shareDeny code share reason => be16 code ++ [byte share, byte (DenyReason.code reason)]
  | .shareSettle code share tender settled adj =>
      be16 code ++ [byte share, byte (Tender.code tender)] ++ be32 settled ++ [adjustmentByte adj]
  | .shareReturn code share => be16 code ++ [byte share]
  | .shareClose code share outcome => be16 code ++ [byte share, byte (CloseOutcome.code outcome)]
  | .lastCall => []

/-- One step of the frame check register: shift out the top bit, and where it was 1 add the
generator polynomial x^16 + x^12 + x^5 + 1 (R5). -/
def crcBit (r : BitVec 16) : BitVec 16 :=
  if r.msb then (r <<< 1) ^^^ 0x1021#16 else r <<< 1

/-- A byte taken into the check register, most significant bit first (R5). -/
def crcByte (r : BitVec 16) (b : Byte) : BitVec 16 :=
  (List.range 8).foldl (fun r _ => crcBit r) (r ^^^ (b.zeroExtend 16 <<< 8))

/-- The frame check over bytes: preset FFFFH, no inversion (R5). -/
def crc (bs : List Byte) : BitVec 16 := bs.foldl crcByte 0xFFFF#16

/-- The characters from the destination through the last body byte (Table 1-1). -/
def Frame.payload (f : Frame) : List Byte :=
  [byte f.dest, byte f.src, byte (FrameBody.kind f.body), byte (FrameBody.bytes f.body).length]
    ++ FrameBody.bytes f.body

/-- All characters of a frame: the payload and its check, high byte first (R5). -/
def Frame.bytes (f : Frame) : List Byte :=
  Frame.payload f ++ be16 (crc (Frame.payload f)).toNat

/-! ## Reading a frame back -/

def rdRef (bs : List Byte) : Option (Ref × List Byte) := do
  let (number, r) ← rd16 bs
  let (gen, r) ← rd8 r
  some (⟨number, gen⟩, r)

def rdAmounts (bs : List Byte) : Option (Amounts × List Byte) := do
  let (goods, r) ← rd32 bs
  let (disc, r) ← rd32 r
  let (net, r) ← rd32 r
  let (t0, r) ← rd32 r
  let (t1, r) ← rd32 r
  let (t2, r) ← rd32 r
  let (t3, r) ← rd32 r
  let (dep, r) ← rd32 r
  let (total, r) ← rd32 r
  some (⟨goods, disc, net, t0, t1, t2, t3, dep, total⟩, r)

def rdItems : Nat → List Byte → Option (List OfferItem × List Byte)
  | 0, bs => some ([], bs)
  | n + 1, bs => do
      let (qty, r) ← rd8 bs
      let (label, r) ← rdCounted r
      let (note, r) ← rdCounted r
      let (items, r) ← rdItems n r
      some (⟨qty, label, note⟩ :: items, r)

/-- Reads the body fields of a kind, and what is left over (Table 1-3). -/
def rdBody (kind : Nat) (bs : List Byte) : Option (FrameBody × List Byte) :=
  match kind with
  | 0x01 => do
      let (role, r) ← rd8 bs
      let (cls, r) ← rd8 r
      let (mark, r) ← rd16 r
      let (depth, r) ← rd8 r
      let (free, r) ← rd8 r
      let (acc, r) ← rd8 r
      let (pr, r) ← rd8 r
      let (lc, r) ← rd8 r
      let role ← Role.ofCode role
      let acc ← flagOfCode acc
      let pr ← PrinterState.ofCode pr
      let lc ← flagOfCode lc
      some (.presence ⟨role, cls, mark, depth, free, acc, pr, lc⟩, r)
  | 0x02 => do
      let (ref, r) ← rdRef bs
      let (cls, r) ← rd8 r
      let (prio, r) ← rd8 r
      let (attempt, r) ← rd8 r
      let (n, r) ← rd8 r
      let (items, r) ← rdItems n r
      let prio ← Band.ofCode prio
      some (.offer ⟨ref, cls, prio, attempt, items⟩, r)
  | 0x03 => do
      let (origin, r) ← rd8 bs
      let (ref, r) ← rdRef r
      let (depth, r) ← rd8 r
      some (.bid origin ref depth, r)
  | 0x04 => do
      let (ref, r) ← rdRef bs
      let (awardee, r) ← rd8 r
      let (mask, r) ← rd8 r
      some (.award ref awardee (byte mask), r)
  | 0x05 => do
      let (ref, r) ← rdRef bs
      let (ks, r) ← rd8 r
      let (mask, r) ← rd8 r
      let ks ← KitchenState.ofCode ks
      some (.progress ref ks (byte mask), r)
  | 0x06 => do
      let (ref, r) ← rdRef bs
      let (pos, r) ← rd8 r
      some (.withdraw ref pos, r)
  | 0x07 => do
      let (ref, r) ← rdRef bs
      let (pos, r) ← rd8 r
      let (out, r) ← rd8 r
      let (e, r) ← rd8 r
      let out ← WithdrawOutcome.ofCode out
      let e ← flagOfCode e
      some (.withdrawReply ref pos out e, r)
  | 0x08 => do
      let (ref, r) ← rdRef bs
      some (.revoke ref, r)
  | 0x09 => do
      let (ref, r) ← rdRef bs
      some (.collect ref, r)
  | 0x0A => do
      let (code, r) ← rd16 bs
      let (share, r) ← rd8 r
      some (.shareAsk code share, r)
  | 0x0B => do
      let (code, r) ← rd16 bs
      let (share, r) ← rd8 r
      let (a, r) ← rdAmounts r
      some (.shareGrant code share a, r)
  | 0x0C => do
      let (code, r) ← rd16 bs
      let (share, r) ← rd8 r
      let (reason, r) ← rd8 r
      let reason ← DenyReason.ofCode reason
      some (.shareDeny code share reason, r)
  | 0x0D => do
      let (code, r) ← rd16 bs
      let (share, r) ← rd8 r
      let (tender, r) ← rd8 r
      let (settled, r) ← rd32 r
      let (adj, r) ← rd8 r
      let tender ← Tender.ofCode tender
      some (.shareSettle code share tender settled (byte adj).toInt, r)
  | 0x0E => do
      let (code, r) ← rd16 bs
      let (share, r) ← rd8 r
      some (.shareReturn code share, r)
  | 0x0F => do
      let (code, r) ← rd16 bs
      let (share, r) ← rd8 r
      let (out, r) ← rd8 r
      let out ← CloseOutcome.ofCode out
      some (.shareClose code share out, r)
  | 0x10 => some (.lastCall, bs)
  | _ => none

/-- The validity checks of R11 on the characters of an undamaged reception: the frame check, the
length, the kind, the source, and every field in range with nothing left over. -/
def parseFrame (bs : List Byte) : Option Frame :=
  match bs with
  | dest :: src :: kind :: len :: rest =>
      if rest.length = len.toNat + 2 ∧ len.toNat ≤ 240
          ∧ rest.drop len.toNat
            = be16 (crc (dest :: src :: kind :: len :: rest.take len.toNat)).toNat then
        match rdBody kind.toNat (rest.take len.toNat) with
        | some (body, []) =>
            let f : Frame := ⟨dest.toNat, src.toNat, body⟩
            if Frame.valid f then some f else none
        | _ => none
      else none
  | _ => none

/-! ## Cells (R4) -/

/-- The sync pattern: twelve cells carrying 0, then 1, 1, 0 and 1 (R4). -/
def syncPattern : List Bool :=
  [false, false, false, false, false, false, false, false, false, false, false, false,
   true, true, false, true]

/-- A character: its mark bit, then eight data bits, least significant first (R4). -/
def charCells (mark : Bool) (b : Byte) : List Bool :=
  mark :: (List.range 8).map fun i => b.getLsbD i

/-- Characters with mark bit 1 in the first and 0 in every later one (R4). -/
def charsCells : List Byte → List Bool
  | [] => []
  | d :: rest => charCells true d ++ rest.flatMap (charCells false)

/-- Every cell of a frame, from the sync pattern through the check (R4). -/
def Frame.cells (f : Frame) : List Bool := syncPattern ++ charsCells (Frame.bytes f)

/-- The bit times a frame occupies: 16 + 9 × (6 + L) (R4). -/
def Frame.bitTimes (f : Frame) : Nat := 16 + 9 * (6 + (FrameBody.bytes f.body).length)

/-- The biphase form of cells (R2), one flag for each half bit time: whether it begins with a
transition. Every cell begins with one, and a cell carrying 1 has a second at its middle. -/
def biphase (cells : List Bool) : List Bool := cells.flatMap fun bit => [true, bit]

/-- The jam (R19), one flag for each half bit time: transitions one and a half bit times apart, the
first as the jam begins (log 14). -/
def jamSignal : List Bool := (List.range jamHalves).map fun h => h % 3 == 0

/-- The half bit time of the last transition of a signal up to and including half bit time `q`. -/
def lastTransition (signal : List Bool) (q : Nat) : Nat :=
  let past := signal.take (q + 1)
  past.length - 1 - (past.reverse.takeWhile fun t => !t).length

/-- The data value of a cell, none for a coding violation (R2). -/
def Cell.value : Cell → Option Bool
  | .zero => some false
  | .one => some true
  | .violation => none

/-- The cell that carries a bit. -/
def Cell.ofBool (b : Bool) : Cell := if b then .one else .zero

/-- Eight data cells, least significant first, as a byte. -/
def byteOfBits (bits : List Bool) : Byte :=
  byte ((bits.zipIdx).foldl (fun n p => n + if p.1 then 2 ^ p.2 else 0) 0)

/-- Reads nine-cell characters as their mark bit and byte; none when a cell is a violation or the
number of cells is not a multiple of nine (R10). -/
def readChars : Nat → List Cell → Option (List (Bool × Byte))
  | _, [] => some []
  | 0, _ => none
  | n + 1, cs =>
      match (cs.take 9).mapM Cell.value with
      | some (mark :: bits) =>
          if bits.length = 8 then
            match readChars n (cs.drop 9) with
            | some rest => some ((mark, byteOfBits bits) :: rest)
            | none => none
          else none
      | _ => none

end Sys2Proof.Machine
end

