-- ==== Sys2Proof/Machine/Ops.lean ====
section
/-! DEFINITION. The shared operations: the station's identity, time, notices, the transmit queue
with the reports of a frame's end, and access to the records that other blocks name. -/

namespace Sys2Proof.Machine

/-! ## Identity formed from the straps (R23) -/

/-- Station number: 8 × STA level + STB level. -/
def station (s : State) : Nat := 8 * s.straps.sta.val + s.straps.stb.val

/-- ROLE level 0 is a till, 1-7 a kitchen of that class. -/
def role (s : State) : Role := if s.straps.role.val = 0 then .till else .kitchen

/-- The kitchen's class, 0 at a till. -/
def ownClass (s : State) : Nat := s.straps.role.val

/-- Odd MODE levels are dual lane. -/
def dualLane (s : State) : Bool := s.straps.mode.val % 2 == 1

/-- The receiver runs, and the station takes part, in JOINING, ON-LINE and DUPLICATE (R8). -/
def joined (s : State) : Bool :=
  match s.join.state with
  | .joining | .onLine | .duplicate => true
  | .strapFault | .config => false

/-! ## Time (R1, R3) -/

/-- The present value of the time base. -/
def now (s : State) : Time := s.clock.time

/-- The bit-time count: whole bit times since reset, modulo 2^32 (R3). -/
def bitCount (s : State) : Nat := s.clock.halfBits.toNat / 2

/-- The idle count: whole bit times since the last transition, at most 65535 (R3). -/
def idleCount (s : State) : Nat := s.line.since / 2

/-- What an idle line does to the receiver (R8): it empties the pattern history in HUNT, and in
ADDRESS before nine cells it returns to HUNT. A reception in TAKE ends by RECEPTION_END. -/
def Receiver.goIdle (r : Receiver) : Receiver :=
  match r.state with
  | .off | .take => r
  | .hunt => Receiver.fresh .hunt
  | .address => if r.cells.length < 9 then Receiver.fresh .hunt else r

/-- The signal this station drives onto the pair (R2, R18, R19), one flag for each half bit time from
its start: a transition begins it. Nothing while the station does not drive. -/
def LineCtl.signal (l : LineCtl) : List Bool :=
  match l.state, l.sending with
  | some .sending, some x => biphase (Frame.cells x.frame)
  | some .jamming, some _ => jamSignal
  | _, _ => []

/-- Half bit times since the last transition on the pair when `h` more have passed while this station
drives it (R3): since its own last transition in that time, and if it made none, since the transition
before, whichever station drove that. -/
def LineCtl.drivenSince (l : LineCtl) (h : Nat) : Nat :=
  let last := lastTransition (LineCtl.signal l) (l.txPos + h)
  min (if l.txPos < last then l.txPos + h - last else l.since + h) sinceCeiling

/-- Half bit times pass at the line controller (R3): while the station drives the pair its own signal
goes on and returns the idle count to 0 at its transitions; otherwise the count rises, a BUSY line
becomes IDLE at an idle count of 2, and the receiver finds the line idle. In STRAP-FAULT nothing is
counted. -/
def LineCtl.pass (l : LineCtl) (h : Nat) : LineCtl :=
  match l.state with
  | none => l
  | some .sending | some .jamming =>
      { l with txPos := l.txPos + h, since := LineCtl.drivenSince l h }
  | some state =>
      let since := min (l.since + h) sinceCeiling
      { l with
        since := since
        state := some (if state = .busy ∧ since < idleHalves then .busy else .idle)
        rx := if since < idleHalves then l.rx else Receiver.goIdle l.rx }

/-- `h` half bit times pass: the time base, the bit-time count, the line controller, a PRIME pulse. -/
def advance (h : Nat) (s : State) : State :=
  let per := Straps.halvesPerMs s.straps
  let phase := s.clock.msPhase + h
  { s with
    clock :=
      { time := s.clock.time + BitVec.ofNat 32 (phase / per)
        msPhase := phase % per
        halfBits :=
          if s.join.state = .strapFault then s.clock.halfBits
          else s.clock.halfBits + BitVec.ofNat 33 h }
    line := LineCtl.pass s.line h
    port := { s.port with primeLeft := s.port.primeLeft - h } }

/-- Milliseconds of the time base from `start` to now, modulo 2^32 (R1). -/
def elapsed (s : State) (start : Time) : Nat := Time.since (now s) start

/-- A timer that began at `start` runs out after `limit` milliseconds: when that moment has not come
yet, time passes until it (log 2). -/
def advanceUntil (start : Time) (limit : Nat) (s : State) : State :=
  if elapsed s start < limit then
    advance ((limit - elapsed s start) * Straps.halvesPerMs s.straps - s.clock.msPhase) s
  else s

/-- Milliseconds left of a timer (10.5). -/
def remaining (s : State) (start : Time) (limit : Nat) : Nat := limit - elapsed s start

/-! ## Notices (R171) -/

/-- A notice lost while an OVERFLOW is being read out is remembered, the first such loss (R173,
log 22). -/
def Fetching.noteLoss (t : Time) : Fetching → Fetching
  | .overflow none => .overflow (some t)
  | f => f

/-- A notice is created: it joins the tail when fewer than 32 stand; otherwise it is lost, and the
overflow flag, if it was clear, takes the time of the loss (R171). -/
def notify (body : NoticeBody) (s : State) : State :=
  if s.notices.length < noticeCapacity then
    { s with notices := s.notices ++ [{ time := now s, body := body }] }
  else
    { s with
      overflow := some (s.overflow.getD (now s))
      link := { s.link with fetching := s.link.fetching.map (Fetching.noteLoss (now s)) } }

/-! ## Records by name -/

/-- The station table entry of a station number 1-62; none when ABSENT. -/
def heard (s : State) (n : Nat) : Option Heard :=
  if stationNumber n then (s.stations[n - 1]?).join else none

/-- Replaces the entry of a station number 1-62. -/
def setHeard (n : Nat) (e : Heard) (s : State) : State :=
  if stationNumber n then { s with stations := s.stations.setIfInBounds (n - 1) (some e) } else s

/-- The start mark the station table holds for a station, 0 when its entry is ABSENT. -/
def markOf (s : State) (n : Nat) : Nat := ((heard s n).map Heard.mark).getD 0

/-- The tab in a slot. -/
def tabIn (s : State) (slot : Nat) : Option Tab := (s.tabs[slot]?).bind TabSlot.tab

/-- Puts a tab into a slot, or frees the slot; the issue counter stays (R40). -/
def putTab (slot : Nat) (t : Option Tab) (s : State) : State :=
  match s.tabs[slot]? with
  | some e => { s with tabs := s.tabs.setIfInBounds slot { e with tab := t } }
  | none => s

/-- Changes the tab in a slot, if there is one. -/
def updTab (slot : Nat) (f : Tab → Tab) (s : State) : State :=
  match tabIn s slot with
  | some t => putTab slot (some (f t)) s
  | none => s

/-- The ticket record of a number. -/
def ticketOf (s : State) (number : Nat) : Option Ticket :=
  s.tickets.find? fun t => t.number == number

/-- Changes the ticket record of a number. -/
def updTicket (number : Nat) (f : Ticket → Ticket) (s : State) : State :=
  { s with tickets := s.tickets.map fun t => if t.number = number then f t else t }

/-- The queue entry of an origin station and ticket number. -/
def entryOf (s : State) (origin number : Nat) : Option Entry :=
  s.kitchen.entries.find? fun e => e.origin == origin && e.number == number

/-- Changes the queue entry of an origin station and ticket number. -/
def updEntry (origin number : Nat) (f : Entry → Entry) (s : State) : State :=
  { s with kitchen := { s.kitchen with
      entries := s.kitchen.entries.map fun e =>
        if e.origin = origin ∧ e.number = number then f e else e } }

/-- Takes the queue entry of an origin station and ticket number out of the queue. -/
def dropEntry (origin number : Nat) (s : State) : State :=
  { s with kitchen := { s.kitchen with
      entries := s.kitchen.entries.filter fun e => !(e.origin == origin && e.number == number) } }

/-- The borrowed-share entry of a code and share index. -/
def borrowedOf (s : State) (code share : Nat) : Option Borrowed :=
  s.borrowed.find? fun b => b.code == code && b.share == share

/-- Changes the borrowed-share entry of a code and share index. -/
def updBorrowed (code share : Nat) (f : Borrowed → Borrowed) (s : State) : State :=
  { s with borrowed := s.borrowed.map fun b => if b.code = code ∧ b.share = share then f b else b }

/-- Takes the borrowed-share entry of a code and share index out of the table. -/
def dropBorrowed (code share : Nat) (s : State) : State :=
  { s with borrowed := s.borrowed.filter fun b => !(b.code == code && b.share == share) }

/-! ## Tab codes (R41) -/

/-- The code of a home station, slot and issue (Table 3-2). -/
def tabCode (home slot issue : Nat) : Nat := home * 1024 + slot * 32 + issue

/-- Bits 15-10 of a code. -/
def codeHome (code : Nat) : Nat := code / 1024

/-- Bits 9-5 of a code. -/
def codeSlot (code : Nat) : Nat := code / 32 % 32

/-- Bits 4-0 of a code. -/
def codeIssue (code : Nat) : Nat := code % 32

/-- A ticket's reference (R60). -/
def Ticket.ref (t : Ticket) : Ref := ⟨t.number, t.gen⟩

/-- The code of the tab a ticket belongs to. -/
def ticketCode (s : State) (t : Ticket) : Nat := tabCode (station s) t.slot t.issue

/-! ## The transmit queue (R14 to R16) -/

/-- The frames standing in the transmit queue, the one in transmission counted (R14). -/
def txCount (s : State) : Nat := s.line.waiting.length + s.line.sending.toList.length

/-- Free entries of the transmit queue (R15). -/
def freeTx (s : State) : Nat := txCapacity - txCount s

/-- A new frame stands behind every waiting frame of its class or a lower one (R14). -/
def joinQueue (item : TxItem) : List TxItem → List TxItem
  | [] => [item]
  | x :: xs => if x.cls ≤ item.cls then x :: joinQueue item xs else item :: x :: xs

/-- A frame returned after a collision stands first in its class (R14, R20). -/
def returnToQueue (item : TxItem) : List TxItem → List TxItem
  | [] => [item]
  | x :: xs => if x.cls < item.cls then x :: returnToQueue item xs else item :: x :: xs

/-- The block that composes a kind of frame (Table 1-2, chapters 2 to 8). -/
def FrameBody.owner : FrameBody → Owner
  | .presence .. => .stationTable
  | .lastCall => .tabTable
  | .offer .. | .award .. | .withdraw .. | .revoke .. | .collect .. => .ticketTable
  | .bid .. | .progress .. | .withdrawReply .. => .kitchenQueue
  | .shareAsk .. | .shareGrant .. | .shareDeny .. | .shareSettle .. | .shareReturn ..
  | .shareClose .. => .settlementUnit

/-- A frame of this station as it joins the queue, n and k both 0 (R14). -/
def newItem (s : State) (dest : Nat) (body : FrameBody) (wait : Bool) : TxItem :=
  { frame := { dest := dest, src := station s, body := body }, owner := FrameBody.owner body,
    cls := FrameBody.deferral body, n := 0, k := 0, wait := wait }

/-- The end of a frame reaches its owner: its completion, its drop, or LINE-FAILED (R65, R86, R148,
R151). It starts the wait the frame's owner times from it, if that wait still applies. -/
def frameEnded (item : TxItem) (s : State) : State :=
  if !item.wait then s
  else
    match item.frame.body with
    | .offer o => updTicket o.ref.number (fun t =>
        if t.gen = o.ref.gen ∧ t.state = .offering ∧ t.attempt = o.attempt then
          { t with wait := .offerWindow (now s) } else t) s
    | .award ref awardee _ => updTicket ref.number (fun t =>
        if t.gen = ref.gen ∧ t.state = .placing ∧ t.awardee.map Awardee.station = some awardee then
          { t with wait := .awardWait (now s) } else t) s
    | .withdraw ref pos => updTicket ref.number (fun t =>
        if t.gen = ref.gen then
          { t with withdrawals := t.withdrawals.map fun w =>
              if w.position = pos then { w with wait := some (now s) } else w }
        else t) s
    | .bid origin ref _ => updEntry origin ref.number (fun e =>
        { e with bid := e.bid.map fun b =>
            if b.gen = ref.gen ∧ b.stage = .queued then { b with stage := .awaiting (now s) }
            else b }) s
    | .shareAsk code share => updBorrowed code share (fun b =>
        if b.state = .asking then { b with wait := .ask (now s) } else b) s
    | .shareSettle code share .. => updBorrowed code share (fun b =>
        if b.state = .confirming then { b with wait := .again (now s) } else b) s
    | .shareReturn code share => updBorrowed code share (fun b =>
        if b.state = .returning then { b with wait := .again (now s) } else b) s
    | _ => s

/-- A composed frame is offered to the transmit queue (R15): it joins when the station is ON-LINE and
an entry is free, and is dropped otherwise, which its owner's waits count as its end. -/
def offerFrame (dest : Nat) (body : FrameBody) (wait : Bool) (s : State) : State :=
  let item := newItem s dest body wait
  if s.join.state = .onLine ∧ 0 < freeTx s then
    { s with line := { s.line with waiting := joinQueue item s.line.waiting } }
  else frameEnded item s

/-- The frame with its record's interest in it gone: its end starts no wait any more (R16, R65). -/
def TxItem.disown (p : TxItem → Bool) (x : TxItem) : TxItem :=
  if p x then { x with wait := false } else x

/-- An owner cancels its waiting frames that satisfy `p`. For one in transmission the cancellation is too
late: it goes on as it was, a frame of the record still, and after a collision it waits as one (R16). -/
def cancelWaiting (p : TxItem → Bool) (s : State) : State :=
  { s with line := { s.line with waiting := s.line.waiting.filter fun x => !p x } }

/-- The same where the record goes, or the exchange the frame belongs to: one in transmission is a frame of
the record no more, and its end starts no wait of its owner (R16, log 28). -/
def cancelFrames (p : TxItem → Bool) (s : State) : State :=
  { s with line := { s.line with
      waiting := s.line.waiting.filter fun x => !p x
      sending := s.line.sending.map (TxItem.disown p) } }

/-- A record that begins lets go of the frames that an earlier record of the same name left, waiting or
in transmission: their ends start no wait of the new one (R86, log 28). -/
def disownFrames (p : TxItem → Bool) (s : State) : State :=
  { s with line := { s.line with
      waiting := s.line.waiting.map (TxItem.disown p)
      sending := s.line.sending.map (TxItem.disown p) } }

end Sys2Proof.Machine
end

