-- ==== Sys2Proof/Machine/Flags.lean ====
section
/-! DEFINITION. Flags, views and output pins computed from the state: ATTN, SDO, STROBE, PRIME, the
printer state and accepting flag of PRESENCE, the class-served view, and the flags of tabs. -/

namespace Sys2Proof.Machine

/-- ATTN is asserted while the notice queue holds a notice or the overflow flag is set (R172). -/
def attn (s : State) : Bool := !s.notices.isEmpty || s.overflow.isSome

/-- The station drives the pair: it is sending or jamming. -/
def driving (s : State) : Bool := s.line.state == some .sending || s.line.state == some .jamming

/-- The level at which this station drives the pair LA/LB (R2, R18, R19), none while it does not drive
it: each transition of its signal changes the level. Which of the two levels follows the first
transition is the model's choice (log 44). -/
def pairLevel (s : State) : Option Bool :=
  if driving s then
    some (((LineCtl.signal s.line).take (s.line.txPos + 1)).countP (fun t => t) % 2 == 1)
  else none

/-- STROBE is asserted in the STROBE stage (R106). It is released as soon as the handshake is in no
stage, also when a fault stops it there (log 45). -/
def strobe (s : State) : Bool := s.port.stage == .strobe

/-- PRIME is held asserted at a till (R121) and pulsed at a kitchen (R109, R118). -/
def prime (s : State) : Bool := role s == .till || 0 < s.port.primeLeft

/-- Entries in the kitchen queue, TENTATIVE included (R83). -/
def depth (s : State) : Nat := s.kitchen.entries.length

/-- Free slots of the kitchen queue: 24 minus the depth (R83). -/
def freeSlots (s : State) : Nat := queueCapacity - depth s

/-- Printer state field of PRESENCE (R33, Table 6-2). -/
def printerState (s : State) : PrinterState :=
  match s.port.state with
  | .idle | .sending => .ok
  | .latched => .latched
  | .retryWait => .retrying
  | .down => .down

/-- Accepting flag of PRESENCE: a free slot and a port that is not LATCHED (R33). -/
def accepting (s : State) : Bool := 1 ≤ freeSlots s && s.port.state != .latched

/-- A PRESENT kitchen of class `c` that accepts (R39). -/
def Heard.serves (c : Nat) (h : Heard) : Bool :=
  !h.silent && h.role == .kitchen && h.cls == c && h.accepting

/-- The class-served view: class `c` is served while some entry serves it (R39). -/
def classServed (s : State) (c : Nat) : Bool :=
  s.stations.toList.any fun e => (e.map (Heard.serves c)).getD false

/-- A share that is HELD-LOCAL, HELD-REMOTE, ADRIFT or PAID locks its tab (R45, R124). -/
def ShareState.locks : ShareState → Bool
  | .opened | .empty => false
  | .heldLocal .. | .heldRemote .. | .adrift .. | .paid .. => true

def ShareState.isPaid : ShareState → Bool
  | .paid .. => true
  | _ => false

def ShareState.isEmpty : ShareState → Bool
  | .empty => true
  | _ => false

/-- Any share of the tab is held, adrift or paid. -/
def Tab.locked (t : Tab) : Bool := t.shares.any fun sh => ShareState.locks sh.state

/-- Some line of the tab is WITHDRAWING. -/
def Tab.withdrawing (t : Tab) : Bool := t.lines.any fun l => l.state == .withdrawing

/-- A line is counted when it is neither VOID nor WASTE (Table 3-4). -/
def TabLine.counted (l : TabLine) : Bool := l.state != .void && l.state != .waste

/-- A line is finished when it is SERVED, VOID or WASTE (R56). -/
def TabLine.finished (l : TabLine) : Bool :=
  l.state == .served || l.state == .void || l.state == .waste

/-- Entries that are FIRED or REVOKED-FIRED take a place against the fire capacity (R96). -/
def Entry.cooking (e : Entry) : Bool := e.state == .fired || e.state == .revokedFired

/-- Mask with bit p set for each live line p (R91). -/
def liveMask (lines : List KitchenLine) : Byte :=
  byte ((lines.zipIdx).foldl (fun n p => n + if p.1.live then 2 ^ p.2 else 0) 0)

/-- The reply codes (Table 10-5). -/
def ReplyCode.code : ReplyCode → Nat
  | .done => 0x00 | .accepted => 0x01 | .field => 0x02 | .level => 0x03 | .notSigned => 0x04
  | .state => 0x05 | .full => 0x06 | .unserved => 0x07 | .restricted => 0x08 | .limit => 0x09
  | .locked => 0x0A | .pending => 0x0B | .short => 0x0C | .holding => 0x0D | .unknown => 0x0E
  | .offline => 0x0F | .lineBusy => 0x10 | .role => 0x11 | .config => 0x12

/-- The bytes of a reply as they are clocked out: result code, reply length, body (Table 10-3). -/
def Reply.bytes (r : Reply) : List Byte :=
  byte (ReplyCode.code r.code) :: byte r.body.length :: r.body

/-- SDO as the byte the link presents: undriven at rest, the reply in REPLY, all ones in every other
phase (Table 10-2, R167). -/
def sdo (s : State) : Option Byte :=
  match s.link.phase with
  | .rest => none
  | .reply => some (((s.link.reply.map Reply.bytes).getD [])[s.link.clocked]?.getD 0xFF#8)
  | _ => some 0xFF#8

/-- The bit that a falling edge of SCK puts on SDO (R166): the byte is sent most significant bit first, a
bit for each bit of SDI already sampled. -/
def nextSdoBit (s : State) : Bool := ((sdo s).getD 0xFF#8).getMsbD s.link.bits.length

/-- The level of SDO: undriven at rest (R166). -/
def sdoLevel (s : State) : Option Bool :=
  match s.link.phase with
  | .rest => none
  | _ => some s.link.sdoBit

end Sys2Proof.Machine
end

