-- ==== Sys2Proof/Machine/Operands.lean ====
section
/-! DEFINITION. How a request's operands are checked and how a request is answered: the result of a
request, the chain of checks of which the first that fails gives the reply, the lookups of slot and
tab (R42, R157), R15's check of the frames needed, and the reply that enters the link (R167). -/

namespace Sys2Proof.Machine

/-- The result of a request: a refusal, which changes nothing and has an empty body (R169), or the
result code DONE or ACCEPTED with the reply body and the new state. -/
abbrev RequestResult := Except ReplyCode (ReplyCode × List Byte × State)

/-- A check: when it holds the next one follows, otherwise the request is refused. -/
def need (p : Prop) [Decidable p] (refusal : ReplyCode) (k : RequestResult) : RequestResult :=
  if p then k else .error refusal

/-- A request taken and completed, with its reply fields. -/
def taken (body : List Byte) (s : State) : RequestResult := .ok (.done, body, s)

/-- A request taken whose outcome follows as a notice. -/
def accepted (s : State) : RequestResult := .ok (.accepted, [], s)

/-- The slot record of a slot number; none when the slot is empty or outside 0-3 (R157). -/
def slotOf (s : State) (slot : Nat) : Option SlotRecord := (s.slots[slot]?).join

/-- The sign-on check (R157): NOT-SIGNED when the named slot is empty or not 0-3. -/
def withSlot (s : State) (slot : Nat) (k : SlotRecord → RequestResult) : RequestResult :=
  match slotOf s slot with
  | some r => k r
  | none => .error .notSigned

/-- The tab a code names (R42 step 3): its home station is this station, and the slot's tab has this
code. -/
def tabOf (s : State) (code : Nat) : Option Tab :=
  if codeHome code = station s then
    match tabIn s (codeSlot code) with
    | some t => if t.code = code then some t else none
    | none => none
  else none

/-- The lookup of a tab code: UNKNOWN when it names no tab here (R42 step 3). -/
def withTab (s : State) (code : Nat) (k : Tab → RequestResult) : RequestResult :=
  match tabOf s code with
  | some t => k t
  | none => .error .unknown

/-- The first steps of R42: role TILL, sign-on, tab code, level. -/
def tabRequest (s : State) (slot code level : Nat) (k : SlotRecord → Tab → RequestResult) :
    RequestResult :=
  need (role s = .till) .role <|
  withSlot s slot fun r =>
  withTab s code fun t =>
  need (r.level ≤ level) .level <| k r t

/-- A request that needs `n` frames (R15): OFFLINE outside ON-LINE, LINE-BUSY when fewer entries are
free; a request that needs none is taken in every join state. -/
def needFrames (s : State) (n : Nat) (k : RequestResult) : RequestResult :=
  if n = 0 then k
  else need (s.join.state = .onLine) .offline <| need (n ≤ freeTx s) .lineBusy k

/-- In STRAP-FAULT every request but the queries and FETCH is refused with CONFIG (R24). -/
def unlessStrapFault (s : State) (k : RequestResult) : RequestResult :=
  need (s.join.state ≠ .strapFault) .config k

/-- The state after a request and its reply. A refusal leaves every block as it was. -/
def RequestResult.outcome (s : State) : RequestResult → State × Reply
  | .ok (code, body, t) => (t, { code := code, body := body })
  | .error refusal => (s, { code := refusal, body := [] })

/-- The link after a request has been taken at the eighth rising edge of its turnaround byte: SEL asserted,
phase REPLY, the request's kind and body, the reply composed, none of it clocked (R167). SCK is high, and
SDO keeps the last bit of the turnaround byte, all ones, until the falling edge (R166). -/
def replying (i : Instr) (r : Reply) (fetching : Option Fetching) : Link :=
  let kindBody := (encodeRequest i).getD (0#8, [])
  { sel := true, sck := true, sdoBit := true, phase := .reply, bits := [], kind := kindBody.1, length := kindBody.2.length,
    body := kindBody.2, reply := some r, clocked := 0, fetching := fetching }

/-- The request `i`, taken at the end of its turnaround byte with the given result (R170). -/
def answer (i : Instr) (result : RequestResult) (s : State) : State :=
  let o := RequestResult.outcome s result
  { o.1 with link := replying i o.2 none }

/-- Values above a limit become the limit. -/
def clampTop (limit n : Nat) : Nat := min n limit

/-- Values outside a range become its nearer end. -/
def clampRange (low high n : Nat) : Nat := max low (min n high)

end Sys2Proof.Machine
end

