-- ==== Sys2Proof/Machine/Printer.lean ====
section
/-! DEFINITION. The ticket printer port (chapter 6): ticket images, line assembly, the byte handshake,
faults and their responses, recovery, and the meanings of its events and of REPRINT and
CLEAR-PRINTER. -/

namespace Sys2Proof.Machine

/-- Changes the port. -/
def updPort (f : Port → Port) (s : State) : State := { s with port := f s.port }

/-- Sets an entry's print state (Table 5-1). -/
def setPrint (origin number : Nat) (p : PrintState) (s : State) : State :=
  updEntry origin number (fun e => { e with print := p }) s

/-! ## The ticket image (R111) -/

def spaceByte : Byte := 0x20#8
def hyphenByte : Byte := 0x2D#8

/-- The word REPRINT. -/
def reprintLine : List Byte := [0x52#8, 0x45#8, 0x50#8, 0x52#8, 0x49#8, 0x4E#8, 0x54#8]

/-- Columns of a lane: 42 in single-lane mode, 20 in dual-lane mode. -/
def laneWidth (dual : Bool) : Nat := if dual then 20 else 42

/-- The header: K, class, origin, number, and RUSH in the rush band. -/
def headerLine (cls origin number : Nat) (band : Band) : List Byte :=
  [0x4B#8, byte (48 + cls), spaceByte] ++ digits2 origin ++ [hyphenByte] ++ digits4 number
    ++ (match band with
        | .rush => [spaceByte, 0x52#8, 0x55#8, 0x53#8, 0x48#8]
        | .normal => [])

/-- A quantity right-aligned in two characters. -/
def quantity (n : Nat) : List Byte :=
  [if n < 10 then spaceByte else byte (48 + n / 10), byte (48 + n % 10)]

/-- An item line, and its note line if the item has a note. -/
def itemLines (i : OfferItem) : List (List Byte) :=
  (quantity i.qty ++ [spaceByte] ++ i.label)
    :: (if i.note = [] then [] else [[spaceByte, spaceByte, 0x2A#8, spaceByte] ++ i.note])

/-- The image lines from the header through the closing rule (R111). -/
def image (cls : Nat) (dual reprint : Bool) (e : Entry) : List (List Byte) :=
  [headerLine cls e.origin e.number e.band] ++ (if reprint then [reprintLine] else [])
    ++ (e.lines.filter KitchenLine.live).flatMap (fun l => itemLines l.item)
    ++ [List.replicate (laneWidth dual) hyphenByte]

/-! ## Lines and bytes (R106, R112, R113) -/

/-- Removes trailing spaces. -/
def trimSpaces (bs : List Byte) : List Byte := (bs.reverse.dropWhile fun b => b == spaceByte).reverse

/-- Pads with spaces to 20 columns. -/
def pad20 (bs : List Byte) : List Byte := bs ++ List.replicate (20 - bs.length) spaceByte

/-- The bytes that close a printer line. -/
def lineEnd : List Byte := [0x0D#8, 0x0A#8]

/-- The next image line of a lane's ticket. -/
def LaneTicket.line (t : LaneTicket) : List Byte := t.image.getD t.next []

/-- A printer line of single-lane mode (R112). -/
def singleLine (t : LaneTicket) : List Byte := trimSpaces (LaneTicket.line t) ++ lineEnd

/-- A printer line of dual-lane mode, from the two lanes (R113). -/
def doubleLine (left right : Option LaneTicket) : List Byte :=
  let part := fun t : Option LaneTicket => pad20 ((t.map LaneTicket.line).getD [])
  trimSpaces (part left ++ [spaceByte, spaceByte] ++ part right) ++ lineEnd

/-- The bytes a job has still to send. -/
def jobBytes (s : State) : Job → List Byte
  | .line bs => bs
  | .cut => [s.join.figures.cut]
  | .none | .recovery => []

/-- A byte begins at READY-WAIT (R106): with BUSY released that stage ends at once and the STROBE
stage puts the byte on the data lines. -/
def startByte (s : State) : State :=
  match jobBytes s s.port.job with
  | b :: _ =>
      if s.port.busyPin then updPort (fun p => { p with stage := .readyWait (now s) }) s
      else updPort (fun p => { p with stage := .strobe, pd := b }) s
  | [] => s

/-- The port enters SENDING with a line or a cut to send. -/
def sendJob (j : Job) (s : State) : State :=
  startByte (updPort (fun p => { p with state := .sending, job := j }) s)

/-- The port enters IDLE, the handshake at rest. -/
def portIdle (s : State) : State :=
  updPort (fun p => { p with state := .idle, job := .none, stage := .rest }) s

/-! ## Lanes (R109 to R113) -/

/-- The oldest print list item as a lane takes it, its image composed from the entry as it stands. -/
def laneTicket (s : State) (it : PrintItem) (e : Entry) : LaneTicket :=
  { origin := it.origin, ref := ⟨e.number, e.gen⟩
    image := image (ownClass s) (dualLane s) it.reprint e
    next := 0, reprint := it.reprint, held := true }

/-- An idle lane takes the oldest item (R110): the item leaves the list, its entry is PRINTING. -/
def takeItem (put : LaneTicket → Port → Port) (s : State) : State :=
  match s.port.list with
  | [] => s
  | it :: rest =>
      let s := updPort (fun p => { p with list := rest }) s
      match entryOf s it.origin it.number with
      | some e => updPort (put (laneTicket s it e)) (setPrint it.origin it.number .printing s)
      | none => s

/-- The left lane, the only one in single-lane mode, takes an item when it is idle. -/
def fillLeft (s : State) : State :=
  if s.port.left.isNone then takeItem (fun t p => { p with left := some t }) s else s

/-- The right lane takes an item when it is idle. -/
def fillRight (s : State) : State :=
  if s.port.right.isNone then takeItem (fun t p => { p with right := some t }) s else s

/-- A printer line starts (R112, R113): idle lanes take items; a line is sent, else an owed cut, else
the port is IDLE. -/
def startLine (s : State) : State :=
  if dualLane s then
    let s := fillRight (fillLeft s)
    if s.port.left.isNone ∧ s.port.right.isNone then
      if s.port.cutOwed then sendJob .cut s else portIdle s
    else sendJob (.line (doubleLine s.port.left s.port.right)) s
  else
    let s := fillLeft s
    match s.port.left with
    | some t => sendJob (.line (singleLine t)) s
    | none => portIdle s

/-- A ticket completes (R114): its entry, while still in the queue, becomes PRINTED. -/
def completeTicket (t : LaneTicket) (s : State) : State :=
  if t.held then setPrint t.origin t.ref.number .printed s else s

/-- A lane's ticket after its line has been accepted: the next line, or none after the closing
rule. -/
def LaneTicket.advance (t : LaneTicket) : Option LaneTicket :=
  if t.next + 1 < t.image.length then some { t with next := t.next + 1 } else none

/-- One lane after a dual-lane printer line (R113): a completed ticket sets the cut-owed flag. -/
def laneAccepted (lane : Option LaneTicket) (put : Option LaneTicket → Port → Port) (s : State) :
    State :=
  match lane with
  | none => s
  | some t =>
      match LaneTicket.advance t with
      | some t' => updPort (put (some t')) s
      | none =>
          completeTicket t (updPort (fun p => { put none p with cutOwed := true }) s)

/-- The last byte of a printer line has been accepted (R112, R113). Between a single lane's closing rule and
its cut no image line is left, and the next-line index is the number of lines, the model's choice (log
56). -/
def lineAccepted (s : State) : State :=
  if dualLane s then
    startLine
      (laneAccepted s.port.right (fun t p => { p with right := t })
        (laneAccepted s.port.left (fun t p => { p with left := t }) s))
  else
    match s.port.left with
    | some t =>
        let s := updPort (fun p => { p with left := some { t with next := t.next + 1 } }) s
        if t.next + 1 < t.image.length then startLine s else sendJob .cut s
    | none => startLine s

/-- The cut code has been accepted (R112, R113). -/
def cutAccepted (s : State) : State :=
  if dualLane s then startLine (updPort (fun p => { p with cutOwed := false }) s)
  else
    match s.port.left with
    | some t => startLine (completeTicket t (updPort (fun p => { p with left := none }) s))
    | none => startLine s

/-- A byte has been accepted (R106): the next byte of the job begins, or the job is done. -/
def byteAccepted (s : State) : State :=
  match s.port.job with
  | .line (_ :: b :: bs) => startByte (updPort (fun p => { p with job := .line (b :: bs) }) s)
  | .line _ => lineAccepted s
  | .cut => cutAccepted s
  | .none | .recovery => s

/-! ## The print list (R110, R120) -/

/-- An entry that will not be printed (R120): UNPRINTED, with its notice. -/
def unprinted (origin : Nat) (ref : Ref) (s : State) : State :=
  notify (.ticketUnprinted origin ref) (setPrint origin ref.number .unprinted s)

/-- An item joins the print list (R110): WAITING; it starts printing on an IDLE port, and leaves the
list at once, UNPRINTED, on a DOWN one (R120). -/
def joinPrintList (origin : Nat) (ref : Ref) (reprint : Bool) (s : State) : State :=
  match s.port.state with
  | .down => unprinted origin ref s
  | state =>
      let s := setPrint origin ref.number .waiting
        (updPort (fun p => { p with list := p.list ++ [⟨origin, ref.number, reprint⟩] }) s)
      if state = .idle then startLine s else s

/-- A lane's ticket whose entry has left the queue (R114). -/
def LaneTicket.release (origin number : Nat) (t : LaneTicket) : LaneTicket :=
  if t.origin = origin ∧ t.ref.number = number then { t with held := false } else t

/-- The port is told that an entry has left the queue (R100, R104, R110, R114): its item leaves the
list, a lane goes on printing from its copy. -/
def entryLeft (origin number : Nat) (s : State) : State :=
  updPort (fun p =>
    { p with
      list := p.list.filter fun it => !(it.origin == origin && it.number == number)
      left := p.left.map (LaneTicket.release origin number)
      right := p.right.map (LaneTicket.release origin number) }) s

/-! ## Recovery and faults (R116 to R120) -/

/-- Half bit times of a PRIME pulse, 500 microseconds (R118). -/
def primeHalves (s : State) : Nat := Straps.halvesPerMs s.straps / 2

/-- A recovery, and the return from DOWN, begin (R118, R120): SENDING, PRIME pulsed, and the
READY-WAIT that follows the pulse under its limit (R107), which begins when the pulse ends (log 30).
The fault kind stays until the end (log 25). -/
def beginRecovery (s : State) : State :=
  let start := (advance (primeHalves s) s).clock.time
  updPort (fun p =>
    { p with state := .sending, job := .recovery, stage := .readyWait start,
             primeLeft := primeHalves s, retryFrom := none }) s

/-- A lane's ticket as a recovery starts it again (R118, step 3). -/
def LaneTicket.restart (t : LaneTicket) : LaneTicket :=
  let image := if t.reprint then t.image else t.image.take 1 ++ reprintLine :: t.image.drop 1
  { t with image := image, next := 0, reprint := true }

/-- BUSY is found released after PRIME: the recovery ends (R118). -/
def recoveryEnds (s : State) : State :=
  let s := notify .printerResumed (updPort (fun p => { p with faultKind := none }) s)
  startLine (updPort (fun p =>
    { p with left := p.left.map LaneTicket.restart, right := p.right.map LaneTicket.restart }) s)

/-- The port leaves DOWN when FAULT and BUSY are both released (R120). -/
def downExit (s : State) : State :=
  if s.port.state = .down ∧ s.port.faultPin = false ∧ s.port.busyPin = false then beginRecovery s
  else s

/-- A lane's ticket is given up (R120, step 1). -/
def giveUpLane (lane : Option LaneTicket) (s : State) : State :=
  match lane with
  | none => s
  | some t =>
      notify (.ticketUnprinted t.origin t.ref)
        (if t.held then setPrint t.origin t.ref.number .unprinted s else s)

/-- A print list item is given up (R120, step 2). -/
def giveUpItem (s : State) (it : PrintItem) : State :=
  match entryOf s it.origin it.number with
  | some e => unprinted it.origin ⟨e.number, e.gen⟩ s
  | none => s

/-- The port enters DOWN (R120): lanes and list are given up and no cut is owed; with FAULT and BUSY
both released it leaves DOWN at once (log 29). Where both lanes hold a ticket, the left one is given up
first: the rule does not say, the model's choice (log 53). -/
def goDown (s : State) : State :=
  let p := s.port
  let s := updPort (fun p =>
    { p with state := .down, left := none, right := none, list := [], cutOwed := false }) s
  downExit (p.list.foldl giveUpItem (giveUpLane p.right (giveUpLane p.left s)))

/-- The response CONFIGURE set for a fault kind (Table 2-2). -/
def responseTo (s : State) : FaultKind → Response
  | .lineFault => s.join.figures.lineFault
  | .noResponse => s.join.figures.noResponse

/-- A fault arises in IDLE or SENDING (R116): the handshake stops, the kind is recorded, the notice is
queued, the response is taken. In the other port states nothing arises. A handshake that stops in the
STROBE stage releases STROBE at once: the spec does not say, the model's choice (log 45). -/
def raiseFault (k : FaultKind) (s : State) : State :=
  match s.port.state with
  | .idle | .sending =>
      let r := responseTo s k
      let s := updPort (fun p => { p with job := .none, stage := .rest, faultKind := some k }) s
      let s := notify (.printerFault k r) s
      match r with
      | .latch => updPort (fun p => { p with state := .latched }) s
      | .retry => updPort (fun p => { p with state := .retryWait, retryFrom := some (now s) }) s
      | .skip => goDown s
  | .latched | .retryWait | .down => s

/-- The port looks at BUSY and FAULT: at a kitchen, from START on (R108, R121). -/
def portWatches (s : State) : Bool := role s == .kitchen && joined s

/-! ## Printer events -/

/-- The last byte of the line in progress is accepted, whatever part of the line the handshake has
reached (log 6). -/
def execPrinterLineAccepted (s : State) : Host.Outcome State Fault Refusal :=
  match s.port.job with
  | .line bs =>
      .next (lineAccepted (updPort (fun p =>
        { p with busyPin := false, pd := bs.getLast?.getD p.pd }) s))
  | _ => .next s

/-- The cut code in progress is accepted, whatever stage the handshake has reached (log 6). -/
def execCutAccepted (s : State) : Host.Outcome State Fault Refusal :=
  match s.port.job with
  | .cut => .next (cutAccepted (updPort (fun p =>
      { p with busyPin := false, pd := s.join.figures.cut }) s))
  | _ => .next s

/-- The start of the limit the handshake is under (R107). The STROBE stage, 1 microsecond long, ends
now for ACK-WAIT to run its limit (log 15). -/
def limitStart (s : State) : Option Time :=
  match s.port.stage with
  | .readyWait start | .ackWait start | .releaseWait start => some start
  | .strobe => some (now s)
  | .rest => none

/-- The PRIME pulse of a recovery ends before the READY-WAIT that follows it is looked at (R107, R118). -/
def pulseEnds (s : State) : State :=
  match s.port.job with
  | .recovery => advance s.port.primeLeft s
  | .none | .line _ | .cut => s

/-- FAULT becomes asserted (R108): the deglitch timer starts when the port watches. -/
def execFaultAsserted (s : State) : Host.Outcome State Fault Refusal :=
  if s.port.faultPin then .next s
  else
    .next (updPort (fun p =>
      { p with faultPin := true,
               deglitch := if portWatches s then .running (now s) else p.deglitch }) s)

/-- FAULT is released (R108): the deglitch timer stops; a DOWN port may leave DOWN (R120). -/
def execFaultReleased (s : State) : Host.Outcome State Fault Refusal :=
  .next (downExit (updPort (fun p => { p with faultPin := false, deglitch := .off }) s))

/-- FAULT has stayed asserted for 50 ms (R108): the assertion is used up, and a LINE-FAULT arises in
IDLE or SENDING. -/
def execDeglitchTimerExpiry (s : State) : Host.Outcome State Fault Refusal :=
  match s.port.deglitch with
  | .running start =>
      .next (raiseFault .lineFault (updPort (fun p => { p with deglitch := .used })
        (advanceUntil start deglitchLimit s)))
  | _ => .next s

/-- A retry check (R119). -/
def retryCheckOut (s : State) : State :=
  if s.port.faultKind = some .lineFault ∧ s.port.faultPin = true then
    updPort (fun p => { p with retryFrom := some (now s) }) s
  else beginRecovery s

def execRetryCheck (s : State) : Host.Outcome State Fault Refusal :=
  match s.port.state, s.port.retryFrom with
  | .retryWait, some start => .next (retryCheckOut (advanceUntil start retryInterval s))
  | _, _ => .next s

/-- BUSY is found released after the PRIME pulse of a recovery (R118, log 6). -/
def execRecoveryEnd (s : State) : Host.Outcome State Fault Refusal :=
  match s.port.job with
  | .recovery =>
      .next (recoveryEnds (updPort (fun p => { p with busyPin := false })
        (advance s.port.primeLeft s)))
  | _ => .next s

/-- The STROBE pulse ends (R106): ACK-WAIT begins; with BUSY asserted it ends at once (log 31). -/
def execStrobeReleased (s : State) : Host.Outcome State Fault Refusal :=
  match s.port.stage with
  | .strobe => .next (updPort (fun p =>
      { p with stage := if p.busyPin then .releaseWait (now s) else .ackWait (now s) }) s)
  | _ => .next s

/-- BUSY becomes asserted (R106): ACK-WAIT ends and RELEASE-WAIT begins. -/
def execBusyAsserted (s : State) : Host.Outcome State Fault Refusal :=
  .next (updPort (fun p =>
    { p with busyPin := true,
             stage := match p.stage with
               | .ackWait _ => .releaseWait (now s)
               | stage => stage }) s)

/-- What a release of BUSY ends (R106, R118, R120): READY-WAIT, so that the byte is strobed;
RELEASE-WAIT, so that the byte is accepted; a recovery whose PRIME pulse is over; DOWN. -/
def busyReleased (s : State) : State :=
  match s.port.stage, s.port.job with
  | .readyWait _, .recovery => if s.port.primeLeft = 0 then recoveryEnds s else s
  | .readyWait _, _ => startByte s
  | .releaseWait _, _ => byteAccepted s
  | _, _ => downExit s

def execBusyReleased (s : State) : Host.Outcome State Fault Refusal :=
  .next (busyReleased (updPort (fun p => { p with busyPin := false }) s))

/-- BUSY is released in a wait that a released BUSY ends (R106), so that the stage ends before its limit
comes. -/
def waitIsOver (p : Port) : Bool :=
  match p.stage with
  | .readyWait _ | .releaseWait _ => !p.busyPin
  | .rest | .strobe | .ackWait _ => false

/-- A handshake wait reaches its limit: NO-RESPONSE (R107). A wait that BUSY, released, has ended never
reaches it: the end of the stage is taken instead, for a recovery as its PRIME pulse ends (R118, log
30). -/
def execHandshakeLimitExpiry (s : State) : Host.Outcome State Fault Refusal :=
  match s.port.state, limitStart s with
  | .sending, some start =>
      .next (if waitIsOver s.port then busyReleased (pulseEnds s)
        else raiseFault .noResponse (advanceUntil start handshakeLimit (pulseEnds s)))
  | _, _ => .next s

/-! ## REPRINT and CLEAR-PRINTER (R99, R115, R117) -/

/-- Steps 1 to 4 of R99 for a request at level 3 or above that names an entry. -/
def kitchenRequest (s : State) (slot origin number : Nat) (k : Entry → RequestResult) :
    RequestResult :=
  need (role s = .kitchen) .role <|
  withSlot s slot fun r =>
  match entryOf s origin number with
  | some e => need (r.level ≤ 3) .level <| k e
  | none => .error .unknown

/-- The entry has an item in the print list or is held in a lane (R115). -/
def inPrint (s : State) (origin number : Nat) : Bool :=
  let inLane := fun t : Option LaneTicket =>
    (t.map fun t => t.held && t.origin == origin && t.ref.number == number).getD false
  (s.port.list.any fun it => it.origin == origin && it.number == number)
    || inLane s.port.left || inLane s.port.right

def reprintResult (slot origin number : Nat) (s : State) : RequestResult :=
  kitchenRequest s slot origin number fun e =>
  need (e.state = .fired) .state <|
  need (inPrint s origin number = false) .state <|
  need (s.port.state ≠ .down) .state <|
  taken [] (joinPrintList origin ⟨number, e.gen⟩ true s)

def execReprint (slot origin number : Nat) (s : State) : Host.Outcome State Fault Refusal :=
  .next (answer (.reprint slot origin number)
    (unlessStrapFault s (reprintResult slot origin number s)) s)

def clearPrinterResult (slot : Nat) (s : State) : RequestResult :=
  need (role s = .kitchen) .role <|
  withSlot s slot fun r =>
  need (r.level ≤ 3) .level <|
  need (s.port.state = .latched) .state <|
  need (s.port.faultPin = false) .state <|
  taken [] (beginRecovery s)

def execClearPrinter (slot : Nat) (s : State) : Host.Outcome State Fault Refusal :=
  .next (answer (.clearPrinter slot) (unlessStrapFault s (clearPrinterResult slot s)) s)

end Sys2Proof.Machine
end

