-- ==== Sys2Proof/Machine/Split.lean ====
section
/-! DEFINITION. The split unit: the computation of share amounts (R128 to R133), the payment step
(R134), and the meanings of SPLIT, ASSIGN and DISCOUNT (R124 to R127). -/

namespace Sys2Proof.Machine

/-! ## The computation -/

/-- w(s) for each share below the count (R128). -/
def Alloc.weights (count : Nat) : Alloc → List Nat
  | .allEqual => List.replicate count 1
  | .one k => (List.range count).map fun s => if s = k then 1 else 0
  | .weighted ws => (List.range count).map fun s => ws.getD s 0

/-- How many shares rank before share `s`: those of a larger value, and those of the same value with
a lower index (R129). -/
def rankOf (values : List Nat) (s : Nat) : Nat :=
  let mine := values.getD s 0
  ((values.zipIdx).filter fun p => mine < p.1 || (p.1 == mine && p.2 < s)).length

/-- Largest remainder (R129): each share's floor of `amount` × w / W, and one more for the first R
shares ranked by the value (`amount` × w) modulo W. -/
def divide (amount : Nat) (weights : List Nat) : List Nat :=
  let total := weights.sum
  let floors := weights.map fun w => amount * w / total
  let values := weights.map fun w => amount * w % total
  let rest := amount - floors.sum
  (floors.zipIdx).map fun p => if rankOf values p.2 < rest then p.1 + 1 else p.1

/-- G = P × q (R128). -/
def TabLine.gross (l : TabLine) : Nat := l.price * l.qty

/-- The share's cents of a line's gross (R129). -/
def TabLine.goodsOf (count share : Nat) (l : TabLine) : Nat :=
  (divide (TabLine.gross l) (Alloc.weights count l.alloc)).getD share 0

/-- The share's deposit from a line: its units of the quantity times the deposit per unit (R130). -/
def TabLine.depositOf (count share : Nat) (l : TabLine) : Nat :=
  (divide l.qty (Alloc.weights count l.alloc)).getD share 0 * l.deposit

/-- S(s,g): the share's goods from the counted lines of a tax group (R131). -/
def groupSum (lines : List TabLine) (count share group : Nat) : Nat :=
  ((lines.filter fun l => TabLine.counted l && l.taxGroup == group).map
    (TabLine.goodsOf count share)).sum

/-- D(s,g) = floor((S × p + 50) / 100) (R131). -/
def discountOf (sum percent : Nat) : Nat := (sum * percent + 50) / 100

/-- T(s,g) = floor((N × r + 5000) / 10000) (R132). -/
def taxOf (net rate : Nat) : Nat := (net * rate + 5000) / 10000

/-- The amounts record of a share (R131 to R133). -/
def amountsOf (f : Figures) (lines : List TabLine) (count share percent : Nat) : Amounts :=
  let s0 := groupSum lines count share 0
  let s1 := groupSum lines count share 1
  let s2 := groupSum lines count share 2
  let s3 := groupSum lines count share 3
  let d0 := discountOf s0 percent
  let d1 := discountOf s1 percent
  let d2 := discountOf s2 percent
  let d3 := discountOf s3 percent
  let t0 := taxOf (s0 - d0) f.tax0
  let t1 := taxOf (s1 - d1) f.tax1
  let t2 := taxOf (s2 - d2) f.tax2
  let t3 := taxOf (s3 - d3) f.tax3
  let net := (s0 - d0) + (s1 - d1) + (s2 - d2) + (s3 - d3)
  let deposits := ((lines.filter TabLine.counted).map (TabLine.depositOf count share)).sum
  { goods := s0 + s1 + s2 + s3
    discount := d0 + d1 + d2 + d3
    net := net
    tax0 := t0
    tax1 := t1
    tax2 := t2
    tax3 := t3
    deposits := deposits
    total := net + (t0 + t1 + t2 + t3) + deposits }

/-- A share as computed: its amounts, and the standing EMPTY when its total is 0, OPEN otherwise
(R133). -/
def computeShare (f : Figures) (lines : List TabLine) (count index : Nat) (sh : Share) : Share :=
  let a := amountsOf f lines count index sh.discount
  { sh with amounts := a, state := if a.total = 0 then .empty else .opened }

/-- The computation of a whole tab (R123): every share, then the tab total. A tab with a share held,
adrift or paid keeps its amounts. -/
def Tab.compute (f : Figures) (t : Tab) : Tab :=
  if Tab.locked t then t
  else
    let shares := (t.shares.zipIdx).map fun p =>
      computeShare f t.lines t.shares.length p.2 p.1
    { t with shares := shares, total := (shares.map fun sh => sh.amounts.total).sum }

/-- No amounts, before the first computation. -/
def Amounts.zero : Amounts := ⟨0, 0, 0, 0, 0, 0, 0, 0, 0⟩

/-- A new share record: discount 0; the computation that follows sets its amounts (R122). -/
def Share.new : Share := { discount := 0, amounts := Amounts.zero, state := .empty }

/-! ## The payment step (R134) -/

/-- The settled amount and the adjustment of a cash payment, by the last digit of the total. -/
def roundCash (total : Nat) : Nat × Int :=
  match total % 10 with
  | 1 => (total - 1, -1)
  | 2 => (total - 2, -2)
  | 3 => (total + 2, 2)
  | 4 => (total + 1, 1)
  | 6 => (total - 1, -1)
  | 7 => (total - 2, -2)
  | 8 => (total + 2, 2)
  | 9 => (total + 1, 1)
  | _ => (total, 0)

/-- The settled amount and adjustment of a total by its tender (R134). -/
def settle (total : Nat) : Tender → Nat × Int
  | .card => (total, 0)
  | .cash => roundCash total

/-- The payment step of PAY (R134): the tender, settled amount, adjustment and change; FIELD for a
tender other than CASH or CARD, SHORT for cash below the settled amount. -/
def paymentStep (total tender tendered : Nat) : Except ReplyCode (Tender × Nat × Int × Nat) :=
  match Tender.ofCode tender with
  | none => .error .field
  | some .card => .ok (.card, total, 0, 0)
  | some .cash =>
      let r := roundCash total
      if tendered < r.1 then .error .short else .ok (.cash, r.1, r.2, tendered - r.1)

/-! ## SPLIT, ASSIGN, DISCOUNT -/

/-- The checks the three requests share (R124). -/
def splitRequest (s : State) (slot code : Nat) (k : Tab → RequestResult) : RequestResult :=
  tabRequest s slot code 2 fun _ t =>
  need (Tab.locked t = false) .locked <|
  need (t.state ≠ .closed) .state <| k t

/-- Hands the changed tab to the split unit and puts it back (R123). -/
def recomputed (s : State) (t : Tab) : Tab := Tab.compute s.join.figures t

/-- The tab as SPLIT leaves it before the computation (R125 steps 1 to 3). -/
def Tab.resplit (count : Nat) (t : Tab) : Tab :=
  { t with
    shares := ((List.range count).map fun i => t.shares.getD i Share.new).map fun sh =>
      { sh with discount := 0 }
    lines := t.lines.map fun l => { l with alloc := if 1 < count then .allEqual else .one 0 } }

/-- SPLIT (R125): a count of 0 is refused, above 8 clamped; reply count and tab total. -/
def splitResult (slot code count : Nat) (s : State) : RequestResult :=
  splitRequest s slot code fun t =>
  need (count ≠ 0) .field <|
  let n := clampTop 8 count
  let t := recomputed s (Tab.resplit n t)
  taken (byte n :: be32 t.total) (putTab (codeSlot code) (some t) s)

def execSplit (slot code count : Nat) (s : State) : Host.Outcome State Fault Refusal :=
  .next (answer (.split slot code count) (unlessStrapFault s (splitResult slot code count s)) s)

/-- An allocation as a reply carries it: kind, share k, eight weights (R126, R175). The fields that its
kind does not use, of which the spec gives no value, are sent as 0: the model's choice (log 48). -/
def Alloc.bytes : Alloc → List Byte
  | .allEqual => [0#8, 0#8] ++ List.replicate 8 0#8
  | .one k => [1#8, byte k] ++ List.replicate 8 0#8
  | .weighted ws => [2#8, 0#8] ++ ((List.range 8).map fun i => byte (ws.getD i 0))

/-- Eight weights, each clamped to 9, and 0 at and above the share count (R126). -/
def clampWeights (count : Nat) (weights : List Nat) : List Nat :=
  (List.range 8).map fun i => if i < count then clampTop 9 (weights.getD i 0) else 0

/-- The allocation an ASSIGN names, none when a field is out of range (R126, checks 3 to 5). -/
def assignAlloc (count kind share : Nat) (weights : List Nat) : Option Alloc :=
  match kind with
  | 0 => some .allEqual
  | 1 => if share < count then some (.one share) else none
  | 2 =>
      let ws := clampWeights count weights
      if ws.any fun w => 0 < w then some (.weighted ws) else none
  | _ => none

/-- ASSIGN (R126): reply the allocation as stored and the tab total. -/
def assignResult (slot code line kind share : Nat) (weights : List Nat) (s : State) :
    RequestResult :=
  splitRequest s slot code fun t =>
  match t.lines[line]? with
  | none => .error .field
  | some l =>
      need (TabLine.counted l = true) .state <|
      match assignAlloc t.shares.length kind share weights with
      | none => .error .field
      | some a =>
          let t := recomputed s { t with lines := t.lines.set line { l with alloc := a } }
          taken (Alloc.bytes a ++ be32 t.total) (putTab (codeSlot code) (some t) s)

def execAssign (slot code line kind share : Nat) (weights : List Nat) (s : State) :
    Host.Outcome State Fault Refusal :=
  .next (answer (.assign slot code line kind share weights)
    (unlessStrapFault s (assignResult slot code line kind share weights s)) s)

/-- DISCOUNT (R127): above 50 clamped to 50; reply discount, share total and tab total. -/
def discountResult (slot code share percent : Nat) (s : State) : RequestResult :=
  splitRequest s slot code fun t =>
  match t.shares[share]? with
  | none => .error .field
  | some sh =>
      let p := clampTop 50 percent
      let t := recomputed s { t with shares := t.shares.set share { sh with discount := p } }
      taken (byte p :: (be32 ((t.shares[share]?.map fun x => x.amounts.total).getD 0)
          ++ be32 t.total))
        (putTab (codeSlot code) (some t) s)

def execDiscount (slot code share percent : Nat) (s : State) : Host.Outcome State Fault Refusal :=
  .next (answer (.discount slot code share percent)
    (unlessStrapFault s (discountResult slot code share percent s)) s)

end Sys2Proof.Machine
end

