-- ==== Sys2Proof/Machine/Tabs.lean ====
section
/-! DEFINITION. The tab table: line reports, freeing, tab states and last call (R40 to R48, R53 to
R59), and the meanings of OPEN-TAB, ADD-LINE, CLOSE-TAB and LAST-CALL. -/

namespace Sys2Proof.Machine

/-! ## Freeing and tab states -/

/-- A ticket record refers to the tab in the slot with this issue (R56). -/
def referred (s : State) (slot issue : Nat) : Bool :=
  s.tickets.any fun t => t.slot == slot && t.issue == issue

/-- The check for freeing (R56): a CLOSED tab whose lines are all finished and to which no ticket
record refers loses its slot, which keeps its issue counter, and TAB-FREED is queued. -/
def checkFree (slot : Nat) (s : State) : State :=
  match tabIn s slot with
  | some t =>
      if t.state = .closed ∧ t.lines.all TabLine.finished = true
          ∧ referred s slot (codeIssue t.code) = false then
        notify (.tabFreed t.code) (putTab slot none s)
      else s
  | none => s

/-- The tab's state after the settlement unit has changed a share (R53); CLOSED stays (R54). -/
def Tab.restate (t : Tab) : Tab :=
  if t.state = .closed then t
  else if (t.shares.all fun sh => ShareState.isPaid sh.state || ShareState.isEmpty sh.state)
      && t.shares.any fun sh => ShareState.isPaid sh.state then
    { t with state := .closed }
  else if Tab.locked t then { t with state := .paying }
  else { t with state := .opened }

/-- Changes a share of the tab in a slot; the tab table then sets the tab's state (R53) and checks a
tab that becomes CLOSED for freeing (R56). -/
def setShare (slot index : Nat) (state : ShareState) (s : State) : State :=
  match tabIn s slot with
  | some t =>
      match t.shares[index]? with
      | some sh =>
          let t' := Tab.restate { t with shares := t.shares.set index { sh with state := state } }
          let s' := putTab slot (some t') s
          if t'.state = .closed ∧ t.state ≠ .closed then checkFree slot s' else s'
      | none => s
  | none => s

/-! ## Line reports (R47) -/

/-- The reports of Table 3-5. -/
inductive Report where
  | sent (number position : Nat)
  | counterServed
  | fired
  | ready
  | collected
  | withdrawRefused
  | withdrawFailed
  | removed
  deriving DecidableEq, Repr

/-- The line after a report, none where the report is not applied to a line in this state
(Table 3-5). -/
def applyReport (r : Report) (l : TabLine) : Option TabLine :=
  match r, l.state with
  | .sent number position, .entered =>
      some { l with state := .sent, place := some (number, position) }
  | .counterServed, .entered => if l.cls = 0 then some { l with state := .served } else none
  | .fired, .sent => some { l with state := .fired }
  | .ready, .sent | .ready, .fired => some { l with state := .ready }
  | .collected, .sent | .collected, .withdrawing | .collected, .fired | .collected, .ready =>
      some { l with state := .served }
  | .withdrawRefused, .withdrawing => some { l with state := .fired }
  | .withdrawFailed, .withdrawing => some { l with state := .sent }
  | .removed, .sent | .removed, .withdrawing => some { l with state := .void, place := none }
  | _, _ => none

/-- A line takes a new state that is not counted: the goods gross loses the line's gross (R48) and
the tab is computed (R123). -/
def Tab.uncount (f : Figures) (index : Nat) (l : TabLine) (t : Tab) : Tab :=
  Tab.compute f
    { t with lines := t.lines.set index l, gross := t.gross - TabLine.gross l }

/-- A line report (R47): applied where Table 3-5 allows it; a line that becomes VOID leaves the bill;
the tab is then checked for freeing. -/
def lineReport (slot index : Nat) (r : Report) (s : State) : State :=
  match tabIn s slot with
  | some t =>
      match t.lines[index]?.bind (applyReport r) with
      | some l =>
          let t' :=
            if l.state = .void then Tab.uncount s.join.figures index l t
            else { t with lines := t.lines.set index l }
          checkFree slot (putTab slot (some t') s)
      | none => s
  | none => s

/-! ## OPEN-TAB (R43) -/

/-- The lowest-numbered slot that is free. -/
def freeTabSlot (s : State) : Option Nat :=
  (List.range 32).find? fun i => ((s.tabs[i]?).map fun e => e.tab.isNone).getD false

/-- A tab as OPEN-TAB creates it: no lines, one new share, computed at once. -/
def newTab (s : State) (code operator : Nat) : Tab :=
  Tab.compute s.join.figures
    { code := code, state := .opened, operator := operator, openedAt := now s, lines := [],
      shares := [Share.new], gross := 0, total := 0 }

def openTabResult (slot : Nat) (s : State) : RequestResult :=
  need (role s = .till) .role <|
  withSlot s slot fun r =>
  need (r.level ≤ 3) .level <|
  match freeTabSlot s with
  | none => .error .full
  | some i =>
      let issue := (((s.tabs[i]?).map TabSlot.issue).getD 0 + 1) % 32
      let code := tabCode (station s) i issue
      taken (be16 code)
        { s with tabs :=
            s.tabs.setIfInBounds i { issue := issue, tab := some (newTab s code r.operator) } }

def execOpenTab (slot : Nat) (s : State) : Host.Outcome State Fault Refusal :=
  .next (answer (.openTab slot) (unlessStrapFault s (openTabResult slot s)) s)

/-! ## ADD-LINE (R45, R46) -/

/-- The field ranges ADD-LINE refuses (R45, third check). -/
def LineFields.inRange (l : LineFields) : Bool :=
  1 ≤ l.qty && l.qty ≤ 60 && 1 ≤ l.label.length && l.label.length ≤ 12 && l.note.length ≤ 12
  && l.label.all printable && l.note.all printable

/-- The values an ADD-LINE takes after the clamps of R46; a class above 7 is a counter item. -/
def clampLine (l : LineFields) : LineFields :=
  { l with
    price := clampTop 50000 l.price
    deposit := clampTop 500 l.deposit
    taxGroup := clampTop 3 l.taxGroup
    cls := if 7 < l.cls then 0 else l.cls }

/-- The line an ADD-LINE appends (R46). -/
def newLine (shareCount : Nat) (l : LineFields) : TabLine :=
  { label := l.label, note := l.note, qty := l.qty, price := l.price, taxGroup := l.taxGroup,
    deposit := l.deposit, cls := l.cls, restricted := l.restricted != 0,
    alloc := if 1 < shareCount then .allEqual else .one 0, state := .entered, place := none }

/-- The tab with a line appended: its gross enters the goods gross and the tab is computed (R48). -/
def Tab.append (f : Figures) (l : TabLine) (t : Tab) : Tab :=
  Tab.compute f { t with lines := t.lines ++ [l], gross := t.gross + TabLine.gross l }

/-- ADD-LINE: the reply gives the index and the clamped values, unit price, deposit, tax group, class
(R46, log 19). -/
def addLineResult (slot code : Nat) (fields : LineFields) (s : State) : RequestResult :=
  tabRequest s slot code 3 fun _ t =>
  need (Tab.locked t = false) .locked <|
  need (t.state = .opened) .state <|
  need (LineFields.inRange fields = true) .field <|
  let c := clampLine fields
  let l := newLine t.shares.length c
  need (c.cls = 0 ∨ classServed s c.cls = true) .unserved <|
  need (l.restricted = false ∨ s.lastCall = false) .restricted <|
  need (t.gross + TabLine.gross l ≤ goodsLimit) .limit <|
  need (t.lines.length < lineCapacity) .full <|
  taken (byte t.lines.length :: (be16 c.price ++ be16 c.deposit ++ [byte c.taxGroup, byte c.cls]))
    (putTab (codeSlot code) (some (Tab.append s.join.figures l t)) s)

def execAddLine (slot code : Nat) (line : LineFields) (s : State) :
    Host.Outcome State Fault Refusal :=
  .next (answer (.addLine slot code line) (unlessStrapFault s (addLineResult slot code line s)) s)

/-! ## CLOSE-TAB (R55) -/

def closeTabResult (slot code : Nat) (s : State) : RequestResult :=
  tabRequest s slot code 2 fun _ t =>
  need (t.state = .opened) .state <|
  need (Tab.withdrawing t = false) .pending <|
  need ((t.shares.all fun sh => ShareState.isEmpty sh.state) = true) .state <|
  taken [] (checkFree (codeSlot code) (putTab (codeSlot code) (some { t with state := .closed }) s))

def execCloseTab (slot code : Nat) (s : State) : Host.Outcome State Fault Refusal :=
  .next (answer (.closeTab slot code) (unlessStrapFault s (closeTabResult slot code s)) s)

/-! ## Last call (R57, R58) -/

/-- Adoption of last call heard from a station (R58). -/
def adoptLastCall (source : Nat) (s : State) : State :=
  if s.lastCall then s else notify (.lastCall source) { s with lastCall := true }

/-- LAST-CALL (R57): the flag, one frame to all stations, the notice naming this station. -/
def lastCallResult (slot : Nat) (s : State) : RequestResult :=
  need (role s = .till) .role <|
  withSlot s slot fun r =>
  need (r.level ≤ 1) .level <|
  if s.lastCall then taken [] s
  else
    needFrames s 1 <|
    taken [] (notify (.lastCall (station s)) (offerFrame 127 .lastCall false
      { s with lastCall := true }))

def execLastCall (slot : Nat) (s : State) : Host.Outcome State Fault Refusal :=
  .next (answer (.lastCall slot) (unlessStrapFault s (lastCallResult slot s)) s)

end Sys2Proof.Machine
end

