-- ==== Sys2Proof/Machine/Tickets.lean ====
section
/-! DEFINITION. The ticket table (chapter 4): numbers, offers, awards, progress, withdrawal, reissue
and freeing, and the meanings of SEND, RETRY-TICKET, COLLECT, VOID-LINE, WASTE-LINE and of the
table's timed waits. -/

namespace Sys2Proof.Machine

/-! ## Records and their frames -/

/-- The class group of a class (Table 1-1). -/
def classGroup (cls : Nat) : Nat := 64 + cls

/-- Bit p of a mask. -/
def bit (p : Nat) : Byte := 1#8 <<< p

/-- A mask with position p removed. -/
def without (p : Nat) (mask : Byte) : Byte := mask &&& ~~~(bit p)

/-- The live positions of a ticket, in position order. -/
def Ticket.livePositions (t : Ticket) : List Nat :=
  (List.range t.positions.length).filter fun p => t.live.getLsbD p

/-- The next ticket number a new ticket takes (R61): the next number held by no record, from 4095 to
1. -/
def takeNumber (s : State) : Nat :=
  (((List.range (ticketCapacity + 1)).map fun i => (s.nextTicket - 1 + i) % 4095 + 1).find?
    fun n => (ticketOf s n).isNone).getD s.nextTicket

/-- The ticket table makes a report for the lines at the given positions (R72). -/
def ticketReport (t : Ticket) (positions : List Nat) (r : Report) (s : State) : State :=
  positions.foldl (fun s p =>
    match t.positions[p]? with
    | some line => lineReport t.slot line r s
    | none => s) s

/-- The OFFER of a ticket (R66): one item for every position, live or not, from the tab's lines. -/
def offerBody (s : State) (t : Ticket) : FrameBody :=
  let lines := ((tabIn s t.slot).map Tab.lines).getD []
  .offer
    { ref := Ticket.ref t, cls := t.cls, priority := t.priority, attempt := t.attempt
      items := t.positions.filterMap fun i =>
        lines[i]?.map fun l => { qty := l.qty, label := l.label, note := l.note } }

/-- The ticket's OFFER joins the transmit queue, to its class group (Table 1-2). -/
def sendOffer (number : Nat) (s : State) : State :=
  match ticketOf s number with
  | some t => offerFrame (classGroup t.cls) (offerBody s t) true s
  | none => s

/-- An AWARD of the ticket to its awardee, sent to `dest`; `wait` when the award wait is timed from
its end (R68 to R70). -/
def sendAward (number dest : Nat) (wait : Bool) (s : State) : State :=
  match ticketOf s number with
  | some t =>
      match t.awardee with
      | some a => offerFrame dest (.award (Ticket.ref t) a.station t.live) wait s
      | none => s
  | none => s

/-- A REVOKE to a kitchen; it starts no wait (R65). -/
def sendRevoke (dest : Nat) (ref : Ref) (s : State) : State := offerFrame dest (.revoke ref) false s

/-- The OFFERs, AWARDs and WITHDRAWs of a ticket (R65). -/
def ofTicket (number : Nat) (x : TxItem) : Bool :=
  match x.frame.body with
  | .offer o => o.ref.number == number
  | .award ref .. => ref.number == number
  | .withdraw ref .. => ref.number == number
  | _ => false

/-- The OFFERs of a ticket. -/
def offerOf (number : Nat) (x : TxItem) : Bool :=
  match x.frame.body with
  | .offer o => o.ref.number == number
  | _ => false

/-- A record is freed (R82): its waiting frames are cancelled, it is discarded with its waits, and
the tab table checks its tab for freeing (R56). -/
def freeTicket (number : Nat) (s : State) : State :=
  match ticketOf s number with
  | some t =>
      let s := cancelFrames (ofTicket number) s
      checkFree t.slot { s with tickets := s.tickets.filter fun t => t.number != number }
  | none => s

/-- A position leaves the live positions; its withdrawal, if any, ends. -/
def Ticket.dropPosition (p : Nat) (t : Ticket) : Ticket :=
  { t with live := without p t.live,
           withdrawals := t.withdrawals.filter fun w => w.position != p }

/-! ## Reissue (R77) -/

/-- Step 6 of R77: the ticket under its new generation, offered afresh. -/
def Ticket.renewed (t : Ticket) : Ticket :=
  { t with
    gen := (t.gen + 1) % 16, state := .offering, attempt := 0, repeats := 0, kmask := 0#8,
    awardee := none, placed := none, ready := none, late := false, lost := none, wait := .none }

/-- Step 4 of R77: every withdrawal ends, its line receives the removed report, its position leaves
the live positions. -/
def endWithdrawals (number : Nat) (s : State) : State :=
  match ticketOf s number with
  | some t =>
      let positions := t.withdrawals.map Withdrawal.position
      updTicket number (fun t => positions.foldl (fun t p => Ticket.dropPosition p t) t)
        (ticketReport t positions .removed s)
  | none => s

/-- A reissue (R77). `revoke`: the cause calls for a REVOKE to the old awardee; `stale`: the station
and mark the cause makes the stale holder (Table 4-5). -/
def reissue (number : Nat) (revoke : Bool) (stale : Option (Nat × Nat)) (cause : ReissueCause)
    (s : State) : State :=
  match ticketOf s number with
  | none => s
  | some t =>
      let s := cancelFrames (ofTicket number) s
      let s :=
        match revoke, t.awardee with
        | true, some a => sendRevoke a.station (Ticket.ref t) s
        | _, _ => s
      let s :=
        match stale with
        | some (st, mark) =>
            updTicket number (fun t => { t with stale := some ⟨st, mark, t.gen⟩ }) s
        | none => s
      let s := endWithdrawals number s
      match ticketOf s number with
      | none => s
      | some t' =>
          if t'.live = 0#8 then freeTicket number s
          else
            let s := updTicket number Ticket.renewed s
            let s := notify (.reissued (Ticket.ref (Ticket.renewed t')) (ticketCode s t')
              (t.awardee.map Awardee.station) cause) s
            sendOffer number s

/-! ## SEND (R62 to R64) -/

/-- Cuts a list into pieces of eight, with a last piece of the remainder. -/
def cut8 : Nat → List Nat → List (List Nat)
  | _, [] => []
  | 0, _ => []
  | fuel + 1, xs => xs.take ticketSize :: cut8 fuel (xs.drop ticketSize)

/-- The indices of the tab's ENTERED lines of a class, in line order. -/
def enteredOf (t : Tab) (cls : Nat) : List Nat :=
  (t.lines.zipIdx.filter fun p => p.1.state == .entered && p.1.cls == cls).map Prod.snd

/-- The tickets the tab's ENTERED kitchen lines need, in class order: class and line indices (R64
step 2). -/
def ticketsNeeded (t : Tab) : List (Nat × List Nat) :=
  ((List.range 8).drop 1).flatMap fun c =>
    (cut8 lineCapacity (enteredOf t c)).map fun lines => (c, lines)

/-- A new ticket as R64 step 3 gives it. -/
def newTicket (s : State) (t : Tab) (priority : Band) (cls : Nat) (lines : List Nat) : Ticket :=
  { number := takeNumber s, gen := 0, cls := cls, slot := codeSlot t.code,
    issue := codeIssue t.code, positions := lines, live := byte (2 ^ lines.length - 1),
    priority := priority, state := .offering, attempt := 0, awardee := none, repeats := 0,
    lost := none, stale := none, kmask := 0#8, late := false, sent := now s, placed := none,
    ready := none, wait := .none, withdrawals := [] }

/-- Creates one ticket and reports its lines sent (R61, R64 steps 3 and 4); the numbers created so
far are kept in order. -/
def createTicket (t : Tab) (priority : Band) (acc : List Nat × State)
    (group : Nat × List Nat) : List Nat × State :=
  let s := acc.2
  let k := newTicket s t priority group.1 group.2
  let s := { s with tickets := s.tickets ++ [k], nextTicket := k.number % 4095 + 1 }
  let s := (group.2.zipIdx).foldl (fun s p =>
    lineReport k.slot p.1 (.sent k.number p.2) s) s
  (acc.1 ++ [k.number], s)

/-- The effect of a SEND (R64): counter lines served, tickets created, their OFFERs queued. -/
def sendEffect (t : Tab) (priority : Band) (s : State) : List Nat × State :=
  let slot := codeSlot t.code
  let s := (enteredOf t 0).foldl (fun s i => lineReport slot i .counterServed s) s
  let r := (ticketsNeeded t).foldl (createTicket t priority) ([], s)
  (r.1, r.1.foldl (fun s n => sendOffer n s) r.2)

/-- SEND: the reply lists the tickets created (R63, R64). -/
def sendResult (slot code priority : Nat) (s : State) : RequestResult :=
  tabRequest s slot code 3 fun _ t =>
  need (t.state ≠ .closed) .state <|
  match Band.ofCode priority with
  | none => .error .field
  | some band =>
      let n := (ticketsNeeded t).length
      need (n ≤ ticketCapacity - s.tickets.length) .full <|
      needFrames s n <|
      let r := sendEffect t band s
      taken (byte r.1.length :: r.1.flatMap be16) r.2

def execSend (slot code priority : Nat) (s : State) : Host.Outcome State Fault Refusal :=
  .next (answer (.send slot code priority)
    (unlessStrapFault s (sendResult slot code priority s)) s)

/-! ## RETRY-TICKET and COLLECT (R80, R81) -/

/-- Steps 1 to 3 of R62 for a request that names a ticket number. -/
def ticketRequest (s : State) (slot number : Nat) (k : SlotRecord → Ticket → RequestResult) :
    RequestResult :=
  need (role s = .till) .role <|
  withSlot s slot fun r =>
  match ticketOf s number with
  | some t => k r t
  | none => .error .unknown

/-- The reissue of a retried FIRED or READY ticket (R80, Table 4-5): a kitchen lost as SILENT becomes
the stale holder with its start mark. -/
def retryReissue (number : Nat) (t : Ticket) (s : State) : State :=
  match t.lost with
  | some .silent =>
      reissue number false (t.awardee.map fun a => (a.station, a.mark)) .retrySilent s
  | _ => reissue number false none .retryRestarted s

/-- RETRY-TICKET by the ticket's state (R80). -/
def retryTicketResult (slot number : Nat) (s : State) : RequestResult :=
  ticketRequest s slot number fun r t =>
  match t.state, t.lost with
  | .stranded, _ =>
      need (r.level ≤ 3) .level <|
      needFrames s 1 <|
      taken [] (sendOffer number
        (updTicket number (fun t => { t with state := .offering, attempt := 0, wait := .none }) s))
  | .fired, some _ | .ready, some _ =>
      need (r.level ≤ 1) .level <|
      needFrames s 1 <|
      taken [] (retryReissue number t s)
  | _, _ => .error .state

def execRetryTicket (slot number : Nat) (s : State) : Host.Outcome State Fault Refusal :=
  .next (answer (.retryTicket slot number)
    (unlessStrapFault s (retryTicketResult slot number s)) s)

/-- The effect of COLLECT (R81): every live line collected, the COLLECT frame to the awardee, the
record freed. -/
def collectEffect (t : Ticket) (s : State) : State :=
  let s := ticketReport t (Ticket.livePositions t) .collected s
  let s :=
    match t.awardee with
    | some a => offerFrame a.station (.collect (Ticket.ref t)) false s
    | none => s
  freeTicket t.number s

def collectResult (slot number : Nat) (s : State) : RequestResult :=
  ticketRequest s slot number fun r t =>
  need (r.level ≤ 3) .level <|
  need (t.state = .fired ∨ t.state = .ready) .state <|
  needFrames s 1 <|
  taken [] (collectEffect t s)

def execCollect (slot number : Nat) (s : State) : Host.Outcome State Fault Refusal :=
  .next (answer (.collect slot number) (unlessStrapFault s (collectResult slot number s)) s)

/-! ## VOID-LINE and WASTE-LINE (R49 to R52) -/

/-- Adds to the totals of a slot (R159, R160). -/
def addTotals (slot : Nat) (f : Totals → Totals) (s : State) : State :=
  match slotOf s slot with
  | some r => { s with slots := s.slots.setIfInBounds slot (some { r with totals := f r.totals }) }
  | none => s

/-- One void more for the slot (R160). -/
def countVoid (slot : Nat) (s : State) : State :=
  addTotals slot (fun t => { t with voids := t.voids + 1 }) s

/-- One waste more for the slot (R160). -/
def countWaste (slot : Nat) (s : State) : State :=
  addTotals slot (fun t => { t with wastes := t.wastes + 1 }) s

/-- The line becomes VOID and leaves the bill; its ticket place is cleared (R48, R50). -/
def voidLineIn (slot index : Nat) (l : TabLine) (s : State) : State :=
  updTab slot (Tab.uncount s.join.figures index { l with state := .void, place := none }) s

/-- The ticket table removes a voided line from its OFFERING or STRANDED ticket (R73): its position
leaves the live positions, and an emptied ticket is freed. -/
def removeFromTicket (number position : Nat) (s : State) : State :=
  let s := updTicket number (Ticket.dropPosition position) s
  match ticketOf s number with
  | some t => if t.live = 0#8 then freeTicket number s else s
  | none => s

/-- The WITHDRAW of a position to the awardee as it now stands (R74). -/
def sendWithdraw (number position : Nat) (s : State) : State :=
  match ticketOf s number with
  | some t =>
      match t.awardee with
      | some a => offerFrame a.station (.withdraw (Ticket.ref t) position) true s
      | none => s
  | none => s

/-- A withdrawal begins (R51, R74): the line becomes WITHDRAWING, the ticket records attempt 1, the
WITHDRAW joins the transmit queue. -/
def beginWithdrawal (slot index number position : Nat) (l : TabLine) (s : State) : State :=
  let s := updTab slot (fun t =>
    { t with lines := t.lines.set index { l with state := .withdrawing } }) s
  let s := updTicket number (fun t =>
    { t with withdrawals := t.withdrawals ++ [⟨position, 1, none⟩] }) s
  sendWithdraw number position s

/-- The checks VOID-LINE and WASTE-LINE share after R42 (R49, R52): LOCKED, STATE, FIELD. -/
def lineRequest (t : Tab) (line : Nat) (k : TabLine → RequestResult) : RequestResult :=
  need (Tab.locked t = false) .locked <|
  need (t.state ≠ .closed) .state <|
  match t.lines[line]? with
  | some l => k l
  | none => .error .field

/-- VOID-LINE of a SENT line, by the state of its ticket (Table 3-6). -/
def voidSent (slot level code line number position : Nat) (l : TabLine) (s : State) :
    RequestResult :=
  match (ticketOf s number).map Ticket.state with
  | some .offering | some .stranded =>
      need (level ≤ 2) .level <|
      taken [] (countVoid slot (removeFromTicket number position (voidLineIn (codeSlot code) line l s)))
  | some .placing | some .placed =>
      need (level ≤ 2) .level <|
      needFrames s 1 <|
      accepted (countVoid slot (beginWithdrawal (codeSlot code) line number position l s))
  | _ => .error .state

/-- VOID-LINE by the line's state (Table 3-6). -/
def voidLineResult (slot code line : Nat) (s : State) : RequestResult :=
  need (role s = .till) .role <|
  withSlot s slot fun r =>
  withTab s code fun t =>
  lineRequest t line fun l =>
  match l.state, l.place with
  | .entered, _ =>
      need (r.level ≤ 3) .level <|
      taken [] (countVoid slot (voidLineIn (codeSlot code) line l s))
  | .sent, some (number, position) => voidSent slot r.level code line number position l s
  | .withdrawing, _ => .error .pending
  | _, _ => .error .state

def execVoidLine (slot code line : Nat) (s : State) : Host.Outcome State Fault Refusal :=
  .next (answer (.voidLine slot code line)
    (unlessStrapFault s (voidLineResult slot code line s)) s)

/-- WASTE-LINE (R52): the line becomes WASTE with its ticket place, leaves the bill, the slot counts a
waste, and the tab is checked for freeing (R56). -/
def wasteLineResult (slot code line : Nat) (s : State) : RequestResult :=
  tabRequest s slot code 1 fun _ t =>
  lineRequest t line fun l =>
  need (l.state = .fired ∨ l.state = .ready) .state <|
  taken [] (checkFree (codeSlot code) (countWaste slot
    (updTab (codeSlot code) (Tab.uncount s.join.figures line { l with state := .waste }) s)))

def execWasteLine (slot code line : Nat) (s : State) : Host.Outcome State Fault Refusal :=
  .next (answer (.wasteLine slot code line)
    (unlessStrapFault s (wasteLineResult slot code line s)) s)

/-! ## Timed waits (R67, R70, R74) -/

/-- The offer window runs out (R67): the next attempt, or STRANDED after attempt 4. -/
def offerWindowOut (number : Nat) (s : State) : State :=
  match ticketOf s number with
  | some t =>
      if t.attempt < lastAttempt then
        sendOffer number
          (updTicket number (fun t => { t with attempt := t.attempt + 1, wait := .none }) s)
      else
        notify (.stranded (Ticket.ref t) (ticketCode s t))
          (updTicket number (fun t => { t with state := .stranded, wait := .none }) s)
  | none => s

def execOfferWindowExpiry (number : Nat) (s : State) : Host.Outcome State Fault Refusal :=
  match ticketOf s number with
  | some t =>
      match t.state, t.wait with
      | .offering, .offerWindow start =>
          .next (offerWindowOut number (advanceUntil start offerWindow s))
      | _, _ => .next s
  | none => .next s

/-- The award wait runs out (R70): the AWARD is repeated to the awardee, or the ticket is reissued
with a REVOKE after two repeats. -/
def awardWaitOut (number : Nat) (s : State) : State :=
  match ticketOf s number with
  | some t =>
      if t.repeats < awardRepeats then
        sendAward number ((t.awardee.map Awardee.station).getD 0) true
          (updTicket number (fun t => { t with repeats := t.repeats + 1, wait := .none }) s)
      else reissue number true none .awardExhausted s
  | none => s

def execAwardWaitExpiry (number : Nat) (s : State) : Host.Outcome State Fault Refusal :=
  match ticketOf s number with
  | some t =>
      match t.state, t.wait with
      | .placing, .awardWait start =>
          .next (awardWaitOut number (advanceUntil start awardWait s))
      | _, _ => .next s
  | none => .next s

/-- A withdrawal's reply wait runs out (R74): the next WITHDRAW, or after attempt 3 the withdrawal
fails and the line returns to SENT. -/
def replyWaitOut (number position attempt : Nat) (s : State) : State :=
  match ticketOf s number with
  | some t =>
      if attempt < withdrawAttempts then
        sendWithdraw number position
          (updTicket number (fun t =>
            { t with withdrawals := t.withdrawals.map fun w =>
                if w.position = position then { w with attempt := w.attempt + 1, wait := none }
                else w }) s)
      else
        let s := updTicket number (fun t =>
          { t with withdrawals := t.withdrawals.filter fun w => w.position != position }) s
        let s := ticketReport t [position] .withdrawFailed s
        notify (.withdrawFailed (Ticket.ref t) (ticketCode s t) (t.positions.getD position 0)) s
  | none => s

def execWithdrawReplyWaitExpiry (number position : Nat) (s : State) :
    Host.Outcome State Fault Refusal :=
  match ticketOf s number with
  | some t =>
      match t.withdrawals.find? fun w => w.position == position with
      | some ⟨_, attempt, some start⟩ =>
          .next (replyWaitOut number position attempt (advanceUntil start replyWait s))
      | _ => .next s
  | none => .next s

/-! ## Frames from kitchens (R68, R69, R71, R72, R75) -/

/-- A BID takes an OFFERING or STRANDED ticket (R68). -/
def placeTicket (t : Ticket) (src depth : Nat) (s : State) : State :=
  let s := cancelFrames (offerOf t.number) s
  let s := updTicket t.number (fun t =>
    { t with
      state := .placing, wait := .none, repeats := 0
      awardee := some ⟨src, markOf s src, depth⟩
      stale := if t.stale.map StaleHolder.station = some src then none else t.stale }) s
  sendAward t.number (classGroup t.cls) true s

/-- A BID delivered to the ticket table (R68, R69). -/
def ticketBid (src origin : Nat) (ref : Ref) (depth : Nat) (s : State) : State :=
  if origin = station s then
    match ticketOf s ref.number with
    | some t =>
        if t.gen = ref.gen then
          if t.state = .offering ∨ t.state = .stranded then placeTicket t src depth s
          else sendAward t.number src false s
        else s
    | none => s
  else s

/-- A stale PROGRESS or WITHDRAW-REPLY (R71, R75): a REVOKE to its source with the reference it
named; a stale holder that is the source is cleared. -/
def answerStale (src : Nat) (ref : Ref) (s : State) : State :=
  updTicket ref.number (fun t =>
    if t.stale.map StaleHolder.station = some src then { t with stale := none } else t)
    (sendRevoke src ref s)

/-- The frame names the record's generation and comes from its awardee (R71). -/
def Ticket.fromAwardee (t : Ticket) (src : Nat) (ref : Ref) : Bool :=
  t.gen == ref.gen && t.awardee.map Awardee.station == some src

/-- The PLACED notice (R72). -/
def placedNotice (t : Ticket) (s : State) : State :=
  match t.awardee with
  | some a => notify (.placed (Ticket.ref t) (ticketCode s t) a.station a.depth t.kmask) s
  | none => s

/-- The READY notice (R72). -/
def readyNotice (t : Ticket) (s : State) : State :=
  match t.awardee with
  | some a => notify (.ready (Ticket.ref t) (ticketCode s t) a.station t.kmask) s
  | none => s

/-- LATE sets the late flag, with a LATE notice when it was clear (R72). -/
def setLate (t : Ticket) (s : State) : State :=
  let s' := updTicket t.number (fun t => { t with late := true }) s
  match t.awardee with
  | some a =>
      if t.late then s'
      else notify (.late (Ticket.ref t) (ticketCode s t) a.station t.kmask) s'
  | none => s'

/-- PLACING ends in PLACED (Table 4-3). -/
def becomePlaced (t : Ticket) (s : State) : State :=
  placedNotice t (updTicket t.number (fun t =>
    { t with state := .placed, wait := .none, placed := some (now s) }) s)

/-- The ticket becomes FIRED and its live lines receive the fired report (Table 4-3). -/
def becomeFired (t : Ticket) (placed : Option Time) (s : State) : State :=
  ticketReport t (Ticket.livePositions t) .fired (updTicket t.number (fun t =>
    { t with state := .fired, wait := .none, placed := placed }) s)

/-- The ticket becomes READY and its live lines receive the ready report; READY notice
(Table 4-3). -/
def becomeReady (t : Ticket) (placed : Option Time) (s : State) : State :=
  readyNotice t (ticketReport t (Ticket.livePositions t) .ready (updTicket t.number (fun t =>
    { t with state := .ready, wait := .none, placed := placed, ready := some (now s) }) s))

/-- A PROGRESS taken from the awardee, `t` the record with the mask it carries (Table 4-3). -/
def takeProgress (t : Ticket) (k : KitchenState) (s : State) : State :=
  match k, t.state with
  | .queued, .placing => becomePlaced t s
  | .fired, .placing => becomeFired t (some (now s)) s
  | .fired, .placed => becomeFired t t.placed s
  | .ready, .placing => becomeReady t (some (now s)) s
  | .ready, .placed => becomeReady t t.placed s
  | .ready, .fired => becomeReady t t.placed s
  | .late, .placing => setLate t (becomePlaced t s)
  | .late, .placed | .late, .fired | .late, .ready => setLate t s
  | .refused, .placing | .refused, .placed => reissue t.number true none .refused s
  | _, _ => s

/-- A PROGRESS delivered to the ticket table (R71, R72). -/
def ticketProgress (src : Nat) (ref : Ref) (k : KitchenState) (mask : Byte) (s : State) : State :=
  match ticketOf s ref.number with
  | none => s
  | some t =>
      if Ticket.fromAwardee t src ref then
        takeProgress { t with kmask := mask } k
          (updTicket t.number (fun t => { t with kmask := mask }) s)
      else answerStale src ref s

/-- REMOVED or UNKNOWN (R75): the line becomes VOID and its position leaves the ticket; an emptied
record is freed; a PLACING or PLACED ticket of which the kitchen holds nothing is reissued. -/
def withdrawnLine (t : Ticket) (position : Nat) (holdsNothing : Bool) (s : State) : State :=
  let s := ticketReport t [position] .removed s
  let s := updTicket t.number (Ticket.dropPosition position) s
  if without position t.live = 0#8 then freeTicket t.number s
  else if holdsNothing && (t.state == .placing || t.state == .placed) then
    reissue t.number false none .holdsNothing s
  else s

/-- FIRED (R75): the line becomes FIRED; a PLACING or PLACED ticket becomes FIRED and its other live
lines receive the fired report; WITHDRAW-REFUSED notice. -/
def withdrawRefused (t : Ticket) (position : Nat) (s : State) : State :=
  let s := updTicket t.number (fun t =>
    { t with withdrawals := t.withdrawals.filter fun w => w.position != position }) s
  let s := ticketReport t [position] .withdrawRefused s
  let s :=
    if t.state = .placing ∨ t.state = .placed then
      ticketReport t ((Ticket.livePositions t).filter fun p => p != position) .fired
        (updTicket t.number (fun t => { t with state := .fired, wait := .none }) s)
    else s
  notify (.withdrawRefused (Ticket.ref t) (ticketCode s t) (t.positions.getD position 0)) s

/-- A WITHDRAW-REPLY delivered to the ticket table (R75). -/
def ticketWithdrawReply (src : Nat) (ref : Ref) (position : Nat) (o : WithdrawOutcome)
    (nowEmpty : Bool) (s : State) : State :=
  match ticketOf s ref.number with
  | none => s
  | some t =>
      if Ticket.fromAwardee t src ref then
        if t.withdrawals.any fun w => w.position == position then
          match o with
          | .removed => withdrawnLine t position nowEmpty s
          | .unknown => withdrawnLine t position true s
          | .fired => withdrawRefused t position s
        else s
      else answerStale src ref s

/-! ## Station events (R76, R78) -/

/-- An event of the station table (R38): the mark now held; RESTARTED also carries the old mark in
the table's notice, which no receiver reads. -/
inductive StationEvent where
  | present (mark : Nat)
  | silent (mark : Nat)
  | restarted (mark : Nat)
  deriving DecidableEq, Repr

/-- The KITCHEN-LOST notice (R76). -/
def kitchenLost (t : Ticket) (station : Nat) (lost : Lost) (s : State) : State :=
  notify (.kitchenLost (Ticket.ref t) (ticketCode s t) station lost) s

/-- An event for the awardee of a ticket, by the ticket's state (Table 4-4). -/
def awardeeEvent (t : Ticket) (a : Awardee) (e : StationEvent) (s : State) : State :=
  match t.state with
  | .placing | .placed =>
      match e with
      | .silent mark => reissue t.number false (some (a.station, mark)) .awardeeSilent s
      | .restarted _ => reissue t.number false none .awardeeRestarted s
      | .present _ => s
  | .fired | .ready =>
      match e, t.lost with
      | .silent mark, none =>
          kitchenLost t a.station .silent (updTicket t.number (fun t =>
            { t with lost := some .silent, awardee := some { a with mark := mark } }) s)
      | .restarted _, none | .restarted _, some .silent =>
          kitchenLost t a.station .restarted (updTicket t.number (fun t =>
            { t with lost := some .restarted }) s)
      | .present mark, some .silent =>
          if mark = a.mark then updTicket t.number (fun t => { t with lost := none }) s else s
      | _, _ => s
  | .offering | .stranded => s

/-- An event for the stale holder of a ticket (R78). -/
def staleEvent (t : Ticket) (h : StaleHolder) (e : StationEvent) (s : State) : State :=
  match e with
  | .restarted _ => updTicket t.number (fun t => { t with stale := none }) s
  | .present mark =>
      let s := updTicket t.number (fun t => { t with stale := none }) s
      if mark = h.mark then sendRevoke h.station ⟨t.number, h.gen⟩ s else s
  | .silent _ => s

/-- A station event applied to one record: to its awardee and to its stale holder as they stood when
the event came (R76). -/
def ticketEvent (st : Nat) (e : StationEvent) (s : State) (number : Nat) : State :=
  match ticketOf s number with
  | none => s
  | some t =>
      let s :=
        match t.awardee with
        | some a => if a.station = st then awardeeEvent t a e s else s
        | none => s
      match t.stale with
      | some h => if h.station = st then staleEvent t h e s else s
      | none => s

/-- The ticket table receives a station event: every record in table order (R76, log 21). -/
def ticketEvents (st : Nat) (e : StationEvent) (s : State) : State :=
  (s.tickets.map Ticket.number).foldl (ticketEvent st e) s

end Sys2Proof.Machine
end

