-- ==== Sys2Proof/Machine/Kitchen.lean ====
section
/-! DEFINITION. The kitchen queue (chapter 5): bids, awards, firing, the pass list, answers to the
till, and the meanings of BUMP and of the queue's timers. -/

namespace Sys2Proof.Machine

/-! ## Entries, order, frames -/

/-- Generation `a` is newer than `b`: it follows it by 1 to 7 steps modulo 16 (R85). -/
def newer (a b : Nat) : Bool :=
  let d := (a + 16 - b % 16) % 16
  1 ≤ d && d ≤ 7

/-- An entry's ticket reference. -/
def Entry.ref (e : Entry) : Ref := ⟨e.number, e.gen⟩

/-- Changes the kitchen queue. -/
def updKitchen (f : Kitchen → Kitchen) (s : State) : State := { s with kitchen := f s.kitchen }

/-- A PROGRESS to the origin (R93, R96, R98, R101). -/
def sendProgress (origin : Nat) (ref : Ref) (k : KitchenState) (mask : Byte) (s : State) : State :=
  offerFrame origin (.progress ref k mask) false s

/-- The BID of a bid at an origin, number and generation. One that its bid has let go (log 28) is no
frame of a bid. -/
def bidFrame (origin number gen : Nat) (x : TxItem) : Bool :=
  x.wait && match x.frame.body with
    | .bid o ref _ => o == origin && ref.number == number && ref.gen == gen
    | _ => false

/-- The BIDs of an origin and number, whatever their generation. -/
def bidOf (origin number : Nat) (x : TxItem) : Bool :=
  match x.frame.body with
  | .bid o ref _ => o == origin && ref.number == number
  | _ => false

/-- Cancels the waiting BID of an entry's bid record (R16). -/
def cancelBidOf (e : Entry) (s : State) : State :=
  match e.bid with
  | some b => cancelFrames (bidFrame e.origin e.number b.gen) s
  | none => s

/-- Entry `a` stands before entry `b` in band order (R84): the rush band first, then the earlier
arrival, then the lower arrival sequence. -/
def before (s : State) (a b : Entry) : Bool :=
  match a.band, b.band with
  | .rush, .normal => true
  | .normal, .rush => false
  | _, _ =>
      let ea := elapsed s (a.arrival.getD 0#32)
      let eb := elapsed s (b.arrival.getD 0#32)
      eb < ea || (ea == eb && a.seq < b.seq)

/-- The first QUEUED entry in band order: the next to fire (R84). -/
def nextToFire (s : State) : Option Entry :=
  (s.kitchen.entries.filter fun e => e.state == .queued).foldl (fun best e =>
    match best with
    | none => some e
    | some b => if before s e b then some e else some b) none

/-- Entries that count against the fire capacity (R96). -/
def cookingCount (s : State) : Nat := (s.kitchen.entries.filter Entry.cooking).length

/-- The band an entry takes when it becomes QUEUED (R84): its priority. -/
def bandOf (p : Band) : Band := p

/-! ## Auto-fire (R96) -/

/-- One entry fires (R96, steps 1 to 4). -/
def fireEntry (e : Entry) (s : State) : State :=
  let seq := s.kitchen.fireSeq + 1
  let s := updKitchen (fun k => { k with fireSeq := seq }) s
  let s := updEntry e.origin e.number (fun e => { e with state := .fired, firedSeq := seq }) s
  let s := joinPrintList e.origin (Entry.ref e) false s
  let s := sendProgress e.origin (Entry.ref e) .fired (liveMask e.lines) s
  notify (.ticketFired e.origin (Entry.ref e)) s

/-- Fires up to `n` entries while the fire capacity allows, answering those fired in order. -/
def fireUpTo : Nat → List Entry → State → List Entry × State
  | 0, fired, s => (fired, s)
  | n + 1, fired, s =>
      if cookingCount s < s.join.figures.fire then
        match nextToFire s with
        | some e => fireUpTo n (fired ++ [e]) (fireEntry e s)
        | none => (fired, s)
      else (fired, s)

/-- Auto-fire, with the entries it fires. -/
def autoFireList (s : State) : List Entry × State := fireUpTo s.kitchen.entries.length [] s

/-- Auto-fire (R96). -/
def autoFire (s : State) : State := (autoFireList s).2

/-! ## Bids (R85 to R90) -/

/-- An OFFER's items as lines, all live. -/
def offeredLines (o : OfferFields) : List KitchenLine := o.items.map fun i => ⟨i, true⟩

/-- A new TENTATIVE entry for an OFFER (R85). Its band is the one of the offered priority: no rule gives a
TENTATIVE entry a band (R84), the model's choice (log 52). -/
def tentative (s : State) (src : Nat) (o : OfferFields) (bid : Bid) : Entry :=
  { origin := src, mark := markOf s src, number := o.ref.number, gen := o.ref.gen
    priority := o.priority, band := bandOf o.priority, state := .tentative, lines := offeredLines o
    arrival := none, seq := 0, warn := false, late := false, print := .none, bid := some bid
    firedSeq := 0 }

/-- The bid delay for the counted entries and the offered priority (R86). -/
def bidDelay (counted : Nat) : Band → Nat
  | .normal => 4 + 6 * counted
  | .rush => 2 + 3 * counted

/-- The queue allows a bid for the OFFER (R85, last condition): no entry at its generation or a newer
one, and no bid record at its generation. -/
def bidAllowed (e : Option Entry) (gen : Nat) : Bool :=
  match e with
  | none => true
  | some e => e.gen != gen && !newer e.gen gen && e.bid.map Bid.gen != some gen

/-- The bid record of a bid that starts is set up (R85, R86): the lapsed item goes, the bid begins in
stage DELAY. -/
def placeBid (src : Nat) (o : OfferFields) (s : State) : State :=
  let number := o.ref.number
  let seq := s.kitchen.bidSeq + 1
  let others := s.kitchen.entries.filter fun e => !(e.origin == src && e.number == number)
  let stage : BidStage := .delay (now s) (bidDelay others.length o.priority)
  let own : Bid := { gen := o.ref.gen, priority := o.priority, lines := [], stage := stage, seq := seq }
  let s := updKitchen (fun k =>
    { k with bidSeq := seq
             lapsed := k.lapsed.filter fun l => !(l.origin == src && l.number == number) }) s
  match entryOf s src number with
  | none => updKitchen (fun k => { k with entries := k.entries ++ [tentative s src o own] }) s
  | some e =>
      match e.state with
      | .tentative =>
          let s := cancelBidOf e s
          updEntry src number (fun _ => tentative s src o own) s
      | .queued | .fired | .revokedFired =>
          updEntry src number (fun e =>
            { e with bid := some { own with lines := offeredLines o } }) s

/-- A bid starts (R85, R86). The BIDs that earlier bids for the ticket left in the transmit queue start
no wait of this one (R86, log 28). -/
def startBid (src : Nat) (o : OfferFields) (s : State) : State :=
  disownFrames (bidOf src o.ref.number) (placeBid src o s)

/-- An OFFER delivered to the kitchen queue (R85). -/
def kitchenOffer (src : Nat) (o : OfferFields) (s : State) : State :=
  if s.join.state = .onLine ∧ o.cls = ownClass s ∧ 1 ≤ freeSlots s ∧ s.port.state ≠ .latched
      ∧ bidAllowed (entryOf s src o.ref.number) o.ref.gen = true then
    startBid src o s
  else s

/-- The bid delay runs out (R86): the BID, carrying the depth now, goes to the class group. -/
def bidDelayOut (origin number : Nat) (b : Bid) (s : State) : State :=
  let s := updEntry origin number (fun e =>
    { e with bid := some { b with stage := .queued } }) s
  offerFrame (classGroup (ownClass s)) (.bid origin ⟨number, b.gen⟩ (depth s)) true s

def execBidDelayExpiry (origin number : Nat) (s : State) : Host.Outcome State Fault Refusal :=
  match (entryOf s origin number).bind Entry.bid with
  | some b =>
      match b.stage with
      | .delay start length => .next (bidDelayOut origin number b (advanceUntil start length s))
      | .queued | .awaiting _ => .next s
  | none => .next s

/-- Removes an entry's bid (R87, R89): a TENTATIVE entry leaves the queue with it. -/
def removeBid (e : Entry) (s : State) : State :=
  if e.state = .tentative then dropEntry e.origin e.number s
  else updEntry e.origin e.number (fun e => { e with bid := none }) s

/-- Adds an item to the lapsed-bid list (R88): it replaces one of the same ticket; a full list loses
its oldest. -/
def addLapsed (l : Lapsed) (s : State) : State :=
  updKitchen (fun k =>
    let rest := k.lapsed.filter fun x => !(x.origin == l.origin && x.number == l.number)
    { k with lapsed := rest.drop (rest.length + 1 - lapsedCapacity) ++ [l] }) s

/-- The lines of a bid: the entry's own when it is TENTATIVE (Table 5-2). -/
def bidLines (e : Entry) (b : Bid) : List KitchenLine :=
  if e.state = .tentative then e.lines else b.lines

/-- A bid lapses (R87). The item of a replacement bid, whose record holds no origin mark, takes the mark of
the entry that carried it, the model's choice (log 55). -/
def lapse (e : Entry) (b : Bid) (s : State) : State :=
  addLapsed
    { origin := e.origin, mark := e.mark, number := e.number, gen := b.gen, priority := b.priority
      lines := bidLines e b, time := now s }
    (removeBid e s)

def execTentativeExpiry (origin number : Nat) (s : State) : Host.Outcome State Fault Refusal :=
  match entryOf s origin number with
  | some e =>
      match e.bid with
      | some b =>
          match b.stage with
          | .awaiting start => .next (lapse e b (advanceUntil start tentativeLimit s))
          | .delay .. | .queued => .next s
      | none => .next s
  | none => .next s

/-- A lapsed-bid item is removed 2000 ms after its lapse (R88). -/
def execLapsedItemExpiry (origin number : Nat) (s : State) : Host.Outcome State Fault Refusal :=
  match s.kitchen.lapsed.find? fun l => l.origin == origin && l.number == number with
  | some l =>
      .next (updKitchen (fun k =>
        { k with lapsed := k.lapsed.filter fun x => !(x.origin == origin && x.number == number) })
        (advanceUntil l.time lapsedLimit s))
  | none => .next s

/-- The entry of an origin and number, if it carries a bid at this generation. -/
def bidAt (s : State) (origin : Nat) (ref : Ref) : Option (Entry × Bid) :=
  match entryOf s origin ref.number with
  | some e =>
      match e.bid with
      | some b => if b.gen = ref.gen then some (e, b) else none
      | none => none
  | none => none

/-- Another kitchen's BID (R89): a bid in stage DELAY or QUEUED for the same ticket and generation is
cancelled; one that is AWAITING stays. -/
def kitchenBid (origin : Nat) (ref : Ref) (s : State) : State :=
  match bidAt s origin ref with
  | some (e, b) =>
      match b.stage with
      | .delay .. | .queued => removeBid e (cancelBidOf e s)
      | .awaiting _ => s
  | none => s

/-- The station enters DUPLICATE: every bid is removed (R90). -/
def removeBids (s : State) : State :=
  updKitchen (fun k =>
    { k with entries := (k.entries.filter fun e => e.state != .tentative).map fun e =>
        { e with bid := none } }) s

/-! ## Awards (R91 to R95) -/

/-- Lines with their live flags set from an AWARD's mask (R91). -/
def maskLines (mask : Byte) (lines : List KitchenLine) : List KitchenLine :=
  (lines.zipIdx).map fun p => { p.1 with live := mask.getLsbD p.2 }

/-- Some line is live. -/
def anyLive (lines : List KitchenLine) : Bool := lines.any KitchenLine.live

/-- The number of live lines. -/
def liveCount (lines : List KitchenLine) : Nat := (lines.filter KitchenLine.live).length

/-- A refusal (R94). -/
def refuseAward (src : Nat) (ref : Ref) (s : State) : State :=
  notify (.ticketRefused src ref) (sendProgress src ref .refused 0#8 s)

/-- The TICKET-ACCEPTED notice. -/
def ticketAccepted (src : Nat) (ref : Ref) (band : Band) (lines : List KitchenLine) (s : State) :
    State :=
  notify (.ticketAccepted src ref band (liveCount lines)) s

/-- Removes the lapsed-bid item of an origin and number. -/
def dropLapsed (origin number : Nat) (s : State) : State :=
  updKitchen (fun k =>
    { k with lapsed := k.lapsed.filter fun x => !(x.origin == origin && x.number == number) }) s

/-- An accepted entry as R91 leaves it, before its frame and notice. -/
def acceptedEntry (s : State) (e : Entry) (lines : List KitchenLine) : Entry :=
  { e with
    state := .queued, lines := lines, band := bandOf e.priority, arrival := some (now s)
    seq := s.kitchen.arrivalSeq + 1, warn := false, late := false, print := .none, bid := none }

/-- The rest of an acceptance: PROGRESS QUEUED, the notice, auto-fire (R91). -/
def afterAcceptance (src : Nat) (ref : Ref) (band : Band) (lines : List KitchenLine) (s : State) :
    State :=
  autoFire (ticketAccepted src ref band lines (sendProgress src ref .queued (liveMask lines) s))

/-- Acceptance of a TENTATIVE entry in its own slot (R91). -/
def acceptTentative (src : Nat) (ref : Ref) (mask : Byte) (e : Entry) (s : State) : State :=
  let lines := maskLines mask e.lines
  if anyLive lines then
    let s' := updEntry src ref.number (fun e => acceptedEntry s e lines) (cancelBidOf e s)
    let s' := updKitchen (fun k => { k with arrivalSeq := k.arrivalSeq + 1 }) s'
    afterAcceptance src ref (bandOf e.priority) lines (dropLapsed src ref.number s')
  else refuseAward src ref (dropEntry src ref.number s)

/-- Acceptance from a lapsed-bid item into a free slot (R91). -/
def acceptLapsed (src : Nat) (ref : Ref) (mask : Byte) (l : Lapsed) (s : State) : State :=
  let lines := maskLines mask l.lines
  if 1 ≤ freeSlots s ∧ anyLive lines = true then
    let e : Entry :=
      { origin := l.origin, mark := l.mark, number := l.number, gen := l.gen
        priority := l.priority, band := bandOf l.priority, state := .queued, lines := lines
        arrival := some (now s), seq := s.kitchen.arrivalSeq + 1, warn := false, late := false
        print := .none, bid := none, firedSeq := 0 }
    let s := updKitchen (fun k =>
      { k with entries := k.entries ++ [e], arrivalSeq := k.arrivalSeq + 1 }) s
    afterAcceptance src ref e.band lines (dropLapsed src ref.number s)
  else refuseAward src ref s

/-- A replacement (R92): the entry takes the awarded generation with the offered priority and
lines. -/
def replaceEntry (src : Nat) (ref : Ref) (mask : Byte) (e : Entry) (priority : Band)
    (offered : List KitchenLine) (s : State) : State :=
  let lines := maskLines mask offered
  if anyLive lines then
    let base : Entry :=
      { e with gen := ref.gen, mark := markOf s src, priority := priority, lines := lines,
               bid := none }
    let s := dropLapsed src ref.number (cancelBidOf e s)
    match e.state with
    | .fired | .revokedFired =>
        let s := updEntry src ref.number (fun _ => { base with state := .fired }) s
        ticketAccepted src ref base.band lines
          (sendProgress src ref .fired (liveMask lines) s)
    | .queued | .tentative =>
        let s' := updEntry src ref.number (fun _ => acceptedEntry s base lines) s
        let s' := updKitchen (fun k => { k with arrivalSeq := k.arrivalSeq + 1 }) s'
        afterAcceptance src ref (bandOf priority) lines s'
  else
    refuseAward src ref (updEntry src ref.number (fun e => { e with bid := none }) s)

/-- A repeat answer (R93); a REVOKED-FIRED entry is not answered. -/
def repeatAnswer (src : Nat) (ref : Ref) (e : Entry) (s : State) : State :=
  match e.state with
  | .queued => sendProgress src ref .queued (liveMask e.lines) s
  | .fired => sendProgress src ref .fired (liveMask e.lines) s
  | .revokedFired | .tentative => s

/-- The pass entry of an origin and ticket reference. -/
def passAt (s : State) (origin : Nat) (ref : Ref) : Option PassEntry :=
  s.kitchen.pass.find? fun p => p.origin == origin && p.number == ref.number && p.gen == ref.gen

/-- The lapsed-bid item of an origin and ticket reference. -/
def lapsedAt (s : State) (origin : Nat) (ref : Ref) : Option Lapsed :=
  s.kitchen.lapsed.find? fun l =>
    l.origin == origin && l.number == ref.number && l.gen == ref.gen

/-- An award of a ticket of which no entry or pass entry is held at its generation, or whose entry is
TENTATIVE (R91, rows 2 to 7). -/
def unheldAward (src : Nat) (ref : Ref) (mask : Byte) (s : State) : State :=
  match entryOf s src ref.number with
  | some e =>
      if e.gen = ref.gen then acceptTentative src ref mask e s
      else if newer e.gen ref.gen then s
      else
        match bidAt s src ref with
        | some (_, b) => replaceEntry src ref mask e b.priority b.lines s
        | none =>
            match lapsedAt s src ref with
            | some l => replaceEntry src ref mask e l.priority l.lines s
            | none => refuseAward src ref s
  | none =>
      match lapsedAt s src ref with
      | some l => acceptLapsed src ref mask l s
      | none => refuseAward src ref s

/-- An AWARD naming this station (R91): the rows of its table in order. -/
def awardHere (src : Nat) (ref : Ref) (mask : Byte) (s : State) : State :=
  match entryOf s src ref.number, passAt s src ref with
  | some e, pass =>
      if e.gen = ref.gen ∧ e.state ≠ .tentative then repeatAnswer src ref e s
      else
        match pass with
        | some p => sendProgress src ref .ready p.live s
        | none => unheldAward src ref mask s
  | none, some p => sendProgress src ref .ready p.live s
  | none, none => unheldAward src ref mask s

/-- An AWARD naming another station (R95). -/
def awardElsewhere (src : Nat) (ref : Ref) (s : State) : State :=
  let s :=
    match bidAt s src ref with
    | some (e, b) =>
        match b.stage with
        | .delay .. | .queued => removeBid e (cancelBidOf e s)
        | .awaiting _ => removeBid e s
    | none => s
  match lapsedAt s src ref with
  | some _ => dropLapsed src ref.number s
  | none => s

/-- An AWARD delivered to the kitchen queue (R91, R95). -/
def kitchenAward (src : Nat) (ref : Ref) (awardee : Nat) (mask : Byte) (s : State) : State :=
  if awardee = station s then
    if s.join.state = .onLine then awardHere src ref mask s else s
  else awardElsewhere src ref s

/-! ## Warn and late timers (R97, R98) -/

/-- The entry's timers run: it is QUEUED or FIRED (R97). A REVOKED-FIRED entry that a replacement makes
FIRED (R92) runs them again from its kept arrival time: R97 leaves open whether timers that R103
stopped run again, the model's choice (log 46). -/
def Entry.timed (e : Entry) : Bool := e.state == .queued || e.state == .fired

def execWarnTimerExpiry (origin number : Nat) (s : State) : Host.Outcome State Fault Refusal :=
  match entryOf s origin number with
  | some e =>
      match e.arrival with
      | some arrival =>
          if Entry.timed e = true ∧ e.warn = false then
            let s := advanceUntil arrival (s.join.figures.warn * 1000) s
            .next (notify (.warn origin (Entry.ref e) e.state arrival)
              (updEntry origin number (fun e => { e with warn := true }) s))
          else .next s
      | none => .next s
  | none => .next s

/-- The late timer runs out (R98): the flag, PROGRESS LATE, promotion, auto-fire. -/
def lateOut (e : Entry) (s : State) : State :=
  let s := updEntry e.origin e.number (fun e => { e with late := true }) s
  let s := sendProgress e.origin (Entry.ref e) .late (liveMask e.lines) s
  if e.state = .queued ∧ e.band = .normal then
    autoFire (updEntry e.origin e.number (fun e => { e with band := .rush }) s)
  else s

def execLateTimerExpiry (origin number : Nat) (s : State) : Host.Outcome State Fault Refusal :=
  match entryOf s origin number with
  | some e =>
      match e.arrival with
      | some arrival =>
          if Entry.timed e = true ∧ e.late = false then
            .next (lateOut e (advanceUntil arrival (s.join.figures.late * 1000) s))
          else .next s
      | none => .next s
  | none => .next s

/-! ## BUMP and the pass list (R100, R101) -/

/-- A pass entry joins the list (R101): an older one of the same ticket goes, and a full list loses
its oldest with PASS-DROPPED. -/
def addPass (p : PassEntry) (s : State) : State :=
  let rest := s.kitchen.pass.filter fun x => !(x.origin == p.origin && x.number == p.number)
  let s :=
    if rest.length < passCapacity then s
    else
      match rest with
      | x :: _ => notify (.passDropped x.origin ⟨x.number, x.gen⟩) s
      | [] => s
  updKitchen (fun k =>
    { k with pass := rest.drop (rest.length + 1 - passCapacity) ++ [p] }) s

/-- The entry leaves the queue and the printer port is told (R100). -/
def leaveQueue (origin number : Nat) (s : State) : State :=
  entryLeft origin number (dropEntry origin number s)

/-- The pass entry and PROGRESS READY of a bumped FIRED entry (R100, R101). -/
def bumpReady (e : Entry) (s : State) : State :=
  sendProgress e.origin (Entry.ref e) .ready (liveMask e.lines)
    (addPass
      { origin := e.origin, mark := e.mark, number := e.number, gen := e.gen
        live := liveMask e.lines, bumped := now s, sends := 1, stopped := false } s)

/-- The ticket references of a reply: their count, then each number and generation. -/
def refsBytes (es : List Entry) : List Byte :=
  byte es.length :: es.flatMap fun e => refBytes (Entry.ref e)

/-- BUMP (R100): the frames are those of the state that the bump would reach. -/
def bumpResult (slot origin number : Nat) (s : State) : RequestResult :=
  kitchenRequest s slot origin number fun e =>
  match e.state with
  | .fired =>
      let r := autoFireList (bumpReady e (leaveQueue origin number s))
      needFrames s (1 + r.1.length) (taken (refsBytes r.1) r.2)
  | .revokedFired =>
      let r := autoFireList (leaveQueue origin number s)
      needFrames s r.1.length (taken (refsBytes r.1) r.2)
  | .queued | .tentative => .error .state

def execBump (slot origin number : Nat) (s : State) : Host.Outcome State Fault Refusal :=
  .next (answer (.bump slot origin number)
    (unlessStrapFault s (bumpResult slot origin number s)) s)

/-- Changes the pass entry of an origin and number. -/
def updPass (origin number : Nat) (f : PassEntry → PassEntry) (s : State) : State :=
  updKitchen (fun k =>
    { k with pass := k.pass.map fun p => if p.origin = origin ∧ p.number = number then f p else p }) s

/-- Removes the pass entry of an origin and number. -/
def dropPass (origin number : Nat) (s : State) : State :=
  updKitchen (fun k =>
    { k with pass := k.pass.filter fun p => !(p.origin == origin && p.number == number) }) s

/-- The pass entry of an origin and number. -/
def passOf (s : State) (origin number : Nat) : Option PassEntry :=
  s.kitchen.pass.find? fun p => p.origin == origin && p.number == number

/-- One more READY of a pass entry (R101). -/
def passRepeat (p : PassEntry) (s : State) : State :=
  sendProgress p.origin ⟨p.number, p.gen⟩ .ready p.live
    (updPass p.origin p.number (fun p => { p with sends := p.sends + 1 }) s)

/-- The second READY at 2000 ms, the third at 6000 ms after the bump; none outside ON-LINE or after
the origin restarted (R101). -/
def execPassReadyRepeat (origin number : Nat) (s : State) : Host.Outcome State Fault Refusal :=
  match passOf s origin number with
  | some p =>
      if s.join.state = .onLine ∧ p.stopped = false ∧ p.sends < 3 then
        .next (passRepeat p (advanceUntil p.bumped (if p.sends = 1 then passSecond else passThird) s))
      else .next s
  | none => .next s

/-- A pass entry is removed 600 s after its bump (R101). -/
def execPassExpiry (origin number : Nat) (s : State) : Host.Outcome State Fault Refusal :=
  match passOf s origin number with
  | some p =>
      .next (notify (.passExpired p.origin ⟨p.number, p.gen⟩)
        (dropPass origin number (advanceUntil p.bumped passLimit s)))
  | none => .next s

/-! ## Answers to the till (R102 to R104) -/

/-- Clears the live flag at a position. -/
def clearLine (position : Nat) (lines : List KitchenLine) : List KitchenLine :=
  (lines.zipIdx).map fun p => if p.2 = position then { p.1 with live := false } else p.1

/-- A WITHDRAW of a line of a TENTATIVE or QUEUED entry (R102, first row): the state and whether the
ticket is now empty. -/
def withdrawFromEntry (e : Entry) (ref : Ref) (position : Nat) (s : State) : State × Bool :=
  let lines := clearLine position e.lines
  let s :=
    if ((e.lines[position]?).map KitchenLine.live).getD false then
      notify (.lineWithdrawn e.origin ref position) s
    else s
  if anyLive lines then
    (updEntry e.origin e.number (fun e => { e with lines := lines }) s, false)
  else (autoFire (dropEntry e.origin e.number s), true)

/-- A WITHDRAW of a line of a replacement bid (R102, second row). -/
def withdrawFromBid (e : Entry) (b : Bid) (position : Nat) (s : State) : State × Bool :=
  let lines := clearLine position b.lines
  if anyLive lines then
    (updEntry e.origin e.number (fun e => { e with bid := some { b with lines := lines } }) s, false)
  else (updEntry e.origin e.number (fun e => { e with bid := none }) s, true)

/-- The WITHDRAW-REPLY to the source (R102). -/
def replyWithdraw (src : Nat) (ref : Ref) (position : Nat) (o : WithdrawOutcome) (nowEmpty : Bool)
    (s : State) : State :=
  offerFrame src (.withdrawReply ref position o nowEmpty) false s

/-- A WITHDRAW delivered to the kitchen queue (R102): the rows of its table in order; the effect comes
before the reply (log 39). -/
def kitchenWithdraw (src : Nat) (ref : Ref) (position : Nat) (s : State) : State :=
  let fired :=
    (match entryOf s src ref.number with
      | some e => e.gen == ref.gen && Entry.cooking e
      | none => false) || (passAt s src ref).isSome
  let other := if fired then replyWithdraw src ref position .fired false s
    else replyWithdraw src ref position .unknown false s
  match entryOf s src ref.number with
  | some e =>
      if e.gen = ref.gen ∧ Entry.cooking e = false ∧ position < e.lines.length then
        let r := withdrawFromEntry e ref position s
        replyWithdraw src ref position .removed r.2 r.1
      else
        match e.bid with
        | some b =>
            if e.state ≠ .tentative ∧ b.gen = ref.gen ∧ position < b.lines.length then
              let r := withdrawFromBid e b position s
              replyWithdraw src ref position .removed r.2 r.1
            else other
        | none => other
  | none => other

/-- A REVOKE of an entry held at the named generation (R103). A QUEUED entry that becomes the TENTATIVE entry
of its replacement bid loses its warn and late flags, of which the rule says nothing: the model's choice
(log 51); its band is the one of the bid's priority (log 52). -/
def revokeEntry (e : Entry) (ref : Ref) (s : State) : State :=
  match e.state with
  | .tentative =>
      notify (.revoked e.origin ref .revoke) (dropEntry e.origin e.number (cancelBidOf e s))
  | .queued =>
      let s :=
        match e.bid with
        | some b => updEntry e.origin e.number (fun e =>
            { e with
              state := .tentative, gen := b.gen, priority := b.priority, band := bandOf b.priority
              lines := b.lines, arrival := none, warn := false, late := false
              bid := some { b with lines := [] } }) s
        | none => dropEntry e.origin e.number s
      autoFire (notify (.revoked e.origin ref .revoke) s)
  | .fired =>
      notify (.revokedWhileFired e.origin ref .revoke)
        (updEntry e.origin e.number (fun e => { e with state := .revokedFired }) s)
  | .revokedFired => s

/-- A REVOKE of what an entry of the ticket holds: the entry itself, or a replacement bid at the
named generation (R103). -/
def revokeQueue (src : Nat) (ref : Ref) (s : State) : State :=
  match entryOf s src ref.number with
  | some e =>
      if e.gen = ref.gen then revokeEntry e ref s
      else
        match bidAt s src ref with
        | some (e, _) => removeBid e (cancelBidOf e s)
        | none => s
  | none => s

/-- A REVOKE delivered to the kitchen queue (R103). -/
def kitchenRevoke (src : Nat) (ref : Ref) (s : State) : State :=
  let s := revokeQueue src ref s
  let s := if (passAt s src ref).isSome then dropPass src ref.number s else s
  if (lapsedAt s src ref).isSome then dropLapsed src ref.number s else s

/-- The entry named by a COLLECT leaves the queue, whatever its state (R104). -/
def collectEntry (e : Entry) (s : State) : State :=
  if e.state = .tentative then dropEntry e.origin e.number (cancelBidOf e s)
  else leaveQueue e.origin e.number s

/-- A COLLECT delivered to the kitchen queue (R104). -/
def kitchenCollect (src : Nat) (ref : Ref) (s : State) : State :=
  let pass := (passAt s src ref).isSome
  let s' := if pass then dropPass src ref.number s else s
  let done := fun s => autoFire (notify (.ticketCollected src ref) s)
  match entryOf s src ref.number with
  | some e =>
      if e.gen = ref.gen then done (collectEntry e s') else if pass then done s' else s
  | none => if pass then done s' else s

/-! ## Station events (R105) -/

/-- A PRESENT event (R105): marks of 0 take the mark now held. -/
def kitchenPresent (st mark : Nat) (s : State) : State :=
  updKitchen (fun k =>
    { k with
      entries := k.entries.map fun e =>
        if e.origin = st ∧ e.mark = 0 then { e with mark := mark } else e
      pass := k.pass.map fun p =>
        if p.origin = st ∧ p.mark = 0 then { p with mark := mark } else p }) s

/-- A RESTARTED event's effect on one entry (R105). -/
def restartEntry (s : State) (e : Entry) : State :=
  match e.state with
  | .tentative =>
      notify (.revoked e.origin (Entry.ref e) .originRestarted)
        (dropEntry e.origin e.number (cancelBidOf e s))
  | .queued =>
      notify (.revoked e.origin (Entry.ref e) .originRestarted) (dropEntry e.origin e.number s)
  | .fired =>
      notify (.revokedWhileFired e.origin (Entry.ref e) .originRestarted)
        (updEntry e.origin e.number (fun e => { e with state := .revokedFired, bid := none }) s)
  | .revokedFired => updEntry e.origin e.number (fun e => { e with bid := none }) s

/-- A RESTARTED event (R105): the entries of the origin whose mark differs, in queue order; lapsed
items go; pass entries stop repeating; auto-fire once. -/
def kitchenRestarted (st mark : Nat) (s : State) : State :=
  let hit := s.kitchen.entries.filter fun e => e.origin == st && (e.mark == 0 || e.mark != mark)
  let s := hit.foldl restartEntry s
  autoFire (updKitchen (fun k =>
    { k with
      lapsed := k.lapsed.filter fun l => l.origin != st
      pass := k.pass.map fun p => if p.origin = st then { p with stopped := true } else p }) s)

/-- The kitchen queue receives a station event; it takes no action on SILENT (R105). -/
def kitchenEvent (st : Nat) (e : StationEvent) (s : State) : State :=
  match e with
  | .present mark => kitchenPresent st mark s
  | .restarted mark => kitchenRestarted st mark s
  | .silent _ => s

end Sys2Proof.Machine
end

