-- ==== Sys2Proof/Machine/Settlement.lean ====
section
/-! DEFINITION. The settlement unit (chapter 8): local payment, the home's and the borrower's side of
a remote share, and the meanings of TAKE, PAY, GIVE-BACK, TAKE-REMOTE, FORCE-RELEASE, CLEAR-ORPHAN and
of the borrower's waits. -/

namespace Sys2Proof.Machine

/-! ## Lookups (R136) -/

/-- Steps 1 to 4 of R136 for a request that looks up a tab, and the share index check. -/
def shareRequest (s : State) (slot code share level : Nat)
    (k : SlotRecord → Tab → Share → RequestResult) : RequestResult :=
  tabRequest s slot code level fun r t =>
  match t.shares[share]? with
  | some sh => k r t sh
  | none => .error .field

/-- Steps 1 to 4 of R136 for a request that looks up a borrowed-share entry. -/
def borrowedRequest (s : State) (slot code share level : Nat)
    (k : SlotRecord → Borrowed → RequestResult) : RequestResult :=
  need (role s = .till) .role <|
  withSlot s slot fun r =>
  match borrowedOf s code share with
  | some b => need (r.level ≤ level) .level <| k r b
  | none => .error .unknown

/-- A payment enters the totals of a slot (R159). -/
def Totals.pay (tender : Tender) (settled : Nat) (adjustment : Int) (t : Totals) : Totals :=
  match tender with
  | .cash => { t with cash := t.cash + settled, rounding := t.rounding + adjustment,
                      shares := t.shares + 1 }
  | .card => { t with card := t.card + settled, shares := t.shares + 1 }

/-- The reply of PAY: settled amount, adjustment, change (R138, R149). -/
def paidBytes (settled : Nat) (adjustment : Int) (change : Nat) : List Byte :=
  be32 settled ++ [adjustmentByte adjustment] ++ be32 change

/-- A payment step that refuses, refuses the request (R134). -/
def withPayment (p : Except ReplyCode (Tender × Nat × Int × Nat))
    (k : Tender → Nat → Int → Nat → RequestResult) : RequestResult :=
  match p with
  | .error refusal => .error refusal
  | .ok (tender, settled, adjustment, change) => k tender settled adjustment change

/-! ## Local payment (R137 to R139, R145) -/

/-- TAKE (R137). -/
def takeResult (slot code share : Nat) (s : State) : RequestResult :=
  shareRequest s slot code share 2 fun _ t sh =>
  need (sh.state = .opened) .state <|
  need (Tab.withdrawing t = false) .pending <|
  taken (amountsBytes sh.amounts) (setShare (codeSlot code) share (.heldLocal slot) s)

def execTake (slot code share : Nat) (s : State) : Host.Outcome State Fault Refusal :=
  .next (answer (.take slot code share) (unlessStrapFault s (takeResult slot code share s)) s)

/-- PAY on a share of one of this till's tabs (R138). -/
def payLocal (slot code share tender tendered : Nat) (s : State) : RequestResult :=
  shareRequest s slot code share 2 fun r _ sh =>
  need (sh.state = .heldLocal slot) .state <|
  withPayment (paymentStep sh.amounts.total tender tendered) fun tender settled adjustment change =>
  let paid : ShareState := .paid
    { tender := tender, settled := settled, adjustment := adjustment, station := station s
      operator := some r.operator, time := now s }
  taken (paidBytes settled adjustment change)
    (setShare (codeSlot code) share paid (addTotals slot (Totals.pay tender settled adjustment) s))

/-- A frame of a borrowed entry to its home; its end starts the entry's wait (R148, R151). -/
def sendHome (b : Borrowed) (body : FrameBody) (s : State) : State :=
  offerFrame (codeHome b.code) body true s

/-- The SHARE-SETTLE of an entry (R149, R151). -/
def settleBody (b : Borrowed) : FrameBody :=
  match b.taken with
  | some p => .shareSettle b.code b.share p.tender p.settled p.adjustment
  | none => .shareSettle b.code b.share .cash 0 0

/-- The total an entry's amounts record gives. -/
def Borrowed.total (b : Borrowed) : Nat := (b.amounts.map Amounts.total).getD 0

/-- The entry after a payment (R149, steps 1, 2 and 4). -/
def Borrowed.pay (tender : Tender) (settled : Nat) (adjustment : Int) (time : Time) (b : Borrowed) :
    Borrowed :=
  { b with state := .confirming, taken := some ⟨tender, settled, adjustment⟩, paid := some time,
           attempts := 1, wait := .none, paused := false }

/-- PAY on a borrowed entry (R149). -/
def payBorrowed (slot code share tender tendered : Nat) (s : State) : RequestResult :=
  borrowedRequest s slot code share 2 fun _ b =>
  need (b.state = .borrowed ∧ b.slot = slot) .state <|
  withPayment (paymentStep (Borrowed.total b) tender tendered)
    fun tender settled adjustment change =>
  needFrames s 1 <|
  let b' := Borrowed.pay tender settled adjustment (now s) b
  taken (paidBytes settled adjustment change)
    (sendHome b' (settleBody b')
      (updBorrowed code share (Borrowed.pay tender settled adjustment (now s))
        (addTotals slot (Totals.pay tender settled adjustment) s)))

/-- PAY, by the home station of the code (R136). -/
def payResult (slot code share tender tendered : Nat) (s : State) : RequestResult :=
  if codeHome code = station s then payLocal slot code share tender tendered s
  else payBorrowed slot code share tender tendered s

def execPay (slot code share tender tendered : Nat) (s : State) :
    Host.Outcome State Fault Refusal :=
  .next (answer (.pay slot code share tender tendered)
    (unlessStrapFault s (payResult slot code share tender tendered s)) s)

/-- The entry given back (R150). -/
def Borrowed.giveBack (b : Borrowed) : Borrowed :=
  { b with state := .returning, attempts := 1, wait := .none, paused := false }

/-- A BORROWED entry becomes RETURNING and its SHARE-RETURN is sent (R150). -/
def returnBorrowed (b : Borrowed) (s : State) : State :=
  sendHome b (.shareReturn b.code b.share) (updBorrowed b.code b.share Borrowed.giveBack s)

/-- GIVE-BACK by the home station of the code (R139, R150). -/
def giveBackResult (slot code share : Nat) (s : State) : RequestResult :=
  if codeHome code = station s then
    shareRequest s slot code share 2 fun _ _ sh =>
    need (sh.state = .heldLocal slot) .state <|
    taken [] (setShare (codeSlot code) share .opened s)
  else
    borrowedRequest s slot code share 2 fun _ b =>
    need (b.state = .borrowed ∧ b.slot = slot) .state <|
    needFrames s 1 <|
    taken [] (returnBorrowed b s)

def execGiveBack (slot code share : Nat) (s : State) : Host.Outcome State Fault Refusal :=
  .next (answer (.giveBack slot code share)
    (unlessStrapFault s (giveBackResult slot code share s)) s)

/-- FORCE-RELEASE (R145). -/
def forceReleaseResult (slot code share : Nat) (s : State) : RequestResult :=
  shareRequest s slot code share 1 fun _ _ sh =>
  match sh.state with
  | .adrift holder _ reason =>
      taken [] (setShare (codeSlot code) share .opened
        (notify (.shareReleased code share holder reason) s))
  | _ => .error .state

def execForceRelease (slot code share : Nat) (s : State) : Host.Outcome State Fault Refusal :=
  .next (answer (.forceRelease slot code share)
    (unlessStrapFault s (forceReleaseResult slot code share s)) s)

/-! ## The home till (R140 to R144) -/

/-- The code of a share state, by its place in Table 8-1 (log 17). -/
def ShareState.code : ShareState → Nat
  | .opened => 0 | .empty => 1 | .heldLocal .. => 2 | .heldRemote .. => 3 | .adrift .. => 4
  | .paid .. => 5

/-- A share as held by the asker of this station and mark (R140). -/
def heldByAsker (src mark : Nat) : ShareState → Bool
  | .heldRemote st m | .adrift st m _ => st == src && (m == 0 || m == mark)
  | _ => false

/-- The reason to deny an ask (R140): the first check that fails, in order; none for a grant. -/
def denyReason (src code share : Nat) (s : State) : Option DenyReason :=
  if code = 0 then some .null
  else if codeHome code ≠ station s then some .wrongHome
  else
    match tabIn s (codeSlot code) with
    | none => some .absent
    | some t =>
        if t.code ≠ code then some .stale
        else
          match t.shares[share]? with
          | none => some .range
          | some sh =>
              if sh.state = .empty ∨ ShareState.isPaid sh.state = true then some .settled
              else if sh.state ≠ .opened ∧ heldByAsker src (markOf s src) sh.state = false then
                some .held
              else if Tab.withdrawing t then some .pending
              else none

/-- The share a code and index name here. -/
def shareOf (s : State) (code share : Nat) : Option Share :=
  (tabOf s code).bind fun t => t.shares[share]?

/-- A grant's effect on the share, by its state (R141). -/
def grantShare (src code share : Nat) (sh : Share) (s : State) : State :=
  let mark := markOf s src
  match sh.state with
  | .opened => setShare (codeSlot code) share (.heldRemote src mark) s
  | .adrift .. =>
      notify (.shareRecovered code share src mark)
        (setShare (codeSlot code) share (.heldRemote src mark) s)
  | _ => s

/-- A SHARE-ASK delivered to the settlement unit (R140, R141). -/
def settleAsk (src code share : Nat) (s : State) : State :=
  match denyReason src code share s with
  | some reason => offerFrame src (.shareDeny code share reason) false s
  | none =>
      match shareOf s code share with
      | some sh => offerFrame src (.shareGrant code share sh.amounts) false
          (grantShare src code share sh s)
      | none => s

/-- The holder station of a share that is lent (R142). -/
def lentTo : ShareState → Option Nat
  | .heldRemote st _ | .adrift st _ _ => some st
  | _ => none

/-- The share is PAID with this settling station (R142). -/
def paidBy (src : Nat) : ShareState → Bool
  | .paid p => p.station == src
  | _ => false

/-- The share state a CONFLICT notice carries: a free value when the code names no share (log 23). -/
def conflictState (s : State) (code share : Nat) : Byte × State :=
  match shareOf s code share with
  | some sh => (byte (ShareState.code sh.state), s)
  | none => (Config.freeByte s.free, { s with free := s.free + 1 })

/-- The CONFLICT outcome of a settlement (R142). -/
def settleConflicts (src code share : Nat) (tender : Tender) (settled : Nat) (s : State) : State :=
  let c := conflictState s code share
  offerFrame src (.shareClose code share .conflict) false
    (notify (.conflict code share src tender settled c.1) c.2)

/-- A share PAID by a settlement from its borrower (R142). -/
def remotePayment (s : State) (src : Nat) (tender : Tender) (settled : Nat) (adjustment : Int) :
    ShareState :=
  .paid { tender := tender, settled := settled, adjustment := adjustment, station := src,
          operator := none, time := now s }

/-- A SHARE-SETTLE delivered to the settlement unit (R142). -/
def settleSettle (src code share : Nat) (tender : Tender) (settled : Nat) (adjustment : Int)
    (s : State) : State :=
  match shareOf s code share with
  | some sh =>
      if lentTo sh.state = some src ∧ settle sh.amounts.total tender = (settled, adjustment) then
        let s' := setShare (codeSlot code) share (remotePayment s src tender settled adjustment) s
        offerFrame src (.shareClose code share .paidRecorded) false
          (notify (.remotePaid code share src tender settled) s')
      else if paidBy src sh.state then
        offerFrame src (.shareClose code share .paidRecorded) false s
      else settleConflicts src code share tender settled s
  | none => settleConflicts src code share tender settled s

/-- A SHARE-RETURN delivered to the settlement unit (R143). -/
def settleReturn (src code share : Nat) (s : State) : State :=
  let s' :=
    match shareOf s code share with
    | some sh =>
        if lentTo sh.state = some src then
          notify (.remoteReturned code share src) (setShare (codeSlot code) share .opened s)
        else s
    | none => s
  offerFrame src (.shareClose code share .returnRecorded) false s'

/-- A station event applied to one lent share (R144). -/
def homeShareEvent (st : Nat) (e : StationEvent) (slot code share : Nat) (sh : Share) (s : State) :
    State :=
  let adrift := fun (mark : Nat) (reason : Lost) =>
    notify (.shareAdrift code share st mark reason)
      (setShare slot share (.adrift st mark reason) s)
  match sh.state with
  | .heldRemote holder mark =>
      if holder ≠ st then s
      else
        match e with
        | .present m => if mark = 0 then setShare slot share (.heldRemote st m) s else s
        | .silent _ => if mark = 0 then s else adrift mark .silent
        | .restarted m => if mark = 0 ∨ mark = m then s else adrift mark .restarted
  | .adrift holder mark .silent =>
      if holder ≠ st then s
      else
        match e with
        | .present m =>
            if m = mark then
              notify (.shareRecovered code share st mark)
                (setShare slot share (.heldRemote st mark) s)
            else s
        | .restarted m => if mark = m then s else adrift mark .restarted
        | .silent _ => s
  | _ => s

/-- A station event at one tab slot: its shares in index order (log 21). -/
def homeTabEvent (st : Nat) (e : StationEvent) (s : State) (slot : Nat) : State :=
  match tabIn s slot with
  | some t => (t.shares.zipIdx).foldl (fun s p => homeShareEvent st e slot t.code p.2 p.1 s) s
  | none => s

/-- The home's side of a station event (R144). -/
def homeEvent (st : Nat) (e : StationEvent) (s : State) : State :=
  (List.range 32).foldl (homeTabEvent st e) s

/-! ## The borrowing till (R146 to R154) -/

/-- A new borrowed-share entry (R147). -/
def newBorrowed (s : State) (slot code share : Nat) : Borrowed :=
  let home := heard s (codeHome code)
  { code := code, share := share, slot := slot, state := .asking
    homeMark := (home.map Heard.mark).getD 0, homeSilent := (home.map Heard.silent).getD false
    amounts := none, taken := none, created := now s, granted := none, paid := none
    attempts := 1, wait := .none, paused := false }

/-- TAKE-REMOTE (R147). -/
def takeRemoteResult (slot code share : Nat) (s : State) : RequestResult :=
  need (role s = .till) .role <|
  withSlot s slot fun r =>
  need (r.level ≤ 2) .level <|
  need (stationNumber (codeHome code) = true ∧ codeHome code ≠ station s) .field <|
  need (share ≤ 7) .field <|
  need (borrowedOf s code share = none) .state <|
  need (s.borrowed.length < borrowedCapacity) .full <|
  needFrames s 1 <|
  let b := newBorrowed s slot code share
  accepted (sendHome b (.shareAsk code share) { s with borrowed := s.borrowed ++ [b] })

def execTakeRemote (slot code share : Nat) (s : State) : Host.Outcome State Fault Refusal :=
  .next (answer (.takeRemote slot code share)
    (unlessStrapFault s (takeRemoteResult slot code share s)) s)

/-- The frames of a borrowed entry: its SHARE-ASKs, SHARE-SETTLEs and SHARE-RETURNs, whatever state the
entry has reached since. A SHARE-RETURN that answered an unmatched grant (R148) and a frame that a freed
entry has let go (log 28) are none. -/
def ofBorrowed (code share : Nat) (x : TxItem) : Bool :=
  x.wait && match x.frame.body with
    | .shareAsk c i | .shareReturn c i => c == code && i == share
    | .shareSettle c i .. => c == code && i == share
    | _ => false

/-- Freeing an entry stops its wait and cancels its waiting frame (R152). -/
def freeBorrowed (code share : Nat) (s : State) : State :=
  dropBorrowed code share (cancelFrames (ofBorrowed code share) s)

/-- CLEAR-ORPHAN (R154). -/
def clearOrphanResult (slot code share : Nat) (s : State) : RequestResult :=
  borrowedRequest s slot code share 1 fun _ b =>
  need (b.state = .orphaned) .state <|
  match b.taken with
  | some p =>
      taken (byte (Tender.code p.tender) :: (be32 p.settled ++ [adjustmentByte p.adjustment]))
        (freeBorrowed code share s)
  | none => taken (List.replicate 6 0#8) (freeBorrowed code share s)

def execClearOrphan (slot code share : Nat) (s : State) : Host.Outcome State Fault Refusal :=
  .next (answer (.clearOrphan slot code share)
    (unlessStrapFault s (clearOrphanResult slot code share s)) s)

/-- An ask wait runs out (R148): the next ask, or the entry is freed after the third. -/
def askWaitOut (b : Borrowed) (s : State) : State :=
  if b.attempts < askAttempts then
    sendHome b (.shareAsk b.code b.share)
      (updBorrowed b.code b.share (fun b => { b with attempts := b.attempts + 1, wait := .none }) s)
  else notify (.askFailed b.code b.share) (freeBorrowed b.code b.share s)

def execAskWaitExpiry (code share : Nat) (s : State) : Host.Outcome State Fault Refusal :=
  match borrowedOf s code share with
  | some b =>
      match b.state, b.wait with
      | .asking, .ask start => .next (askWaitOut b (advanceUntil start askWait s))
      | _, _ => .next s
  | none => .next s

/-- The hold limit runs out (R150). -/
def execHoldLimitExpiry (code share : Nat) (s : State) : Host.Outcome State Fault Refusal :=
  match borrowedOf s code share with
  | some b =>
      match b.state, b.wait with
      | .borrowed, .hold start =>
          .next (returnBorrowed b
            (notify (.holdExpired b.code b.share b.slot) (advanceUntil start holdLimit s)))
      | _, _ => .next s
  | none => .next s

/-- The frame a CONFIRMING or RETURNING entry repeats (R151). -/
def repeatBody (b : Borrowed) : FrameBody :=
  if b.state = .confirming then settleBody b else .shareReturn b.code b.share

/-- A frame of the entry still waits in the transmit queue. -/
def frameWaits (s : State) (code share : Nat) : Bool :=
  s.line.waiting.any (ofBorrowed code share)

/-- The repeat frame is sent and counted; its end starts the repeat wait (R151, R153). -/
def sendRepeat (b : Borrowed) (s : State) : State :=
  sendHome b (repeatBody b)
    (updBorrowed b.code b.share
      (fun b => { b with attempts := b.attempts + 1, wait := .none, paused := false }) s)

/-- The repeat wait runs out (R151). -/
def repeatWaitOut (b : Borrowed) (s : State) : State :=
  if b.homeSilent then
    updBorrowed b.code b.share (fun b => { b with wait := .none, paused := true }) s
  else if frameWaits s b.code b.share then
    updBorrowed b.code b.share (fun b => { b with wait := .again (now s) }) s
  else sendRepeat b s

def execRepeatWaitExpiry (code share : Nat) (s : State) : Host.Outcome State Fault Refusal :=
  match borrowedOf s code share with
  | some b =>
      match b.state, b.wait with
      | .confirming, .again start | .returning, .again start =>
          .next (repeatWaitOut b (advanceUntil start repeatWait s))
      | _, _ => .next s
  | none => .next s

/-- The entry a SHARE-GRANT, SHARE-DENY or SHARE-CLOSE matches (R148): its source is the code's
home. -/
def matchBorrowed (src code share : Nat) (s : State) : Option Borrowed :=
  if src = codeHome code then borrowedOf s code share else none

/-- A SHARE-GRANT delivered to the settlement unit (R148). A SHARE-ASK in transmission stays a frame of the
entry: should it collide and wait again, freeing the entry cancels it (R16, R152). The attempts figure, which Table 8-2 gives
only while ASKING, CONFIRMING or RETURNING, stays as it is in a BORROWED entry (log 49). -/
def settleGrant (src code share : Nat) (a : Amounts) (s : State) : State :=
  match matchBorrowed src code share s with
  | none => offerFrame src (.shareReturn code share) false s
  | some b =>
      if b.state = .asking then
        notify (.shareGranted code share a.total)
          (updBorrowed code share (fun b =>
            { b with state := .borrowed, amounts := some a, granted := some (now s),
                     wait := .hold (now s) })
            (cancelWaiting (ofBorrowed code share) s))
      else s

/-- A SHARE-DENY delivered to the settlement unit (R148). -/
def settleDeny (src code share : Nat) (reason : DenyReason) (s : State) : State :=
  match matchBorrowed src code share s with
  | some b =>
      if b.state = .asking then notify (.shareDenied code share reason) (freeBorrowed code share s)
      else s
  | none => s

/-- The tender and settled amount an entry reports. -/
def Borrowed.reported (b : Borrowed) : Tender × Nat :=
  match b.taken with
  | some p => (p.tender, p.settled)
  | none => (.cash, 0)

/-- A SHARE-CLOSE delivered to the settlement unit (R152). The attempts figure stays as it is in an
ORPHANED entry (log 49). -/
def settleClose (src code share : Nat) (o : CloseOutcome) (s : State) : State :=
  match matchBorrowed src code share s with
  | none => s
  | some b =>
      let p := Borrowed.reported b
      match o, b.state with
      | .paidRecorded, .confirming =>
          notify (.settleConfirmed code share p.1 p.2) (freeBorrowed code share s)
      | .returnRecorded, .returning =>
          notify (.returnConfirmed code share) (freeBorrowed code share s)
      | .conflict, .confirming =>
          notify (.settleConflict code share b.slot p.1 p.2)
            (updBorrowed code share (fun b =>
              { b with state := .orphaned, wait := .none, paused := false }) s)
      | _, _ => s

/-- PRESENT clears the home silent flag of an entry (R153); one whose repeat wait ran out meanwhile
sends its frame at once. -/
def homeBack (b : Borrowed) (mark : Nat) (s : State) : State :=
  let s := updBorrowed b.code b.share (fun b =>
    { b with homeMark := mark, homeSilent := false }) s
  if b.paused ∧ (b.state = .confirming ∨ b.state = .returning) then sendRepeat b s else s

/-- The home of an entry has restarted under another mark (R153). The SHARE-SETTLE of a CONFIRMING entry
that is in transmission stays a frame of the ORPHANED one (R16, R154). The attempts figure stays as it is
in an ORPHANED entry (log 49). -/
def homeRestarted (b : Borrowed) (s : State) : State :=
  match b.state with
  | .asking | .borrowed | .returning =>
      notify (.homeLost b.code b.share b.slot b.state) (freeBorrowed b.code b.share s)
  | .confirming =>
      notify (.homeLost b.code b.share b.slot b.state)
        (updBorrowed b.code b.share (fun b =>
            { b with state := .orphaned, wait := .none, paused := false })
          (cancelWaiting (ofBorrowed b.code b.share) s))
  | .orphaned => s

/-- A station event applied to one entry (R153). -/
def borrowedEvent (e : StationEvent) (s : State) (b : Borrowed) : State :=
  match e with
  | .silent _ => updBorrowed b.code b.share (fun b => { b with homeSilent := true }) s
  | .present mark => if b.homeMark = 0 ∨ b.homeMark = mark then homeBack b mark s else s
  | .restarted mark => if b.homeMark = 0 ∨ b.homeMark ≠ mark then homeRestarted b s else s

/-- The borrower's side of a station event: the entries of that home, in table order (R153). -/
def borrowerEvent (st : Nat) (e : StationEvent) (s : State) : State :=
  (s.borrowed.filter fun b => codeHome b.code == st).foldl (borrowedEvent e) s

/-- The settlement unit receives a station event (R144, R153; log 21). -/
def settlementEvent (st : Nat) (e : StationEvent) (s : State) : State :=
  borrowerEvent st e (homeEvent st e s)

end Sys2Proof.Machine
end

