-- ==== Sys2Proof/Machine/StationTable.lean ====
section
/-! DEFINITION. The join machine and the station table (chapter 2): CONFIGURE, START, the join window,
PRESENCE, silence, the events raised to the owners, DUPLICATE, and the delivery of frames (R9, R13,
R35, R36). -/

namespace Sys2Proof.Machine

/-! ## CONFIGURE and START (R25 to R27) -/

/-- A response field: above 2 becomes 2 (Table 2-2). -/
def clampResponse (n : Nat) : Response :=
  match n with
  | 0 => .latch
  | 1 => .retry
  | _ => .skip

/-- A response as CONFIGURE carries it (Table 2-2). -/
def responseField : Response → Nat
  | .latch => 0 | .retry => 1 | .skip => 2

/-- The figures a till stores: the clamped tax rates; the others keep their defaults (R26). -/
def tillFigures (f : ConfigureFields) : Figures :=
  { Figures.default with
    tax0 := clampTop 2500 f.tax0, tax1 := clampTop 2500 f.tax1, tax2 := clampTop 2500 f.tax2,
    tax3 := clampTop 2500 f.tax3 }

/-- The figures a kitchen stores, clamped in the order of Table 2-2. -/
def kitchenFigures (f : ConfigureFields) : Figures :=
  let warn := clampRange 30 1800 f.warn
  { Figures.default with
    fire := clampRange 1 8 f.fire, warn := warn, late := max warn (clampRange 30 1800 f.late),
    lineFault := clampResponse f.lineFault, noResponse := clampResponse f.noResponse,
    cut := byte f.cut }

/-- The reply of CONFIGURE: the figures held, 0 in each field the role does not store (R26). -/
def figuresBytes (r : Role) (f : Figures) : List Byte :=
  match r with
  | .till => be16 f.tax0 ++ be16 f.tax1 ++ be16 f.tax2 ++ be16 f.tax3 ++ List.replicate 8 0#8
  | .kitchen =>
      List.replicate 8 0#8 ++ [byte f.fire] ++ be16 f.warn ++ be16 f.late
        ++ [byte (responseField f.lineFault), byte (responseField f.noResponse), f.cut]

/-- Every tab is computed with the new rates (R123); one with a share held, adrift or paid keeps its
amounts. -/
def recomputeTabs (f : Figures) (s : State) : State :=
  { s with tabs := s.tabs.map fun e => { e with tab := e.tab.map (Tab.compute f) } }

/-- CONFIGURE (R26), taken in CONFIG only (R25). -/
def configureResult (fields : ConfigureFields) (s : State) : RequestResult :=
  need (s.join.state = .config) .config <|
  let f :=
    match role s with
    | .till => tillFigures fields
    | .kitchen => kitchenFigures fields
  taken (figuresBytes (role s) f) (recomputeTabs f { s with join := { s.join with figures := f } })

def execConfigure (fields : ConfigureFields) (s : State) : Host.Outcome State Fault Refusal :=
  .next (answer (.configure fields) (unlessStrapFault s (configureResult fields s)) s)

/-- START (R27): JOINING, the window, the receiver in HUNT, the inbound queue empty; at a kitchen the
port watches FAULT from now on (R108). -/
def startEffect (s : State) : State :=
  let s := { s with
    join := { s.join with state := .joining, windowFrom := some (now s) }
    line := { s.line with rx := Receiver.fresh .hunt, inbound := [] } }
  if role s = .kitchen ∧ s.port.faultPin = true then
    updPort (fun p => { p with deglitch := .running (now s) }) s
  else s

def startResult (s : State) : RequestResult :=
  need (s.join.state = .config) .config <| taken [] (startEffect s)

def execStart (s : State) : Host.Outcome State Fault Refusal :=
  .next (answer .start (unlessStrapFault s (startResult s)) s)

/-! ## PRESENCE composed (R29, R32, R33) -/

/-- The fields of a PRESENCE, sampled now (R33). -/
def presenceFields (s : State) : PresenceFields :=
  match role s with
  | .till =>
      { role := .till, cls := 0, mark := s.join.startMark, depth := 0, freeSlots := 0,
        accepting := false, printer := .ok, lastCall := s.lastCall }
  | .kitchen =>
      { role := .kitchen, cls := ownClass s, mark := s.join.startMark, depth := depth s,
        freeSlots := freeSlots s, accepting := accepting s, printer := printerState s,
        lastCall := s.lastCall }

/-- The frame is a PRESENCE. -/
def FrameBody.isPresence : FrameBody → Bool
  | .presence _ => true
  | _ => false

/-- A waiting PRESENCE takes a newly sampled body (R32). -/
def TxItem.resample (body : FrameBody) (x : TxItem) : TxItem :=
  if FrameBody.isPresence x.frame.body then { x with frame := { x.frame with body := body } } else x

/-- A PRESENCE is composed (R32): a waiting one takes the new fields in its place, keeping its
collision count and backoff; otherwise it is offered to the queue. -/
def composePresence (s : State) : State :=
  let body : FrameBody := .presence (presenceFields s)
  if (s.line.waiting.any fun x => FrameBody.isPresence x.frame.body) = true then
    let waiting := s.line.waiting.map (TxItem.resample body)
    { s with line := { s.line with waiting := waiting } }
  else offerFrame 127 body false s

/-- The start mark captured at the end of the join window (R29): the low 16 bits of the bit-time
count, 0 replaced by 1. -/
def captureMark (s : State) : Nat :=
  let low := bitCount s % 65536
  if low = 0 then 1 else low

/-- The join window has run (R29). -/
def joinWindowOut (s : State) : State :=
  composePresence
    { s with join := { s.join with
        state := .onLine, startMark := captureMark s, windowFrom := none,
        presenceFrom := some (now s) } }

def execJoinWindowEnd (s : State) : Host.Outcome State Fault Refusal :=
  match s.join.state, s.join.windowFrom with
  | .joining, some start => .next (joinWindowOut (advanceUntil start joinWindow s))
  | _, _ => .next s

/-- The presence timer runs out, on its fixed schedule (R32). -/
def execPresenceTimerExpiry (s : State) : Host.Outcome State Fault Refusal :=
  match s.join.state, s.join.presenceFrom with
  | .onLine, some start =>
      let s := advanceUntil start presenceInterval s
      .next (composePresence
        { s with join := { s.join with
            presenceFrom := some (start + BitVec.ofNat 32 presenceInterval) } })
  | _, _ => .next s

/-! ## Events of the table (R36 to R38) -/

/-- The table raises an event to its receivers at this role (R38). -/
def raiseEvent (st : Nat) (e : StationEvent) (s : State) : State :=
  match role s with
  | .till => settlementEvent st e (ticketEvents st e s)
  | .kitchen => kitchenEvent st e s

/-- A PRESENT entry becomes SILENT (R37): the event, then the notice (log 20). -/
def fallSilent (st : Nat) (h : Heard) (s : State) : State :=
  notify (.silent st h.mark)
    (raiseEvent st (.silent h.mark) (setHeard st { h with silent := true } s))

def execSilenceTimerExpiry (station : Nat) (s : State) : Host.Outcome State Fault Refusal :=
  match heard s station with
  | some h =>
      if h.silent then .next s
      else .next (fallSilent station h (advanceUntil h.lastHeard silenceLimit s))
  | none => .next s

/-- The entry a PRESENCE writes (R36, step 2). -/
def heardFrom (s : State) (p : PresenceFields) (silent : Bool) : Heard :=
  { silent := silent, role := p.role, cls := p.cls, mark := p.mark, lastHeard := now s
    depth := p.depth, freeSlots := p.freeSlots, accepting := p.accepting, printer := p.printer
    lastCall := p.lastCall }

/-- R36, step 1: a start mark that differs from the one held. -/
def noteRestart (src : Nat) (p : PresenceFields) (old : Option Heard) (s : State) : State :=
  match old with
  | some h =>
      if h.mark ≠ p.mark then
        notify (.restarted src h.mark p.mark) (raiseEvent src (.restarted p.mark) s)
      else s
  | none => s

/-- R36, steps 2 and 3: the fields are replaced, and an entry that was ABSENT or SILENT becomes
PRESENT. -/
def notePresent (src : Nat) (p : PresenceFields) (old : Option Heard) (s : State) : State :=
  let s := setHeard src (heardFrom s p false) s
  if (old.map Heard.silent).getD true then
    notify (.present src p.mark) (raiseEvent src (.present p.mark) s)
  else s

/-- A PRESENCE delivered from another station (R36). -/
def takePresence (src : Nat) (p : PresenceFields) (s : State) : State :=
  let old := heard s src
  let s := notePresent src p old (noteRestart src p old s)
  if p.lastCall then adoptLastCall src s else s

/-- Any other frame refreshes the last-heard time of an entry that is not ABSENT (R35). -/
def refresh (src : Nat) (s : State) : State :=
  match heard s src with
  | some h => setHeard src { h with lastHeard := now s } s
  | none => s

/-! ## DUPLICATE (R22, R30, R31) -/

/-- The transmitter stops driving (R18, R19, R22): the line state follows the pair from its last
transition (R3), and the receiver resumes from HUNT (R8). -/
def stopDriving (s : State) : State :=
  { s with line := { s.line with
      sending := none, txPos := 0
      state := some (if s.line.since < idleHalves then .busy else .idle), rx := Receiver.fresh .hunt } }

/-- The line controller empties the transmit queue and stops driving (R22); each frame removed is
reported as dropped, the one in transmission first. -/
def emptyQueue (s : State) : State :=
  let items := s.line.sending.toList ++ s.line.waiting
  let s := if s.line.sending.isSome then stopDriving s else s
  items.foldl (fun s x => frameEnded x s) { s with line := { s.line with waiting := [] } }

/-- A frame from the station's own number moves a JOINING or ON-LINE station to DUPLICATE (R30); in
DUPLICATE it changes nothing (R31). -/
def enterDuplicate (s : State) : State :=
  if s.join.state = .joining ∨ s.join.state = .onLine then
    let s := { s with join := { s.join with
      state := .duplicate, windowFrom := none, presenceFrom := none } }
    notify (.duplicate (station s)) (removeBids (emptyQueue s))
  else s

/-! ## Delivery (R9, R12, R13) -/

/-- The destinations a station accepts (Table 1-4). -/
def acceptsDest (s : State) (dest : Nat) : Bool :=
  dest == station s || dest == 127 ||
    match role s with
    | .till => 64 ≤ dest && dest ≤ 71
    | .kitchen => dest == classGroup (ownClass s)

/-- What a delivery does (R13): the station table takes every frame; a frame of the station's own
number goes to no other block; otherwise the owner at this role acts. -/
def deliverTo (src : Nat) (table owner : State → State) (s : State) : State :=
  if src = station s then enterDuplicate s else owner (table s)

/-- A frame is delivered when the receiver runs and the frame is a valid one that this station
accepts: it is the head of the inbound queue, which it leaves, or, with the queue empty, it comes
straight from the line, from which nothing is taken while this station drives it (R8, log 4).
Otherwise nothing changes. -/
def deliver (f : Frame) (table owner : State → State) (s : State) : State :=
  if joined s ∧ Frame.valid f = true ∧ acceptsDest s f.dest = true then
    match s.line.inbound with
    | [] => if driving s then s else deliverTo f.src table owner s
    | g :: rest =>
        if g = f then
          deliverTo f.src table owner { s with line := { s.line with inbound := rest } }
        else s
  else s

/-- An owner that acts at a till only (Table 1-2). -/
def atTill (f : State → State) (s : State) : State := if role s = .till then f s else s

/-- An owner that acts at a kitchen only (Table 1-2). -/
def atKitchen (f : State → State) (s : State) : State := if role s = .kitchen then f s else s

/-- Delivery of a frame other than PRESENCE: it refreshes its source (R35). -/
def deliverFrame (f : Frame) (owner : State → State) (s : State) : State :=
  deliver f (refresh f.src) owner s

def execPresence (dest src : Nat) (p : PresenceFields) (s : State) :
    Host.Outcome State Fault Refusal :=
  .next (deliver ⟨dest, src, .presence p⟩ (takePresence src p) id s)

def execOffer (dest src : Nat) (o : OfferFields) (s : State) : Host.Outcome State Fault Refusal :=
  .next (deliverFrame ⟨dest, src, .offer o⟩ (atKitchen (kitchenOffer src o)) s)

/-- A BID delivered at a till (R68, R69); at a kitchen the BID is the row BID_HEARD_AT_KITCHEN. -/
def execBid (dest src origin : Nat) (ref : Ref) (depth : Nat) (s : State) :
    Host.Outcome State Fault Refusal :=
  .next (atTill (deliverFrame ⟨dest, src, .bid origin ref depth⟩ (ticketBid src origin ref depth)) s)

/-- A BID delivered at a kitchen (R89). -/
def execBidHeardAtKitchen (dest src origin : Nat) (ref : Ref) (depth : Nat) (s : State) :
    Host.Outcome State Fault Refusal :=
  .next (atKitchen (deliverFrame ⟨dest, src, .bid origin ref depth⟩ (kitchenBid origin ref)) s)

def execAward (dest src : Nat) (ref : Ref) (awardee : Nat) (mask : Byte) (s : State) :
    Host.Outcome State Fault Refusal :=
  .next (deliverFrame ⟨dest, src, .award ref awardee mask⟩
    (atKitchen (kitchenAward src ref awardee mask)) s)

def execProgress (dest src : Nat) (ref : Ref) (kstate : KitchenState) (mask : Byte) (s : State) :
    Host.Outcome State Fault Refusal :=
  .next (deliverFrame ⟨dest, src, .progress ref kstate mask⟩
    (atTill (ticketProgress src ref kstate mask)) s)

def execWithdraw (dest src : Nat) (ref : Ref) (position : Nat) (s : State) :
    Host.Outcome State Fault Refusal :=
  .next (deliverFrame ⟨dest, src, .withdraw ref position⟩
    (atKitchen (kitchenWithdraw src ref position)) s)

def execWithdrawReply (dest src : Nat) (ref : Ref) (position : Nat) (outcome : WithdrawOutcome)
    (nowEmpty : Bool) (s : State) : Host.Outcome State Fault Refusal :=
  .next (deliverFrame ⟨dest, src, .withdrawReply ref position outcome nowEmpty⟩
    (atTill (ticketWithdrawReply src ref position outcome nowEmpty)) s)

def execRevoke (dest src : Nat) (ref : Ref) (s : State) : Host.Outcome State Fault Refusal :=
  .next (deliverFrame ⟨dest, src, .revoke ref⟩ (atKitchen (kitchenRevoke src ref)) s)

def execCollectFrame (dest src : Nat) (ref : Ref) (s : State) : Host.Outcome State Fault Refusal :=
  .next (deliverFrame ⟨dest, src, .collect ref⟩ (atKitchen (kitchenCollect src ref)) s)

def execLastCallFrame (dest src : Nat) (s : State) : Host.Outcome State Fault Refusal :=
  .next (deliverFrame ⟨dest, src, .lastCall⟩ (adoptLastCall src) s)

def execShareAsk (dest src code share : Nat) (s : State) : Host.Outcome State Fault Refusal :=
  .next (deliverFrame ⟨dest, src, .shareAsk code share⟩ (atTill (settleAsk src code share)) s)

def execShareGrant (dest src code share : Nat) (amounts : Amounts) (s : State) :
    Host.Outcome State Fault Refusal :=
  .next (deliverFrame ⟨dest, src, .shareGrant code share amounts⟩
    (atTill (settleGrant src code share amounts)) s)

def execShareDeny (dest src code share : Nat) (reason : DenyReason) (s : State) :
    Host.Outcome State Fault Refusal :=
  .next (deliverFrame ⟨dest, src, .shareDeny code share reason⟩
    (atTill (settleDeny src code share reason)) s)

def execShareSettle (dest src code share : Nat) (tender : Tender) (settled : Nat)
    (adjustment : Int) (s : State) : Host.Outcome State Fault Refusal :=
  .next (deliverFrame ⟨dest, src, .shareSettle code share tender settled adjustment⟩
    (atTill (settleSettle src code share tender settled adjustment)) s)

def execShareReturn (dest src code share : Nat) (s : State) : Host.Outcome State Fault Refusal :=
  .next (deliverFrame ⟨dest, src, .shareReturn code share⟩ (atTill (settleReturn src code share)) s)

def execShareClose (dest src code share : Nat) (outcome : CloseOutcome) (s : State) :
    Host.Outcome State Fault Refusal :=
  .next (deliverFrame ⟨dest, src, .shareClose code share outcome⟩
    (atTill (settleClose src code share outcome)) s)

end Sys2Proof.Machine
end

