-- ==== Sys2Proof/Machine/LineController.lean ====
section
/-! DEFINITION. The line controller (chapter 1): the decoding of transitions, the frame receiver, the
reception's end, and transmission with deferral, collision, jam and backoff. -/

namespace Sys2Proof.Machine

/-! ## Decoding (R2) -/

/-- The cells an interval of `h` half bit times completes, each with the half bit times it lasted, and
whether a half is then open (R2; log 10): a half after an open half is a 1; an open half without a
second is a violation; a whole bit time is a 0; three halves are a violation; from two bit times on
the line was idle. -/
def decodeInterval (openHalf : Bool) (h : Nat) : List (Cell × Nat) × Bool :=
  let afresh : List (Cell × Nat) × Bool :=
    match h with
    | 1 => ([], true)
    | 2 => ([(.zero, 2)], false)
    | 0 | 3 => ([(.violation, h)], false)
    | _ => ([], false)
  if openHalf ∧ h < idleHalves then
    if h = 1 then ([(.one, 2)], false) else ((.violation, 1) :: afresh.1, afresh.2)
  else afresh

/-! ## The frame receiver (R8, R10) -/

/-- Return to HUNT with an empty history; a half interval already open stays open. -/
def Receiver.toHunt (r : Receiver) : Receiver :=
  { Receiver.fresh .hunt with openHalf := r.openHalf }

/-- The last sixteen decoded cells are the sync pattern (R8). -/
def Receiver.synced (r : Receiver) : Bool :=
  r.history.reverse == syncPattern.map Cell.ofBool

/-- The first character of ADDRESS: its mark bit and byte, once nine cells are in. -/
def Receiver.firstChar (r : Receiver) : Option (Bool × Byte) :=
  if r.cells.length < 9 then none
  else ((readChars 1 (r.cells.reverse.take 9)).getD []).head?

/-- A match of the sync pattern: ADDRESS (R8). -/
def Receiver.toAddress (r : Receiver) : Receiver :=
  { Receiver.fresh .address with openHalf := r.openHalf }

/-- The character complete in ADDRESS (R8): TAKE for a marked, accepted destination, else HUNT. After a
destination that is not accepted the rule does not say what the history holds: it is empty, the model's
choice (log 54). -/
def Receiver.address (accepts : Nat → Bool) (r : Receiver) : Receiver :=
  match Receiver.firstChar r with
  | some (true, d) =>
      if accepts d.toNat then
        { Receiver.fresh .take with openHalf := r.openHalf, dest := d.toNat }
      else Receiver.toHunt r
  | _ => Receiver.toHunt r

/-- The reception is to be abandoned (R10): violations have lasted 8 bit times in a row, or a 247th
character is complete (log 11). -/
def Receiver.overrun (r : Receiver) : Bool := 16 ≤ r.violation || 9 * 246 ≤ r.cells.length

/-- The receiver's due event, if any: match, first character, abandonment (log 8). -/
def Receiver.settle (accepts : Nat → Bool) (r : Receiver) : Receiver :=
  match r.state with
  | .hunt => if Receiver.synced r then Receiver.toAddress r else r
  | .address => if 9 ≤ r.cells.length then Receiver.address accepts r else r
  | .take => if Receiver.overrun r then Receiver.toHunt r else r
  | .off => r

/-- A decoded cell enters the receiver, with the half bit times it lasted (R8, R10). -/
def Receiver.push (accepts : Nat → Bool) (r : Receiver) (c : Cell × Nat) : Receiver :=
  let r := Receiver.settle accepts r
  match r.state with
  | .off => r
  | .hunt =>
      { r with history := if c.1 = .violation then [] else (c.1 :: r.history).take 16 }
  | .address => if c.1 = .violation then Receiver.toHunt r else { r with cells := c.1 :: r.cells }
  | .take =>
      { r with
        cells := c.1 :: r.cells
        violation := if c.1 = .violation then r.violation + c.2 else 0 }

/-- Changes the receiver. -/
def updRx (f : Receiver → Receiver) (s : State) : State :=
  { s with line := { s.line with rx := f s.line.rx } }

/-! ## Reception's end (R10 to R12) -/

/-- The last cell of a frame is closed by the idle line (log 9): a 1 when a half is open, else a 0. -/
def Receiver.closed (r : Receiver) : List Cell :=
  (if r.openHalf then Cell.one else Cell.zero) :: r.cells

/-- The frame of a reception that ends: undamaged characters, valid by R11; none otherwise. -/
def Receiver.frame (r : Receiver) : Option Frame :=
  match readChars (Receiver.closed r).length (Receiver.closed r).reverse with
  | some chars =>
      if (chars.any fun c => c.1) = true then none
      else parseFrame (byte r.dest :: chars.map Prod.snd)
  | none => none

/-- A valid frame joins the inbound queue when fewer than 8 stand in it (R12). -/
def LineCtl.enqueue (f : Option Frame) (l : LineCtl) : LineCtl :=
  match f with
  | some f =>
      if l.inbound.length < inboundCapacity then { l with inbound := l.inbound ++ [f] } else l
  | none => l

/-- The reception in TAKE ends (R10): the frame goes to the checks, the receiver to HUNT. -/
def endReception (s : State) : State :=
  let r := s.line.rx
  let f := if Receiver.overrun r then none else Receiver.frame r
  { s with line := { LineCtl.enqueue f s.line with rx := Receiver.fresh .hunt } }

/-- A first character that is complete is judged before the line's becoming idle is (R8, log 8). -/
def settleAddress (s : State) : State :=
  if s.line.rx.state = .address ∧ 9 ≤ s.line.rx.cells.length then
    updRx (Receiver.address (acceptsDest s)) s
  else s

/-- A reception that the idle line has ended is taken before what follows (log 8). -/
def settleReception (s : State) : State :=
  if s.line.since < idleHalves then s
  else if (settleAddress s).line.rx.state = .take then endReception (settleAddress s)
  else settleAddress s

/-- RECEPTION_END: the line becomes idle in TAKE, two bit times after the last transition. -/
def execReceptionEnd (s : State) : Host.Outcome State Fault Refusal :=
  if (settleAddress s).line.rx.state = .take ∧ driving s = false then
    .next (endReception (advance (idleHalves - s.line.since) (settleAddress s)))
  else .next s

/-! ## Transitions of other stations (R2, R3) -/

/-- The receiver takes an interval that a transition ends; an OFF receiver takes nothing (R8). -/
def Receiver.interval (accepts : Nat → Bool) (h : Nat) (r : Receiver) : Receiver :=
  let d := decodeInterval r.openHalf h
  match r.state with
  | .off => r
  | .hunt | .address | .take => { d.1.foldl (Receiver.push accepts) r with openHalf := d.2 }

/-- A transition at this moment: the interval is decoded, the idle count returns to 0, the line is
BUSY. -/
def transition (s : State) : State :=
  let accepts := acceptsDest s
  { s with line := { s.line with
      rx := Receiver.interval accepts s.line.since s.line.rx, since := 0, state := some .busy } }

/-- LINE_TRANSITION: a transition `halves` half bit times after the last one, or now when that time has
passed. While this station drives the pair it comes now and only returns the idle count to 0. -/
def execLineTransition (halves : Nat) (s : State) : Host.Outcome State Fault Refusal :=
  if s.line.state = none then .next s
  else if driving s then .next { s with line := { s.line with since := 0 } }
  else
    .next (transition (settleReception (advance (halves - s.line.since) s)))

/-- SYNC_PATTERN_MATCH (R8). -/
def execSyncPatternMatch (s : State) : Host.Outcome State Fault Refusal :=
  if s.line.rx.state = .hunt ∧ Receiver.synced s.line.rx = true then
    .next (updRx Receiver.toAddress s)
  else .next s

/-- DESTINATION_CHARACTER (R8, R9). -/
def execDestinationCharacter (s : State) : Host.Outcome State Fault Refusal :=
  if s.line.rx.state = .address ∧ 9 ≤ s.line.rx.cells.length then
    .next (updRx (Receiver.address (acceptsDest s)) s)
  else .next s

/-- FRAME_ABANDONED (R10). -/
def execFrameAbandoned (s : State) : Host.Outcome State Fault Refusal :=
  if s.line.rx.state = .take ∧ Receiver.overrun s.line.rx = true then
    .next (updRx Receiver.toHunt s)
  else .next s

/-! ## Transmission (R17 to R21) -/

/-- The deferral requirement of a frame in half bit times: 32 + 64 (2c + k) bit times (R17). -/
def TxItem.deferral (x : TxItem) : Nat := 2 * (32 + 64 * (2 * x.cls + x.k))

/-- The head starts: the frame in transmission, line state SENDING, the receiver held in HUNT (R8,
R18). -/
def startSending (head : TxItem) (rest : List TxItem) (s : State) : State :=
  { s with line := { s.line with
      waiting := rest, sending := some head, state := some .sending, txPos := 0, since := 0,
      rx := Receiver.fresh .hunt } }

/-- TRANSMISSION_START: time passes until the head's requirement is met (R17). -/
def execTransmissionStart (s : State) : Host.Outcome State Fault Refusal :=
  match s.line.waiting, s.line.sending with
  | head :: rest, none =>
      if s.join.state = .onLine then
        let s := settleReception (advance (TxItem.deferral head - s.line.since) s)
        .next (startSending head rest s)
      else .next s
  | _, _ => .next s

/-- The last cell has been sent without a mismatch (R18). -/
def transmissionDone (x : TxItem) (s : State) : State := frameEnded x (stopDriving s)

/-- TRANSMISSION_COMPLETE: time passes until the frame's last cell ends (R4, R18). -/
def execTransmissionComplete (s : State) : Host.Outcome State Fault Refusal :=
  match s.line.state, s.line.sending with
  | some .sending, some x =>
      .next (transmissionDone x (advance (2 * Frame.bitTimes x.frame - s.line.txPos) s))
  | _, _ => .next s

/-- COLLISION: the echo comparator decodes `heard` for the cell being sent; a different value or a
violation stops the frame, and the jam begins (R19, log 38). -/
def execCollision (heard : Cell) (s : State) : Host.Outcome State Fault Refusal :=
  match s.line.state, s.line.sending with
  | some .sending, some x =>
      match (Frame.cells x.frame)[s.line.txPos / 2]? with
      | some sent =>
          if heard = Cell.ofBool sent then .next s
          else .next { s with line := { s.line with state := some .jamming, txPos := 0, since := 0 } }
      | none => .next s
  | _, _ => .next s

/-- The backoff after the collision that makes the count `n`: (5 × station + 11 × n) modulo 2^b, b the
smaller of n and 6 (R20). -/
def backoff (station n : Nat) : Nat := (5 * station + 11 * n) % 2 ^ (min n 6)

/-- A collided frame returns as the first of its class with a new backoff (R20); a PRESENCE returns
only when none waits (R32). -/
def returnCollided (x : TxItem) (n : Nat) (s : State) : State :=
  if FrameBody.isPresence x.frame.body
      && s.line.waiting.any fun y => FrameBody.isPresence y.frame.body then s
  else
    let x := { x with n := n, k := backoff (station s) n }
    { s with line := { s.line with waiting := returnToQueue x s.line.waiting } }

/-- The end of the jam (R20, R21): the sixteenth collision drops the frame with LINE-FAILED. -/
def jamEnds (x : TxItem) (s : State) : State :=
  let s := stopDriving s
  if collisionLimit ≤ x.n + 1 then frameEnded x s else returnCollided x (x.n + 1) s

/-- JAM_END: time passes until the jam has lasted 32 bit times (R19). -/
def execJamEnd (s : State) : Host.Outcome State Fault Refusal :=
  match s.line.state, s.line.sending with
  | some .jamming, some x => .next (jamEnds x (advance (jamHalves - s.line.txPos) s))
  | _, _ => .next s

end Sys2Proof.Machine
end

