-- ==== Sys2Proof/Machine/Operators.lean ====
section
/-! DEFINITION. The operator block (chapter 9): SIGN-ON, SIGN-OFF and QUERY-TOTALS. -/

namespace Sys2Proof.Machine

/-! ## SIGN-ON (R158) -/

/-- The lowest-numbered empty operator slot. -/
def freeOperatorSlot (s : State) : Option Nat :=
  (List.range 4).find? fun i => (slotOf s i).isNone

/-- A slot holds this operator id. -/
def operatorSignedOn (s : State) (operator : Nat) : Bool :=
  s.slots.toList.any fun r => r.map SlotRecord.operator == some operator

/-- SIGN-ON: the level is clamped to 3; the reply gives slot and level as stored. -/
def signOnResult (operator level : Nat) (s : State) : RequestResult :=
  need (1 ≤ operator ∧ operator ≤ 9999) .field <|
  need (operatorSignedOn s operator = false) .state <|
  match freeOperatorSlot s with
  | none => .error .full
  | some i =>
      let l := clampTop 3 level
      let r : SlotRecord := ⟨operator, l, now s, Totals.zero⟩
      taken [byte i, byte l] { s with slots := s.slots.setIfInBounds i (some r) }

def execSignOn (operator level : Nat) (s : State) : Host.Outcome State Fault Refusal :=
  .next (answer (.signOn operator level) (unlessStrapFault s (signOnResult operator level s)) s)

/-! ## Totals (R163, R164) -/

/-- The sum of two sets of totals. -/
def Totals.add (a b : Totals) : Totals :=
  { cash := a.cash + b.cash, card := a.card + b.card, rounding := a.rounding + b.rounding,
    shares := a.shares + b.shares, voids := a.voids + b.voids, wastes := a.wastes + b.wastes }

/-- The six totals as reply and notice fields: amounts of six bytes, counts of four (Table 10-4). -/
def Totals.bytes (t : Totals) : List Byte :=
  be48 t.cash ++ be48 t.card ++ be48Int t.rounding ++ be32 t.shares ++ be32 t.voids ++ be32 t.wastes

/-- A time as a reply field. -/
def timeBytes (t : Time) : List Byte := be32 t.toNat

/-! ## SIGN-OFF (R161, R162) -/

/-- A share of this till's tabs is HELD-LOCAL by the slot (R161). -/
def holdsShare (s : State) (slot : Nat) : Bool :=
  s.tabs.toList.any fun e =>
    match e.tab with
    | some t => t.shares.any fun sh => sh.state == .heldLocal slot
    | none => false

/-- An entry in state BORROWED, CONFIRMING or RETURNING is the slot's (R161). -/
def holdsBorrowed (s : State) (slot : Nat) : Bool :=
  s.borrowed.any fun b =>
    b.slot == slot && (b.state == .borrowed || b.state == .confirming || b.state == .returning)

/-- The fields of a SHIFT-REPORT (R162). -/
def shiftFields (slot operator level : Nat) (since off : Time) (t : Totals) : List Byte :=
  byte slot :: (be16 operator ++ [byte level] ++ timeBytes since ++ timeBytes off ++ Totals.bytes t)

/-- The station's totals after a shift is closed (R162, step 2). -/
def ClosedShifts.close (t : Totals) (c : ClosedShifts) : ClosedShifts :=
  { totals := Totals.add c.totals t, shifts := c.shifts + 1 }

/-- SIGN-OFF (R162). -/
def signOffResult (slot : Nat) (s : State) : RequestResult :=
  withSlot s slot fun r =>
  need (¬(role s = .till ∧ (holdsShare s slot = true ∨ holdsBorrowed s slot = true))) .holding <|
  let off := now s
  let s' := notify (.shiftReport slot r.operator r.level r.since off r.totals) s
  taken (shiftFields slot r.operator r.level r.since off r.totals)
    { s' with
      closed := ClosedShifts.close r.totals s'.closed
      slots := s'.slots.setIfInBounds slot none }

def execSignOff (slot : Nat) (s : State) : Host.Outcome State Fault Refusal :=
  .next (answer (.signOff slot) (unlessStrapFault s (signOffResult slot s)) s)

end Sys2Proof.Machine
end

