-- ==== Sys2Proof/Machine/Replies.lean ====
section
/-! DEFINITION. The coding of reply and notice fields by their sorts (Table 10-4), the codes of
enumerated values by their position (log 17), and the bytes of notices (Table 10-6). -/

namespace Sys2Proof.Machine

/-! ## Sorts (Table 10-4) -/

/-- An optional field: a presence byte, then the field, sent as zeros when absent. -/
def optional (size : Nat) : Option (List Byte) → List Byte
  | some bs => 1#8 :: bs
  | none => 0#8 :: List.replicate size 0#8

/-- An optional time. -/
def optionalTime (t : Option Time) : List Byte := optional 4 (t.map timeBytes)

/-- A list of varying length: its count, then its items. -/
def listBytes (items : List (List Byte)) : List Byte := byte items.length :: items.flatten

/-! ## Codes of enumerated values (Table 10-4, log 17) -/

def JoinState.code : JoinState → Nat
  | .strapFault => 0 | .config => 1 | .joining => 2 | .onLine => 3 | .duplicate => 4

def LineState.code : LineState → Nat
  | .idle => 0 | .busy => 1 | .sending => 2 | .jamming => 3

def TabState.code : TabState → Nat
  | .opened => 0 | .paying => 1 | .closed => 2

def TabLineState.code : TabLineState → Nat
  | .entered => 0 | .sent => 1 | .withdrawing => 2 | .fired => 3 | .ready => 4 | .served => 5
  | .void => 6 | .waste => 7

def Lost.code : Lost → Nat
  | .silent => 0 | .restarted => 1

def TicketState.code : TicketState → Nat
  | .offering => 0 | .stranded => 1 | .placing => 2 | .placed => 3 | .fired => 4 | .ready => 5

def EntryState.code : EntryState → Nat
  | .tentative => 0 | .queued => 1 | .fired => 2 | .revokedFired => 3

def PrintState.code : PrintState → Nat
  | .none => 0 | .waiting => 1 | .printing => 2 | .printed => 3 | .unprinted => 4

def BidStage.code : BidStage → Nat
  | .delay .. => 0 | .queued => 1 | .awaiting .. => 2

def PortState.code : PortState → Nat
  | .idle => 0 | .sending => 1 | .latched => 2 | .retryWait => 3 | .down => 4

def FaultKind.code : FaultKind → Nat
  | .lineFault => 0 | .noResponse => 1

def Response.code : Response → Nat
  | .latch => 0 | .retry => 1 | .skip => 2

def BorrowedState.code : BorrowedState → Nat
  | .asking => 0 | .borrowed => 1 | .confirming => 2 | .returning => 3 | .orphaned => 4

def ReissueCause.code : ReissueCause → Nat
  | .awardExhausted => 0 | .refused => 1 | .awardeeSilent => 2 | .awardeeRestarted => 3
  | .holdsNothing => 4 | .retrySilent => 5 | .retryRestarted => 6

def RevokeCause.code : RevokeCause → Nat
  | .revoke => 0 | .originRestarted => 1

/-! ## Notices (Table 10-6) -/

/-- The code of a notice kind. -/
def NoticeBody.code : NoticeBody → Nat
  | .duplicate .. => 0x01 | .present .. => 0x02 | .silent .. => 0x03 | .restarted .. => 0x04
  | .lastCall .. => 0x05 | .tabFreed .. => 0x06 | .stranded .. => 0x07 | .placed .. => 0x08
  | .ready .. => 0x09 | .late .. => 0x0A | .withdrawFailed .. => 0x0B
  | .withdrawRefused .. => 0x0C | .kitchenLost .. => 0x0D | .reissued .. => 0x0E
  | .ticketAccepted .. => 0x0F | .ticketRefused .. => 0x10 | .ticketFired .. => 0x11
  | .warn .. => 0x12 | .lineWithdrawn .. => 0x13 | .revoked .. => 0x14
  | .revokedWhileFired .. => 0x15 | .ticketCollected .. => 0x16 | .passDropped .. => 0x17
  | .passExpired .. => 0x18 | .printerFault .. => 0x19 | .printerResumed => 0x1A
  | .ticketUnprinted .. => 0x1B | .shareGranted .. => 0x1C | .shareDenied .. => 0x1D
  | .askFailed .. => 0x1E | .holdExpired .. => 0x1F | .settleConfirmed .. => 0x20
  | .returnConfirmed .. => 0x21 | .settleConflict .. => 0x22 | .homeLost .. => 0x23
  | .shareRecovered .. => 0x24 | .remotePaid .. => 0x25 | .conflict .. => 0x26
  | .remoteReturned .. => 0x27 | .shareAdrift .. => 0x28 | .shareReleased .. => 0x29
  | .shiftReport .. => 0x2A

/-- The code of OVERFLOW, which FETCH creates (R173). -/
def overflowCode : Nat := 0x2B

/-- An origin station and a ticket reference. -/
def originRef (origin : Nat) (ref : Ref) : List Byte := byte origin :: refBytes ref

/-- A ticket reference and a tab code. -/
def refCode (ref : Ref) (code : Nat) : List Byte := refBytes ref ++ be16 code

/-- A tab code and a share index. -/
def codeShare (code share : Nat) : List Byte := be16 code ++ [byte share]

/-- The fields of a notice besides kind and time (Table 10-6). The number of live lines of
TICKET-ACCEPTED is sent as a count, in 4 bytes: its sort is the model's reading (log 16). -/
def NoticeBody.fields : NoticeBody → List Byte
  | .duplicate st => [byte st]
  | .present st mark | .silent st mark => byte st :: be16 mark
  | .restarted st old new => byte st :: (be16 old ++ be16 new)
  | .lastCall st => [byte st]
  | .tabFreed code => be16 code
  | .stranded ref code => refCode ref code
  | .placed ref code awardee depth kmask =>
      refCode ref code ++ [byte awardee, byte depth, kmask]
  | .ready ref code awardee kmask | .late ref code awardee kmask =>
      refCode ref code ++ [byte awardee, kmask]
  | .withdrawFailed ref code line | .withdrawRefused ref code line =>
      refCode ref code ++ [byte line]
  | .kitchenLost ref code awardee lost =>
      refCode ref code ++ [byte awardee, byte (Lost.code lost)]
  | .reissued ref code former cause =>
      refCode ref code ++ optional 1 (former.map fun n => [byte n])
        ++ [byte (ReissueCause.code cause)]
  | .ticketAccepted origin ref band live =>
      originRef origin ref ++ [byte (Band.code band)] ++ be32 live
  | .ticketRefused origin ref | .ticketFired origin ref | .ticketCollected origin ref
  | .passDropped origin ref | .passExpired origin ref | .ticketUnprinted origin ref =>
      originRef origin ref
  | .warn origin ref state arrival =>
      originRef origin ref ++ [byte (EntryState.code state)] ++ timeBytes arrival
  | .lineWithdrawn origin ref pos => originRef origin ref ++ [byte pos]
  | .revoked origin ref cause | .revokedWhileFired origin ref cause =>
      originRef origin ref ++ [byte (RevokeCause.code cause)]
  | .printerFault kind response => [byte (FaultKind.code kind), byte (Response.code response)]
  | .printerResumed => []
  | .shareGranted code share total => codeShare code share ++ be32 total
  | .shareDenied code share reason => codeShare code share ++ [byte (DenyReason.code reason)]
  | .askFailed code share | .returnConfirmed code share => codeShare code share
  | .holdExpired code share slot => codeShare code share ++ [byte slot]
  | .settleConfirmed code share tender settled =>
      codeShare code share ++ [byte (Tender.code tender)] ++ be32 settled
  | .settleConflict code share slot tender settled =>
      codeShare code share ++ [byte slot, byte (Tender.code tender)] ++ be32 settled
  | .homeLost code share slot before =>
      codeShare code share ++ [byte slot, byte (BorrowedState.code before)]
  | .shareRecovered code share st mark => codeShare code share ++ byte st :: be16 mark
  | .remotePaid code share st tender settled =>
      codeShare code share ++ [byte st, byte (Tender.code tender)] ++ be32 settled
  | .conflict code share source tender settled state =>
      codeShare code share ++ [byte source, byte (Tender.code tender)] ++ be32 settled ++ [state]
  | .remoteReturned code share st => codeShare code share ++ [byte st]
  | .shareAdrift code share st mark reason =>
      codeShare code share ++ [byte st] ++ be16 mark ++ [byte (Lost.code reason)]
  | .shareReleased code share st reason =>
      codeShare code share ++ [byte st, byte (Lost.code reason)]
  | .shiftReport slot operator level since off totals =>
      shiftFields slot operator level since off totals

/-- A notice as FETCH returns it: kind, time, fields (R173). -/
def Notice.bytes (n : Notice) : List Byte :=
  byte (NoticeBody.code n.body) :: (timeBytes n.time ++ NoticeBody.fields n.body)

/-- An OVERFLOW as FETCH returns it: kind, the time of taking, the overflow time (R173). -/
def overflowBytes (taken loss : Time) : List Byte :=
  byte overflowCode :: (timeBytes taken ++ timeBytes loss)

end Sys2Proof.Machine
end

