-- ==== Sys2Proof/Machine/Queries.lean ====
section
/-! DEFINITION. The queries (R39, R164, R174 to R179). They check no operator slot, are taken at both
roles and in every join state, and change no block. -/

namespace Sys2Proof.Machine

/-! ## QUERY-STATE (R23, R174) -/

/-- The line rate as the position of its row in R23: 250, 500, 1000 kbit/s (log 16). -/
def rateCode (p : Straps) : Nat := p.mode.val / 2

/-- The strap MODE forms a line rate and a lane mode (R23). -/
def modeFormed (s : State) : Bool := s.straps.mode.val < 6

/-- Lane mode: 0 single, 1 dual. -/
def laneModeCode (s : State) : Nat := if dualLane s then 1 else 0

/-- A byte, or the free byte at this place where the spec forms no value (log 13). -/
def orFree (formed : Bool) (n place : Nat) (s : State) : Byte :=
  if formed then byte n else Config.freeByte (s.free + place)

/-- Milliseconds left of the join window, in JOINING (R23). -/
def windowLeft (s : State) : Option (List Byte) :=
  if s.join.state = .joining then
    s.join.windowFrom.map fun start => be32 (remaining s start joinWindow)
  else none

/-- The fields of QUERY-STATE. The line state, and with a MODE of 6 or 7 the line rate and the lane
mode, are not formed in STRAP-FAULT (log 13). -/
def stateFields (s : State) : List Byte :=
  [byte s.straps.sta.val, byte s.straps.stb.val, byte s.straps.role.val, byte s.straps.mode.val,
    byte (station s), byte (Role.code (role s)), byte (ownClass s),
    orFree (modeFormed s) (rateCode s.straps) 0 s, orFree (modeFormed s) (laneModeCode s) 1 s,
    byte (JoinState.code s.join.state)]
  ++ be16 s.join.startMark ++ optional 4 (windowLeft s)
  ++ [flagByte s.lastCall,
    orFree s.line.state.isSome ((s.line.state.map LineState.code).getD 0) 2 s]
  ++ be32 (txCount s) ++ [flagByte s.line.sending.isSome] ++ be32 s.line.inbound.length
  ++ be32 s.notices.length ++ optionalTime s.overflow

/-- Takes `n` free values. -/
def useFree (n : Nat) (s : State) : State := { s with free := s.free + n }

def queryStateResult (s : State) : RequestResult :=
  taken (stateFields s) (if s.join.state = .strapFault then useFree 3 s else s)

def execQueryState (s : State) : Host.Outcome State Fault Refusal :=
  .next (answer .queryState (queryStateResult s) s)

/-! ## QUERY-STATION (R39) -/

/-- Standing of an entry: ABSENT 0, PRESENT 1, SILENT 2 (log 17). -/
def standingCode : Option Heard → Nat
  | none => 0
  | some h => if h.silent then 2 else 1

/-- The fields of a PRESENT or SILENT entry, with the milliseconds since the last-heard time (R39, log 18).
The free slots take 1 byte and the milliseconds 4, sorts that Table 10-4 does not name (log 16). -/
def heardFields (s : State) (h : Heard) : List Byte :=
  [byte (Role.code h.role), byte h.cls] ++ be16 h.mark ++ timeBytes h.lastHeard
    ++ [byte h.depth, byte h.freeSlots, flagByte h.accepting, byte (PrinterState.code h.printer),
        flagByte h.lastCall]
    ++ be32 (elapsed s h.lastHeard)

/-- QUERY-STATION (R39). The served standing of the classes is sent as seven flags, class 1 first, the
model's choice (log 57). -/
def queryStationResult (n : Nat) (s : State) : RequestResult :=
  need (stationNumber n = true) .field <|
  let e := heard s n
  taken (byte (standingCode e) :: (optional 17 (e.map (heardFields s))
      ++ ((List.range 8).drop 1).map fun c => flagByte (classServed s c))) s

def execQueryStation (station : Nat) (s : State) : Host.Outcome State Fault Refusal :=
  .next (answer (.queryStation station) (queryStationResult station s) s)

/-! ## QUERY-TAB (R175) -/

/-- A line as QUERY-TAB gives it. -/
def lineFields (index : Nat) (l : TabLine) : List Byte :=
  [byte index, byte (TabLineState.code l.state), byte l.cls, byte l.qty] ++ be16 l.price
    ++ [byte l.taxGroup] ++ be16 l.deposit ++ [flagByte l.restricted] ++ Alloc.bytes l.alloc
    ++ optional 3 (l.place.map fun p => be16 p.1 ++ [byte p.2])

/-- The fields of a tab, and up to eight of its lines. -/
def tabFields (t : Tab) (first : Nat) : List Byte :=
  be16 t.code ++ [byte (TabState.code t.state)] ++ be16 t.operator ++ timeBytes t.openedAt
    ++ be32 t.lines.length ++ [byte t.shares.length] ++ be32 t.gross ++ be32 t.total
    ++ listBytes (((t.lines.zipIdx.drop first).take 8).map fun p => lineFields p.2 p.1)

def queryTabResult (code first : Nat) (s : State) : RequestResult :=
  withTab s code fun t => taken (tabFields t first) s

def execQueryTab (code first : Nat) (s : State) : Host.Outcome State Fault Refusal :=
  .next (answer (.queryTab code first) (queryTabResult code first s) s)

/-! ## QUERY-SHARE (R176) -/

/-- The hold fields: holder slot, holder station and mark, adrift reason (log 18). -/
def holdFields : ShareState → List Byte
  | .heldLocal slot => optional 1 (some [byte slot]) ++ optional 3 none ++ optional 1 none
  | .heldRemote st mark =>
      optional 1 none ++ optional 3 (some (byte st :: be16 mark)) ++ optional 1 none
  | .adrift st mark reason =>
      optional 1 none ++ optional 3 (some (byte st :: be16 mark))
        ++ optional 1 (some [byte (Lost.code reason)])
  | .opened | .empty | .paid _ => optional 1 none ++ optional 3 none ++ optional 1 none

/-- The payment fields: tender, settled amount, adjustment, settling station, operator, time. -/
def paymentFields : ShareState → List Byte
  | .paid p =>
      optional 1 (some [byte (Tender.code p.tender)]) ++ optional 4 (some (be32 p.settled))
        ++ optional 1 (some [adjustmentByte p.adjustment]) ++ optional 1 (some [byte p.station])
        ++ optional 2 (p.operator.map be16) ++ optionalTime (some p.time)
  | _ =>
      optional 1 none ++ optional 4 none ++ optional 1 none ++ optional 1 none ++ optional 2 none
        ++ optional 4 none

def shareFields (sh : Share) : List Byte :=
  [byte (ShareState.code sh.state), byte sh.discount] ++ amountsBytes sh.amounts
    ++ holdFields sh.state ++ paymentFields sh.state

def queryShareResult (code share : Nat) (s : State) : RequestResult :=
  withTab s code fun t =>
  match t.shares[share]? with
  | some sh => taken (shareFields sh) s
  | none => .error .field

def execQueryShare (code share : Nat) (s : State) : Host.Outcome State Fault Refusal :=
  .next (answer (.queryShare code share) (queryShareResult code share s) s)

/-! ## QUERY-TICKET (R177) -/

/-- Awardee lost: NONE, SILENT, RESTARTED (Table 4-1). -/
def lostCode : Option Lost → Nat
  | none => 0
  | some l => Lost.code l + 1

/-- The ticket wait: kind and milliseconds remaining. -/
def ticketWaitFields (s : State) : TicketWait → List Byte
  | .none => 0#8 :: be32 0
  | .offerWindow start => 1#8 :: be32 (remaining s start offerWindow)
  | .awardWait start => 2#8 :: be32 (remaining s start awardWait)

/-- The withdrawal of a position: attempt, 0 for none, and milliseconds remaining. While its WITHDRAW
has not ended no reply wait runs (R65) and the spec gives no value: 0 is sent, the model's choice
(log 50). -/
def withdrawalFields (s : State) (t : Ticket) (position : Nat) : List Byte :=
  match t.withdrawals.find? fun w => w.position == position with
  | some w => byte w.attempt :: be32 ((w.wait.map fun start => remaining s start replyWait).getD 0)
  | none => 0#8 :: be32 0

def ticketFields (s : State) (t : Ticket) : List Byte :=
  refBytes (Ticket.ref t) ++ [byte t.cls, byte t.slot, byte t.issue]
    ++ listBytes (t.positions.map fun line => [byte line])
    ++ [t.live, byte (Band.code t.priority), byte (TicketState.code t.state), byte t.attempt]
    ++ be32 t.repeats
    ++ optional 4 (t.awardee.map fun a => byte a.station :: (be16 a.mark ++ [byte a.depth]))
    ++ [byte (lostCode t.lost)]
    ++ optional 4 (t.stale.map fun h => byte h.station :: (be16 h.mark ++ [byte h.gen]))
    ++ [t.kmask, flagByte t.late]
    ++ optionalTime (some t.sent) ++ optionalTime t.placed ++ optionalTime t.ready
    ++ ticketWaitFields s t.wait ++ (List.range 8).flatMap (withdrawalFields s t)

def queryTicketResult (number : Nat) (s : State) : RequestResult :=
  match ticketOf s number with
  | some t => taken (ticketFields s t) s
  | none => .error .unknown

def execQueryTicket (number : Nat) (s : State) : Host.Outcome State Fault Refusal :=
  .next (answer (.queryTicket number) (queryTicketResult number s) s)

/-! ## QUERY-QUEUE (R178) -/

/-- Inserts an entry before the first that it precedes. -/
def insertBy (lt : Entry → Entry → Bool) (e : Entry) : List Entry → List Entry
  | [] => [e]
  | x :: xs => if lt e x then e :: x :: xs else x :: insertBy lt e xs

/-- Entries in the order `lt`. -/
def sortBy (lt : Entry → Entry → Bool) (es : List Entry) : List Entry :=
  es.foldl (fun acc e => insertBy lt e acc) []

/-- The stamp of an entry's bid. -/
def bidStamp (e : Entry) : Nat := (e.bid.map Bid.seq).getD 0

/-- The order of the ENTRIES part: QUEUED in band order, then FIRED and REVOKED-FIRED as they fired,
then TENTATIVE as their bids started. -/
def entriesShown (s : State) : List Entry :=
  let es := s.kitchen.entries
  sortBy (before s) (es.filter fun e => e.state == .queued)
    ++ sortBy (fun a b => a.firedSeq < b.firedSeq) (es.filter Entry.cooking)
    ++ sortBy (fun a b => bidStamp a < bidStamp b) (es.filter fun e => e.state == .tentative)

def entryFields (e : Entry) : List Byte :=
  byte e.origin :: (be16 e.mark ++ refBytes (Entry.ref e)
    ++ [byte (Band.code e.priority), byte (Band.code e.band), byte (EntryState.code e.state)]
    ++ be32 e.lines.length ++ [liveMask e.lines] ++ optionalTime e.arrival
    ++ [flagByte e.warn, flagByte e.late, byte (PrintState.code e.print)]
    ++ optional 2 (e.bid.map fun b => [byte b.gen, byte (BidStage.code b.stage)]))

def passFields (p : PassEntry) : List Byte :=
  byte p.origin :: (be16 p.mark ++ refBytes ⟨p.number, p.gen⟩ ++ [p.live] ++ timeBytes p.bumped
    ++ be32 p.sends)

def lapsedFields (l : Lapsed) : List Byte :=
  byte l.origin :: (be16 l.mark ++ be16 l.number ++ [byte l.gen, byte (Band.code l.priority)]
    ++ be32 l.lines.length ++ timeBytes l.time)

def laneFields (t : LaneTicket) : List Byte :=
  byte t.origin :: (refBytes t.ref ++ [byte t.next] ++ be32 t.image.length ++ [flagByte t.reprint])

/-- The PORT part: the lanes are one or two by the lane mode. At a till, whose lane mode has no effect
(R121), the spec does not say how many are listed: the MODE strap decides there too, the model's choice
(log 47). -/
def portFields (s : State) : List Byte :=
  let p := s.port
  let lanes := if dualLane s then [p.left, p.right] else [p.left]
  [byte (PortState.code p.state)] ++ optional 1 (p.faultKind.map fun k => [byte (FaultKind.code k)])
    ++ be32 ((p.retryFrom.map fun start => remaining s start retryInterval).getD 0)
    ++ [flagByte p.cutOwed, orFree (modeFormed s) (laneModeCode s) 0 s]
    ++ lanes.flatMap (fun t => optional 10 (t.map laneFields))
    ++ listBytes (p.list.map fun it =>
        byte it.origin :: (be16 it.number ++ [flagByte it.reprint]))

def queryQueueResult (part first : Nat) (s : State) : RequestResult :=
  match part with
  | 0 => taken ([byte (depth s), byte s.join.figures.fire]
      ++ listBytes ((((entriesShown s).drop first).take 8).map entryFields)) s
  | 1 => taken (listBytes (s.kitchen.pass.map passFields)) s
  | 2 => taken (listBytes (s.kitchen.lapsed.map lapsedFields)) s
  | 3 => taken (portFields s) (if modeFormed s then s else useFree 1 s)
  | _ => .error .field

def execQueryQueue (part first : Nat) (s : State) : Host.Outcome State Fault Refusal :=
  .next (answer (.queryQueue part first) (queryQueueResult part first s) s)

/-! ## QUERY-BORROWED (R179) -/

/-- The running wait: kind and milliseconds remaining. -/
def borrowedWaitFields (s : State) : BorrowedWait → List Byte
  | .none => 0#8 :: be32 0
  | .ask start => 1#8 :: be32 (remaining s start askWait)
  | .hold start => 2#8 :: be32 (remaining s start holdLimit)
  | .again start => 3#8 :: be32 (remaining s start repeatWait)

/-- An entry's fields; an attempts figure above 255 does not fit its byte (log 36). A BORROWED or
ORPHANED entry shows the last figure it had, the model's choice (log 49). -/
def borrowedFields (s : State) (b : Borrowed) : List Byte :=
  be16 b.code ++ [byte b.share, byte b.slot, byte (BorrowedState.code b.state)] ++ be16 b.homeMark
    ++ [flagByte b.homeSilent] ++ optional 36 (b.amounts.map amountsBytes)
    ++ optional 1 (b.taken.map fun p => [byte (Tender.code p.tender)])
    ++ optional 4 (b.taken.map fun p => be32 p.settled)
    ++ optional 1 (b.taken.map fun p => [adjustmentByte p.adjustment])
    ++ timeBytes b.created ++ optionalTime b.granted ++ optionalTime b.paid
    ++ [orFree (b.attempts < 256) b.attempts 0 s] ++ borrowedWaitFields s b.wait

def queryBorrowedResult (position : Nat) (s : State) : RequestResult :=
  need (position ≤ 7) .field <|
  match s.borrowed[position]? with
  | some b =>
      taken (be32 s.borrowed.length ++ borrowedFields s b)
        (if b.attempts < 256 then s else useFree 1 s)
  | none => taken (be32 s.borrowed.length) s

def execQueryBorrowed (position : Nat) (s : State) : Host.Outcome State Fault Refusal :=
  .next (answer (.queryBorrowed position) (queryBorrowedResult position s) s)

/-! ## QUERY-TOTALS (R164) -/

/-- The station's totals: the closed shifts and every signed-on slot. -/
def stationTotals (s : State) : Totals :=
  s.slots.toList.foldl (fun t r => match r with
    | some r => Totals.add t r.totals
    | none => t) s.closed.totals

def slotFields (r : SlotRecord) : List Byte :=
  be16 r.operator ++ [byte r.level] ++ timeBytes r.since ++ Totals.bytes r.totals

def queryTotalsResult (slot : Nat) (s : State) : RequestResult :=
  need (slot ≤ 3) .field <|
  taken (optional 37 ((slotOf s slot).map slotFields) ++ Totals.bytes s.closed.totals
    ++ be32 s.closed.shifts ++ Totals.bytes (stationTotals s)) s

def execQueryTotals (slot : Nat) (s : State) : Host.Outcome State Fault Refusal :=
  .next (answer (.queryTotals slot) (queryTotalsResult slot s) s)

end Sys2Proof.Machine
end

