-- ==== Sys2Proof/Machine/Link.lean ====
section
/-! DEFINITION. The terminal link (chapter 10): the phases of a transaction, byte by byte or as a
whole, and FETCH. -/

namespace Sys2Proof.Machine

/-- SEL falls in REST: the link enters KIND (R167). With SEL still asserted from before a reset no
transaction begins (R170). -/
def execTransactionBegin (s : State) : Host.Outcome State Fault Refusal :=
  if s.link.phase = .rest ∧ s.link.sel = false then
    .next { s with link := { Link.atRest true with phase := .kind } }
  else .next s

/-- SEL rises: the link returns to REST; an unfinished FETCH removes nothing (R167, R173). -/
def execSelRise (s : State) : Host.Outcome State Fault Refusal :=
  .next { s with link := Link.atRest false }

/-- The link once the eighth rising edge of the turnaround byte has shown the transaction to be ignored
(R168). -/
def ignoringLink (kind : Byte) (body : List Byte) : Link :=
  { Link.atRest true with
    sck := true, phase := .ignoring, kind := kind, length := body.length, body := body }

/-- IGNORED_TRANSACTION: an unknown kind or a wrong body length; no block is changed (R168). A kind
and body that spell a request are not ignored: nothing happens here. -/
def execIgnoredTransaction (kind : Byte) (body : List Byte) (s : State) :
    Host.Outcome State Fault Refusal :=
  match decodeRequest kind body with
  | none => .next { s with link := ignoringLink kind body }
  | some _ => .next s

/-! ## FETCH (R173) -/

/-- What a FETCH returns when it is taken, and its reply body. -/
def fetchTaken (s : State) : Fetching × List Byte :=
  match s.overflow, s.notices with
  | some loss, _ => (.overflow none, overflowBytes (now s) loss)
  | none, n :: _ => (.notice, Notice.bytes n)
  | none, [] => (.empty, [])

def execFetch (s : State) : Host.Outcome State Fault Refusal :=
  let f := fetchTaken s
  .next { s with link := replying .fetch { code := .done, body := f.2 } (some f.1) }

/-- What the end of a FETCH's reply removes (R173). -/
def fetchDone (f : Fetching) (s : State) : State :=
  match f with
  | .empty => s
  | .notice => { s with notices := s.notices.tail }
  | .overflow loss => { s with overflow := loss }

/-- The number of bytes of a reply. -/
def replyLength (l : Link) : Nat := ((l.reply.map Reply.bytes).getD []).length

/-- The last reply byte has been clocked out: SPENT, and a FETCH takes effect (R167, R173). -/
def replyEnds (s : State) : State :=
  let s' := { s with link := { s.link with
    phase := .spent, bits := [], clocked := replyLength s.link, fetching := none } }
  match s.link.fetching with
  | some f => fetchDone f s'
  | none => s'

/-- Changes the link. -/
def updLink (f : Link → Link) (s : State) : State := { s with link := f s.link }

/-- The last bit of the reply, which SDO carries at the last rising edge of a reply (R166). -/
def lastReplyBit (l : Link) : Bool :=
  (((l.reply.map Reply.bytes).getD []).getLast?.getD 0xFF#8).getLsbD 0

/-- FETCH_REPLY_END: the rest of a FETCH's reply is clocked out, up to its last rising edge (log 6). -/
def execFetchReplyEnd (s : State) : Host.Outcome State Fault Refusal :=
  match s.link.phase, s.link.fetching with
  | .reply, some _ =>
      .next (replyEnds (updLink (fun l => { l with sck := true, sdoBit := lastReplyBit l }) s))
  | _, _ => .next s

/-! ## Bytes (R166 to R170) -/

/-- The request decoded at the end of the turnaround byte is handed to its block (R170). -/
def takeRequest (i : Instr) (s : State) : Host.Outcome State Fault Refusal :=
  match i with
  | .configure fields => execConfigure fields s
  | .start => execStart s
  | .signOn operator level => execSignOn operator level s
  | .signOff slot => execSignOff slot s
  | .openTab slot => execOpenTab slot s
  | .addLine slot code line => execAddLine slot code line s
  | .voidLine slot code line => execVoidLine slot code line s
  | .wasteLine slot code line => execWasteLine slot code line s
  | .closeTab slot code => execCloseTab slot code s
  | .lastCall slot => execLastCall slot s
  | .split slot code count => execSplit slot code count s
  | .assign slot code line kind share weights => execAssign slot code line kind share weights s
  | .discount slot code share percent => execDiscount slot code share percent s
  | .send slot code priority => execSend slot code priority s
  | .retryTicket slot number => execRetryTicket slot number s
  | .collect slot number => execCollect slot number s
  | .take slot code share => execTake slot code share s
  | .pay slot code share tender tendered => execPay slot code share tender tendered s
  | .giveBack slot code share => execGiveBack slot code share s
  | .takeRemote slot code share => execTakeRemote slot code share s
  | .forceRelease slot code share => execForceRelease slot code share s
  | .clearOrphan slot code share => execClearOrphan slot code share s
  | .bump slot origin number => execBump slot origin number s
  | .reprint slot origin number => execReprint slot origin number s
  | .clearPrinter slot => execClearPrinter slot s
  | .fetch => execFetch s
  | .queryState => execQueryState s
  | .queryStation station => execQueryStation station s
  | .queryTab code first => execQueryTab code first s
  | .queryShare code share => execQueryShare code share s
  | .queryTicket number => execQueryTicket number s
  | .queryQueue part first => execQueryQueue part first s
  | .queryBorrowed position => execQueryBorrowed position s
  | .queryTotals slot => execQueryTotals slot s
  | _ => .next s

/-- A byte of SDI is complete at its eighth rising edge, with one byte of SDO (Table 10-2, R167). -/
def byteComplete (sdi : Byte) (s : State) : Host.Outcome State Fault Refusal :=
  match s.link.phase with
  | .rest | .spent | .ignoring => .next s
  | .kind => .next (updLink (fun l => { l with kind := sdi, phase := .length }) s)
  | .length =>
      .next (updLink (fun l =>
        { l with length := sdi.toNat, phase := if sdi = 0#8 then .turnaround else .body }) s)
  | .body =>
      .next (updLink (fun l =>
        { l with body := l.body ++ [sdi],
                 phase := if l.body.length + 1 < l.length then .body else .turnaround }) s)
  | .turnaround =>
      match decodeRequest s.link.kind s.link.body with
      | some i => takeRequest i s
      | none => .next { s with link := ignoringLink s.link.kind s.link.body }
  | .reply =>
      if s.link.clocked + 1 < replyLength s.link then
        .next (updLink (fun l => { l with clocked := l.clocked + 1 }) s)
      else .next (replyEnds s)

/-- A rising edge of SCK samples SDI, most significant bit first, and the eighth completes the byte
(R166). SDO does not change. -/
def clockRise (sdi : Bool) (s : State) : Host.Outcome State Fault Refusal :=
  let bits := s.link.bits ++ [sdi]
  if bits.length < 8 then .next (updLink (fun l => { l with sck := true, bits := bits }) s)
  else byteComplete (byteOfLink bits) (updLink (fun l => { l with sck := true, bits := [] }) s)

/-- A falling edge of SCK changes SDO to the next bit; after the eighth rising edge of a byte that is the
first bit of the next byte (R166). -/
def clockFall (s : State) : Host.Outcome State Fault Refusal :=
  .next (updLink (fun l => { l with sck := false, sdoBit := nextSdoBit s }) s)

/-- An edge of SCK. In REST it is disregarded (R166; with SEL asserted since before a reset, log 37); a rise
with SCK high or a fall with SCK low is no edge. -/
def clockEdge (e : ClockEdge) (s : State) : Host.Outcome State Fault Refusal :=
  if s.link.phase = .rest then .next s
  else
    match e, s.link.sck with
    | .rise sdi, false => clockRise sdi s
    | .fall, true => clockFall s
    | .rise _, true | .fall, false => .next s

/-- LINK_BYTE_COMPLETE: the edges of SCK up to the completion of a byte, fewer, or more, each acting in its
turn (R166, log 37). A rise of SEL discards the bits of a byte in progress. -/
def execLinkByteComplete (edges : List ClockEdge) (s : State) : Host.Outcome State Fault Refusal :=
  match edges with
  | [] => .next s
  | e :: es =>
      match clockEdge e s with
      | .next t => execLinkByteComplete es t
      | .fault f => .fault f
      | .refused r => .refused r

end Sys2Proof.Machine
end

