-- ==== Sys2Proof/Machine/Reset.lean ====
section
/-! DEFINITION. RESET (R23, Tables 1-7, 2-7, 3-9, 4-8, 5-5, 6-5, 7-9, 8-7, 9-4, 10-9). -/

namespace Sys2Proof.Machine

/-- The state after a reset that reads these straps: every block as it is after reset, the levels on
the input pins as they stand (log 34), the waiting commands and the free counter kept (log 35). -/
def resetTo (straps : Straps) (s : State) : State :=
  let r := State.afterReset straps
  { r with
    pending := s.pending
    free := s.free
    port := { r.port with busyPin := s.port.busyPin, faultPin := s.port.faultPin }
    link := Link.atRest s.link.sel }

/-- RESET: power-on, or RESET asserted and released. -/
def execReset (straps : Straps) (s : State) : Host.Outcome State Fault Refusal :=
  .next (resetTo straps s)

end Sys2Proof.Machine
end

