-- ==== Sys2Proof/Machine/Dispatch.lean ====
section
/-! DEFINITION. The meaning of each command, one arm for each row of spec/opcode_table.json. -/

namespace Sys2Proof.Machine

def exec (i : Instr) (s : State) : Host.Outcome State Fault Refusal :=
  match i with
  | .reset straps => Sys2Proof.Machine.execReset straps s
  | .transactionBegin => Sys2Proof.Machine.execTransactionBegin s
  | .selRise => Sys2Proof.Machine.execSelRise s
  | .ignoredTransaction kind body => Sys2Proof.Machine.execIgnoredTransaction kind body s
  | .configure fields => Sys2Proof.Machine.execConfigure fields s
  | .start => Sys2Proof.Machine.execStart s
  | .signOn operator level => Sys2Proof.Machine.execSignOn operator level s
  | .signOff slot => Sys2Proof.Machine.execSignOff slot s
  | .openTab slot => Sys2Proof.Machine.execOpenTab slot s
  | .addLine slot code line => Sys2Proof.Machine.execAddLine slot code line s
  | .voidLine slot code line => Sys2Proof.Machine.execVoidLine slot code line s
  | .wasteLine slot code line => Sys2Proof.Machine.execWasteLine slot code line s
  | .closeTab slot code => Sys2Proof.Machine.execCloseTab slot code s
  | .lastCall slot => Sys2Proof.Machine.execLastCall slot s
  | .split slot code count => Sys2Proof.Machine.execSplit slot code count s
  | .assign slot code line kind share weights => Sys2Proof.Machine.execAssign slot code line kind share weights s
  | .discount slot code share percent => Sys2Proof.Machine.execDiscount slot code share percent s
  | .send slot code priority => Sys2Proof.Machine.execSend slot code priority s
  | .retryTicket slot number => Sys2Proof.Machine.execRetryTicket slot number s
  | .collect slot number => Sys2Proof.Machine.execCollect slot number s
  | .take slot code share => Sys2Proof.Machine.execTake slot code share s
  | .pay slot code share tender tendered => Sys2Proof.Machine.execPay slot code share tender tendered s
  | .giveBack slot code share => Sys2Proof.Machine.execGiveBack slot code share s
  | .takeRemote slot code share => Sys2Proof.Machine.execTakeRemote slot code share s
  | .forceRelease slot code share => Sys2Proof.Machine.execForceRelease slot code share s
  | .clearOrphan slot code share => Sys2Proof.Machine.execClearOrphan slot code share s
  | .bump slot origin number => Sys2Proof.Machine.execBump slot origin number s
  | .reprint slot origin number => Sys2Proof.Machine.execReprint slot origin number s
  | .clearPrinter slot => Sys2Proof.Machine.execClearPrinter slot s
  | .fetch => Sys2Proof.Machine.execFetch s
  | .fetchReplyEnd => Sys2Proof.Machine.execFetchReplyEnd s
  | .queryState => Sys2Proof.Machine.execQueryState s
  | .queryStation station => Sys2Proof.Machine.execQueryStation station s
  | .queryTab code first => Sys2Proof.Machine.execQueryTab code first s
  | .queryShare code share => Sys2Proof.Machine.execQueryShare code share s
  | .queryTicket number => Sys2Proof.Machine.execQueryTicket number s
  | .queryQueue part first => Sys2Proof.Machine.execQueryQueue part first s
  | .queryBorrowed position => Sys2Proof.Machine.execQueryBorrowed position s
  | .queryTotals slot => Sys2Proof.Machine.execQueryTotals slot s
  | .receptionEnd => Sys2Proof.Machine.execReceptionEnd s
  | .transmissionStart => Sys2Proof.Machine.execTransmissionStart s
  | .transmissionComplete => Sys2Proof.Machine.execTransmissionComplete s
  | .collision heard => Sys2Proof.Machine.execCollision heard s
  | .jamEnd => Sys2Proof.Machine.execJamEnd s
  | .joinWindowEnd => Sys2Proof.Machine.execJoinWindowEnd s
  | .presenceTimerExpiry => Sys2Proof.Machine.execPresenceTimerExpiry s
  | .silenceTimerExpiry station => Sys2Proof.Machine.execSilenceTimerExpiry station s
  | .presence dest src p => Sys2Proof.Machine.execPresence dest src p s
  | .offer dest src o => Sys2Proof.Machine.execOffer dest src o s
  | .bid dest src origin ref depth => Sys2Proof.Machine.execBid dest src origin ref depth s
  | .bidHeardAtKitchen dest src origin ref depth => Sys2Proof.Machine.execBidHeardAtKitchen dest src origin ref depth s
  | .award dest src ref awardee mask => Sys2Proof.Machine.execAward dest src ref awardee mask s
  | .progress dest src ref kstate mask => Sys2Proof.Machine.execProgress dest src ref kstate mask s
  | .withdraw dest src ref position => Sys2Proof.Machine.execWithdraw dest src ref position s
  | .withdrawReply dest src ref position outcome nowEmpty => Sys2Proof.Machine.execWithdrawReply dest src ref position outcome nowEmpty s
  | .revoke dest src ref => Sys2Proof.Machine.execRevoke dest src ref s
  | .collectFrame dest src ref => Sys2Proof.Machine.execCollectFrame dest src ref s
  | .lastCallFrame dest src => Sys2Proof.Machine.execLastCallFrame dest src s
  | .shareAsk dest src code share => Sys2Proof.Machine.execShareAsk dest src code share s
  | .shareGrant dest src code share amounts => Sys2Proof.Machine.execShareGrant dest src code share amounts s
  | .shareDeny dest src code share reason => Sys2Proof.Machine.execShareDeny dest src code share reason s
  | .shareSettle dest src code share tender settled adjustment => Sys2Proof.Machine.execShareSettle dest src code share tender settled adjustment s
  | .shareReturn dest src code share => Sys2Proof.Machine.execShareReturn dest src code share s
  | .shareClose dest src code share outcome => Sys2Proof.Machine.execShareClose dest src code share outcome s
  | .offerWindowExpiry number => Sys2Proof.Machine.execOfferWindowExpiry number s
  | .awardWaitExpiry number => Sys2Proof.Machine.execAwardWaitExpiry number s
  | .withdrawReplyWaitExpiry number position => Sys2Proof.Machine.execWithdrawReplyWaitExpiry number position s
  | .bidDelayExpiry origin number => Sys2Proof.Machine.execBidDelayExpiry origin number s
  | .tentativeExpiry origin number => Sys2Proof.Machine.execTentativeExpiry origin number s
  | .lapsedItemExpiry origin number => Sys2Proof.Machine.execLapsedItemExpiry origin number s
  | .warnTimerExpiry origin number => Sys2Proof.Machine.execWarnTimerExpiry origin number s
  | .lateTimerExpiry origin number => Sys2Proof.Machine.execLateTimerExpiry origin number s
  | .passReadyRepeat origin number => Sys2Proof.Machine.execPassReadyRepeat origin number s
  | .passExpiry origin number => Sys2Proof.Machine.execPassExpiry origin number s
  | .askWaitExpiry code share => Sys2Proof.Machine.execAskWaitExpiry code share s
  | .holdLimitExpiry code share => Sys2Proof.Machine.execHoldLimitExpiry code share s
  | .repeatWaitExpiry code share => Sys2Proof.Machine.execRepeatWaitExpiry code share s
  | .printerLineAccepted => Sys2Proof.Machine.execPrinterLineAccepted s
  | .cutAccepted => Sys2Proof.Machine.execCutAccepted s
  | .handshakeLimitExpiry => Sys2Proof.Machine.execHandshakeLimitExpiry s
  | .faultAsserted => Sys2Proof.Machine.execFaultAsserted s
  | .faultReleased => Sys2Proof.Machine.execFaultReleased s
  | .deglitchTimerExpiry => Sys2Proof.Machine.execDeglitchTimerExpiry s
  | .retryCheck => Sys2Proof.Machine.execRetryCheck s
  | .recoveryEnd => Sys2Proof.Machine.execRecoveryEnd s
  | .lineTransition halves => Sys2Proof.Machine.execLineTransition halves s
  | .syncPatternMatch => Sys2Proof.Machine.execSyncPatternMatch s
  | .destinationCharacter => Sys2Proof.Machine.execDestinationCharacter s
  | .frameAbandoned => Sys2Proof.Machine.execFrameAbandoned s
  | .linkByteComplete edges => Sys2Proof.Machine.execLinkByteComplete edges s
  | .strobeReleased => Sys2Proof.Machine.execStrobeReleased s
  | .busyAsserted => Sys2Proof.Machine.execBusyAsserted s
  | .busyReleased => Sys2Proof.Machine.execBusyReleased s

end Sys2Proof.Machine
end

