-- ==== Sys2Proof/Machine/Step.lean ====
section
/-! DEFINITION. One step: the command at the front of the queue, or half a bit time when none
waits. -/

namespace Sys2Proof.Machine

/-- Takes the command at the front of the queue and executes it on the state with the queue's rest. On
an empty queue half a bit time passes (log 1). -/
def step (s : State) : Host.Outcome State Fault Refusal :=
  match s.pending with
  | [] => .next (advance 1 s)
  | c :: rest => exec c { s with pending := rest }

/-- Puts the command that a word of the table spells at the front of the queue; a word that spells
none changes nothing. -/
def State.withFetchWord (s : State) (nbits w : Nat) : State :=
  match decodeTableWord nbits w with
  | some c => { s with pending := c :: s.pending }
  | none => s

end Sys2Proof.Machine
end

