-- ==== Sys2Proof/Safety.lean ====
section
/-! DEFINITION. The invariants of the block, the hypotheses and frames in whose terms the statements
are written, and runs of several commands. -/

namespace Sys2Proof.Machine

/-! ## Invariants -/

/-- No queue and no table holds more than the spec gives it room for (R12, R14, R60, R83, R88, R101,
R146, R171), and the waiting frames stand in deferral-class order (R14). -/
abbrev State.QueuesSound (s : State) : Prop :=
  s.line.inbound.length ≤ 8 ∧ txCount s ≤ 16 ∧ s.notices.length ≤ 32 ∧ s.tickets.length ≤ 32
    ∧ s.kitchen.entries.length ≤ 24 ∧ s.kitchen.lapsed.length ≤ 4 ∧ s.kitchen.pass.length ≤ 12
    ∧ s.borrowed.length ≤ 8 ∧ s.line.waiting.Pairwise fun a b => a.cls ≤ b.cls

/-- At a till the kitchen queue holds nothing and the printer port stays in IDLE with its lanes idle
and its list empty (R83, chapter 5; R121). -/
abbrev State.TillPrintsNothing (s : State) : Prop :=
  role s = .till →
    s.kitchen.entries = [] ∧ s.kitchen.lapsed = [] ∧ s.kitchen.pass = []
      ∧ s.port.state = .idle ∧ s.port.left = none ∧ s.port.right = none ∧ s.port.list = []
      ∧ s.port.job = .none ∧ s.port.stage = .rest ∧ s.port.deglitch = .off ∧ s.port.pd = 0#8

/-- At a kitchen no tab, no ticket record and no borrowed share is held: their blocks are used at tills
(chapters 3, 4 and 8). -/
abbrev State.KitchenKeepsNoTabs (s : State) : Prop :=
  role s = .kitchen →
    (∀ e ∈ s.tabs.toList, e.tab = none) ∧ s.tickets = [] ∧ s.borrowed = []

/-- Violations are counted only in TAKE and only while the newest cell is one: a good cell sets the count
back to 0 (R10). -/
abbrev Receiver.CountSound (r : Receiver) : Prop :=
  r.violation ≠ 0 → r.state = .take ∧ r.cells.head? = some .violation

/-- The line follows the join state: a frame waits or is in transmission only ON-LINE (R15, R22), one is
in transmission exactly while the station drives the pair (R3, R18), the receiver is OFF exactly while
the station is not joined (R8) and counts violations as R10 has it, and there is a line state exactly with
valid straps, which are the straps of every state but STRAP-FAULT (R3, R23). -/
abbrev State.LineFollowsJoin (s : State) : Prop :=
  (s.join.state ≠ .onLine → s.line.waiting = [] ∧ s.line.sending = none)
    ∧ (driving s = true ↔ s.line.sending.isSome = true)
    ∧ (s.line.rx.state = .off ↔ joined s = false) ∧ Receiver.CountSound s.line.rx
    ∧ (s.line.state = none ↔ s.join.state = .strapFault)
    ∧ (s.join.state = .strapFault ↔ Straps.invalid s.straps = true)

/-- The running millisecond holds fewer half bit times than a millisecond has. -/
abbrev State.ClockSound (s : State) : Prop := s.clock.msPhase < Straps.halvesPerMs s.straps

/-- The station table entry of the station's own number stays ABSENT (R34). -/
abbrev State.OwnEntryAbsent (s : State) : Prop := heard s (station s) = none

/-- At most F entries are FIRED or REVOKED-FIRED, no two entries are of one origin and number (R83),
and a station that does not receive holds no entry. -/
abbrev State.WithinFireCapacity (s : State) : Prop :=
  cookingCount s ≤ s.join.figures.fire ∧ (joined s = false → s.kitchen.entries = [])
    ∧ (s.kitchen.entries.map fun e => (e.origin, e.number)).Nodup

/-- No two ticket records are of one number, every number is 1-4095 (R60, R61); no two borrowed-share
entries are of one code and share (R146), no two pass entries (R101) and no two lapsed-bid items (R88)
of one origin and number. -/
abbrev State.NamesUnique (s : State) : Prop :=
  (s.tickets.map Ticket.number).Nodup ∧ s.tickets.length ≤ 32
    ∧ (∀ t ∈ s.tickets, 1 ≤ t.number ∧ t.number ≤ 4095)
    ∧ 1 ≤ s.nextTicket ∧ s.nextTicket ≤ 4095
    ∧ (s.borrowed.map fun b => (b.code, b.share)).Nodup
    ∧ (s.kitchen.pass.map fun p => (p.origin, p.number)).Nodup
    ∧ (s.kitchen.lapsed.map fun l => (l.origin, l.number)).Nodup

/-- A tab of a slot, as the spec keeps it: its code names this station, its slot and the slot's issue
(R41), it has up to 24 lines and 1 to 8 shares (Table 3-1), its goods gross is the sum over its counted
lines (R48) and within 500,000 cents (R45), and an OPEN tab has no share held, adrift or paid
(Table 3-7). -/
abbrev Tab.Sound (home slot issue : Nat) (t : Tab) : Prop :=
  t.code = tabCode home slot issue ∧ t.lines.length ≤ 24 ∧ 1 ≤ t.shares.length
    ∧ t.shares.length ≤ 8
    ∧ t.gross = ((t.lines.filter TabLine.counted).map TabLine.gross).sum ∧ t.gross ≤ 500000
    ∧ (t.state = .opened → Tab.locked t = false)

/-- Every tab is sound, and every issue counter is 0-31 (R40). -/
abbrev State.TabsSound (s : State) : Prop :=
  ∀ (slot : Nat) (e : TabSlot), s.tabs[slot]? = some e →
    e.issue < 32 ∧ ∀ t : Tab, e.tab = some t → Tab.Sound (station s) slot e.issue t

/-! ## Hypotheses -/

/-- A request of a till's signed-on slot, of at most this level number. -/
abbrev TillSlot (s : State) (slot level : Nat) (r : SlotRecord) : Prop :=
  s.join.state ≠ .strapFault ∧ role s = .till ∧ slotOf s slot = some r ∧ r.level ≤ level

/-- A request of a kitchen's signed-on slot; a slot's level is 0 to 3. -/
abbrev KitchenSlot (s : State) (slot : Nat) (r : SlotRecord) : Prop :=
  s.join.state ≠ .strapFault ∧ role s = .kitchen ∧ slotOf s slot = some r ∧ r.level ≤ 3

/-- ON-LINE with `n` free entries in the transmit queue (R15). -/
abbrev CanSend (s : State) (n : Nat) : Prop := s.join.state = .onLine ∧ n ≤ freeTx s

/-- A frame that is delivered now: valid, for this station, and at the head of the inbound queue, or,
with that queue empty and this station not driving the pair, straight from the line (R8, R9, R11, R13;
log 4). -/
abbrev Arrives (s : State) (f : Frame) : Prop :=
  joined s = true ∧ Frame.valid f = true ∧ acceptsDest s f.dest = true
    ∧ (s.line.inbound = [] ∧ driving s = false ∨ s.line.inbound.head? = some f)

/-- A frame of another station that is delivered now. -/
abbrev Delivers (s : State) (f : Frame) : Prop := Arrives s f ∧ f.src ≠ station s

/-- Delivery to a till that is ON-LINE. -/
abbrev TillDelivers (s : State) (f : Frame) : Prop :=
  Delivers s f ∧ role s = .till ∧ s.join.state = .onLine

/-- Delivery to a kitchen that is ON-LINE. -/
abbrev KitchenDelivers (s : State) (f : Frame) : Prop :=
  Delivers s f ∧ role s = .kitchen ∧ s.join.state = .onLine

/-- A timer that began at `start` has run its `limit`, and no time need pass. -/
abbrev Due (s : State) (start : Time) (limit : Nat) : Prop := limit ≤ elapsed s start

/-! ## What a command leaves, and what stays as it was -/

/-- Everything outside the terminal link is as it was. -/
abbrev OnlyLink (s t : State) : Prop := t = { s with link := t.link }

/-- A request has been answered with this reply, none of it clocked (R167, R169). -/
abbrev Replied (t : State) (code : ReplyCode) (body : List Byte) : Prop :=
  t.link.phase = .reply ∧ t.link.reply = some { code := code, body := body } ∧ t.link.clocked = 0
    ∧ t.link.fetching = none

/-- A request has queued one notice (R171), dated with the time at `s`. -/
abbrev Reported (s t : State) (b : NoticeBody) : Prop :=
  t.notices = (notify b s).notices ∧ t.overflow = (notify b s).overflow

/-- An event has queued one notice (R171); a notice lost while an OVERFLOW is read out is also noted
in the link (R173). -/
abbrev Notified (s t : State) (b : NoticeBody) : Prop :=
  Reported s t b ∧ t.link = (notify b s).link

/-- One new frame has joined the transmit queue in its place (R14); nothing else of the line
controller has changed. -/
abbrev Sends (s t : State) (dest : Nat) (body : FrameBody) (wait : Bool) : Prop :=
  t.line = { s.line with waiting := joinQueue (newItem s dest body wait) s.line.waiting }

/-- Every tab slot but this one is as it was. -/
abbrev OtherSlots (s t : State) (slot : Nat) : Prop :=
  ∀ i : Nat, i ≠ slot → t.tabs[i]? = s.tabs[i]?

/-- The tab of a slot has become `tb` and is checked for freeing (R56): CLOSED, with every line finished and
no ticket record left that refers to it, it loses its slot, with TAB-FREED; otherwise it stays. The slot
keeps its issue counter and every other slot is as it was. -/
abbrev TabChecked (s t : State) (slot : Nat) (tb : Tab) : Prop :=
  let freed : Prop := tb.state = .closed
    ∧ (∀ l : TabLine, l ∈ tb.lines → l.state = .served ∨ l.state = .void ∨ l.state = .waste)
    ∧ ∀ x : Ticket, x ∈ t.tickets → x.slot = slot → x.issue ≠ codeIssue tb.code
  OtherSlots s t slot
    ∧ (t.tabs[slot]?).map TabSlot.issue = (s.tabs[slot]?).map TabSlot.issue
    ∧ (freed → tabIn t slot = none ∧ Reported s t (.tabFreed tb.code))
    ∧ (¬freed → tabIn t slot = some tb ∧ t.notices = s.notices ∧ t.overflow = s.overflow)

/-- The same of an event: TAB-FREED, where it is queued, is all that the link hears of (R56, R173). -/
abbrev TabCheckedByEvent (s t : State) (slot : Nat) (tb : Tab) : Prop :=
  TabChecked s t slot tb
    ∧ (tabIn t slot = none → t.link = (notify (.tabFreed tb.code) s).link)
    ∧ (tabIn t slot ≠ none → t.link = s.link)

/-- The state in which the owner of a delivered frame acts: the frame has left the inbound queue, and
its source's last-heard time is now, unless its entry is ABSENT (R13, R35). -/
def arrived (f : Frame) (s : State) : State :=
  refresh f.src { s with line := { s.line with inbound := s.line.inbound.tail } }

/-- The tab with the share at this index replaced. -/
def Tab.withShare (index : Nat) (sh : Share) (t : Tab) : Tab :=
  { t with shares := t.shares.set index sh }

/-- The tab with the line at this index replaced. -/
def Tab.withLine (index : Nat) (l : TabLine) (t : Tab) : Tab :=
  { t with lines := t.lines.set index l }

/-- What the end of a frame, its completion or its drop, means to the waits that its owner times from it
(R65, R86, R148, R151). A frame whose end starts no wait, and a record that the frame does not name, leave
everything as it was. -/
abbrev OwnerHears (x : TxItem) (s t : State) : Prop :=
  (x.wait = false → t.tickets = s.tickets ∧ t.kitchen = s.kitchen ∧ t.borrowed = s.borrowed)
    ∧ (∀ n : Nat, ofTicket n x = false → ticketOf t n = ticketOf s n)
    ∧ (∀ origin n : Nat, bidOf origin n x = false → entryOf t origin n = entryOf s origin n)
    ∧ (∀ code share : Nat, ofBorrowed code share x = false →
        borrowedOf t code share = borrowedOf s code share)
    ∧ (x.wait = true →
      (∀ (o : OfferFields) (k : Ticket), x.frame.body = .offer o →
          ticketOf s o.ref.number = some k → k.gen = o.ref.gen → k.state = .offering →
          k.attempt = o.attempt →
          ticketOf t o.ref.number = some { k with wait := .offerWindow (now t) })
      ∧ (∀ (ref : Ref) (awardee : Nat) (mask : Byte) (k : Ticket) (a : Awardee),
          x.frame.body = .award ref awardee mask → ticketOf s ref.number = some k →
          k.gen = ref.gen → k.state = .placing → k.awardee = some a → a.station = awardee →
          ticketOf t ref.number = some { k with wait := .awardWait (now t) })
      ∧ (∀ (ref : Ref) (p : Nat) (k : Ticket), x.frame.body = .withdraw ref p →
          ticketOf s ref.number = some k → k.gen = ref.gen →
          ticketOf t ref.number = some { k with withdrawals := k.withdrawals.map fun w =>
            if w.position = p then { w with wait := some (now t) } else w })
      ∧ (∀ (origin depth : Nat) (ref : Ref) (e : Entry) (b : Bid),
          x.frame.body = .bid origin ref depth → entryOf s origin ref.number = some e →
          e.bid = some b → b.gen = ref.gen → b.stage = .queued →
          entryOf t origin ref.number
            = some { e with bid := some { b with stage := .awaiting (now t) } })
      ∧ (∀ (code share : Nat) (b : Borrowed), x.frame.body = .shareAsk code share →
          borrowedOf s code share = some b → b.state = .asking →
          borrowedOf t code share = some { b with wait := .ask (now t) })
      ∧ (∀ (code share settled : Nat) (tender : Tender) (adj : Int) (b : Borrowed),
          x.frame.body = .shareSettle code share tender settled adj →
          borrowedOf s code share = some b → b.state = .confirming →
          borrowedOf t code share = some { b with wait := .again (now t) })
      ∧ (∀ (code share : Nat) (b : Borrowed), x.frame.body = .shareReturn code share →
          borrowedOf s code share = some b → b.state = .returning →
          borrowedOf t code share = some { b with wait := .again (now t) }))

/-- A ticket record with its waits put aside. -/
def Ticket.waitless (k : Ticket) : Ticket :=
  { k with wait := .none, withdrawals := k.withdrawals.map fun w => { w with wait := none } }

/-- Only the waiting frames that satisfy `p` are cancelled; one in transmission goes on as it was, a frame
of its record still (R16). -/
abbrev CancelsWaiting (s t : State) (p : TxItem → Bool) : Prop :=
  t.line = { s.line with waiting := s.line.waiting.filter fun x => !p x }

/-- The same where the record is gone: one in transmission goes on, and its end starts no wait (R16,
log 28). -/
abbrev Cancels (s t : State) (p : TxItem → Bool) : Prop :=
  t.line = { s.line with
    waiting := s.line.waiting.filter fun x => !p x
    sending := s.line.sending.map (TxItem.disown p) }

/-- A ticket with a live line and no withdrawal in progress is reissued (R77): offered afresh under the
next generation, with this stale holder, REISSUED queued, and its OFFER behind the frames of `queue`. -/
abbrev Reissued (s t : State) (k : Ticket) (stale : Option StaleHolder) (cause : ReissueCause)
    (queue : List TxItem) : Prop :=
  t = { s with tickets := t.tickets, line := t.line, notices := t.notices, overflow := t.overflow,
               link := t.link }
    ∧ ticketOf t k.number = some { k with
        gen := (k.gen + 1) % 16, state := .offering, attempt := 0, repeats := 0, kmask := 0#8,
        awardee := none, placed := none, ready := none, late := false, lost := none, wait := .none,
        stale := stale }
    ∧ (∀ m : Nat, m ≠ k.number → ticketOf t m = ticketOf s m)
    ∧ Notified s t (.reissued ⟨k.number, (k.gen + 1) % 16⟩ (tabCode (station s) k.slot k.issue)
        (k.awardee.map Awardee.station) cause)
    ∧ t.line = { s.line with
        waiting := joinQueue
          (newItem s (64 + k.cls) (offerBody s { k with gen := (k.gen + 1) % 16, attempt := 0 }) true)
          queue
        sending := s.line.sending.map (TxItem.disown (ofTicket k.number)) }

/-- One ticket record has become `k`; every other record and every block but the notices is as it
was. -/
abbrev OnlyTicket (s t : State) (k : Ticket) : Prop :=
  t = { s with tickets := t.tickets, notices := t.notices, overflow := t.overflow, link := t.link }
    ∧ ticketOf t k.number = some k ∧ ∀ m : Nat, m ≠ k.number → ticketOf t m = ticketOf s m

/-- One share of the tab in a slot, which is not CLOSED, is now held or adrift in this state; the tab is
PAYING (R53), and every block but the tabs and the notices is as it was. -/
abbrev OnlyShare (s t : State) (slot i : Nat) (tb : Tab) (sh : Share) (state : ShareState) : Prop :=
  t = { s with tabs := t.tabs, notices := t.notices, overflow := t.overflow, link := t.link }
    ∧ OtherSlots s t slot
    ∧ tabIn t slot = some { Tab.withShare i { sh with state := state } tb with state := .paying }

/-- One borrowed entry has become `b`; every other entry and every block but the borrowed entries, the
line and the notices is as it was. -/
abbrev OnlyBorrowed (s t : State) (b : Borrowed) : Prop :=
  t = { s with borrowed := t.borrowed, line := t.line, notices := t.notices, overflow := t.overflow,
               link := t.link }
    ∧ borrowedOf t b.code b.share = some b
    ∧ ∀ c j : Nat, c ≠ b.code ∨ j ≠ b.share → borrowedOf t c j = borrowedOf s c j

/-- A borrowed entry is freed: its wait goes with it and its waiting frame is cancelled (R152). -/
abbrev FreesBorrowed (s t : State) (code share : Nat) : Prop :=
  t.borrowed = s.borrowed.filter (fun x => x.code != code || x.share != share)
    ∧ Cancels s t (ofBorrowed code share)

/-- One queue entry has become `e`; every other entry stays, and so does their number. -/
abbrev OnlyEntry (s t : State) (e : Entry) : Prop :=
  entryOf t e.origin e.number = some e
    ∧ (∀ x n : Nat, x ≠ e.origin ∨ n ≠ e.number → entryOf t x n = entryOf s x n)
    ∧ t.kitchen.entries.length = s.kitchen.entries.length

/-- The kitchen queue without the entry of this origin and number. -/
abbrev WithoutEntry (s : State) (origin number : Nat) : Kitchen :=
  { s.kitchen with entries := s.kitchen.entries.filter fun x =>
      x.origin != origin || x.number != number }

/-- The printer port is told that an entry has left the queue (R100, R114): its item leaves the print
list, and a lane goes on from its own copy, without the entry. -/
abbrev PortTold (s t : State) (origin number : Nat) : Prop :=
  let release : LaneTicket → LaneTicket := fun k =>
    if k.origin = origin ∧ k.ref.number = number then { k with held := false } else k
  t.port = { s.port with
    list := s.port.list.filter fun x => x.origin != origin || x.number != number
    left := s.port.left.map release, right := s.port.right.map release }

/-- The ticket a lane holds once it has taken the print list item of entry `e`: its image composed from
the entry as it stands (R110, R111). -/
abbrev takenBy (s : State) (e : Entry) (reprint : Bool) : LaneTicket :=
  { origin := e.origin, ref := ⟨e.number, e.gen⟩, image := image (ownClass s) (dualLane s) reprint e
    next := 0, reprint := reprint, held := true }

/-- The bytes of a printer line that carries these left and right parts: their 42 columns, or the left
part alone in single-lane mode, trailing spaces removed, then CR and LF (R112, R113). -/
abbrev lineBytes (s : State) (left right : List Byte) : List Byte :=
  let pad := fun bs : List Byte => bs ++ List.replicate (20 - bs.length) 0x20#8
  trimSpaces (if dualLane s then pad left ++ [0x20#8, 0x20#8] ++ pad right else left)
    ++ [0x0D#8, 0x0A#8]

/-- The frame that a delivery row delivers at a station of this role (Table 1-2): a BID is one row at a
till and another at a kitchen. None for the other commands. -/
def deliveredFrame (r : Role) : Instr → Option Frame
  | .presence dest src p => some ⟨dest, src, .presence p⟩
  | .offer dest src o => some ⟨dest, src, .offer o⟩
  | .bid dest src origin ref depth =>
      if r = .till then some ⟨dest, src, .bid origin ref depth⟩ else none
  | .bidHeardAtKitchen dest src origin ref depth =>
      if r = .kitchen then some ⟨dest, src, .bid origin ref depth⟩ else none
  | .award dest src ref awardee mask => some ⟨dest, src, .award ref awardee mask⟩
  | .progress dest src ref kstate mask => some ⟨dest, src, .progress ref kstate mask⟩
  | .withdraw dest src ref position => some ⟨dest, src, .withdraw ref position⟩
  | .withdrawReply dest src ref position outcome nowEmpty =>
      some ⟨dest, src, .withdrawReply ref position outcome nowEmpty⟩
  | .revoke dest src ref => some ⟨dest, src, .revoke ref⟩
  | .collectFrame dest src ref => some ⟨dest, src, .collect ref⟩
  | .lastCallFrame dest src => some ⟨dest, src, .lastCall⟩
  | .shareAsk dest src code share => some ⟨dest, src, .shareAsk code share⟩
  | .shareGrant dest src code share a => some ⟨dest, src, .shareGrant code share a⟩
  | .shareDeny dest src code share reason => some ⟨dest, src, .shareDeny code share reason⟩
  | .shareSettle dest src code share tender settled adjustment =>
      some ⟨dest, src, .shareSettle code share tender settled adjustment⟩
  | .shareReturn dest src code share => some ⟨dest, src, .shareReturn code share⟩
  | .shareClose dest src code share outcome => some ⟨dest, src, .shareClose code share outcome⟩
  | _ => none

/-- The request kind of a request command; none for the other commands. -/
def requestKind (c : Instr) : Option Nat := (encodeRequest c).map fun p => p.1.toNat

/-! ## Runs -/

/-- Commands executed one after the other, as long as each answers a next state. -/
def runAll : List Instr → State → Host.Outcome State Fault Refusal
  | [], s => .next s
  | c :: cs, s =>
      match exec c s with
      | .next t => runAll cs t
      | .fault r => .fault r
      | .refused r => .refused r

/-- The transitions with which another station's frame of these cells reaches the pair, as intervals
in half bit times: the first after a quiet line, then one for each cell, two for a 1, but for the last
cell, whose end no transition marks. -/
def cellIntervals : List Bool → List Nat
  | [] => []
  | [true] => [1]
  | [false] => []
  | true :: rest => 1 :: 1 :: cellIntervals rest
  | false :: rest => 2 :: cellIntervals rest

/-- The line transitions of a whole frame of another station. -/
def hearFrame (f : Frame) : List Instr :=
  (4 :: cellIntervals (Frame.cells f)).map Instr.lineTransition

end Sys2Proof.Machine
end

