-- ==== Sys2Proof/WellFormed.lean ====
section
/-! DEFINITION. Which commands can come from outside: request fields fit their sorts (Table 10-4), a
request body fits its length byte, a delivered frame is a valid one (R11). -/

namespace Sys2Proof

open Machine

/-- A field of one byte. -/
def fits8 (n : Nat) : Bool := n < 256

/-- A field of two bytes. -/
def fits16 (n : Nat) : Bool := n < 65536

/-- A field of four bytes. -/
def fits32 (n : Nat) : Bool := n < 4294967296

/-- Slot and two byte name. -/
def fitsSlotCode (slot code : Nat) : Bool := fits8 slot && fits16 code

def ConfigureFields.wf (f : ConfigureFields) : Bool :=
  fits16 f.tax0 && fits16 f.tax1 && fits16 f.tax2 && fits16 f.tax3 && fits8 f.fire && fits16 f.warn
  && fits16 f.late && fits8 f.lineFault && fits8 f.noResponse && fits8 f.cut

/-- The whole ADD-LINE body fits a length byte (R168). -/
def LineFields.wf (l : LineFields) : Bool :=
  13 + l.label.length + l.note.length < 256 && fits8 l.qty && fits16 l.price && fits8 l.taxGroup
  && fits16 l.deposit && fits8 l.cls && fits8 l.restricted

/-- A ticket of the queue or of the table is named by an origin station and a ticket number. -/
def ticketName (origin number : Nat) : Bool :=
  stationNumber origin && 1 ≤ number && number ≤ 4095

/-- A share is named by a tab code and an index. -/
def shareName (code share : Nat) : Bool := code < 65536 && share ≤ 7

/-- The command's operands lie in the ranges in which it can be given. -/
def Instr.wf : Instr → Bool
  | .configure f => f.wf
  | .signOn operator level => fits16 operator && fits8 level
  | .signOff slot | .openTab slot | .lastCall slot | .clearPrinter slot => fits8 slot
  | .addLine slot code l => fitsSlotCode slot code && l.wf
  | .voidLine slot code x | .wasteLine slot code x | .split slot code x | .send slot code x
  | .take slot code x | .giveBack slot code x | .takeRemote slot code x
  | .forceRelease slot code x | .clearOrphan slot code x => fitsSlotCode slot code && fits8 x
  | .closeTab slot code => fitsSlotCode slot code
  | .assign slot code line kind share weights =>
      fitsSlotCode slot code && fits8 line && fits8 kind && fits8 share
        && weights.length == 8 && weights.all fits8
  | .discount slot code share percent => fitsSlotCode slot code && fits8 share && fits8 percent
  | .retryTicket slot number | .collect slot number => fitsSlotCode slot number
  | .pay slot code share tender tendered =>
      fitsSlotCode slot code && fits8 share && fits8 tender && fits32 tendered
  | .bump slot origin number | .reprint slot origin number =>
      fits8 slot && fits8 origin && fits16 number
  | .queryStation n | .queryBorrowed n | .queryTotals n => fits8 n
  | .queryTab code x | .queryShare code x => fits16 code && fits8 x
  | .queryTicket number => fits16 number
  | .queryQueue part first => fits8 part && fits8 first
  | .ignoredTransaction _ body => body.length < 256
  | .linkByteComplete edges => !edges.isEmpty
  | .silenceTimerExpiry station => stationNumber station
  | .presence d s p => Frame.valid ⟨d, s, .presence p⟩
  | .offer d s o => Frame.valid ⟨d, s, .offer o⟩
  | .bid d s origin ref depth => Frame.valid ⟨d, s, .bid origin ref depth⟩
  | .bidHeardAtKitchen d s origin ref depth => Frame.valid ⟨d, s, .bid origin ref depth⟩
  | .award d s ref awardee mask => Frame.valid ⟨d, s, .award ref awardee mask⟩
  | .progress d s ref k mask => Frame.valid ⟨d, s, .progress ref k mask⟩
  | .withdraw d s ref pos => Frame.valid ⟨d, s, .withdraw ref pos⟩
  | .withdrawReply d s ref pos o e => Frame.valid ⟨d, s, .withdrawReply ref pos o e⟩
  | .revoke d s ref => Frame.valid ⟨d, s, .revoke ref⟩
  | .collectFrame d s ref => Frame.valid ⟨d, s, .collect ref⟩
  | .lastCallFrame d s => Frame.valid ⟨d, s, .lastCall⟩
  | .shareAsk d s code share => Frame.valid ⟨d, s, .shareAsk code share⟩
  | .shareGrant d s code share a => Frame.valid ⟨d, s, .shareGrant code share a⟩
  | .shareDeny d s code share r => Frame.valid ⟨d, s, .shareDeny code share r⟩
  | .shareSettle d s code share t n a => Frame.valid ⟨d, s, .shareSettle code share t n a⟩
  | .shareReturn d s code share => Frame.valid ⟨d, s, .shareReturn code share⟩
  | .shareClose d s code share o => Frame.valid ⟨d, s, .shareClose code share o⟩
  | .offerWindowExpiry number | .awardWaitExpiry number => 1 ≤ number && number ≤ 4095
  | .withdrawReplyWaitExpiry number pos => 1 ≤ number && number ≤ 4095 && pos ≤ 7
  | .bidDelayExpiry o n | .tentativeExpiry o n | .lapsedItemExpiry o n | .warnTimerExpiry o n
  | .lateTimerExpiry o n | .passReadyRepeat o n | .passExpiry o n => ticketName o n
  | .askWaitExpiry c i | .holdLimitExpiry c i | .repeatWaitExpiry c i => shareName c i
  | .reset _ | .transactionBegin | .selRise | .start | .fetch | .fetchReplyEnd | .queryState
  | .receptionEnd | .transmissionStart | .transmissionComplete | .collision _ | .jamEnd
  | .joinWindowEnd | .presenceTimerExpiry | .printerLineAccepted | .cutAccepted
  | .handshakeLimitExpiry | .faultAsserted | .faultReleased | .deglitchTimerExpiry | .retryCheck
  | .recoveryEnd | .lineTransition _ | .syncPatternMatch | .destinationCharacter
  | .frameAbandoned | .strobeReleased | .busyAsserted | .busyReleased => true

end Sys2Proof
end

