-- ==== Sys2Proof/Certificates/Slice0/Obligations.lean ====
section
/-! DEFINITION. The statements about the block, for the provers. Each docstring names the rules it
formalises and, where a model choice is involved, the log entry. -/

open Sys2Proof Sys2Proof.Machine

/-! ## Steps, refusals, reset -/

/-- A step with a command at the front of its queue is exec of that command on the queue's rest. -/
def Obligations.StepRunsFrontCommand : Prop :=
  ∀ (c : Instr) (rest : List Instr) (s : State),
    s.pending = c :: rest → step s = exec c { s with pending := rest }

/-- On an empty queue half a bit time passes (log 1): the time base gains a millisecond when the last
half bit time of one has passed (R1), the bit-time count runs (R3), a BUSY line becomes IDLE two bit
times after its last transition (R3). A timer that has
not run out yet when its expiry is commanded has run exactly its limit when the command acts, and one that
has does not move the clock (log 2). -/
def Obligations.IdleStepLetsTimePass : Prop :=
  (∀ s : State, s.pending = [] →
    ∃ t : State, step s = .next t
      ∧ t = { s with clock := t.clock, line := t.line, port := t.port }
      ∧ t.port = { s.port with primeLeft := s.port.primeLeft - 1 }
      ∧ t.clock.halfBits
        = (if s.join.state = .strapFault then s.clock.halfBits else s.clock.halfBits + 1)
      ∧ (s.clock.msPhase + 1 < Straps.halvesPerMs s.straps →
          t.clock.time = s.clock.time ∧ t.clock.msPhase = s.clock.msPhase + 1)
      ∧ (s.clock.msPhase + 1 = Straps.halvesPerMs s.straps →
          t.clock.time = s.clock.time + 1 ∧ t.clock.msPhase = 0)
      ∧ (s.line.state = none → t.line = s.line)
      ∧ (s.line.state = some .idle ∨ s.line.state = some .busy →
          t.line.since = min (s.line.since + 1) 131071)
      ∧ (s.line.state = some .idle → t.line.state = some .idle)
      ∧ (s.line.state = some .busy →
          t.line.state = if s.line.since + 1 < 4 then some .busy else some .idle))
    ∧ ∀ (s : State) (start : Time) (limit : Nat), s.ClockSound → limit < 2 ^ 32 →
        (elapsed s start < limit → elapsed (advanceUntil start limit s) start = limit)
          ∧ (limit ≤ elapsed s start → advanceUntil start limit s = s)

/-- Every command is executed in every state: none ends in a fault or a refusal. -/
def Obligations.EveryCommandCompletes : Prop :=
  ∀ (c : Instr) (s : State), ∃ t : State, exec c s = .next t

/-- Only RESET reads the straps (R23), and STRAP-FAULT and DUPLICATE are left only by it (R24, R31); no
command touches the queue of waiting commands. -/
def Obligations.OnlyResetReadsTheStraps : Prop :=
  ∀ (c : Instr) (s t : State), (∀ p : Straps, c ≠ .reset p) → exec c s = .next t →
    t.straps = s.straps ∧ t.pending = s.pending
      ∧ (s.join.state = .strapFault → t.join.state = .strapFault)
      ∧ (s.join.state = .duplicate → t.join.state = .duplicate)

/-- A refused request leaves every block as it was and has an empty body (R169); in STRAP-FAULT every
request but the queries and FETCH (kinds 40H and above) is refused with CONFIG (R24). -/
def Obligations.RefusalsChangeNothing : Prop :=
  ∀ (c : Instr) (k : Nat) (s : State), requestKind c = some k →
    (∀ (t : State) (r : Reply), exec c s = .next t → t.link.reply = some r →
        r.code ≠ .done → r.code ≠ .accepted → OnlyLink s t ∧ r.body = [])
      ∧ (k < 0x40 → s.join.state = .strapFault →
          ∃ t : State, exec c s = .next t ∧ OnlyLink s t ∧ Replied t .config [])

/-- RESET returns every block to its values after reset (Tables 1-7, 2-7, 3-9, 4-8, 5-5, 6-5, 7-9, 8-7, 9-4,
10-9). The waiting commands, the free counter and the input pins stay (logs 34, 35); the link's kind and
length become 0 (log 5). -/
def Obligations.ResetReturnsEveryBlock : Prop :=
  ∀ (p : Straps) (s : State), ∃ t : State, exec (.reset p) s = .next t
    ∧ t.straps = p ∧ t.clock = ⟨0#32, 0, 0#33⟩
    ∧ t.join = { state := if Straps.invalid p then .strapFault else .config, startMark := 0,
                 windowFrom := none, presenceFrom := none,
                 figures := ⟨0, 0, 0, 0, 3, 240, 480, .latch, .latch, 0x0C#8⟩ }
    ∧ t.line.state = (if Straps.invalid p then none else some .idle) ∧ t.line.since = 0
    ∧ t.line.rx.state = .off ∧ t.line.inbound = [] ∧ t.line.waiting = [] ∧ t.line.sending = none
    ∧ (∀ n : Nat, heard t n = none)
    ∧ (∀ i : Nat, i < 32 → t.tabs[i]? = some ⟨0, none⟩) ∧ t.lastCall = false
    ∧ t.tickets = [] ∧ t.nextTicket = 1
    ∧ t.kitchen.entries = [] ∧ t.kitchen.lapsed = [] ∧ t.kitchen.pass = []
    ∧ t.kitchen.arrivalSeq = 0
    ∧ t.port.state = .idle ∧ t.port.left = none ∧ t.port.right = none ∧ t.port.list = []
    ∧ t.port.faultKind = none ∧ t.port.cutOwed = false ∧ t.port.pd = 0#8 ∧ t.port.stage = .rest
    ∧ (role t = .kitchen → 2 * t.port.primeLeft = Straps.halvesPerMs p)
    ∧ t.borrowed = [] ∧ (∀ i : Nat, slotOf t i = none)
    ∧ t.closed = ⟨⟨0, 0, 0, 0, 0, 0⟩, 0⟩
    ∧ t.link = ⟨s.link.sel, false, true, .rest, [], 0#8, 0, [], none, 0, none⟩
    ∧ t.notices = [] ∧ t.overflow = none
    ∧ t.pending = s.pending ∧ t.free = s.free
    ∧ t.port.busyPin = s.port.busyPin ∧ t.port.faultPin = s.port.faultPin

/-! ## Invariants -/

/-- The state after reset meets every invariant, whatever the straps. -/
def Obligations.ResetMeetsTheInvariants : Prop :=
  ∀ p : Straps,
    (State.afterReset p).QueuesSound ∧ (State.afterReset p).TillPrintsNothing
      ∧ (State.afterReset p).KitchenKeepsNoTabs ∧ (State.afterReset p).LineFollowsJoin
      ∧ (State.afterReset p).ClockSound ∧ (State.afterReset p).OwnEntryAbsent
      ∧ (State.afterReset p).WithinFireCapacity ∧ (State.afterReset p).NamesUnique
      ∧ (State.afterReset p).TabsSound

/-- Every step keeps every queue and table within its room and the transmit queue in class order. -/
def Obligations.StepKeepsQueuesSound : Prop :=
  ∀ s t : State, s.QueuesSound → step s = .next t → t.QueuesSound

/-- Every step keeps a till's kitchen queue and printer port at rest, and a kitchen's tab table, ticket
table and borrowed-share table empty (R40, R60, R83, R121, R146).
Every step keeps the line controller as the join state has it, the clock within its millisecond and
the station's own entry ABSENT. -/
def Obligations.StepKeepsRoleAndJoin : Prop :=
  (∀ s t : State, s.TillPrintsNothing ∧ s.KitchenKeepsNoTabs → step s = .next t →
    t.TillPrintsNothing ∧ t.KitchenKeepsNoTabs)
    ∧ (∀ s t : State, s.LineFollowsJoin ∧ s.ClockSound ∧ s.OwnEntryAbsent → step s = .next t →
    t.LineFollowsJoin ∧ t.ClockSound ∧ t.OwnEntryAbsent)

/-- Every step keeps at most F entries FIRED or REVOKED-FIRED, and no two entries of one ticket (R83,
R96).
Every step keeps ticket numbers, borrowed shares, pass entries and lapsed-bid items unique. -/
def Obligations.StepKeepsEntriesAndNames : Prop :=
  (∀ s t : State, s.WithinFireCapacity → step s = .next t → t.WithinFireCapacity)
    ∧ (∀ s t : State, s.NamesUnique → step s = .next t → t.NamesUnique)

/-- Every step keeps every tab sound: its code, its limits, its goods gross the sum over its counted
lines, and OPEN only with nothing held, adrift or paid (R40, R41, R45, R48, R53). -/
def Obligations.StepKeepsTabsSound : Prop :=
  ∀ s t : State, s.TabsSound → step s = .next t → t.TabsSound

/-! ## Encodings -/

/-- A well-formed request is read back from its kind and body bytes, and a kind and body that spell a
command spell only the one whose bytes they are (Tables 10-4 and 10-7, R168). -/
def Obligations.RequestBytesRoundTrip : Prop :=
  (∀ (i : Instr) (k : Byte) (b : List Byte), i.wf = true → encodeRequest i = some (k, b) →
      decodeRequest k b = some i ∧ b.length ≤ 255)
    ∧ (∀ (i : Instr) (k : Byte) (b : List Byte), b.length ≤ 255 → decodeRequest k b = some i →
        encodeRequest i = some (k, b) ∧ i.wf = true)

/-- The validity checks of R11 accept the characters of every frame with fields in range, and read back
the frame itself (R5, R7, Tables 1-1 to 1-3). They accept nothing else: characters that they take as a
frame are the characters of that frame, its fields in range, so a wrong check or length, an unknown kind
and a field out of range are refused (R11).
A frame with a body of L bytes occupies 16 + 9 (6 + L) cells (R4), and the check over 31H to 39H is
29B1H (R5). -/
def Obligations.FrameBytesRoundTrip : Prop :=
  (∀ f : Frame, Frame.valid f = true →
    parseFrame (Frame.bytes f) = some f
      ∧ (Frame.bytes f).length = 6 + (FrameBody.bytes f.body).length
      ∧ (FrameBody.bytes f.body).length ≤ 240)
    ∧ (∀ (bs : List Byte) (f : Frame), parseFrame bs = some f →
      bs = Frame.bytes f ∧ Frame.valid f = true)
    ∧ ((∀ f : Frame,
      (Frame.cells f).length = 16 + 9 * (6 + (FrameBody.bytes f.body).length)
        ∧ Frame.bitTimes f = 16 + 9 * (6 + (FrameBody.bytes f.body).length)
        ∧ (Frame.cells f).take 16 = List.replicate 12 false ++ [true, true, false, true])
    ∧ crc [0x31#8, 0x32#8, 0x33#8, 0x34#8, 0x35#8, 0x36#8, 0x37#8, 0x38#8, 0x39#8] = 0x29B1#16)

/-- A frame of another station, sent to this one on a line that has been quiet, reaches the inbound queue as
it was sent: its cells arrive as transitions (R2, R4), the receiver finds the sync pattern and the
destination (R8, R9), and the reception ends when the line becomes idle (R10 to R12). Log 9 says how the
last cell, which no transition closes, is read. -/
def Obligations.HeardFrameIsQueued : Prop :=
  ∀ (f : Frame) (s : State), Frame.valid f = true → acceptsDest s f.dest = true →
    s.line.rx = Receiver.fresh .hunt → s.line.state ≠ none → driving s = false →
    s.line.inbound.length < 8 →
    ∃ t : State, runAll (hearFrame f ++ [.receptionEnd]) s = .next t
      ∧ t.line.inbound = s.line.inbound ++ [f]
      ∧ t.line.rx = Receiver.fresh .hunt
      ∧ t.line.waiting = s.line.waiting ∧ t.line.sending = s.line.sending
      ∧ t = { s with clock := t.clock, line := t.line, port := t.port }
      ∧ t.port = { s.port with primeLeft := t.port.primeLeft }

/-! ## The transmit queue and transmission -/

/-- A composed frame joins the transmit queue only ON-LINE and with an entry free, behind every waiting
frame of its class or a lower one and before every frame of a higher one, with n and k both 0 (R14,
R15). Otherwise it is dropped and the queue stays.
TRANSMISSION_START: the head starts once the line has been idle for 32 + 64 (2c + k) bit times
(R17); it is then the frame in transmission, the line is SENDING and the receiver is held in HUNT (R8,
R18). Time passes until the requirement is met (log 2). -/
def Obligations.FramesWaitTheirTurn : Prop :=
  (∀ (s : State) (dest : Nat) (body : FrameBody) (wait : Bool),
    (s.join.state = .onLine → 1 ≤ freeTx s →
      offerFrame dest body wait s
        = { s with line := { s.line with
              waiting := (offerFrame dest body wait s).line.waiting } }
        ∧ ((s.line.waiting.Pairwise fun a b => a.cls ≤ b.cls) →
            (offerFrame dest body wait s).line.waiting
              = (s.line.waiting.filter fun x => x.cls ≤ FrameBody.deferral body)
                ++ [{ frame := ⟨dest, station s, body⟩, owner := FrameBody.owner body,
                      cls := FrameBody.deferral body, n := 0, k := 0, wait := wait }]
                ++ (s.line.waiting.filter fun x => FrameBody.deferral body < x.cls)))
      ∧ (s.join.state ≠ .onLine ∨ freeTx s = 0 →
          (offerFrame dest body wait s).line = s.line))
    ∧ (∀ (s : State) (head : TxItem) (rest : List TxItem),
    s.join.state = .onLine → s.line.waiting = head :: rest → s.line.sending = none →
    s.line.rx.state ≠ .take →
    ∃ t : State, exec .transmissionStart s = .next t
      ∧ t.line = { s.line with
          waiting := rest, sending := some head, state := some .sending, txPos := 0, since := 0,
          rx := Receiver.fresh .hunt }
      ∧ t = { s with clock := t.clock, line := t.line, port := t.port }
      ∧ t.port = { s.port with primeLeft := t.port.primeLeft }
      ∧ t.clock.halfBits
        = s.clock.halfBits + BitVec.ofNat 33 (2 * (32 + 64 * (2 * head.cls + head.k)) - s.line.since))

/-- TRANSMISSION_COMPLETE: the frame has been sent whole after 16 + 9 (6 + L) bit times (R4), leaves the
queue, and the line follows the pair again from its last transition (R18): the middle of the last cell
when that carries a 1, its beginning when it carries a 0, or, with that already past, whatever transition
has come since (R3, log 14). The end of a
frame starts the wait that its owner times from it, if that wait still applies: the offer window, the
award wait and the reply wait (R65), the tentative expiry (R86), the ask wait (R148) and the repeat wait
(R151). -/
def Obligations.FrameEndsReachTheirOwners : Prop :=
  ∀ (s : State) (x : TxItem), s.line.state = some .sending → s.line.sending = some x →
    ∃ t : State, exec .transmissionComplete s = .next t
      ∧ t = { s with
          clock := t.clock, line := t.line, port := t.port, tickets := t.tickets
          kitchen := { s.kitchen with entries := t.kitchen.entries }, borrowed := t.borrowed }
      ∧ t.port = { s.port with primeLeft := t.port.primeLeft }
      ∧ OwnerHears x s t
      ∧ (s.line.txPos ≤ 2 * Frame.bitTimes x.frame → s.join.state ≠ .strapFault →
        let last := 2 * Frame.bitTimes x.frame
          - (if (Frame.cells x.frame).getLast? = some true then 1 else 2)
        t.clock.halfBits
          = s.clock.halfBits + BitVec.ofNat 33 (2 * Frame.bitTimes x.frame - s.line.txPos)
        ∧ t.line = { s.line with
            sending := none, txPos := 0, rx := Receiver.fresh .hunt
            state := if t.line.since < 4 then some .busy else some .idle
            since := if s.line.txPos < last then 2 * Frame.bitTimes x.frame - last
              else min (s.line.since + (2 * Frame.bitTimes x.frame - s.line.txPos)) 131071 })

/-- COLLISION: a cell heard otherwise than sent, a violation included, stops the frame and begins the
jam (R19); the cell as sent changes nothing. The jam has a transition as it begins and one every one and
a half bit times (R19, log 14); the pair carries the frame's own biphase transitions before it (R2).
JAM_END: after 32 bit times the frame's count becomes n,
below 16 it returns as the first of its class with k = (5 station + 11 n) modulo 2^min(n, 6) (R20), at 16
it is dropped, which its owner hears as its end (R20, R21); a PRESENCE does not return beside a newer one
(R32). Log 38 says which cell a COLLISION names, log 44 which level follows a transition. -/
def Obligations.CollisionJamsAndBacksOff : Prop :=
  (∀ (s : State) (x : TxItem) (sent : Bool) (h : Cell),
      s.line.state = some .sending → s.line.sending = some x →
      (Frame.cells x.frame)[s.line.txPos / 2]? = some sent →
      exec (.collision h) s
        = .next (if h = (if sent then .one else .zero) then s
            else { s with line := { s.line with state := some .jamming, txPos := 0, since := 0 } }))
    ∧ (∀ (s : State) (x : TxItem) (i : Nat) (bit : Bool), s.line.sending = some x →
        (s.line.state = some .sending → (Frame.cells x.frame)[i]? = some bit →
          (LineCtl.signal s.line)[2 * i]? = some true
            ∧ (LineCtl.signal s.line)[2 * i + 1]? = some bit)
        ∧ (s.line.state = some .jamming → i < 64 →
          (LineCtl.signal s.line)[i]? = some (decide (i % 3 = 0)))
        ∧ ((s.line.state = some .sending ∨ s.line.state = some .jamming) →
          ∀ flip : Bool, (LineCtl.signal s.line)[s.line.txPos + 1]? = some flip →
            ∀ level : Bool, pairLevel s = some level →
              pairLevel { s with line := { s.line with txPos := s.line.txPos + 1 } }
                = some (level != flip)))
    ∧ (∀ s : State, s.line.state ≠ some .sending → s.line.state ≠ some .jamming →
        pairLevel s = none)
    ∧ (∀ (s : State) (x : TxItem), s.line.state = some .jamming → s.line.sending = some x →
        s.line.txPos ≤ 64 →
        ∃ t : State, exec .jamEnd s = .next t
          ∧ t = { s with
              clock := t.clock, line := t.line, port := t.port, tickets := t.tickets
              kitchen := { s.kitchen with entries := t.kitchen.entries }, borrowed := t.borrowed }
          ∧ t.port = { s.port with primeLeft := t.port.primeLeft }
          ∧ t.line.sending = none ∧ t.line.txPos = 0 ∧ t.line.rx = Receiver.fresh .hunt
          ∧ t.line.inbound = s.line.inbound
          ∧ t.line.since = (if s.line.txPos < 63 then 1
              else min (s.line.since + (64 - s.line.txPos)) 131071)
          ∧ t.line.state = (if t.line.since < 4 then some .busy else some .idle)
          ∧ (16 ≤ x.n + 1 → OwnerHears x s t ∧ t.line.waiting = s.line.waiting)
          ∧ (x.n + 1 < 16 →
              t.tickets = s.tickets ∧ t.kitchen = s.kitchen ∧ t.borrowed = s.borrowed
              ∧ t.line.waiting
                = (if FrameBody.isPresence x.frame.body = true
                      ∧ (s.line.waiting.any fun y => FrameBody.isPresence y.frame.body) = true then
                    s.line.waiting
                  else
                    (s.line.waiting.takeWhile fun y => y.cls < x.cls)
                      ++ [{ x with n := x.n + 1,
                                   k := (5 * station s + 11 * (x.n + 1)) % 2 ^ min (x.n + 1) 6 }]
                      ++ (s.line.waiting.dropWhile fun y => y.cls < x.cls))))

/-! ## Reception -/

/-- A station accepts its own number, 127, and by its role all tills and every class group, or its own
class group; no other code (R9, Table 1-4). The join state makes no difference. -/
def Obligations.StationAcceptsItsDestinations : Prop :=
  ∀ (s : State) (d : Nat),
    (role s = .till → (acceptsDest s d = true ↔
        d = station s ∨ d = 64 ∨ (65 ≤ d ∧ d ≤ 71) ∨ d = 127))
      ∧ (role s = .kitchen → (acceptsDest s d = true ↔
          d = station s ∨ d = 64 + ownClass s ∨ d = 127))
      ∧ (∀ j : Join, acceptsDest { s with join := j } d = acceptsDest s d)
      ∧ (Straps.invalid s.straps = false →
          (d = 0 ∨ d = 63 ∨ (72 ≤ d ∧ d ≤ 126) ∨ 128 ≤ d → acceptsDest s d = false)
            ∧ (role s = .kitchen → acceptsDest s 64 = false))

/-- LINE_TRANSITION: the interval since the last transition decodes by the table of R2 and its cells enter
the receiver, each with the half bit times it lasted (R8); the idle count returns to 0 and the line is
BUSY (R3); an OFF receiver takes nothing, and while this station drives the pair only the idle count
returns to 0. Logs 8 to 10. What a cell does in each receiver state (R8, R10), and the three receiver
events: the sync pattern leads to ADDRESS, a marked and accepted first character to TAKE with the
destination kept, any other first character to HUNT, with an empty history (after a
destination that is not accepted by log 54); violations that have lasted 8 bit times in a row or a 247th
character abandon the frame (R10, log 11). -/
def Obligations.ReceiverDecodesTheLine : Prop :=
  ((decodeInterval false 1 = ([], true) ∧ decodeInterval true 1 = ([(.one, 2)], false)
      ∧ decodeInterval false 2 = ([(.zero, 2)], false)
      ∧ decodeInterval false 3 = ([(.violation, 3)], false)
      ∧ (decodeInterval true 2).1.head? = some (.violation, 1)
      ∧ (decodeInterval true 3).1.head? = some (.violation, 1)
      ∧ (∀ (o : Bool) (h : Nat), 4 ≤ h → decodeInterval o h = ([], false)))
    ∧ (∀ (s : State) (h : Nat), driving s = true →
        exec (.lineTransition h) s = .next { s with line := { s.line with since := 0 } })
    ∧ (∀ (s : State) (h : Nat), driving s = false → s.line.state ≠ none → s.line.since ≤ h → h < 4 →
        ∃ t : State, exec (.lineTransition h) s = .next t
          ∧ t = { s with clock := t.clock, line := t.line, port := t.port }
          ∧ t.port = { s.port with primeLeft := t.port.primeLeft }
          ∧ t.line = { s.line with since := 0, state := some .busy, rx := t.line.rx }
          ∧ (s.line.rx.state = .off → t.line.rx = s.line.rx)
          ∧ (s.line.rx.state ≠ .off →
              t.line.rx
                = { (decodeInterval s.line.rx.openHalf h).1.foldl
                      (Receiver.push (acceptsDest s)) s.line.rx with
                    openHalf := (decodeInterval s.line.rx.openHalf h).2 })))
    ∧ ((∀ (accepts : Nat → Bool) (r : Receiver) (c : Cell) (lasted : Nat),
      (r.state = .hunt → Receiver.synced r = false →
        Receiver.push accepts r (c, lasted)
          = { r with history := if c = .violation then [] else (c :: r.history).take 16 })
      ∧ (r.state = .address → r.cells.length < 9 →
          Receiver.push accepts r (c, lasted)
            = if c = .violation then { Receiver.fresh .hunt with openHalf := r.openHalf }
              else { r with cells := c :: r.cells })
      ∧ (r.state = .take → r.violation < 16 → r.cells.length < 246 * 9 →
          Receiver.push accepts r (c, lasted)
            = { r with
                cells := c :: r.cells
                violation := if c = .violation then r.violation + lasted else 0 }))
    ∧ (∀ s : State, s.line.rx.state = .hunt →
        s.line.rx.history.reverse = syncPattern.map Cell.ofBool →
        exec .syncPatternMatch s = .next { s with line := { s.line with
          rx := { Receiver.fresh .address with openHalf := s.line.rx.openHalf } } })
    ∧ (∀ (s : State) (mark : Bool) (d : Byte), s.line.rx.state = .address →
        s.line.rx.cells.reverse = (charCells mark d).map Cell.ofBool →
        exec .destinationCharacter s = .next { s with line := { s.line with
          rx := if mark = true ∧ acceptsDest s d.toNat = true then
              { Receiver.fresh .take with openHalf := s.line.rx.openHalf, dest := d.toNat }
            else { Receiver.fresh .hunt with openHalf := s.line.rx.openHalf } } })
    ∧ (∀ s : State, s.line.rx.state = .take →
        16 ≤ s.line.rx.violation ∨ 246 * 9 ≤ s.line.rx.cells.length →
        exec .frameAbandoned s = .next { s with line := { s.line with
          rx := { Receiver.fresh .hunt with openHalf := s.line.rx.openHalf } } }))

/-- RECEPTION_END: two bit times after the last transition a reception ends. A frame whose characters
are whole and valid joins the tail of the inbound queue when fewer than 8 stand there, and nothing else
does (R10 to R12); a reception with a violation among its cells is discarded. Log 9 says how the last
cell is closed. The receiver's count of violations is as every step keeps it (StepKeepsRoleAndJoin). A
complete first character is judged first (R8, log 8); with no reception, or while this station drives the
pair, nothing ends. -/
def Obligations.ReceptionEndQueuesTheFrame : Prop :=
  (∀ s : State, s.line.rx.state = .take → driving s = false → Receiver.CountSound s.line.rx →
    ∃ t : State, exec .receptionEnd s = .next t
      ∧ t = { s with clock := t.clock, line := t.line, port := t.port }
      ∧ t.port = { s.port with primeLeft := t.port.primeLeft }
      ∧ t.line.rx = Receiver.fresh .hunt ∧ t.line.waiting = s.line.waiting
      ∧ t.line.sending = s.line.sending
      ∧ (∀ f : Frame, Frame.valid f = true → s.line.rx.dest = f.dest →
          ((if s.line.rx.openHalf then Cell.one else .zero) :: s.line.rx.cells).reverse
            = (((Frame.bytes f).drop 1).flatMap (charCells false)).map Cell.ofBool →
          t.line.inbound
            = if s.line.inbound.length < 8 then s.line.inbound ++ [f] else s.line.inbound)
      ∧ (t.line.inbound = s.line.inbound
        ∨ ∃ f : Frame, Frame.valid f = true ∧ byte f.dest = byte s.line.rx.dest
          ∧ ((if s.line.rx.openHalf then Cell.one else .zero) :: s.line.rx.cells).reverse
            = (((Frame.bytes f).drop 1).flatMap (charCells false)).map Cell.ofBool
          ∧ s.line.inbound.length < 8 ∧ t.line.inbound = s.line.inbound ++ [f])
      ∧ (Cell.violation ∈ s.line.rx.cells → t.line.inbound = s.line.inbound))
    ∧ (∀ s u : State, s.line.rx.state = .address → 9 ≤ s.line.rx.cells.length →
        exec .destinationCharacter s = .next u → exec .receptionEnd s
          = if u.line.rx.state = .take ∧ driving s = false then exec .receptionEnd u else .next s)
    ∧ (∀ s : State, driving s = true ∨ s.line.rx.state = .off ∨ s.line.rx.state = .hunt
          ∨ s.line.rx.state = .address ∧ s.line.rx.cells.length < 9 →
        exec .receptionEnd s = .next s)

/-! ## Joining and the station table -/

/-- CONFIGURE in CONFIG stores the clamped figures of its role and keeps the defaults in the others,
computes every tab under them (R26, R123, Table 2-2) and replies them; START moves to JOINING, begins the
window, puts the receiver in HUNT and empties the inbound queue (R27). In any other join state both are
refused with CONFIG (R25). -/
def Obligations.ConfigureAndStart : Prop :=
  (∀ (f : ConfigureFields) (s : State), s.join.state = .config →
      ∃ t : State, exec (.configure f) s = .next t
        ∧ t = { s with join := { s.join with figures := t.join.figures }, tabs := t.tabs, link := t.link }
        ∧ (∀ i : Nat, tabIn t i = (tabIn s i).map (Tab.compute t.join.figures))
        ∧ (role s = .till →
            t.join.figures = ⟨min f.tax0 2500, min f.tax1 2500, min f.tax2 2500, min f.tax3 2500, 3, 240,
              480, .latch, .latch, 0x0C#8⟩
            ∧ Replied t .done (be16 (min f.tax0 2500) ++ be16 (min f.tax1 2500)
                ++ be16 (min f.tax2 2500) ++ be16 (min f.tax3 2500) ++ [0, 0, 0, 0, 0, 0, 0, 0]))
        ∧ (role s = .kitchen →
            t.join.figures.fire = max 1 (min f.fire 8)
            ∧ t.join.figures.warn = max 30 (min f.warn 1800)
            ∧ t.join.figures.late
              = max (max 30 (min f.warn 1800)) (max 30 (min f.late 1800))
            ∧ t.join.figures.lineFault
              = (if f.lineFault = 0 then .latch else if f.lineFault = 1 then .retry else .skip)
            ∧ t.join.figures.noResponse
              = (if f.noResponse = 0 then .latch else if f.noResponse = 1 then .retry else .skip)
            ∧ t.join.figures.cut = byte f.cut
            ∧ t.join.figures.tax0 = 0 ∧ t.join.figures.tax1 = 0 ∧ t.join.figures.tax2 = 0
            ∧ t.join.figures.tax3 = 0
            ∧ Replied t .done ([0, 0, 0, 0, 0, 0, 0, 0] ++ [byte t.join.figures.fire]
                ++ be16 t.join.figures.warn ++ be16 t.join.figures.late
                ++ [byte (min f.lineFault 2), byte (min f.noResponse 2), byte f.cut])))
    ∧ (∀ s : State, s.join.state = .config →
        ∃ t : State, exec .start s = .next t
          ∧ t = { s with
              join := { s.join with state := .joining, windowFrom := some (now s) }
              line := { s.line with rx := Receiver.fresh .hunt, inbound := [] }
              port := t.port, link := t.link }
          ∧ t.port = (if role s = .kitchen ∧ s.port.faultPin = true then
              { s.port with deglitch := .running (now s) } else s.port)
          ∧ Replied t .done [])
    ∧ (∀ (f : ConfigureFields) (s : State), s.join.state ≠ .config →
        (∃ t : State, exec (.configure f) s = .next t ∧ OnlyLink s t ∧ Replied t .config [])
          ∧ ∃ t : State, exec .start s = .next t ∧ OnlyLink s t ∧ Replied t .config [])

/-- The end of the join window captures the start mark, the low 16 bits of the bit-time count with 0
replaced by 1, enters ON-LINE, starts the presence timer and queues the first PRESENCE (R29). In JOINING
no frame waits (the invariant of StepKeepsRoleAndJoin).
The presence timer runs out every 1000 ms on its fixed schedule (R32). A PRESENCE that waits takes
the newly sampled fields and keeps its place, count and backoff; with none waiting the new one joins when
an entry is free, and is dropped otherwise (R15). The fields are those of R33. -/
def Obligations.JoinWindowAndPresence : Prop :=
  (∀ (s : State) (start : Time), s.join.state = .joining → s.join.windowFrom = some start →
    Due s start 2500 → s.line.waiting = [] → s.line.sending = none →
    ∃ t : State, exec .joinWindowEnd s = .next t
      ∧ t = { s with join := t.join, line := t.line }
      ∧ t.join = { s.join with
          state := .onLine, windowFrom := none, presenceFrom := some (now s),
          startMark := if bitCount s % 65536 = 0 then 1 else bitCount s % 65536 }
      ∧ t.line = { s.line with waiting :=
          [{ frame := ⟨127, station s, .presence (presenceFields t)⟩, owner := .stationTable, cls := 2,
             n := 0, k := 0, wait := false }] })
    ∧ ((∀ (s : State) (start : Time), s.join.state = .onLine → s.join.presenceFrom = some start →
      Due s start 1000 →
      ∃ t : State, exec .presenceTimerExpiry s = .next t
        ∧ t = { s with
            join := { s.join with presenceFrom := some (start + 1000#32) }, line := t.line }
        ∧ ((s.line.waiting.any fun x => FrameBody.isPresence x.frame.body) = true →
            t.line = { s.line with waiting := s.line.waiting.map fun x =>
              if FrameBody.isPresence x.frame.body then
                { x with frame := { x.frame with body := .presence (presenceFields s) } }
              else x })
        ∧ ((s.line.waiting.any fun x => FrameBody.isPresence x.frame.body) = false →
            (1 ≤ freeTx s → Sends s t 127 (.presence (presenceFields s)) false)
              ∧ (freeTx s = 0 → t.line = s.line)))
    ∧ (∀ s : State, role s = .till →
        presenceFields s = ⟨.till, 0, s.join.startMark, 0, 0, false, .ok, s.lastCall⟩)
    ∧ (∀ s : State, role s = .kitchen →
        presenceFields s
          = { role := .kitchen, cls := s.straps.role.val, mark := s.join.startMark,
              depth := s.kitchen.entries.length, freeSlots := 24 - s.kitchen.entries.length
              accepting :=
                decide (1 ≤ 24 - s.kitchen.entries.length ∧ s.port.state ≠ .latched)
              printer :=
                if s.port.state = .latched then .latched
                else if s.port.state = .retryWait then .retrying
                else if s.port.state = .down then .down else .ok
              lastCall := s.lastCall }))

/-- 3500 ms without a frame make a PRESENT entry SILENT, all its other fields kept (R34, R37): the event
is raised and the SILENT notice follows (R38; log 20). At a kitchen nothing else changes. At a till every
ticket record in table order, the shares of every tab in slot and index order, then every entry borrowed
from the station take the event (R38; log 21). By SILENT a PLACING or PLACED ticket of that
awardee is reissued with the awardee as stale holder, a FIRED or READY one is lost with KITCHEN-LOST (R76,
Table 4-4); a share lent to the station is ADRIFT (R144); an entry borrowed from it has its home
silent (R153); whatever else is unchanged. -/
def Obligations.SilenceMakesAnEntrySilent : Prop :=
  (∀ (s : State) (n : Nat) (h : Heard), heard s n = some h → h.silent = false →
    Due s h.lastHeard 3500 →
    ∃ t : State, exec (.silenceTimerExpiry n) s = .next t
      ∧ t = notify (.silent n h.mark)
          (raiseEvent n (.silent h.mark) (setHeard n { h with silent := true } s))
      ∧ heard t n = some { h with silent := true }
      ∧ (∀ m : Nat, m ≠ n → heard t m = heard s m)
      ∧ (role s = .kitchen →
          t = { s with stations := t.stations, notices := t.notices, overflow := t.overflow,
                       link := t.link }
          ∧ Notified s t (.silent n h.mark)))
    ∧ (∀ (s : State) (st : Nat) (e : StationEvent), role s = .till →
      raiseEvent st e s
        = (s.borrowed.filter fun b => codeHome b.code == st).foldl (borrowedEvent e)
            ((List.range 32).foldl (homeTabEvent st e)
              ((s.tickets.map Ticket.number).foldl (ticketEvent st e) s)))
    ∧ (∀ (s : State) (st slot : Nat) (e : StationEvent),
      (tabIn s slot = none → homeTabEvent st e s slot = s)
      ∧ ∀ tb : Tab, tabIn s slot = some tb →
        homeTabEvent st e s slot
          = tb.shares.zipIdx.foldl (fun s p => homeShareEvent st e slot tb.code p.2 p.1 s) s)
    ∧ (∀ (s : State) (st mark : Nat) (k : Ticket), ticketOf s k.number = some k →
      let t := ticketEvent st (.silent mark) s k.number
      (∀ a : Awardee, k.awardee = some a → a.station = st →
        (k.state = .placing ∨ k.state = .placed → k.withdrawals = [] → k.live ≠ 0#8 → CanSend s 1 →
          Reissued s t k (some ⟨st, mark, k.gen⟩) .awardeeSilent
            (s.line.waiting.filter fun x => !ofTicket k.number x))
        ∧ (k.state = .fired ∨ k.state = .ready → k.lost = none →
          OnlyTicket s t { k with lost := some .silent, awardee := some { a with mark := mark } }
          ∧ Notified s t (.kitchenLost ⟨k.number, k.gen⟩ (tabCode (station s) k.slot k.issue) st
              .silent)))
      ∧ (k.awardee.map Awardee.station ≠ some st ∨ k.state = .offering ∨ k.state = .stranded
            ∨ (k.state = .fired ∨ k.state = .ready) ∧ k.lost ≠ none →
          t = s))
    ∧ (∀ (s : State) (st mark slot i : Nat) (tb : Tab) (sh : Share), tabIn s slot = some tb →
      tb.shares[i]? = some sh → tb.state ≠ .closed →
      let t := homeShareEvent st (.silent mark) slot tb.code i sh s
      (∀ m : Nat, sh.state = .heldRemote st m → m ≠ 0 →
        OnlyShare s t slot i tb sh (.adrift st m .silent)
        ∧ Notified s t (.shareAdrift tb.code i st m .silent))
      ∧ ((∀ m : Nat, sh.state ≠ .heldRemote st m) → t = s))
    ∧ (∀ (s : State) (mark : Nat) (b : Borrowed), borrowedOf s b.code b.share = some b →
      let t := borrowedEvent (.silent mark) s b
      OnlyBorrowed s t { b with homeSilent := true } ∧ t = { s with borrowed := t.borrowed })

/-- A PRESENCE delivered from another station (R36), in order: with another mark than the one held,
RESTARTED is raised and queued; the fields of its entry are replaced; an entry that was ABSENT or SILENT is
now PRESENT, raised and queued; a set last-call flag is adopted (R58). RESTARTED reissues a PLACING or
PLACED ticket of that awardee, and loses a FIRED or READY one; a stale holder is cleared (R76, R78). A share
lent under another mark is ADRIFT (R144); one lent under mark 0, for which R144 has a dash, stays (log 41).
An entry borrowed under another mark is freed with HOME-LOST, a CONFIRMING one ORPHANED (R153), its attempts
figure kept (log 49). The order of the notices is log 20's, that of several records log 21's. At a kitchen,
entries of the origin under another mark leave the queue or become REVOKED-FIRED, and their bids end: the
waiting BID of a TENTATIVE entry is cancelled, that of a replacement bid stays (log 27). Its lapsed-bid
items go, its pass entries stop repeating, and auto-fire is applied once (R105; what auto-fire does is
AutoFireFillsTheCapacity's): with the fire capacity taken it changes nothing. PRESENT with the mark known
finds a SILENT loss again and returns an ADRIFT share; a stale holder is cleared, with a REVOKE for its own
mark; a mark of 0 takes the mark; a paused borrowed entry sends its frame at once. A frame other than
PRESENCE refreshes the last-heard time of its source's entry, PRESENT or SILENT, and changes no other field
(R35). A frame of a kind that has no owner at this role does nothing more (R13): an OFFER, AWARD, WITHDRAW,
REVOKE or COLLECT at a till, a PROGRESS, WITHDRAW-REPLY or share frame at a kitchen. -/
def Obligations.StationTableHearsFrames : Prop :=
  ((∀ (s : State) (dest src : Nat) (p : PresenceFields), Delivers s ⟨dest, src, .presence p⟩ →
      let old := heard s src
      let s₀ := { s with line := { s.line with inbound := s.line.inbound.tail } }
      let s₁ := if (old.any fun h => h.mark != p.mark) = true then
          notify (.restarted src ((old.map Heard.mark).getD 0) p.mark)
            (raiseEvent src (.restarted p.mark) s₀)
        else s₀
      let s₂ := setHeard src
        { silent := false, role := p.role, cls := p.cls, mark := p.mark, lastHeard := now s
          depth := p.depth, freeSlots := p.freeSlots, accepting := p.accepting
          printer := p.printer, lastCall := p.lastCall } s₁
      let s₃ := if (old.all fun h => h.silent) = true then
          notify (.present src p.mark) (raiseEvent src (.present p.mark) s₂)
        else s₂
      exec (.presence dest src p) s
        = .next (if p.lastCall = true ∧ s.lastCall = false then
            notify (.lastCall src) { s₃ with lastCall := true } else s₃))
    ∧ (∀ (s : State) (dest src : Nat) (p : PresenceFields), Delivers s ⟨dest, src, .presence p⟩ →
      ∃ t : State, exec (.presence dest src p) s = .next t
        ∧ heard t src = some
            { silent := false, role := p.role, cls := p.cls, mark := p.mark, lastHeard := now s
              depth := p.depth, freeSlots := p.freeSlots, accepting := p.accepting
              printer := p.printer, lastCall := p.lastCall }
        ∧ (∀ m : Nat, m ≠ src → heard t m = heard s m))
    ∧ (∀ (s : State) (st mark : Nat) (k : Ticket), ticketOf s k.number = some k →
      let t := ticketEvent st (.restarted mark) s k.number
      (∀ a : Awardee, k.awardee = some a → a.station = st → k.stale.map StaleHolder.station ≠ some st →
        (k.state = .placing ∨ k.state = .placed → k.withdrawals = [] → k.live ≠ 0#8 → CanSend s 1 →
          Reissued s t k k.stale .awardeeRestarted
            (s.line.waiting.filter fun x => !ofTicket k.number x))
        ∧ (k.state = .fired ∨ k.state = .ready → k.lost ≠ some .restarted →
          OnlyTicket s t { k with lost := some .restarted }
          ∧ Notified s t (.kitchenLost ⟨k.number, k.gen⟩ (tabCode (station s) k.slot k.issue) st
              .restarted))
        ∧ (k.state = .fired ∨ k.state = .ready → k.lost = some .restarted → t = s))
      ∧ (k.awardee.map Awardee.station ≠ some st → k.stale.map StaleHolder.station = some st →
          OnlyTicket s t { k with stale := none } ∧ t = { s with tickets := t.tickets })
      ∧ (k.awardee.map Awardee.station ≠ some st → k.stale.map StaleHolder.station ≠ some st → t = s))
    ∧ (∀ (s : State) (st mark : Nat) (k : Ticket), ticketOf s k.number = some k →
      let t := ticketEvent st (.present mark) s k.number
      (∀ a : Awardee, k.awardee = some a → a.station = st → k.stale.map StaleHolder.station ≠ some st →
        ((k.state = .fired ∨ k.state = .ready) ∧ k.lost = some .silent ∧ a.mark = mark →
          OnlyTicket s t { k with lost := none } ∧ t = { s with tickets := t.tickets })
        ∧ (k.state = .placing ∨ k.state = .placed ∨ k.lost ≠ some .silent ∨ a.mark ≠ mark → t = s))
      ∧ (∀ x : StaleHolder, k.awardee.map Awardee.station ≠ some st → k.stale = some x →
          x.station = st → CanSend s 1 →
          t = { s with tickets := t.tickets, line := t.line }
          ∧ ticketOf t k.number = some { k with stale := none }
          ∧ (∀ m : Nat, m ≠ k.number → ticketOf t m = ticketOf s m)
          ∧ (x.mark = mark → Sends s t st (.revoke ⟨k.number, x.gen⟩) false)
          ∧ (x.mark ≠ mark → t.line = s.line))
      ∧ (k.awardee.map Awardee.station ≠ some st → k.stale.map StaleHolder.station ≠ some st → t = s))
    ∧ (∀ (s : State) (st mark slot i : Nat) (tb : Tab) (sh : Share), tabIn s slot = some tb →
      tb.shares[i]? = some sh → tb.state ≠ .closed →
      let r := homeShareEvent st (.restarted mark) slot tb.code i sh s
      let p := homeShareEvent st (.present mark) slot tb.code i sh s
      (∀ m : Nat, sh.state = .heldRemote st m →
        (m ≠ 0 → m ≠ mark → OnlyShare s r slot i tb sh (.adrift st m .restarted)
          ∧ Notified s r (.shareAdrift tb.code i st m .restarted))
        ∧ (m = 0 ∨ m = mark → r = s)
        ∧ (m = 0 → OnlyShare s p slot i tb sh (.heldRemote st mark) ∧ p = { s with tabs := p.tabs })
        ∧ (m ≠ 0 → p = s))
      ∧ (∀ m : Nat, sh.state = .adrift st m .silent →
        (m ≠ mark → OnlyShare s r slot i tb sh (.adrift st m .restarted)
          ∧ Notified s r (.shareAdrift tb.code i st m .restarted) ∧ p = s)
        ∧ (m = mark → r = s ∧ OnlyShare s p slot i tb sh (.heldRemote st m)
          ∧ Notified s p (.shareRecovered tb.code i st m)))
      ∧ ((∀ m : Nat, sh.state ≠ .heldRemote st m ∧ sh.state ≠ .adrift st m .silent) → r = s ∧ p = s))
    ∧ (∀ (s : State) (mark : Nat) (b : Borrowed), borrowedOf s b.code b.share = some b →
      let r := borrowedEvent (.restarted mark) s b
      let p := borrowedEvent (.present mark) s b
      (b.homeMark = 0 ∨ b.homeMark ≠ mark →
        (b.state = .asking ∨ b.state = .borrowed ∨ b.state = .returning →
          r = { s with borrowed := r.borrowed, line := r.line, notices := r.notices,
                       overflow := r.overflow, link := r.link }
          ∧ FreesBorrowed s r b.code b.share
          ∧ Notified s r (.homeLost b.code b.share b.slot b.state))
        ∧ (b.state = .confirming →
          OnlyBorrowed s r { b with state := .orphaned, wait := .none, paused := false }
          ∧ CancelsWaiting s r (ofBorrowed b.code b.share)
          ∧ Notified s r (.homeLost b.code b.share b.slot b.state))
        ∧ (b.state = .orphaned → r = s))
      ∧ (b.homeMark ≠ 0 → b.homeMark = mark → r = s)
      ∧ (b.homeMark = 0 ∨ b.homeMark = mark →
        (b.paused = false ∨ b.state ≠ .confirming ∧ b.state ≠ .returning →
          OnlyBorrowed s p { b with homeMark := mark, homeSilent := false }
          ∧ p = { s with borrowed := p.borrowed })
        ∧ (b.paused = true → CanSend s 1 →
          (b.state = .confirming → ∀ x : Taken, b.taken = some x →
            Sends s p (codeHome b.code)
              (.shareSettle b.code b.share x.tender x.settled x.adjustment) true)
          ∧ (b.state = .returning →
            Sends s p (codeHome b.code) (.shareReturn b.code b.share) true)
          ∧ (b.state = .confirming ∨ b.state = .returning →
            OnlyBorrowed s p { b with
                homeMark := mark, homeSilent := false, attempts := b.attempts + 1, wait := .none,
                paused := false }
            ∧ p = { s with borrowed := p.borrowed, line := p.line })))
      ∧ (b.homeMark ≠ 0 → b.homeMark ≠ mark → p = s))
    ∧ (∀ (s : State) (st mark : Nat), role s = .kitchen →
      raiseEvent st (.present mark) s = { s with kitchen := { s.kitchen with
          entries := s.kitchen.entries.map fun e =>
            if e.origin = st ∧ e.mark = 0 then { e with mark := mark } else e
          pass := s.kitchen.pass.map fun x =>
            if x.origin = st ∧ x.mark = 0 then { x with mark := mark } else x } }
      ∧ ((s.kitchen.entries.map fun e => (e.origin, e.number)).Nodup →
        let hit : Entry → Bool := fun e => e.origin == st && (e.mark == 0 || e.mark != mark)
        ∃ t : State, raiseEvent st (.restarted mark) s = autoFire t
        ∧ (s.join.figures.fire ≤ cookingCount s → autoFire t = t)
        ∧ t = { s with kitchen := t.kitchen, line := t.line, notices := t.notices
                       overflow := t.overflow, link := t.link }
        ∧ t.kitchen = { s.kitchen with
            entries := (s.kitchen.entries.filter fun e =>
              !(hit e && (e.state == .tentative || e.state == .queued))).map fun e =>
                if hit e = true then { e with state := .revokedFired, bid := none } else e
            lapsed := s.kitchen.lapsed.filter fun l => l.origin != st
            pass := s.kitchen.pass.map fun x =>
              if x.origin = st then { x with stopped := true } else x }
        ∧ Cancels s t (fun x => (s.kitchen.entries.filter hit).any fun e =>
            e.state == .tentative
              && (e.bid.map fun b => bidFrame e.origin e.number b.gen x).getD false)
        ∧ (let told := (s.kitchen.entries.filter hit).foldl (fun s e => match e.state with
            | .tentative | .queued =>
                notify (.revoked e.origin ⟨e.number, e.gen⟩ .originRestarted) s
            | .fired => notify (.revokedWhileFired e.origin ⟨e.number, e.gen⟩ .originRestarted) s
            | .revokedFired => s) s
           t.notices = told.notices ∧ t.overflow = told.overflow ∧ t.link = told.link)))
    ∧ (∀ (s : State) (dest src : Nat) (p : PresenceFields), Delivers s ⟨dest, src, .presence p⟩ →
        s.tickets = [] → s.borrowed = [] → (∀ i : Nat, tabIn s i = none) →
        s.kitchen.entries = [] → s.kitchen.lapsed = [] → s.kitchen.pass = [] → p.lastCall = false →
        ∃ t : State, exec (.presence dest src p) s = .next t
          ∧ t = { s with
              line := { s.line with inbound := s.line.inbound.tail }, stations := t.stations,
              notices := t.notices, overflow := t.overflow, link := t.link }
          ∧ (heard s src = none → Notified s t (.present src p.mark))
          ∧ (∀ h : Heard, heard s src = some h →
              (h.mark = p.mark → h.silent = false →
                t.notices = s.notices ∧ t.overflow = s.overflow ∧ t.link = s.link)
              ∧ (h.mark = p.mark → h.silent = true → Notified s t (.present src p.mark))
              ∧ (h.mark ≠ p.mark → h.silent = false →
                  Notified s t (.restarted src h.mark p.mark))
              ∧ (h.mark ≠ p.mark → h.silent = true →
                  Notified (notify (.restarted src h.mark p.mark) s) t (.present src p.mark)))))
    ∧ ((∀ (f : Frame) (s : State),
      arrived f s = { s with line := (arrived f s).line, stations := (arrived f s).stations }
        ∧ (arrived f s).line = { s.line with inbound := s.line.inbound.tail }
        ∧ heard (arrived f s) f.src
          = (heard s f.src).map (fun h => { h with lastHeard := now s })
        ∧ (∀ n : Nat, n ≠ f.src → heard (arrived f s) n = heard s n))
    ∧ (∀ (dest src : Nat) (s : State), role s = .till →
        (∀ o : OfferFields, Delivers s ⟨dest, src, .offer o⟩ →
          exec (.offer dest src o) s = .next (arrived ⟨dest, src, .offer o⟩ s))
        ∧ (∀ (ref : Ref) (a : Nat) (m : Byte), Delivers s ⟨dest, src, .award ref a m⟩ →
          exec (.award dest src ref a m) s = .next (arrived ⟨dest, src, .award ref a m⟩ s))
        ∧ (∀ (ref : Ref) (p : Nat), Delivers s ⟨dest, src, .withdraw ref p⟩ →
          exec (.withdraw dest src ref p) s = .next (arrived ⟨dest, src, .withdraw ref p⟩ s))
        ∧ (∀ ref : Ref, Delivers s ⟨dest, src, .revoke ref⟩ →
          exec (.revoke dest src ref) s = .next (arrived ⟨dest, src, .revoke ref⟩ s))
        ∧ (∀ ref : Ref, Delivers s ⟨dest, src, .collect ref⟩ →
          exec (.collectFrame dest src ref) s = .next (arrived ⟨dest, src, .collect ref⟩ s)))
    ∧ (∀ (dest src code share : Nat) (s : State), role s = .kitchen →
        (∀ (ref : Ref) (k : KitchenState) (m : Byte), Delivers s ⟨dest, src, .progress ref k m⟩ →
          exec (.progress dest src ref k m) s = .next (arrived ⟨dest, src, .progress ref k m⟩ s))
        ∧ (∀ (ref : Ref) (p : Nat) (o : WithdrawOutcome) (e : Bool),
          Delivers s ⟨dest, src, .withdrawReply ref p o e⟩ →
          exec (.withdrawReply dest src ref p o e) s
            = .next (arrived ⟨dest, src, .withdrawReply ref p o e⟩ s))
        ∧ (Delivers s ⟨dest, src, .shareAsk code share⟩ →
          exec (.shareAsk dest src code share) s
            = .next (arrived ⟨dest, src, .shareAsk code share⟩ s))
        ∧ (∀ a : Amounts, Delivers s ⟨dest, src, .shareGrant code share a⟩ →
          exec (.shareGrant dest src code share a) s
            = .next (arrived ⟨dest, src, .shareGrant code share a⟩ s))
        ∧ (∀ r : DenyReason, Delivers s ⟨dest, src, .shareDeny code share r⟩ →
          exec (.shareDeny dest src code share r) s
            = .next (arrived ⟨dest, src, .shareDeny code share r⟩ s))
        ∧ (∀ (k : Tender) (settled : Nat) (adj : Int),
          Delivers s ⟨dest, src, .shareSettle code share k settled adj⟩ →
          exec (.shareSettle dest src code share k settled adj) s
            = .next (arrived ⟨dest, src, .shareSettle code share k settled adj⟩ s))
        ∧ (Delivers s ⟨dest, src, .shareReturn code share⟩ →
          exec (.shareReturn dest src code share) s
            = .next (arrived ⟨dest, src, .shareReturn code share⟩ s))
        ∧ (∀ o : CloseOutcome, Delivers s ⟨dest, src, .shareClose code share o⟩ →
          exec (.shareClose dest src code share o) s
            = .next (arrived ⟨dest, src, .shareClose code share o⟩ s))))

/-- A delivered frame of the station's own number, of whatever kind, moves a JOINING or ON-LINE station to
DUPLICATE (R30): the transmit queue is emptied, the frame in transmission with it, and the transmitter
stops (R22). Each frame removed is reported to its owner as dropped, which starts the wait its owner times
from its end (R22, R65, R148, R151); records that no such frame names keep theirs. Every bid and every
TENTATIVE entry is removed (R90), the notice is queued, and the station table and every other block stay.
The frame goes to no other block: it leaves the inbound queue and nothing else happens in DUPLICATE
(R30, R31). -/
def Obligations.OwnNumberMakesADuplicate : Prop :=
  ∀ (c : Instr) (f : Frame) (s : State), deliveredFrame (role s) c = some f → Arrives s f →
    f.src = station s →
    (s.join.state = .joining ∨ s.join.state = .onLine →
      let removed := s.line.sending.toList ++ s.line.waiting
      ∃ t : State, exec c s = .next t
        ∧ t = { s with
            join := { s.join with state := .duplicate, windowFrom := none, presenceFrom := none }
            kitchen := { s.kitchen with entries := (s.kitchen.entries.filter fun e =>
                e.state != .tentative).map fun e => { e with bid := none } }
            line := t.line, tickets := t.tickets, borrowed := t.borrowed, notices := t.notices,
            overflow := t.overflow, link := t.link }
        ∧ (s.line.sending = none →
            t.line = { s.line with inbound := s.line.inbound.tail, waiting := [] })
        ∧ (s.line.sending ≠ none →
            t.line = { s.line with
              inbound := s.line.inbound.tail, waiting := [], sending := none, txPos := 0
              state := if s.line.since < 4 then some .busy else some .idle
              rx := Receiver.fresh .hunt })
        ∧ Notified s t (.duplicate (station s))
        ∧ t.tickets.map Ticket.waitless = s.tickets.map Ticket.waitless
        ∧ t.borrowed.map (fun b : Borrowed => { b with wait := .none })
          = s.borrowed.map (fun b : Borrowed => { b with wait := .none })
        ∧ (∀ n : Nat, (∀ x : TxItem, x ∈ removed → x.wait = true → ofTicket n x = false) →
            ticketOf t n = ticketOf s n)
        ∧ (∀ code i : Nat, (∀ x : TxItem, x ∈ removed → ofBorrowed code i x = false) →
            borrowedOf t code i = borrowedOf s code i)
        ∧ ∀ x : TxItem, x ∈ removed → x.wait = true →
          (∀ (o : OfferFields) (k : Ticket), x.frame.body = .offer o →
              ticketOf s o.ref.number = some k → k.gen = o.ref.gen → k.state = .offering →
              k.attempt = o.attempt →
              (ticketOf t o.ref.number).map Ticket.wait = some (.offerWindow (now s)))
          ∧ (∀ (ref : Ref) (awardee : Nat) (mask : Byte) (k : Ticket),
              x.frame.body = .award ref awardee mask → ticketOf s ref.number = some k →
              k.gen = ref.gen → k.state = .placing → k.awardee.map Awardee.station = some awardee →
              (ticketOf t ref.number).map Ticket.wait = some (.awardWait (now s)))
          ∧ (∀ (ref : Ref) (p : Nat) (k k' : Ticket) (w : Withdrawal),
              x.frame.body = .withdraw ref p → ticketOf s ref.number = some k → k.gen = ref.gen →
              ticketOf t ref.number = some k' → w ∈ k'.withdrawals → w.position = p →
              w.wait = some (now s))
          ∧ (∀ (code i : Nat) (b : Borrowed), x.frame.body = .shareAsk code i →
              borrowedOf s code i = some b → b.state = .asking →
              borrowedOf t code i = some { b with wait := .ask (now s) })
          ∧ (∀ (code i settled : Nat) (tender : Tender) (adj : Int) (b : Borrowed),
              x.frame.body = .shareSettle code i tender settled adj →
              borrowedOf s code i = some b → b.state = .confirming →
              borrowedOf t code i = some { b with wait := .again (now s) })
          ∧ (∀ (code i : Nat) (b : Borrowed), x.frame.body = .shareReturn code i →
              borrowedOf s code i = some b → b.state = .returning →
              borrowedOf t code i = some { b with wait := .again (now s) }))
    ∧ (s.join.state = .duplicate →
      exec c s = .next { s with line := { s.line with inbound := s.line.inbound.tail } })

/-! ## Operators -/

/-- SIGN-ON places the operator in the lowest-numbered empty slot with the level clamped to 3 and every
total 0 (R158). It is refused, in this order, with FIELD for an id outside 1-9999, with STATE for an id
that is signed on, with FULL when no slot is empty.
SIGN-OFF queues the SHIFT-REPORT, adds the slot's totals to the closed shifts and empties the slot
(R162, R163). At a till it is refused with HOLDING while a share is held locally by the slot, or a
borrowed entry of it is BORROWED, CONFIRMING or RETURNING (R161). The counts of the reply take 4 bytes
each (log 16), and the totals have no bound (log 24). -/
def Obligations.SignOnAndSignOff : Prop :=
  (∀ (s : State) (operator level : Nat),
    (s.join.state = .strapFault →
      ∃ t : State, exec (.signOn operator level) s = .next t ∧ OnlyLink s t ∧ Replied t .config [])
    ∧ (s.join.state ≠ .strapFault →
    (∀ i : Nat, 1 ≤ operator → operator ≤ 9999 →
        (∀ (j : Nat) (r : SlotRecord), slotOf s j = some r → r.operator ≠ operator) →
        i < 4 → slotOf s i = none → (∀ j : Nat, j < i → slotOf s j ≠ none) →
        ∃ t : State, exec (.signOn operator level) s = .next t
          ∧ t = { s with slots := t.slots, link := t.link }
          ∧ slotOf t i = some ⟨operator, min level 3, now s, ⟨0, 0, 0, 0, 0, 0⟩⟩
          ∧ (∀ j : Nat, j ≠ i → slotOf t j = slotOf s j)
          ∧ Replied t .done [byte i, byte (min level 3)])
      ∧ (operator = 0 ∨ 9999 < operator →
          ∃ t : State, exec (.signOn operator level) s = .next t ∧ OnlyLink s t ∧ Replied t .field [])
      ∧ (1 ≤ operator → operator ≤ 9999 →
          (∃ (j : Nat) (r : SlotRecord), slotOf s j = some r ∧ r.operator = operator) →
          ∃ t : State, exec (.signOn operator level) s = .next t ∧ OnlyLink s t ∧ Replied t .state [])
      ∧ (1 ≤ operator → operator ≤ 9999 →
          (∀ (j : Nat) (r : SlotRecord), slotOf s j = some r → r.operator ≠ operator) →
          (∀ j : Nat, j < 4 → slotOf s j ≠ none) →
          ∃ t : State, exec (.signOn operator level) s = .next t ∧ OnlyLink s t ∧ Replied t .full [])))
    ∧ (∀ (s : State) (slot : Nat) (r : SlotRecord),
    (s.join.state = .strapFault →
      ∃ t : State, exec (.signOff slot) s = .next t ∧ OnlyLink s t ∧ Replied t .config [])
    ∧ (s.join.state ≠ .strapFault → slotOf s slot = none →
      ∃ t : State, exec (.signOff slot) s = .next t ∧ OnlyLink s t ∧ Replied t .notSigned [])
    ∧ (s.join.state ≠ .strapFault → slotOf s slot = some r →
    ((role s = .till →
        (∀ (i : Nat) (t : Tab) (sh : Share), tabIn s i = some t → sh ∈ t.shares →
          sh.state ≠ .heldLocal slot)
        ∧ (∀ b : Borrowed, b ∈ s.borrowed → b.slot = slot →
          b.state = .asking ∨ b.state = .orphaned)) →
      ∃ t : State, exec (.signOff slot) s = .next t
        ∧ t = { s with slots := t.slots, closed := t.closed, notices := t.notices,
                       overflow := t.overflow, link := t.link }
        ∧ slotOf t slot = none ∧ (∀ j : Nat, j ≠ slot → slotOf t j = slotOf s j)
        ∧ t.closed.shifts = s.closed.shifts + 1
        ∧ t.closed.totals.cash = s.closed.totals.cash + r.totals.cash
        ∧ t.closed.totals.card = s.closed.totals.card + r.totals.card
        ∧ t.closed.totals.rounding = s.closed.totals.rounding + r.totals.rounding
        ∧ t.closed.totals.shares = s.closed.totals.shares + r.totals.shares
        ∧ t.closed.totals.voids = s.closed.totals.voids + r.totals.voids
        ∧ t.closed.totals.wastes = s.closed.totals.wastes + r.totals.wastes
        ∧ Reported s t (.shiftReport slot r.operator r.level r.since (now s) r.totals)
        ∧ Replied t .done (byte slot :: (be16 r.operator ++ [byte r.level] ++ be32 r.since.toNat
            ++ be32 (now s).toNat ++ be48 r.totals.cash ++ be48 r.totals.card
            ++ be48Int r.totals.rounding ++ be32 r.totals.shares ++ be32 r.totals.voids
            ++ be32 r.totals.wastes)))
      ∧ (role s = .till →
          ((∃ (i : Nat) (t : Tab) (sh : Share), i < 32 ∧ tabIn s i = some t ∧ sh ∈ t.shares
              ∧ sh.state = .heldLocal slot)
            ∨ ∃ b : Borrowed, b ∈ s.borrowed ∧ b.slot = slot
                ∧ (b.state = .borrowed ∨ b.state = .confirming ∨ b.state = .returning)) →
          ∃ t : State, exec (.signOff slot) s = .next t ∧ OnlyLink s t ∧ Replied t .holding [])))

/-! ## Tabs and lines -/

/-- OPEN-TAB opens a tab in the lowest-numbered free slot under the slot's next issue, with one EMPTY
share and no lines (R41, R43); with every slot taken it is refused with FULL. CLOSE-TAB closes an OPEN tab
whose shares are all EMPTY (R55); with every line finished and no ticket record on it the slot is freed
and TAB-FREED is queued, the issue counter kept (R56). -/
def Obligations.TabsOpenAndClose : Prop :=
  (∀ (s : State) (slot i n : Nat) (r : SlotRecord), TillSlot s slot 3 r →
      s.tabs[i]? = some ⟨n, none⟩ → (∀ j : Nat, j < i → tabIn s j ≠ none) →
      ∃ t : State, exec (.openTab slot) s = .next t
        ∧ t = { s with tabs := t.tabs, link := t.link } ∧ OtherSlots s t i
        ∧ t.tabs[i]? = some
            { issue := (n + 1) % 32
              tab := some
                { code := station s * 1024 + i * 32 + (n + 1) % 32, state := .opened,
                  operator := r.operator, openedAt := now s, lines := []
                  shares := [⟨0, ⟨0, 0, 0, 0, 0, 0, 0, 0, 0⟩, .empty⟩], gross := 0, total := 0 } }
        ∧ Replied t .done (be16 (station s * 1024 + i * 32 + (n + 1) % 32)))
    ∧ (∀ (s : State) (slot : Nat) (r : SlotRecord), TillSlot s slot 3 r →
        (∀ j : Nat, j < 32 → tabIn s j ≠ none) →
        ∃ t : State, exec (.openTab slot) s = .next t ∧ OnlyLink s t ∧ Replied t .full [])
    ∧ (∀ (s : State) (slot code : Nat) (r : SlotRecord) (tb : Tab), TillSlot s slot 2 r →
        tabOf s code = some tb → tb.state = .opened →
        (∀ l : TabLine, l ∈ tb.lines → l.state ≠ .withdrawing) →
        (∀ sh : Share, sh ∈ tb.shares → sh.state = .empty) →
        ∃ t : State, exec (.closeTab slot code) s = .next t
          ∧ t = { s with tabs := t.tabs, notices := t.notices, overflow := t.overflow, link := t.link }
          ∧ OtherSlots s t (codeSlot code)
          ∧ (t.tabs[codeSlot code]?).map TabSlot.issue = (s.tabs[codeSlot code]?).map TabSlot.issue
          ∧ Replied t .done []
          ∧ ((∀ l : TabLine, l ∈ tb.lines → l.state = .served ∨ l.state = .void ∨ l.state = .waste) →
              (∀ k : Ticket, k ∈ s.tickets → k.slot = codeSlot code → k.issue ≠ codeIssue code) →
              tabIn t (codeSlot code) = none ∧ Reported s t (.tabFreed code))
          ∧ ((∃ l : TabLine, l ∈ tb.lines ∧ l.state ≠ .served ∧ l.state ≠ .void ∧ l.state ≠ .waste)
                ∨ (∃ k : Ticket, k ∈ s.tickets ∧ k.slot = codeSlot code
                    ∧ k.issue = codeIssue code) →
              tabIn t (codeSlot code) = some { tb with state := .closed }
                ∧ t.notices = s.notices ∧ t.overflow = s.overflow))

/-- ADD-LINE appends the clamped line as ENTERED, adds its gross, computes the tab and replies index and
clamped values (R46, R48; log 19), when every check of R45 passes; otherwise the first that fails gives
the refusal, in the order of R45. -/
def Obligations.AddLineChecksThenAppends : Prop :=
  ∀ (s : State) (slot code : Nat) (l : LineFields) (r : SlotRecord) (tb : Tab),
    TillSlot s slot 3 r → tabOf s code = some tb →
    ∃ t : State, exec (.addLine slot code l) s = .next t ∧
      let cls := if 7 < l.cls then 0 else l.cls
      let price := min l.price 50000
      let fieldsGood : Prop :=
        (1 ≤ l.qty ∧ l.qty ≤ 60) ∧ (1 ≤ l.label.length ∧ l.label.length ≤ 12) ∧ l.note.length ≤ 12
          ∧ ∀ b : Byte, b ∈ l.label ++ l.note → 0x20 ≤ b.toNat ∧ b.toNat ≤ 0x7E
      let unlocked : Prop := ∀ sh : Share, sh ∈ tb.shares → sh.state = .opened ∨ sh.state = .empty
      let served : Prop := cls = 0 ∨ ∃ (n : Nat) (h : Heard), heard s n = some h ∧ h.silent = false
        ∧ h.role = .kitchen ∧ h.cls = cls ∧ h.accepting = true
      let sold : Prop := l.restricted = 0 ∨ s.lastCall = false
      (¬unlocked → OnlyLink s t ∧ Replied t .locked [])
        ∧ (unlocked → tb.state ≠ .opened → OnlyLink s t ∧ Replied t .state [])
        ∧ (unlocked → tb.state = .opened → ¬fieldsGood → OnlyLink s t ∧ Replied t .field [])
        ∧ (unlocked → tb.state = .opened → fieldsGood → ¬served → OnlyLink s t ∧ Replied t .unserved [])
        ∧ (unlocked → tb.state = .opened → fieldsGood → served → ¬sold →
            OnlyLink s t ∧ Replied t .restricted [])
        ∧ (unlocked → tb.state = .opened → fieldsGood → served → sold →
            500000 < tb.gross + price * l.qty → OnlyLink s t ∧ Replied t .limit [])
        ∧ (unlocked → tb.state = .opened → fieldsGood → served → sold →
            tb.gross + price * l.qty ≤ 500000 → 24 ≤ tb.lines.length →
            OnlyLink s t ∧ Replied t .full [])
        ∧ (unlocked → tb.state = .opened → fieldsGood → served → sold →
            tb.gross + price * l.qty ≤ 500000 → tb.lines.length < 24 →
            t = { s with tabs := t.tabs, link := t.link } ∧ OtherSlots s t (codeSlot code)
              ∧ tabIn t (codeSlot code) = some (Tab.compute s.join.figures
                  { tb with
                    lines := tb.lines ++ [{
                      label := l.label, note := l.note, qty := l.qty, price := price
                      taxGroup := min l.taxGroup 3, deposit := min l.deposit 500, cls := cls
                      restricted := decide (l.restricted ≠ 0)
                      alloc := if 1 < tb.shares.length then .allEqual else .one 0
                      state := .entered, place := none }]
                    gross := tb.gross + price * l.qty })
              ∧ Replied t .done (byte tb.lines.length :: (be16 price ++ be16 (min l.deposit 500)
                  ++ [byte (min l.taxGroup 3), byte cls])))

/-- VOID-LINE by the state of the line and of its ticket (R50, R51, R73, R74, Table 3-6). An ENTERED line
becomes VOID. A SENT line of an OFFERING or STRANDED ticket becomes VOID and leaves its ticket. A SENT line
of a PLACING or PLACED ticket becomes WITHDRAWING, and a WITHDRAW goes to the awardee. Each adds 1 to the
void count of the slot (R160). A SENT line of a FIRED or READY ticket and a line that is FIRED, READY,
SERVED, VOID or WASTE are refused with STATE, a WITHDRAWING one with PENDING, whatever the slot's level; a
SENT line of another ticket with LEVEL at level 3, and for want of its frame with OFFLINE or LINE-BUSY
(R15).
WASTE-LINE makes a FIRED or READY line WASTE with its ticket place, takes its gross off the bill,
computes the tab and adds 1 to the waste count of the slot; the ticket is not told (R52, R160). A line in
another state is refused with STATE. Both are refused with LOCKED while a share is held, adrift or paid,
then with STATE on a CLOSED tab, then with FIELD for an index that is no line's (R49, R52). The counts of
voids and wastes have no bound (log 24). -/
def Obligations.VoidAndWasteByLineState : Prop :=
  (∀ (s : State) (slot code line : Nat) (r : SlotRecord) (tb : Tab) (l : TabLine),
    TillSlot s slot 3 r → tabOf s code = some tb →
    (∀ sh : Share, sh ∈ tb.shares → sh.state = .opened ∨ sh.state = .empty) →
    tb.state ≠ .closed → tb.lines[line]? = some l →
    (l.state = .entered →
        ∃ t : State, exec (.voidLine slot code line) s = .next t
          ∧ t = { s with tabs := t.tabs, slots := t.slots, link := t.link }
          ∧ OtherSlots s t (codeSlot code)
          ∧ tabIn t (codeSlot code) = some (Tab.compute s.join.figures
              { Tab.withLine line { l with state := .void, place := none } tb with
                gross := tb.gross - l.price * l.qty })
          ∧ slotOf t slot
            = some { r with totals := { r.totals with voids := r.totals.voids + 1 } }
          ∧ (∀ j : Nat, j ≠ slot → slotOf t j = slotOf s j)
          ∧ Replied t .done [])
      ∧ (∀ (n p : Nat) (k : Ticket), l.state = .sent → l.place = some (n, p) → r.level ≤ 2 →
          ticketOf s n = some k → k.state = .offering ∨ k.state = .stranded →
          k.slot = codeSlot code →
          ∃ t : State, exec (.voidLine slot code line) s = .next t
            ∧ t = { s with tabs := t.tabs, slots := t.slots, tickets := t.tickets, line := t.line,
                           link := t.link }
            ∧ OtherSlots s t (codeSlot code)
            ∧ tabIn t (codeSlot code) = some (Tab.compute s.join.figures
                { Tab.withLine line { l with state := .void, place := none } tb with
                  gross := tb.gross - l.price * l.qty })
            ∧ slotOf t slot
              = some { r with totals := { r.totals with voids := r.totals.voids + 1 } }
            ∧ (k.live &&& ~~~(1#8 <<< p) ≠ 0#8 → t.line = s.line
                ∧ ticketOf t n = some { k with
                    live := k.live &&& ~~~(1#8 <<< p)
                    withdrawals := k.withdrawals.filter fun w => w.position != p })
            ∧ (k.live &&& ~~~(1#8 <<< p) = 0#8 → ticketOf t n = none
                ∧ t.line = { s.line with
                    waiting := s.line.waiting.filter fun x => !ofTicket n x
                    sending := s.line.sending.map (TxItem.disown (ofTicket n)) })
            ∧ (∀ m : Nat, m ≠ n → ticketOf t m = ticketOf s m)
            ∧ Replied t .done [])
      ∧ (∀ (n p : Nat) (k : Ticket) (a : Awardee), l.state = .sent → l.place = some (n, p) →
          r.level ≤ 2 → ticketOf s n = some k → k.state = .placing ∨ k.state = .placed →
          k.awardee = some a → CanSend s 1 →
          ∃ t : State, exec (.voidLine slot code line) s = .next t
            ∧ t = { s with tabs := t.tabs, slots := t.slots, tickets := t.tickets, line := t.line,
                           link := t.link }
            ∧ OtherSlots s t (codeSlot code)
            ∧ tabIn t (codeSlot code) = some (Tab.withLine line { l with state := .withdrawing } tb)
            ∧ slotOf t slot
              = some { r with totals := { r.totals with voids := r.totals.voids + 1 } }
            ∧ ticketOf t n = some { k with withdrawals := k.withdrawals ++ [⟨p, 1, none⟩] }
            ∧ (∀ m : Nat, m ≠ n → ticketOf t m = ticketOf s m)
            ∧ Sends s t a.station (.withdraw ⟨k.number, k.gen⟩ p) true
            ∧ Replied t .accepted [])
      ∧ (∀ (n p : Nat) (k : Ticket) (why : ReplyCode), l.state = .sent → l.place = some (n, p) →
          ticketOf s n = some k →
          (k.state = .fired ∨ k.state = .ready) ∧ why = .state
            ∨ k.state ≠ .fired ∧ k.state ≠ .ready ∧ r.level = 3 ∧ why = .level
            ∨ (k.state = .placing ∨ k.state = .placed) ∧ r.level ≤ 2 ∧ s.join.state ≠ .onLine
              ∧ why = .offline
            ∨ (k.state = .placing ∨ k.state = .placed) ∧ r.level ≤ 2 ∧ s.join.state = .onLine
              ∧ freeTx s = 0 ∧ why = .lineBusy →
          ∃ t : State, exec (.voidLine slot code line) s = .next t ∧ OnlyLink s t ∧ Replied t why [])
      ∧ (l.state = .withdrawing →
          ∃ t : State, exec (.voidLine slot code line) s = .next t ∧ OnlyLink s t
            ∧ Replied t .pending [])
      ∧ (l.state = .fired ∨ l.state = .ready ∨ l.state = .served ∨ l.state = .void
            ∨ l.state = .waste →
          ∃ t : State, exec (.voidLine slot code line) s = .next t ∧ OnlyLink s t
            ∧ Replied t .state []))
    ∧ (∀ (s : State) (slot code line : Nat) (r : SlotRecord) (tb : Tab) (c : Instr) (why : ReplyCode),
    TillSlot s slot 3 r → tabOf s code = some tb →
    c = .voidLine slot code line ∨ c = .wasteLine slot code line ∧ r.level ≤ 1 →
    (∃ sh : Share, sh ∈ tb.shares ∧ sh.state ≠ .opened ∧ sh.state ≠ .empty) ∧ why = .locked
      ∨ (∀ sh : Share, sh ∈ tb.shares → sh.state = .opened ∨ sh.state = .empty)
        ∧ (tb.state = .closed ∧ why = .state
          ∨ tb.state ≠ .closed ∧ tb.lines.length ≤ line ∧ why = .field) →
    ∃ t : State, exec c s = .next t ∧ OnlyLink s t ∧ Replied t why [])
    ∧ (∀ (s : State) (slot code line : Nat) (r : SlotRecord) (tb : Tab) (l : TabLine),
    TillSlot s slot 1 r → tabOf s code = some tb →
    (∀ sh : Share, sh ∈ tb.shares → sh.state = .opened ∨ sh.state = .empty) →
    tb.state ≠ .closed → tb.lines[line]? = some l →
    (l.state = .fired ∨ l.state = .ready →
        ∃ t : State, exec (.wasteLine slot code line) s = .next t
          ∧ t = { s with tabs := t.tabs, slots := t.slots, link := t.link }
          ∧ OtherSlots s t (codeSlot code)
          ∧ tabIn t (codeSlot code) = some (Tab.compute s.join.figures
              { Tab.withLine line { l with state := .waste } tb with
                gross := tb.gross - l.price * l.qty })
          ∧ slotOf t slot
            = some { r with totals := { r.totals with wastes := r.totals.wastes + 1 } }
          ∧ (∀ j : Nat, j ≠ slot → slotOf t j = slotOf s j)
          ∧ Replied t .done [])
      ∧ (l.state ≠ .fired → l.state ≠ .ready →
          ∃ t : State, exec (.wasteLine slot code line) s = .next t ∧ OnlyLink s t
            ∧ Replied t .state []))

/-- LAST-CALL sets the flag, sends one LAST-CALL frame to all stations and queues the notice with this
station's number; with the flag set it changes nothing (R57). A delivered LAST-CALL frame is adopted in the
same way at either role, with the notice naming its source (R58). -/
def Obligations.LastCallIsAdopted : Prop :=
  (∀ (s : State) (slot : Nat) (r : SlotRecord), TillSlot s slot 1 r →
      (s.lastCall = false → CanSend s 1 →
        ∃ t : State, exec (.lastCall slot) s = .next t
          ∧ t = { s with lastCall := true, line := t.line, notices := t.notices,
                         overflow := t.overflow, link := t.link }
          ∧ Sends s t 127 .lastCall false ∧ Reported s t (.lastCall (station s))
          ∧ Replied t .done [])
        ∧ (s.lastCall = false → s.join.state ≠ .onLine →
          ∃ t : State, exec (.lastCall slot) s = .next t ∧ OnlyLink s t ∧ Replied t .offline [])
        ∧ (s.lastCall = false → s.join.state = .onLine → freeTx s = 0 →
          ∃ t : State, exec (.lastCall slot) s = .next t ∧ OnlyLink s t ∧ Replied t .lineBusy [])
        ∧ (s.lastCall = true →
          ∃ t : State, exec (.lastCall slot) s = .next t ∧ OnlyLink s t ∧ Replied t .done []))
    ∧ (∀ (s : State) (dest src : Nat), Delivers s ⟨dest, src, .lastCall⟩ →
        (s.lastCall = false →
          ∃ t : State, exec (.lastCallFrame dest src) s = .next t
            ∧ t = { arrived ⟨dest, src, .lastCall⟩ s with
                lastCall := true, notices := t.notices, overflow := t.overflow, link := t.link }
            ∧ Notified s t (.lastCall src))
          ∧ (s.lastCall = true →
            exec (.lastCallFrame dest src) s = .next (arrived ⟨dest, src, .lastCall⟩ s)))

/-! ## Split arithmetic -/

/-- SPLIT sets the count, gives every line the allocation of the new count, clears every discount and
computes the tab (R125); ASSIGN sets one counted line's allocation, weights clamped to 9 and 0 at and above
the count (R126); DISCOUNT sets one share's discount, at most 50 (R127). Each replies what it stored and
the new totals; the fields of an allocation that its kind does not use are sent as 0 (log 48). -/
def Obligations.SplitAssignDiscount : Prop :=
  ∀ (s : State) (slot code : Nat) (r : SlotRecord) (tb : Tab),
    TillSlot s slot 2 r → tabOf s code = some tb →
    (∀ sh : Share, sh ∈ tb.shares → sh.state = .opened ∨ sh.state = .empty) → tb.state ≠ .closed →
    (∀ count : Nat, count ≠ 0 →
        ∃ t : State, exec (.split slot code count) s = .next t
          ∧ t = { s with tabs := t.tabs, link := t.link } ∧ OtherSlots s t (codeSlot code)
          ∧ ∃ tb' : Tab, tabIn t (codeSlot code) = some tb'
            ∧ tb' = { tb with lines := tb'.lines, shares := tb'.shares, total := tb'.total }
            ∧ tb'.lines = tb.lines.map (fun l =>
                { l with alloc := if 1 < min count 8 then .allEqual else .one 0 })
            ∧ tb'.shares.length = min count 8
            ∧ (∀ (i : Nat) (sh : Share), tb'.shares[i]? = some sh → sh.discount = 0
                ∧ sh.amounts = amountsOf s.join.figures tb'.lines (min count 8) i 0
                ∧ sh.state = if sh.amounts.total = 0 then .empty else .opened)
            ∧ tb'.total = (tb'.shares.map fun sh => sh.amounts.total).sum
            ∧ Replied t .done (byte (min count 8) :: be32 tb'.total))
      ∧ (∃ t : State, exec (.split slot code 0) s = .next t ∧ OnlyLink s t ∧ Replied t .field [])
      ∧ (∀ (line kind share : Nat) (weights : List Nat) (l : TabLine) (a : Alloc),
          tb.lines[line]? = some l → l.state ≠ .void → l.state ≠ .waste →
          (kind = 0 ∧ a = .allEqual
            ∨ kind = 1 ∧ share < tb.shares.length ∧ a = .one share
            ∨ kind = 2 ∧ (∃ i : Nat, i < 8 ∧ i < tb.shares.length ∧ 0 < weights.getD i 0)
              ∧ a = .weighted ((List.range 8).map fun i =>
                  if i < tb.shares.length then min (weights.getD i 0) 9 else 0)) →
          ∃ t : State, exec (.assign slot code line kind share weights) s = .next t
            ∧ t = { s with tabs := t.tabs, link := t.link } ∧ OtherSlots s t (codeSlot code)
            ∧ ∃ tb' : Tab, tabIn t (codeSlot code) = some tb'
              ∧ tb' = Tab.compute s.join.figures (Tab.withLine line { l with alloc := a } tb)
              ∧ Replied t .done (Alloc.bytes a ++ be32 tb'.total))
      ∧ (∀ (share percent : Nat) (sh : Share), tb.shares[share]? = some sh →
          ∃ t : State, exec (.discount slot code share percent) s = .next t
            ∧ t = { s with tabs := t.tabs, link := t.link } ∧ OtherSlots s t (codeSlot code)
            ∧ ∃ (tb' : Tab) (sh' : Share), tabIn t (codeSlot code) = some tb'
              ∧ tb' = Tab.compute s.join.figures
                  (Tab.withShare share { sh with discount := min percent 50 } tb)
              ∧ tb'.shares[share]? = some sh' ∧ sh'.discount = min percent 50
              ∧ Replied t .done (byte (min percent 50) :: (be32 sh'.amounts.total ++ be32 tb'.total)))

/-- The goods allocation by largest remainder (R129): each share has floor(G w / W), and one more when
fewer than R shares rank before it, by (G w) modulo W and then by index, R being what the floors leave.
The parts sum to the whole, and a share of weight 0 has nothing.
A share's amounts (R130 to R133): per tax group the sum of its goods, its discount rounded half a
cent up, and its tax on the net rounded half a cent up; deposits by units; the total net, taxes and
deposits together. A computed tab's total is the sum of its share totals, and a share is EMPTY exactly
with a total of 0. -/
def Obligations.SharesDivideAndAddUp : Prop :=
  (∀ (amount : Nat) (ws : List Nat), 0 < ws.sum →
    (divide amount ws).length = ws.length ∧ (divide amount ws).sum = amount
      ∧ ∀ (i w : Nat), ws[i]? = some w →
        (divide amount ws)[i]?
          = some (amount * w / ws.sum
              + if ((ws.zipIdx).filter fun q =>
                      amount * w % ws.sum < amount * q.1 % ws.sum
                        || (amount * q.1 % ws.sum == amount * w % ws.sum && q.2 < i)).length
                    < amount - (ws.map fun v => amount * v / ws.sum).sum then 1 else 0)
        ∧ (w = 0 → (divide amount ws)[i]? = some 0))
    ∧ ((∀ (f : Figures) (lines : List TabLine) (count i p : Nat), p ≤ 50 →
      let a := amountsOf f lines count i p
      let goods : Nat → Nat := fun g =>
        (((lines.filter TabLine.counted).filter fun l => l.taxGroup == g).map fun l =>
          (divide (l.price * l.qty) (Alloc.weights count l.alloc)).getD i 0).sum
      let cut : Nat → Nat := fun g => (goods g * p + 50) / 100
      let tax : Nat → Nat → Nat := fun g rate => ((goods g - cut g) * rate + 5000) / 10000
      a.goods = goods 0 + goods 1 + goods 2 + goods 3
        ∧ a.discount = cut 0 + cut 1 + cut 2 + cut 3 ∧ a.net + a.discount = a.goods
        ∧ a.tax0 = tax 0 f.tax0 ∧ a.tax1 = tax 1 f.tax1 ∧ a.tax2 = tax 2 f.tax2
        ∧ a.tax3 = tax 3 f.tax3
        ∧ a.deposits = ((lines.filter TabLine.counted).map fun l =>
            (divide l.qty (Alloc.weights count l.alloc)).getD i 0 * l.deposit).sum
        ∧ a.total = a.net + (a.tax0 + a.tax1 + a.tax2 + a.tax3) + a.deposits)
    ∧ (∀ (f : Figures) (tb : Tab),
        (∀ sh : Share, sh ∈ tb.shares → sh.state = .opened ∨ sh.state = .empty) →
        (Tab.compute f tb).total = ((Tab.compute f tb).shares.map fun sh => sh.amounts.total).sum
          ∧ (Tab.compute f tb).shares.length = tb.shares.length
          ∧ ∀ (i : Nat) (sh : Share), (Tab.compute f tb).shares[i]? = some sh →
              sh.amounts = amountsOf f tb.lines tb.shares.length i sh.discount
              ∧ (sh.state = .empty ↔ sh.amounts.total = 0)
              ∧ (sh.state = .opened ↔ sh.amounts.total ≠ 0))
    ∧ (∀ (f : Figures) (tb : Tab),
        (∃ sh : Share, sh ∈ tb.shares ∧ sh.state ≠ .opened ∧ sh.state ≠ .empty) →
        Tab.compute f tb = tb))

/-- The payment step (R134): CARD settles the total itself; CASH the total rounded to a multiple of 5 by
its last digit, SHORT when less is tendered, the change otherwise; any other tender is refused with
FIELD. -/
def Obligations.PaymentStepSettles : Prop :=
  (∀ total tendered : Nat,
      paymentStep total 1 tendered = .ok (.card, total, 0, 0)
        ∧ (∀ (settled : Nat) (adj : Int),
            (total % 10 = 0 ∧ settled = total ∧ adj = 0
              ∨ total % 10 = 1 ∧ settled = total - 1 ∧ adj = -1
              ∨ total % 10 = 2 ∧ settled = total - 2 ∧ adj = -2
              ∨ total % 10 = 3 ∧ settled = total + 2 ∧ adj = 2
              ∨ total % 10 = 4 ∧ settled = total + 1 ∧ adj = 1
              ∨ total % 10 = 5 ∧ settled = total ∧ adj = 0
              ∨ total % 10 = 6 ∧ settled = total - 1 ∧ adj = -1
              ∨ total % 10 = 7 ∧ settled = total - 2 ∧ adj = -2
              ∨ total % 10 = 8 ∧ settled = total + 2 ∧ adj = 2
              ∨ total % 10 = 9 ∧ settled = total + 1 ∧ adj = 1) →
            paymentStep total 0 tendered
              = if tendered < settled then .error .short
                else .ok (.cash, settled, adj, tendered - settled))
        ∧ ∀ tender : Nat, 2 ≤ tender → paymentStep total tender tendered = .error .field)
    ∧ (∀ (total tender tendered settled change : Nat) (k : Tender) (adj : Int),
        paymentStep total tender tendered = .ok (k, settled, adj, change) →
        adj = (settled : Int) - total ∧ -2 ≤ adj ∧ adj ≤ 2 ∧ (k = .card → settled = total)
          ∧ (k = .cash → settled % 5 = 0 ∧ settled + change = tendered))

/-! ## Tickets -/

/-- SEND of a tab that is not CLOSED, when its ENTERED lines fit the free records and the OFFERs the
transmit queue (R63): counter lines become SERVED; each kitchen class's lines are cut into tickets of up to
8, created in class order, each under the next number that no record holds, from 4095 to 1; each such
line is SENT with its ticket and position; the reply lists the numbers (R61, R64), their count before them
in one byte (log 16). One OFFER per ticket
joins the queue, in the tickets' order, to the class group (R64, R66, R14): its end starts the offer window.
An OFFER carries the ticket's reference, class, priority and attempt, and one item for every position,
live or not, from the tab's lines (R66). -/
def Obligations.SendCutsTicketsAndOffers : Prop :=
  (∀ (s : State) (slot code prio : Nat) (r : SlotRecord) (tb : Tab) (band : Band),
    TillSlot s slot 3 r → tabOf s code = some tb → tb.state ≠ .closed → tb.lines.length ≤ 24 →
    (prio = 0 ∧ band = .normal ∨ prio = 1 ∧ band = .rush) →
    s.tickets.length + (ticketsNeeded tb).length ≤ 32 →
    (ticketsNeeded tb ≠ [] → CanSend s (ticketsNeeded tb).length) →
    ∃ (t : State) (news : List Ticket) (tb' : Tab), exec (.send slot code prio) s = .next t
      ∧ t = { s with tabs := t.tabs, tickets := t.tickets, nextTicket := t.nextTicket, line := t.line,
                     link := t.link }
      ∧ t.tickets = s.tickets ++ news
      ∧ news.map (fun k => (k.cls, k.positions)) = ticketsNeeded tb
      ∧ (∀ k : Ticket, k ∈ news → k.state = .offering ∧ k.gen = 0 ∧ k.attempt = 0 ∧ k.repeats = 0
          ∧ k.slot = codeSlot code ∧ k.issue = codeIssue code ∧ k.priority = band
          ∧ k.live = byte (2 ^ k.positions.length - 1) ∧ k.awardee = none ∧ k.stale = none
          ∧ k.kmask = 0#8 ∧ k.late = false ∧ k.sent = now s ∧ k.placed = none ∧ k.ready = none
          ∧ 1 ≤ k.positions.length ∧ k.positions.length ≤ 8 ∧ ticketOf s k.number = none)
      ∧ (news.map Ticket.number).Nodup
      ∧ (∀ (j : Nat) (k : Ticket), news[j]? = some k →
          let next := if j = 0 then s.nextTicket
            else ((news[j - 1]?).map fun x => x.number % 4095 + 1).getD 0
          ∃ d : Nat, k.number = (next - 1 + d) % 4095 + 1
            ∧ ∀ d' : Nat, d' < d →
              ∃ x : Ticket, x ∈ s.tickets ++ news.take j ∧ x.number = (next - 1 + d') % 4095 + 1)
      ∧ t.nextTicket = ((news.getLast?).map fun x => x.number % 4095 + 1).getD s.nextTicket
      ∧ tabIn t (codeSlot code) = some tb' ∧ tb' = { tb with lines := tb'.lines }
      ∧ OtherSlots s t (codeSlot code) ∧ tb'.lines.length = tb.lines.length
      ∧ (∀ (i : Nat) (l : TabLine), tb.lines[i]? = some l →
          (l.state ≠ .entered → tb'.lines[i]? = some l)
          ∧ (l.state = .entered → l.cls = 0 → tb'.lines[i]? = some { l with state := .served })
          ∧ (l.state = .entered → 1 ≤ l.cls → l.cls ≤ 7 →
              ∃ (k : Ticket) (p : Nat), k ∈ news ∧ k.cls = l.cls ∧ k.positions[p]? = some i
                ∧ tb'.lines[i]? = some { l with state := .sent, place := some (k.number, p) }))
      ∧ t.line.waiting = news.foldl
          (fun q k => joinQueue (newItem s (64 + k.cls) (offerBody t k) true) q) s.line.waiting
      ∧ t.line = { s.line with waiting := t.line.waiting }
      ∧ Replied t .done (byte news.length :: news.flatMap fun k => be16 k.number))
    ∧ (∀ (s : State) (n : Nat) (k : Ticket) (tb : Tab), ticketOf s n = some k →
    tabIn s k.slot = some tb → (∀ i : Nat, i ∈ k.positions → i < tb.lines.length) → CanSend s 1 →
    ∃ o : OfferFields, Sends s (sendOffer n s) (64 + k.cls) (.offer o) true
      ∧ o.ref = ⟨n, k.gen⟩ ∧ o.cls = k.cls ∧ o.priority = k.priority ∧ o.attempt = k.attempt
      ∧ offerBody s k = .offer o
      ∧ o.items.map some
        = k.positions.map fun i => (tb.lines[i]?).map fun l => ⟨l.qty, l.label, l.note⟩)

/-- RETRY-TICKET offers a STRANDED ticket again from attempt 0 under its generation, and reissues a FIRED
or READY ticket whose awardee is lost, at level 1: under the next generation, the awardee of a SILENT loss
its stale holder (R77, R80, Table 4-5). Any other ticket is refused with STATE.
COLLECT of a FIRED or READY ticket reports every live line collected, sends COLLECT to the awardee and
frees the record with its waiting frames cancelled (R81, R82). The tab is then checked for freeing: a
CLOSED one whose lines are then all finished and to which no other record refers loses its slot, which
keeps its issue counter, with TAB-FREED; any other tab stays (R56). -/
def Obligations.RetryAndCollectTickets : Prop :=
  (∀ (s : State) (slot n : Nat) (r : SlotRecord) (k : Ticket), TillSlot s slot 3 r →
    ticketOf s n = some k →
    (k.state = .stranded → CanSend s 1 →
        ∃ t : State, exec (.retryTicket slot n) s = .next t
          ∧ t = { s with tickets := t.tickets, line := t.line, link := t.link }
          ∧ ticketOf t n = some { k with state := .offering, attempt := 0, wait := .none }
          ∧ (∀ m : Nat, m ≠ n → ticketOf t m = ticketOf s m)
          ∧ Sends s t (64 + k.cls) (offerBody s { k with attempt := 0 }) true
          ∧ Replied t .done [])
      ∧ (∀ (lost : Lost) (a : Awardee), k.state = .fired ∨ k.state = .ready → k.lost = some lost →
          k.awardee = some a → k.withdrawals = [] → k.live ≠ 0#8 → r.level ≤ 1 → CanSend s 1 →
          ∃ t : State, exec (.retryTicket slot n) s = .next t
            ∧ t = { s with tickets := t.tickets, line := t.line, notices := t.notices,
                           overflow := t.overflow, link := t.link }
            ∧ ticketOf t n = some { k with
                gen := (k.gen + 1) % 16, state := .offering, attempt := 0, repeats := 0, kmask := 0#8,
                awardee := none, placed := none, ready := none, late := false, lost := none,
                wait := .none
                stale := if lost = .silent then some ⟨a.station, a.mark, k.gen⟩ else k.stale }
            ∧ (∀ m : Nat, m ≠ n → ticketOf t m = ticketOf s m)
            ∧ Reported s t (.reissued ⟨n, (k.gen + 1) % 16⟩ (tabCode (station s) k.slot k.issue)
                (some a.station) (if lost = .silent then .retrySilent else .retryRestarted))
            ∧ t.line = { s.line with
                waiting := joinQueue
                  (newItem s (64 + k.cls)
                    (offerBody s { k with gen := (k.gen + 1) % 16, attempt := 0 }) true)
                  (s.line.waiting.filter fun x => !ofTicket n x)
                sending := s.line.sending.map (TxItem.disown (ofTicket n)) }
            ∧ Replied t .done [])
      ∧ (k.state = .offering ∨ k.state = .placing ∨ k.state = .placed
            ∨ (k.state = .fired ∨ k.state = .ready) ∧ k.lost = none →
          ∃ t : State, exec (.retryTicket slot n) s = .next t ∧ OnlyLink s t ∧ Replied t .state []))
    ∧ (∀ (s : State) (slot n : Nat) (r : SlotRecord) (k : Ticket) (a : Awardee) (tb : Tab),
    TillSlot s slot 3 r → ticketOf s n = some k → k.state = .fired ∨ k.state = .ready →
    k.awardee = some a → CanSend s 1 → tabIn s k.slot = some tb →
    ∃ (t : State) (tb' : Tab), exec (.collect slot n) s = .next t
      ∧ t = { s with tickets := t.tickets, tabs := t.tabs, line := t.line, notices := t.notices,
                     overflow := t.overflow, link := t.link }
      ∧ t.tickets = s.tickets.filter (fun x => x.number != n)
      ∧ t.line = { s.line with
          waiting := (joinQueue (newItem s a.station (.collect ⟨n, k.gen⟩) false) s.line.waiting).filter
            fun x => !ofTicket n x
          sending := s.line.sending.map (TxItem.disown (ofTicket n)) }
      ∧ tb' = { tb with lines := tb'.lines } ∧ tb'.lines.length = tb.lines.length
      ∧ (∀ (i : Nat) (l : TabLine), tb.lines[i]? = some l →
          let collected : Prop := (∃ p : Nat, k.positions[p]? = some i ∧ k.live.getLsbD p = true)
            ∧ (l.state = .sent ∨ l.state = .withdrawing ∨ l.state = .fired ∨ l.state = .ready)
          (collected → tb'.lines[i]? = some { l with state := .served })
            ∧ (¬collected → tb'.lines[i]? = some l))
      ∧ TabChecked s t k.slot tb'
      ∧ Replied t .done [])

/-- The offer window's end sends the next attempt, or strands the ticket after attempt 4 (R67). The award
wait's end repeats the AWARD to the awardee, twice at most, and then reissues the ticket with a REVOKE
(R70). A reply wait's end sends the next WITHDRAW, or after attempt 3 ends the withdrawal, the line SENT
again (R74). -/
def Obligations.TicketWaitsRunOut : Prop :=
  (∀ (s : State) (n : Nat) (k : Ticket) (start : Time), ticketOf s n = some k →
      k.state = .offering → k.wait = .offerWindow start → Due s start 150 →
      (k.attempt < 4 → CanSend s 1 →
        ∃ t : State, exec (.offerWindowExpiry n) s = .next t
          ∧ t = { s with tickets := t.tickets, line := t.line }
          ∧ ticketOf t n = some { k with attempt := k.attempt + 1, wait := .none }
          ∧ Sends s t (64 + k.cls) (offerBody s { k with attempt := k.attempt + 1 }) true)
      ∧ (k.attempt < 4 → s.join.state ≠ .onLine ∨ freeTx s = 0 →
        ∃ t : State, exec (.offerWindowExpiry n) s = .next t
          ∧ t = { s with tickets := t.tickets }
          ∧ ticketOf t n
            = some { k with attempt := k.attempt + 1, wait := .offerWindow (now s) })
      ∧ (k.attempt = 4 →
        ∃ t : State, exec (.offerWindowExpiry n) s = .next t
          ∧ t = { s with tickets := t.tickets, notices := t.notices, overflow := t.overflow,
                         link := t.link }
          ∧ ticketOf t n = some { k with state := .stranded, wait := .none }
          ∧ Notified s t (.stranded ⟨n, k.gen⟩ (tabCode (station s) k.slot k.issue))))
    ∧ (∀ (s : State) (n : Nat) (k : Ticket) (a : Awardee) (start : Time), ticketOf s n = some k →
        k.state = .placing → k.wait = .awardWait start → k.awardee = some a → Due s start 300 →
        (k.repeats < 2 → CanSend s 1 →
          ∃ t : State, exec (.awardWaitExpiry n) s = .next t
            ∧ t = { s with tickets := t.tickets, line := t.line }
            ∧ ticketOf t n = some { k with repeats := k.repeats + 1, wait := .none }
            ∧ Sends s t a.station (.award ⟨n, k.gen⟩ a.station k.live) true)
        ∧ (k.repeats = 2 → k.withdrawals = [] → k.live ≠ 0#8 → CanSend s 2 →
          ∃ t : State, exec (.awardWaitExpiry n) s = .next t
            ∧ t = { s with tickets := t.tickets, line := t.line, notices := t.notices,
                           overflow := t.overflow, link := t.link }
            ∧ ticketOf t n = some { k with
                gen := (k.gen + 1) % 16, state := .offering, attempt := 0, repeats := 0, kmask := 0#8,
                awardee := none, placed := none, ready := none, late := false, lost := none,
                wait := .none }
            ∧ Notified s t (.reissued ⟨n, (k.gen + 1) % 16⟩ (tabCode (station s) k.slot k.issue)
                (some a.station) .awardExhausted)
            ∧ t.line = { s.line with
                waiting := joinQueue
                  (newItem s (64 + k.cls)
                    (offerBody s { k with gen := (k.gen + 1) % 16, attempt := 0 }) true)
                  (joinQueue (newItem s a.station (.revoke ⟨n, k.gen⟩) false)
                    (s.line.waiting.filter fun x => !ofTicket n x))
                sending := s.line.sending.map (TxItem.disown (ofTicket n)) }))
    ∧ (∀ (s : State) (n p i : Nat) (k : Ticket) (a : Awardee) (w : Withdrawal) (start : Time) (tb : Tab)
        (l : TabLine), ticketOf s n = some k → k.withdrawals = [w] → w.position = p →
        w.wait = some start → k.awardee = some a → Due s start 200 → k.positions[p]? = some i →
        tabIn s k.slot = some tb → tb.lines[i]? = some l → l.state = .withdrawing →
        (w.attempt < 3 → CanSend s 1 →
          ∃ t : State, exec (.withdrawReplyWaitExpiry n p) s = .next t
            ∧ t = { s with tickets := t.tickets, line := t.line }
            ∧ ticketOf t n = some { k with withdrawals := [⟨p, w.attempt + 1, none⟩] }
            ∧ Sends s t a.station (.withdraw ⟨n, k.gen⟩ p) true)
        ∧ (w.attempt = 3 →
          ∃ t : State, exec (.withdrawReplyWaitExpiry n p) s = .next t
            ∧ t = { s with tickets := t.tickets, tabs := t.tabs, notices := t.notices,
                           overflow := t.overflow, link := t.link }
            ∧ ticketOf t n = some { k with withdrawals := [] }
            ∧ tabIn t k.slot = some (Tab.withLine i { l with state := .sent } tb)
            ∧ OtherSlots s t k.slot
            ∧ Notified s t (.withdrawFailed ⟨n, k.gen⟩ (tabCode (station s) k.slot k.issue) i)))

/-- A BID of the ticket's own till and generation takes an OFFERING or STRANDED ticket: PLACING, the bidder
its awardee, an AWARD to the class group (R68). On any other ticket it changes nothing and is answered
with an AWARD to the bidder, whose end starts no award wait (R69; log 28). A BID of another till, number
or generation is ignored. -/
def Obligations.FirstBidTakesTheTicket : Prop :=
  (∀ (s : State) (dest src depth : Nat) (ref : Ref) (k : Ticket),
    TillDelivers s ⟨dest, src, .bid (station s) ref depth⟩ →
    ticketOf s ref.number = some k →
    (k.gen = ref.gen → k.state = .offering ∨ k.state = .stranded → CanSend s 1 →
        ∃ t : State, exec (.bid dest src (station s) ref depth) s = .next t
          ∧ t = { arrived ⟨dest, src, .bid (station s) ref depth⟩ s with
              tickets := t.tickets, line := t.line }
          ∧ ticketOf t ref.number = some { k with
              state := .placing, wait := .none, repeats := 0
              awardee := some ⟨src, markOf s src, depth⟩
              stale := if k.stale.map StaleHolder.station = some src then none else k.stale }
          ∧ (∀ m : Nat, m ≠ ref.number → ticketOf t m = ticketOf s m)
          ∧ t.line = { s.line with
              inbound := s.line.inbound.tail
              waiting := joinQueue (newItem s (64 + k.cls) (.award ref src k.live) true)
                (s.line.waiting.filter fun x => !offerOf ref.number x)
              sending := s.line.sending.map (TxItem.disown (offerOf ref.number)) })
      ∧ (∀ a : Awardee, k.gen = ref.gen → k.state ≠ .offering → k.state ≠ .stranded →
          k.awardee = some a → CanSend s 1 →
          ∃ t : State, exec (.bid dest src (station s) ref depth) s = .next t
            ∧ t = { arrived ⟨dest, src, .bid (station s) ref depth⟩ s with line := t.line }
            ∧ Sends (arrived ⟨dest, src, .bid (station s) ref depth⟩ s) t src
                (.award ref a.station k.live) false)
      ∧ (k.gen ≠ ref.gen →
          exec (.bid dest src (station s) ref depth) s
            = .next (arrived ⟨dest, src, .bid (station s) ref depth⟩ s)))
    ∧ (∀ (s : State) (dest src origin depth : Nat) (ref : Ref),
        TillDelivers s ⟨dest, src, .bid origin ref depth⟩ →
        origin ≠ station s ∨ ticketOf s ref.number = none →
        exec (.bid dest src origin ref depth) s
          = .next (arrived ⟨dest, src, .bid origin ref depth⟩ s))

/-- A PROGRESS from the awardee at the ticket's generation sets the kitchen mask and moves the ticket by
Table 4-3 (R72): the record of each taken cell is given here, with the PLACED, READY and LATE notices and
the lines a fired and a ready report reach. REFUSED reissues a PLACING or PLACED ticket with a REVOKE to the
awardee (R77), stated for a ticket without a withdrawal, and for one whose only live position is being
withdrawn: its line is VOID and the record freed instead. A stale frame, a PROGRESS or a WITHDRAW-REPLY, is
answered with a REVOKE to its source, whose place as stale holder is cleared (R71, R75); one that names no
record is ignored. A WITHDRAW-REPLY from the awardee ends the withdrawal of its position (R75). REMOVED and
UNKNOWN make the line VOID and take its position off the ticket: with no position left live the record is
freed and its frames cancelled (R82), and the tab, CLOSED with every line finished and no other record on
it, is freed with TAB-FREED (R56). While the tab is not CLOSED or a record refers to it, it stays: with
others live and nothing of the ticket held at the kitchen a PLACING or PLACED ticket is reissued without a
REVOKE (R77), stated for its only withdrawal; otherwise the ticket stays. FIRED makes the line FIRED and a
PLACING or PLACED ticket and its other lines FIRED, with the WITHDRAW-REFUSED notice. The placed time stays
as it was (log 26). A reply for a position without a withdrawal is ignored. -/
def Obligations.ProgressAndWithdrawReplies : Prop :=
  ((∀ (s : State) (dest src : Nat) (ref : Ref) (ks : KitchenState) (m : Byte) (k : Ticket) (a : Awardee),
      TillDelivers s ⟨dest, src, .progress ref ks m⟩ → ticketOf s ref.number = some k →
      k.gen = ref.gen → k.awardee = some a → a.station = src → ks ≠ .refused →
      ∃ t : State, exec (.progress dest src ref ks m) s = .next t
        ∧ t = { arrived ⟨dest, src, .progress ref ks m⟩ s with
            tickets := t.tickets, tabs := t.tabs, notices := t.notices, overflow := t.overflow,
            link := t.link }
        ∧ (∀ n : Nat, n ≠ ref.number → ticketOf t n = ticketOf s n)
        ∧ (k.state = .placing → ks = .queued →
            ticketOf t ref.number = some
                { k with kmask := m, state := .placed, wait := .none, placed := some (now s) }
              ∧ t.tabs = s.tabs
              ∧ Notified s t (.placed ref (tabCode (station s) k.slot k.issue) src a.depth m))
        ∧ (k.state = .placing → ks = .fired →
            ticketOf t ref.number = some
              { k with kmask := m, state := .fired, wait := .none, placed := some (now s) })
        ∧ (k.state = .placing → ks = .ready →
            ticketOf t ref.number = some
              { k with kmask := m, state := .ready, wait := .none, placed := some (now s),
                       ready := some (now s) })
        ∧ (k.state = .placing → ks = .late →
            ticketOf t ref.number = some
              { k with kmask := m, state := .placed, wait := .none, placed := some (now s),
                       late := true })
        ∧ (k.state = .placed → ks = .fired →
            ticketOf t ref.number = some { k with kmask := m, state := .fired, wait := .none })
        ∧ (k.state = .placed ∨ k.state = .fired → ks = .ready →
            ticketOf t ref.number = some
              { k with kmask := m, state := .ready, wait := .none, ready := some (now s) })
        ∧ (k.state = .placed ∨ k.state = .fired ∨ k.state = .ready → ks = .late →
            ticketOf t ref.number = some { k with kmask := m, late := true })
        ∧ (k.state = .placing ∨ k.state = .placed → ks = .fired →
            t.notices = s.notices ∧ t.overflow = s.overflow ∧ t.link = s.link)
        ∧ (k.state = .placing ∨ k.state = .placed ∨ k.state = .fired → ks = .ready →
            Notified s t (.ready ref (tabCode (station s) k.slot k.issue) src m))
        ∧ (k.state = .placing → ks = .late →
            let s₁ := notify (.placed ref (tabCode (station s) k.slot k.issue) src a.depth m) s
            t.tabs = s.tabs
              ∧ (k.late = false →
                Notified s₁ t (.late ref (tabCode (station s) k.slot k.issue) src m))
              ∧ (k.late = true → t.notices = s₁.notices ∧ t.overflow = s₁.overflow ∧ t.link = s₁.link))
        ∧ (k.state = .placed ∨ k.state = .fired ∨ k.state = .ready → ks = .late →
            t.tabs = s.tabs
              ∧ (k.late = false →
                Notified s t (.late ref (tabCode (station s) k.slot k.issue) src m))
              ∧ (k.late = true →
                t.notices = s.notices ∧ t.overflow = s.overflow ∧ t.link = s.link))
        ∧ (k.state = .ready ∧ ks ≠ .late ∨ k.state = .fired ∧ (ks = .queued ∨ ks = .fired)
              ∨ k.state = .placed ∧ ks = .queued →
            ticketOf t ref.number = some { k with kmask := m } ∧ t.tabs = s.tabs
              ∧ t.notices = s.notices ∧ t.overflow = s.overflow ∧ t.link = s.link)
        ∧ (∀ (tb : Tab) (i p : Nat) (l : TabLine), k.state = .placing ∨ k.state = .placed →
            ks = .fired → tabIn s k.slot = some tb → k.positions[p]? = some i →
            k.live.getLsbD p = true → tb.lines[i]? = some l → l.state = .sent →
            ((tabIn t k.slot).bind fun tb' => tb'.lines[i]?) = some { l with state := .fired })
        ∧ (∀ (tb : Tab) (i p : Nat) (l : TabLine),
            k.state = .placing ∨ k.state = .placed ∨ k.state = .fired →
            ks = .ready → tabIn s k.slot = some tb → k.positions[p]? = some i →
            k.live.getLsbD p = true → tb.lines[i]? = some l → l.state = .sent ∨ l.state = .fired →
            ((tabIn t k.slot).bind fun tb' => tb'.lines[i]?) = some { l with state := .ready }))
    ∧ (∀ (s : State) (dest src : Nat) (ref : Ref) (m : Byte) (k : Ticket) (a : Awardee),
      TillDelivers s ⟨dest, src, .progress ref .refused m⟩ → ticketOf s ref.number = some k →
      k.gen = ref.gen → k.awardee = some a → a.station = src →
      let s' := arrived ⟨dest, src, .progress ref .refused m⟩ s
      (k.state = .placing ∨ k.state = .placed → k.withdrawals = [] → k.live ≠ 0#8 → CanSend s 2 →
        ∃ t : State, exec (.progress dest src ref .refused m) s = .next t
          ∧ Reissued s' t k k.stale .refused
            (joinQueue (newItem s src (.revoke ref) false)
              (s.line.waiting.filter fun x => !ofTicket ref.number x)))
      ∧ (∀ (w : Withdrawal) (i : Nat) (tb : Tab) (l : TabLine),
        k.state = .placing ∨ k.state = .placed → k.withdrawals = [w] →
        k.live &&& ~~~(1#8 <<< w.position) = 0#8 →
        k.positions[w.position]? = some i → tabIn s k.slot = some tb → tb.lines[i]? = some l →
        l.state = .withdrawing → CanSend s 1 →
        ∃ t : State, exec (.progress dest src ref .refused m) s = .next t
          ∧ t = { s' with tickets := t.tickets, tabs := t.tabs, line := t.line, notices := t.notices,
                          overflow := t.overflow, link := t.link }
          ∧ t.tickets = s.tickets.filter (fun x => x.number != ref.number)
          ∧ t.line = { s'.line with
              waiting := joinQueue (newItem s src (.revoke ref) false)
                (s.line.waiting.filter fun x => !ofTicket ref.number x)
              sending := s.line.sending.map (TxItem.disown (ofTicket ref.number)) }
          ∧ TabCheckedByEvent s t k.slot (Tab.compute s.join.figures
              { Tab.withLine i { l with state := .void, place := none } tb with
                gross := tb.gross - l.price * l.qty }))
      ∧ (k.state = .fired ∨ k.state = .ready →
        ∃ t : State, exec (.progress dest src ref .refused m) s = .next t
          ∧ t = { s' with tickets := t.tickets } ∧ ticketOf t ref.number = some { k with kmask := m }
          ∧ (∀ n : Nat, n ≠ ref.number → ticketOf t n = ticketOf s n)))
    ∧ (∀ (s : State) (dest src : Nat) (ref : Ref),
      let stale : Instr → FrameBody → Prop := fun c body => TillDelivers s ⟨dest, src, body⟩ →
        (∀ k : Ticket, ticketOf s ref.number = some k →
          k.gen ≠ ref.gen ∨ k.awardee.map Awardee.station ≠ some src → CanSend s 1 →
          ∃ t : State, exec c s = .next t
            ∧ t = { arrived ⟨dest, src, body⟩ s with tickets := t.tickets, line := t.line }
            ∧ ticketOf t ref.number = some
                { k with stale := if k.stale.map StaleHolder.station = some src then none else k.stale }
            ∧ Sends (arrived ⟨dest, src, body⟩ s) t src (.revoke ref) false)
        ∧ (ticketOf s ref.number = none → exec c s = .next (arrived ⟨dest, src, body⟩ s))
      (∀ (ks : KitchenState) (m : Byte), stale (.progress dest src ref ks m) (.progress ref ks m))
        ∧ ∀ (p : Nat) (o : WithdrawOutcome) (e : Bool),
          stale (.withdrawReply dest src ref p o e) (.withdrawReply ref p o e)))
    ∧ (∀ (s : State) (dest src p i : Nat) (ref : Ref) (o : WithdrawOutcome) (e : Bool) (k : Ticket)
    (a : Awardee), TillDelivers s ⟨dest, src, .withdrawReply ref p o e⟩ →
    ticketOf s ref.number = some k → k.gen = ref.gen → k.awardee = some a → a.station = src →
    k.positions[p]? = some i →
    ((∀ w : Withdrawal, w ∈ k.withdrawals → w.position ≠ p) →
        exec (.withdrawReply dest src ref p o e) s
          = .next (arrived ⟨dest, src, .withdrawReply ref p o e⟩ s))
      ∧ (∀ (w : Withdrawal) (tb : Tab) (l : TabLine), w ∈ k.withdrawals → w.position = p →
          tabIn s k.slot = some tb → tb.lines[i]? = some l → l.state = .withdrawing →
          let stays : Prop := tb.state ≠ .closed
            ∨ ∃ x : Ticket, x ∈ s.tickets ∧ x.slot = k.slot ∧ x.issue = codeIssue tb.code
          (o = .removed ∧ e = false ∨ o ≠ .fired ∧ (k.state = .fired ∨ k.state = .ready) →
            k.live &&& ~~~(1#8 <<< p) ≠ 0#8 → stays →
            ∃ t : State, exec (.withdrawReply dest src ref p o e) s = .next t
              ∧ t = { arrived ⟨dest, src, .withdrawReply ref p o e⟩ s with
                  tickets := t.tickets, tabs := t.tabs }
              ∧ ticketOf t ref.number = some { k with
                  live := k.live &&& ~~~(1#8 <<< p)
                  withdrawals := k.withdrawals.filter fun w => w.position != p }
              ∧ tabIn t k.slot = some (Tab.compute s.join.figures
                  { Tab.withLine i { l with state := .void, place := none } tb with
                    gross := tb.gross - l.price * l.qty })
              ∧ OtherSlots s t k.slot)
          ∧ (o ≠ .fired → k.live &&& ~~~(1#8 <<< p) = 0#8 →
            ∃ t : State, exec (.withdrawReply dest src ref p o e) s = .next t
              ∧ t = { arrived ⟨dest, src, .withdrawReply ref p o e⟩ s with
                  tickets := t.tickets, tabs := t.tabs, line := t.line, notices := t.notices,
                  overflow := t.overflow, link := t.link }
              ∧ t.tickets = s.tickets.filter (fun x => x.number != ref.number)
              ∧ Cancels (arrived ⟨dest, src, .withdrawReply ref p o e⟩ s) t (ofTicket ref.number)
              ∧ TabCheckedByEvent s t k.slot (Tab.compute s.join.figures
                  { Tab.withLine i { l with state := .void, place := none } tb with
                    gross := tb.gross - l.price * l.qty }))
          ∧ (o = .unknown ∨ o = .removed ∧ e = true → k.state = .placing ∨ k.state = .placed →
            k.live &&& ~~~(1#8 <<< p) ≠ 0#8 → k.withdrawals = [w] → stays → CanSend s 1 →
            ∃ t : State, exec (.withdrawReply dest src ref p o e) s = .next t
              ∧ Reissued { arrived ⟨dest, src, .withdrawReply ref p o e⟩ s with tabs := t.tabs } t
                { k with live := k.live &&& ~~~(1#8 <<< p), withdrawals := [] } k.stale .holdsNothing
                (s.line.waiting.filter fun x => !ofTicket ref.number x)
              ∧ tabIn t k.slot = some (Tab.compute s.join.figures
                  { Tab.withLine i { l with state := .void, place := none } tb with
                    gross := tb.gross - l.price * l.qty })
              ∧ OtherSlots s t k.slot)
          ∧ (o = .fired → k.state = .fired ∨ k.state = .ready →
            ∃ t : State, exec (.withdrawReply dest src ref p o e) s = .next t
              ∧ t = { arrived ⟨dest, src, .withdrawReply ref p o e⟩ s with
                  tickets := t.tickets, tabs := t.tabs, notices := t.notices,
                  overflow := t.overflow, link := t.link }
              ∧ ticketOf t ref.number
                = some { k with withdrawals := k.withdrawals.filter fun w => w.position != p }
              ∧ tabIn t k.slot = some (Tab.withLine i { l with state := .fired } tb)
              ∧ OtherSlots s t k.slot
              ∧ Notified s t (.withdrawRefused ref (tabCode (station s) k.slot k.issue) i))
          ∧ (o = .fired → k.state = .placing ∨ k.state = .placed →
            ∃ t : State, exec (.withdrawReply dest src ref p o e) s = .next t
              ∧ t = { arrived ⟨dest, src, .withdrawReply ref p o e⟩ s with
                  tickets := t.tickets, tabs := t.tabs, notices := t.notices,
                  overflow := t.overflow, link := t.link }
              ∧ ticketOf t ref.number = some { k with
                  state := .fired, wait := .none
                  withdrawals := k.withdrawals.filter fun w => w.position != p }
              ∧ (∀ n : Nat, n ≠ ref.number → ticketOf t n = ticketOf s n)
              ∧ ((tabIn t k.slot).bind fun tb' => tb'.lines[i]?)
                = some { l with state := .fired }
              ∧ (∀ (q j : Nat) (x : TabLine), q ≠ p → k.positions[q]? = some j → j ≠ i →
                  k.live.getLsbD q = true → tb.lines[j]? = some x → x.state = .sent →
                  ((tabIn t k.slot).bind fun tb' => tb'.lines[j]?) = some { x with state := .fired })
              ∧ OtherSlots s t k.slot
              ∧ Notified s t (.withdrawRefused ref (tabCode (station s) k.slot k.issue) i))))

/-! ## Settlement -/

/-- TAKE holds an OPEN share for the slot and replies its amounts (R137); GIVE-BACK frees the slot's own
hold (R139); FORCE-RELEASE frees an ADRIFT share with a SHARE-RELEASED notice (R145). The tab is then
PAYING while a share is held, adrift or paid, and OPEN otherwise (R53). -/
def Obligations.LocalHolds : Prop :=
  ∀ (s : State) (slot code i : Nat) (r : SlotRecord) (tb : Tab) (sh : Share), TillSlot s slot 2 r →
    tabOf s code = some tb → tb.state ≠ .closed → tb.shares[i]? = some sh →
    (sh.state = .opened → (∀ l : TabLine, l ∈ tb.lines → l.state ≠ .withdrawing) →
        ∃ t : State, exec (.take slot code i) s = .next t
          ∧ t = { s with tabs := t.tabs, link := t.link } ∧ OtherSlots s t (codeSlot code)
          ∧ tabIn t (codeSlot code)
            = some { Tab.withShare i { sh with state := .heldLocal slot } tb with state := .paying }
          ∧ Replied t .done (amountsBytes sh.amounts))
      ∧ (sh.state = .heldLocal slot → codeHome code = station s →
          ∃ t : State, exec (.giveBack slot code i) s = .next t
            ∧ t = { s with tabs := t.tabs, link := t.link } ∧ OtherSlots s t (codeSlot code)
            ∧ tabIn t (codeSlot code)
              = some { Tab.withShare i { sh with state := .opened } tb with
                  state := if Tab.locked (Tab.withShare i { sh with state := .opened } tb) then .paying
                    else .opened }
            ∧ Replied t .done [])
      ∧ (∀ (holder mark : Nat) (reason : Lost), sh.state = .adrift holder mark reason → r.level ≤ 1 →
          ∃ t : State, exec (.forceRelease slot code i) s = .next t
            ∧ t = { s with tabs := t.tabs, notices := t.notices, overflow := t.overflow,
                           link := t.link }
            ∧ OtherSlots s t (codeSlot code)
            ∧ tabIn t (codeSlot code)
              = some { Tab.withShare i { sh with state := .opened } tb with
                  state := if Tab.locked (Tab.withShare i { sh with state := .opened } tb) then .paying
                    else .opened }
            ∧ Reported s t (.shareReleased code i holder reason) ∧ Replied t .done [])

/-- PAY of a share the slot holds: the payment step settles it, the share is PAID with the slot's operator
id, the slot's totals gain the payment (R138, R159), and the tab is CLOSED when every share is then PAID or
EMPTY (R53), PAYING otherwise; with its lines finished and no ticket record on it it is freed (R56). PAY and
GIVE-BACK of a borrowed entry the slot holds: CONFIRMING with a SHARE-SETTLE and the payment in the slot's
totals (R149, R159), or RETURNING with a SHARE-RETURN (R150). The totals have no bound (log 24). -/
def Obligations.PaymentsSettleShares : Prop :=
  (∀ (s : State) (slot code i tender tendered settled change : Nat) (adj : Int) (k : Tender)
    (r : SlotRecord) (tb : Tab) (sh : Share), TillSlot s slot 2 r → codeHome code = station s →
    tabOf s code = some tb → tb.state ≠ .closed → tb.shares[i]? = some sh →
    sh.state = .heldLocal slot →
    paymentStep sh.amounts.total tender tendered = .ok (k, settled, adj, change) →
    ∃ t : State, exec (.pay slot code i tender tendered) s = .next t
      ∧ t = { s with tabs := t.tabs, slots := t.slots, notices := t.notices, overflow := t.overflow,
                     link := t.link }
      ∧ OtherSlots s t (codeSlot code)
      ∧ slotOf t slot = some { r with totals :=
          { r.totals with
            cash := r.totals.cash + (if k = .cash then settled else 0)
            card := r.totals.card + (if k = .card then settled else 0)
            rounding := r.totals.rounding + (if k = .cash then adj else 0)
            shares := r.totals.shares + 1 } }
      ∧ (∀ j : Nat, j ≠ slot → slotOf t j = slotOf s j)
      ∧ Replied t .done (be32 settled ++ [adjustmentByte adj] ++ be32 change)
      ∧ (t.tabs[codeSlot code]?).map TabSlot.issue = (s.tabs[codeSlot code]?).map TabSlot.issue
      ∧ (let paid : Share := { sh with state := .paid ⟨k, settled, adj, station s, some r.operator, now s⟩ }
         ((∃ (j : Nat) (x : Share), j ≠ i ∧ tb.shares[j]? = some x ∧ x.state ≠ .empty
              ∧ ∀ p : Payment, x.state ≠ .paid p) →
            tabIn t (codeSlot code) = some { Tab.withShare i paid tb with state := .paying }
              ∧ t.notices = s.notices ∧ t.overflow = s.overflow)
          ∧ ((∀ (j : Nat) (x : Share), j ≠ i → tb.shares[j]? = some x →
                x.state = .empty ∨ ∃ p : Payment, x.state = .paid p) →
              ((∃ l : TabLine, l ∈ tb.lines ∧ l.state ≠ .served ∧ l.state ≠ .void
                  ∧ l.state ≠ .waste)
                ∨ (∃ x : Ticket, x ∈ s.tickets ∧ x.slot = codeSlot code
                  ∧ x.issue = codeIssue code) →
                tabIn t (codeSlot code) = some { Tab.withShare i paid tb with state := .closed }
                  ∧ t.notices = s.notices ∧ t.overflow = s.overflow)
              ∧ ((∀ l : TabLine, l ∈ tb.lines → l.state = .served ∨ l.state = .void
                  ∨ l.state = .waste) →
                (∀ x : Ticket, x ∈ s.tickets → x.slot = codeSlot code → x.issue ≠ codeIssue code) →
                tabIn t (codeSlot code) = none ∧ Reported s t (.tabFreed code)))))
    ∧ (∀ (s : State) (slot code i : Nat) (r : SlotRecord) (b : Borrowed), TillSlot s slot 2 r →
    codeHome code ≠ station s → borrowedOf s code i = some b → b.state = .borrowed → b.slot = slot →
    CanSend s 1 →
    (∀ (tender tendered settled change : Nat) (adj : Int) (k : Tender) (a : Amounts),
        b.amounts = some a → paymentStep a.total tender tendered = .ok (k, settled, adj, change) →
        ∃ t : State, exec (.pay slot code i tender tendered) s = .next t
          ∧ t = { s with borrowed := t.borrowed, slots := t.slots, line := t.line, link := t.link }
          ∧ borrowedOf t code i = some { b with
              state := .confirming, taken := some ⟨k, settled, adj⟩, paid := some (now s),
              attempts := 1, wait := .none, paused := false }
          ∧ (∀ (c j : Nat), c ≠ code ∨ j ≠ i → borrowedOf t c j = borrowedOf s c j)
          ∧ slotOf t slot = some { r with totals :=
              { r.totals with
                cash := r.totals.cash + (if k = .cash then settled else 0)
                card := r.totals.card + (if k = .card then settled else 0)
                rounding := r.totals.rounding + (if k = .cash then adj else 0)
                shares := r.totals.shares + 1 } }
          ∧ (∀ j : Nat, j ≠ slot → slotOf t j = slotOf s j)
          ∧ Sends s t (codeHome code) (.shareSettle code i k settled adj) true
          ∧ Replied t .done (be32 settled ++ [adjustmentByte adj] ++ be32 change))
      ∧ ∃ t : State, exec (.giveBack slot code i) s = .next t
          ∧ t = { s with borrowed := t.borrowed, line := t.line, link := t.link }
          ∧ borrowedOf t code i = some { b with
              state := .returning, attempts := 1, wait := .none, paused := false }
          ∧ (∀ (c j : Nat), c ≠ code ∨ j ≠ i → borrowedOf t c j = borrowedOf s c j)
          ∧ Sends s t (codeHome code) (.shareReturn code i) true
          ∧ Replied t .done [])

/-- TAKE-REMOTE creates an ASKING entry with the home's mark and silence as the station table holds them,
and sends a SHARE-ASK (R147); a code of this station, or of no station 1-62, is refused with FIELD.
CLEAR-ORPHAN frees an ORPHANED entry and replies its payment, the slot's totals as they stand (R154). -/
def Obligations.BorrowingStartsAndEnds : Prop :=
  (∀ (s : State) (slot code i : Nat) (r : SlotRecord), TillSlot s slot 2 r →
      (1 ≤ codeHome code → codeHome code ≤ 62 → codeHome code ≠ station s → i ≤ 7 →
        borrowedOf s code i = none → s.borrowed.length < 8 → CanSend s 1 →
        ∃ t : State, exec (.takeRemote slot code i) s = .next t
          ∧ t = { s with borrowed := t.borrowed, line := t.line, link := t.link }
          ∧ t.borrowed = s.borrowed ++ [{
              code := code, share := i, slot := slot, state := .asking
              homeMark := ((heard s (codeHome code)).map Heard.mark).getD 0
              homeSilent := ((heard s (codeHome code)).map Heard.silent).getD false
              amounts := none, taken := none, created := now s, granted := none, paid := none
              attempts := 1, wait := .none, paused := false }]
          ∧ Sends s t (codeHome code) (.shareAsk code i) true ∧ Replied t .accepted [])
      ∧ (codeHome code = 0 ∨ 62 < codeHome code ∨ codeHome code = station s →
          ∃ t : State, exec (.takeRemote slot code i) s = .next t ∧ OnlyLink s t
            ∧ Replied t .field []))
    ∧ (∀ (s : State) (slot code i : Nat) (r : SlotRecord) (b : Borrowed), TillSlot s slot 1 r →
        borrowedOf s code i = some b →
        (∀ p : Taken, b.state = .orphaned → b.taken = some p →
          ∃ t : State, exec (.clearOrphan slot code i) s = .next t
            ∧ t = { s with borrowed := t.borrowed, line := t.line, link := t.link }
            ∧ FreesBorrowed s t code i
            ∧ Replied t .done (byte (Tender.code p.tender)
                :: (be32 p.settled ++ [adjustmentByte p.adjustment])))
        ∧ (b.state ≠ .orphaned →
          ∃ t : State, exec (.clearOrphan slot code i) s = .next t ∧ OnlyLink s t
            ∧ Replied t .state []))

/-- A SHARE-ASK is answered by the first check of R140 that fails, in its order, with a SHARE-DENY and
nothing else changed; one that passes them all is granted by the share's state (R141). -/
def Obligations.AskIsDeniedOrGranted : Prop :=
  ∀ (s : State) (dest src code i : Nat), TillDelivers s ⟨dest, src, .shareAsk code i⟩ → CanSend s 1 →
    ∃ t : State, exec (.shareAsk dest src code i) s = .next t ∧
      let s' := arrived ⟨dest, src, .shareAsk code i⟩ s
      let mark := ((heard s src).map Heard.mark).getD 0
      let denied (reason : DenyReason) : Prop :=
        t = { s' with line := t.line } ∧ Sends s' t src (.shareDeny code i reason) false
      (code = 0 → denied .null)
        ∧ (code ≠ 0 → codeHome code ≠ station s → denied .wrongHome)
        ∧ (code ≠ 0 → codeHome code = station s → tabIn s (codeSlot code) = none → denied .absent)
        ∧ (∀ tb : Tab, code ≠ 0 → codeHome code = station s → tabIn s (codeSlot code) = some tb →
            (tb.code ≠ code → denied .stale)
            ∧ (tb.code = code → tb.shares.length ≤ i → denied .range)
            ∧ (∀ sh : Share, tb.code = code → tb.shares[i]? = some sh →
                (sh.state = .empty ∨ (∃ p : Payment, sh.state = .paid p) → denied .settled)
                ∧ (∀ slot : Nat, sh.state = .heldLocal slot → denied .held)
                ∧ (∀ (st m : Nat), sh.state = .heldRemote st m →
                    st ≠ src ∨ (m ≠ 0 ∧ m ≠ mark) → denied .held)
                ∧ (∀ (st m : Nat) (why : Lost), sh.state = .adrift st m why →
                    st ≠ src ∨ (m ≠ 0 ∧ m ≠ mark) → denied .held)
                ∧ (sh.state = .opened → (∃ l : TabLine, l ∈ tb.lines ∧ l.state = .withdrawing) →
                    denied .pending)
                ∧ ((∀ l : TabLine, l ∈ tb.lines → l.state ≠ .withdrawing) → tb.state ≠ .closed →
                    (sh.state = .opened →
                      t = { s' with tabs := t.tabs, line := t.line }
                        ∧ OtherSlots s t (codeSlot code)
                        ∧ tabIn t (codeSlot code) = some
                            { Tab.withShare i { sh with state := .heldRemote src mark } tb with
                              state := .paying }
                        ∧ Sends s' t src (.shareGrant code i sh.amounts) false)
                    ∧ (∀ m : Nat, sh.state = .heldRemote src m → m = 0 ∨ m = mark →
                        t = { s' with line := t.line }
                          ∧ Sends s' t src (.shareGrant code i sh.amounts) false)
                    ∧ (∀ (m : Nat) (why : Lost), sh.state = .adrift src m why → m = 0 ∨ m = mark →
                        t = { s' with tabs := t.tabs, line := t.line, notices := t.notices,
                                      overflow := t.overflow, link := t.link }
                          ∧ OtherSlots s t (codeSlot code)
                          ∧ tabIn t (codeSlot code) = some
                              { Tab.withShare i { sh with state := .heldRemote src mark } tb with
                                state := .paying }
                          ∧ Notified s t (.shareRecovered code i src mark)
                          ∧ Sends s' t src (.shareGrant code i sh.amounts) false))))

/-- A SHARE-SETTLE from the holder of a lent share, agreeing with its total by the payment step, makes it
PAID with a REMOTE-PAID notice and PAID-RECORDED; with every share then PAID or EMPTY the tab is CLOSED
(R53), and with its lines finished and no ticket record on it freed (R56), with TAB-FREED before
REMOTE-PAID, an order the rules leave open (log 20); repeated, the settlement is answered PAID-RECORDED;
otherwise nothing changes but the CONFLICT notice, and CONFLICT is the answer, also where the code and
index name no share, whose state in the notice is then a free value (R142; log 23). A SHARE-RETURN from the
holder makes it OPEN with a REMOTE-RETURNED notice; every other return, also of a CLOSED tab or of no
share, changes nothing; each is answered RETURN-RECORDED (R143). -/
def Obligations.HomeRecordsSettlements : Prop :=
  (∀ (s : State) (dest src code i settled : Nat) (k : Tender) (adj : Int) (tb : Tab) (sh : Share),
      TillDelivers s ⟨dest, src, .shareSettle code i k settled adj⟩ → CanSend s 1 →
      tabOf s code = some tb → tb.shares[i]? = some sh →
      ∃ t : State, exec (.shareSettle dest src code i k settled adj) s = .next t ∧
        let s' := arrived ⟨dest, src, .shareSettle code i k settled adj⟩ s
        let lent : Prop := ∃ m : Nat, sh.state = .heldRemote src m
          ∨ ∃ why : Lost, sh.state = .adrift src m why
        (lent → paymentStep sh.amounts.total (Tender.code k) settled = .ok (k, settled, adj, 0) →
            (∃ (j : Nat) (x : Share), j ≠ i ∧ tb.shares[j]? = some x ∧ x.state ≠ .empty
              ∧ ∀ p : Payment, x.state ≠ .paid p) → tb.state ≠ .closed →
            t = { s' with tabs := t.tabs, line := t.line, notices := t.notices,
                          overflow := t.overflow, link := t.link }
              ∧ OtherSlots s t (codeSlot code)
              ∧ tabIn t (codeSlot code) = some
                  { Tab.withShare i { sh with
                      state := .paid ⟨k, settled, adj, src, none, now s⟩ } tb with state := .paying }
              ∧ Notified s t (.remotePaid code i src k settled)
              ∧ Sends s' t src (.shareClose code i .paidRecorded) false)
          ∧ (lent → paymentStep sh.amounts.total (Tender.code k) settled = .ok (k, settled, adj, 0) →
            (∀ (j : Nat) (x : Share), j ≠ i → tb.shares[j]? = some x →
              x.state = .empty ∨ ∃ p : Payment, x.state = .paid p) → tb.state ≠ .closed →
            t = { s' with tabs := t.tabs, line := t.line, notices := t.notices,
                          overflow := t.overflow, link := t.link }
              ∧ OtherSlots s t (codeSlot code)
              ∧ (t.tabs[codeSlot code]?).map TabSlot.issue = (s.tabs[codeSlot code]?).map TabSlot.issue
              ∧ Sends s' t src (.shareClose code i .paidRecorded) false
              ∧ ((∃ l : TabLine, l ∈ tb.lines ∧ l.state ≠ .served ∧ l.state ≠ .void
                    ∧ l.state ≠ .waste)
                  ∨ (∃ x : Ticket, x ∈ s.tickets ∧ x.slot = codeSlot code
                    ∧ x.issue = codeIssue code) →
                tabIn t (codeSlot code) = some
                    { Tab.withShare i { sh with
                        state := .paid ⟨k, settled, adj, src, none, now s⟩ } tb with state := .closed }
                  ∧ Notified s t (.remotePaid code i src k settled))
              ∧ ((∀ l : TabLine, l ∈ tb.lines → l.state = .served ∨ l.state = .void
                    ∨ l.state = .waste) →
                (∀ x : Ticket, x ∈ s.tickets → x.slot = codeSlot code → x.issue ≠ codeIssue code) →
                tabIn t (codeSlot code) = none
                  ∧ Notified (notify (.tabFreed code) s) t (.remotePaid code i src k settled)))
          ∧ (∀ p : Payment, sh.state = .paid p → p.station = src →
              t = { s' with line := t.line } ∧ Sends s' t src (.shareClose code i .paidRecorded) false)
          ∧ (lent ∧ paymentStep sh.amounts.total (Tender.code k) settled ≠ .ok (k, settled, adj, 0)
                ∨ ¬lent ∧ (∀ p : Payment, sh.state = .paid p → p.station ≠ src) →
              t = { s' with line := t.line, notices := t.notices, overflow := t.overflow,
                            link := t.link }
                ∧ Notified s t (.conflict code i src k settled (byte (ShareState.code sh.state)))
                ∧ Sends s' t src (.shareClose code i .conflict) false))
    ∧ (∀ (s : State) (dest src code i settled : Nat) (k : Tender) (adj : Int),
        TillDelivers s ⟨dest, src, .shareSettle code i k settled adj⟩ → CanSend s 1 →
        (∀ tb : Tab, tabOf s code = some tb → tb.shares.length ≤ i) →
        ∃ (t : State) (v : Byte), exec (.shareSettle dest src code i k settled adj) s = .next t
          ∧ t = { arrived ⟨dest, src, .shareSettle code i k settled adj⟩ s with
              line := t.line, notices := t.notices, overflow := t.overflow, link := t.link,
              free := t.free }
          ∧ Notified s t (.conflict code i src k settled v)
          ∧ Sends (arrived ⟨dest, src, .shareSettle code i k settled adj⟩ s) t src
              (.shareClose code i .conflict) false)
    ∧ (∀ (s : State) (dest src code i : Nat) (tb : Tab) (sh : Share),
        TillDelivers s ⟨dest, src, .shareReturn code i⟩ → CanSend s 1 → tabOf s code = some tb →
        tb.shares[i]? = some sh → tb.state ≠ .closed →
        ∃ t : State, exec (.shareReturn dest src code i) s = .next t ∧
          let s' := arrived ⟨dest, src, .shareReturn code i⟩ s
          let lent : Prop := ∃ m : Nat, sh.state = .heldRemote src m
            ∨ ∃ why : Lost, sh.state = .adrift src m why
          Sends s' t src (.shareClose code i .returnRecorded) false
            ∧ (lent →
                t = { s' with tabs := t.tabs, line := t.line, notices := t.notices,
                              overflow := t.overflow, link := t.link }
                ∧ OtherSlots s t (codeSlot code)
                ∧ tabIn t (codeSlot code)
                  = some { Tab.withShare i { sh with state := .opened } tb with
                      state := if Tab.locked (Tab.withShare i { sh with state := .opened } tb) then
                        .paying else .opened }
                ∧ Notified s t (.remoteReturned code i src))
            ∧ (¬lent → t = { s' with line := t.line }))
    ∧ (∀ (s : State) (dest src code i : Nat),
        TillDelivers s ⟨dest, src, .shareReturn code i⟩ → CanSend s 1 →
        (∀ (tb : Tab) (sh : Share), tabOf s code = some tb → tb.shares[i]? = some sh →
          (∀ m : Nat, sh.state ≠ .heldRemote src m)
            ∧ ∀ (m : Nat) (why : Lost), sh.state ≠ .adrift src m why) →
        let s' := arrived ⟨dest, src, .shareReturn code i⟩ s
        ∃ t : State, exec (.shareReturn dest src code i) s = .next t ∧ t = { s' with line := t.line }
          ∧ Sends s' t src (.shareClose code i .returnRecorded) false)

/-- SHARE-GRANT, SHARE-DENY and SHARE-CLOSE at the borrower (R148, R152): a grant makes an ASKING entry
BORROWED for 180 s, a deny frees it; PAID-RECORDED frees a CONFIRMING entry, RETURN-RECORDED a RETURNING
one, CONFLICT makes a CONFIRMING one ORPHANED; each with its notice. An entry that is freed or granted
has its waiting frame cancelled (R16, R152); one in transmission stays a frame of an entry that is granted,
and is none of one that is freed (log 28). A grant that matches no entry, whatever else is borrowed or
from whatever station it comes, is given straight back, with no repeat wait (log 28). A grant, deny or
close that matches an entry in another state, and a deny or close that matches none, are ignored. A
CONFLICT leaves the entry's attempts figure as it is (log 49), a grant too. -/
def Obligations.BorrowerTakesAnswers : Prop :=
  (∀ (s : State) (dest src code i : Nat) (b : Borrowed), src = codeHome code → role s = .till →
    borrowedOf s code i = some b →
    (∀ a : Amounts, TillDelivers s ⟨dest, src, .shareGrant code i a⟩ → b.state = .asking →
        ∃ t : State, exec (.shareGrant dest src code i a) s = .next t
          ∧ t = { arrived ⟨dest, src, .shareGrant code i a⟩ s with
              borrowed := t.borrowed, line := t.line, notices := t.notices, overflow := t.overflow,
              link := t.link }
          ∧ borrowedOf t code i = some { b with
              state := .borrowed, amounts := some a, granted := some (now s), wait := .hold (now s) }
          ∧ CancelsWaiting (arrived ⟨dest, src, .shareGrant code i a⟩ s) t (ofBorrowed code i)
          ∧ Notified s t (.shareGranted code i a.total))
      ∧ (∀ reason : DenyReason, TillDelivers s ⟨dest, src, .shareDeny code i reason⟩ →
          b.state = .asking →
          ∃ t : State, exec (.shareDeny dest src code i reason) s = .next t
            ∧ t = { arrived ⟨dest, src, .shareDeny code i reason⟩ s with
                borrowed := t.borrowed, line := t.line, notices := t.notices, overflow := t.overflow,
                link := t.link }
            ∧ FreesBorrowed (arrived ⟨dest, src, .shareDeny code i reason⟩ s) t code i
            ∧ Notified s t (.shareDenied code i reason))
      ∧ (∀ p : Taken, TillDelivers s ⟨dest, src, .shareClose code i .paidRecorded⟩ →
          b.state = .confirming → b.taken = some p →
          ∃ t : State, exec (.shareClose dest src code i .paidRecorded) s = .next t
            ∧ t = { arrived ⟨dest, src, .shareClose code i .paidRecorded⟩ s with
                borrowed := t.borrowed, line := t.line, notices := t.notices, overflow := t.overflow,
                link := t.link }
            ∧ FreesBorrowed (arrived ⟨dest, src, .shareClose code i .paidRecorded⟩ s) t code i
            ∧ Notified s t (.settleConfirmed code i p.tender p.settled))
      ∧ (TillDelivers s ⟨dest, src, .shareClose code i .returnRecorded⟩ → b.state = .returning →
          ∃ t : State, exec (.shareClose dest src code i .returnRecorded) s = .next t
            ∧ t = { arrived ⟨dest, src, .shareClose code i .returnRecorded⟩ s with
                borrowed := t.borrowed, line := t.line, notices := t.notices, overflow := t.overflow,
                link := t.link }
            ∧ FreesBorrowed (arrived ⟨dest, src, .shareClose code i .returnRecorded⟩ s) t code i
            ∧ Notified s t (.returnConfirmed code i))
      ∧ (∀ p : Taken, TillDelivers s ⟨dest, src, .shareClose code i .conflict⟩ →
          b.state = .confirming → b.taken = some p →
          ∃ t : State, exec (.shareClose dest src code i .conflict) s = .next t
            ∧ t = { arrived ⟨dest, src, .shareClose code i .conflict⟩ s with
                borrowed := t.borrowed, notices := t.notices, overflow := t.overflow,
                link := t.link }
            ∧ borrowedOf t code i
              = some { b with state := .orphaned, wait := .none, paused := false }
            ∧ Notified s t (.settleConflict code i b.slot p.tender p.settled)))
    ∧ (∀ (s : State) (dest src code i : Nat) (a : Amounts),
        TillDelivers s ⟨dest, src, .shareGrant code i a⟩ →
        src ≠ codeHome code ∨ borrowedOf s code i = none → CanSend s 1 →
        ∃ t : State, exec (.shareGrant dest src code i a) s = .next t
          ∧ t = { arrived ⟨dest, src, .shareGrant code i a⟩ s with line := t.line }
          ∧ Sends (arrived ⟨dest, src, .shareGrant code i a⟩ s) t src (.shareReturn code i) false)
    ∧ (∀ (s : State) (dest src code i : Nat),
        (∀ (a : Amounts) (b : Borrowed), TillDelivers s ⟨dest, src, .shareGrant code i a⟩ →
          src = codeHome code → borrowedOf s code i = some b → b.state ≠ .asking →
          exec (.shareGrant dest src code i a) s
            = .next (arrived ⟨dest, src, .shareGrant code i a⟩ s))
        ∧ (∀ reason : DenyReason, TillDelivers s ⟨dest, src, .shareDeny code i reason⟩ →
          (src = codeHome code →
            ∀ b : Borrowed, borrowedOf s code i = some b → b.state ≠ .asking) →
          exec (.shareDeny dest src code i reason) s
            = .next (arrived ⟨dest, src, .shareDeny code i reason⟩ s))
        ∧ (∀ o : CloseOutcome, TillDelivers s ⟨dest, src, .shareClose code i o⟩ →
          (src = codeHome code → ∀ b : Borrowed, borrowedOf s code i = some b →
            b.state ≠ if o = .returnRecorded then .returning else .confirming) →
          exec (.shareClose dest src code i o) s
            = .next (arrived ⟨dest, src, .shareClose code i o⟩ s)))

/-- The borrower's waits (R148, R150, R151): the ask wait sends the next ask, or after the third frees the
entry with ASK-FAILED, its waiting frame cancelled; the hold limit gives the share back with
HOLD-EXPIRED; the repeat wait sends the SHARE-SETTLE of a CONFIRMING entry or the SHARE-RETURN of a
RETURNING one again, but not beside one still waiting and not while the home is silent. -/
def Obligations.BorrowerWaitsRunOut : Prop :=
  ∀ (s : State) (code i : Nat) (b : Borrowed) (start : Time), borrowedOf s code i = some b →
    (b.state = .asking → b.wait = .ask start → Due s start 300 →
        (b.attempts < 3 → CanSend s 1 →
          ∃ t : State, exec (.askWaitExpiry code i) s = .next t
            ∧ t = { s with borrowed := t.borrowed, line := t.line }
            ∧ borrowedOf t code i = some { b with attempts := b.attempts + 1, wait := .none }
            ∧ Sends s t (codeHome code) (.shareAsk code i) true)
        ∧ (b.attempts = 3 →
          ∃ t : State, exec (.askWaitExpiry code i) s = .next t
            ∧ t = { s with borrowed := t.borrowed, line := t.line, notices := t.notices,
                           overflow := t.overflow, link := t.link }
            ∧ FreesBorrowed s t code i ∧ Notified s t (.askFailed code i)))
      ∧ (b.state = .borrowed → b.wait = .hold start → Due s start 180000 → CanSend s 1 →
          ∃ t : State, exec (.holdLimitExpiry code i) s = .next t
            ∧ t = { s with borrowed := t.borrowed, line := t.line, notices := t.notices,
                           overflow := t.overflow, link := t.link }
            ∧ borrowedOf t code i = some { b with
                state := .returning, attempts := 1, wait := .none, paused := false }
            ∧ Sends s t (codeHome code) (.shareReturn code i) true
            ∧ Notified s t (.holdExpired code i b.slot))
      ∧ (b.state = .returning ∨ b.state = .confirming → b.wait = .again start → Due s start 1000 →
          (b.homeSilent = false →
              (∀ x : TxItem, x ∈ s.line.waiting → ofBorrowed code i x = false) →
              CanSend s 1 →
              ∃ t : State, exec (.repeatWaitExpiry code i) s = .next t
                ∧ t = { s with borrowed := t.borrowed, line := t.line }
                ∧ borrowedOf t code i
                  = some { b with attempts := b.attempts + 1, wait := .none, paused := false }
                ∧ (∀ c j : Nat, c ≠ code ∨ j ≠ i → borrowedOf t c j = borrowedOf s c j)
                ∧ (b.state = .returning → Sends s t (codeHome code) (.shareReturn code i) true)
                ∧ ∀ x : Taken, b.state = .confirming → b.taken = some x →
                  Sends s t (codeHome code)
                    (.shareSettle code i x.tender x.settled x.adjustment) true)
          ∧ (b.homeSilent = false →
              (∃ x : TxItem, x ∈ s.line.waiting ∧ ofBorrowed code i x = true) →
              ∃ t : State, exec (.repeatWaitExpiry code i) s = .next t
                ∧ t = { s with borrowed := t.borrowed }
                ∧ borrowedOf t code i = some { b with wait := .again (now s) })
          ∧ (b.homeSilent = true →
              ∃ t : State, exec (.repeatWaitExpiry code i) s = .next t
                ∧ t = { s with borrowed := t.borrowed }
                ∧ borrowedOf t code i = some { b with wait := .none, paused := true }))

/-! ## The kitchen queue -/

/-- An OFFER of the kitchen's class, with a free slot and the port not LATCHED, of a ticket the queue does
not hold, starts a bid: a TENTATIVE entry with the OFFER's lines all live, its bid in DELAY for 4 + 6 ms
(RUSH 2 + 3 ms) per other entry (R85, R86). A TENTATIVE entry of an older generation is taken over, its
waiting BID cancelled; a QUEUED, FIRED or REVOKED-FIRED one carries the bid as a replacement and stays as
it is (R85). With no free slot, another class, a LATCHED port, or an entry of
that ticket at that generation or a newer one or with a bid at it, the OFFER changes nothing. The bid's
stamp is the model's (log 33), as is the band of a TENTATIVE entry (log 52); BIDs that earlier bids for
the ticket left start no wait of it (log 28). -/
def Obligations.OffersStartBids : Prop :=
  ∀ (s : State) (dest src : Nat) (o : OfferFields), KitchenDelivers s ⟨dest, src, .offer o⟩ →
    (o.cls = ownClass s → s.kitchen.entries.length < 24 → s.port.state ≠ .latched →
        let s' := arrived ⟨dest, src, .offer o⟩ s
        let others := (s.kitchen.entries.filter fun x =>
          x.origin != src || x.number != o.ref.number).length
        let stage : BidStage :=
          .delay (now s) (if o.priority = .rush then 2 + 3 * others else 4 + 6 * others)
        let offered : List KitchenLine := o.items.map fun i => ⟨i, true⟩
        let fresh : Entry :=
          { origin := src, mark := markOf s src, number := o.ref.number, gen := o.ref.gen
            priority := o.priority, band := o.priority, state := .tentative, lines := offered
            arrival := none, seq := 0, warn := false, late := false, print := .none, firedSeq := 0
            bid := some { gen := o.ref.gen, priority := o.priority, lines := [],
                          seq := s.kitchen.bidSeq + 1, stage := stage } }
        let begun : State → Prop := fun t =>
          t = { s' with kitchen := t.kitchen, line := t.line }
          ∧ t.kitchen = { s.kitchen with
              bidSeq := s.kitchen.bidSeq + 1, entries := t.kitchen.entries
              lapsed := s.kitchen.lapsed.filter fun l => l.origin != src || l.number != o.ref.number }
          ∧ t.line = { s'.line with
              waiting := t.line.waiting
              sending := s.line.sending.map (TxItem.disown (bidOf src o.ref.number)) }
        (entryOf s src o.ref.number = none →
          ∃ t : State, exec (.offer dest src o) s = .next t ∧ begun t
            ∧ t.line.waiting = s.line.waiting.map (TxItem.disown (bidOf src o.ref.number))
            ∧ t.kitchen.entries = s.kitchen.entries ++ [fresh])
        ∧ (∀ e : Entry, entryOf s src o.ref.number = some e → e.gen ≠ o.ref.gen →
          newer e.gen o.ref.gen = false → e.bid.map Bid.gen ≠ some o.ref.gen →
          (e.state ≠ .tentative →
            ∃ t : State, exec (.offer dest src o) s = .next t ∧ begun t
              ∧ t.line.waiting = s.line.waiting.map (TxItem.disown (bidOf src o.ref.number))
              ∧ OnlyEntry s t { e with
                  bid := some { gen := o.ref.gen, priority := o.priority, lines := offered
                                seq := s.kitchen.bidSeq + 1, stage := stage } })
          ∧ (∀ b : Bid, e.state = .tentative → e.bid = some b →
            ∃ t : State, exec (.offer dest src o) s = .next t ∧ begun t
              ∧ t.line.waiting = (s.line.waiting.filter fun x =>
                  !bidFrame src o.ref.number b.gen x).map (TxItem.disown (bidOf src o.ref.number))
              ∧ OnlyEntry s t fresh)))
      ∧ (o.cls ≠ ownClass s ∨ 24 ≤ s.kitchen.entries.length ∨ s.port.state = .latched
            ∨ (∃ e : Entry, entryOf s src o.ref.number = some e
              ∧ (e.gen = o.ref.gen ∨ newer e.gen o.ref.gen = true
                ∨ e.bid.map Bid.gen = some o.ref.gen)) →
          exec (.offer dest src o) s = .next (arrived ⟨dest, src, .offer o⟩ s))

/-- The bid delay's end sends the BID with the depth now, and the bid is QUEUED until the BID ends (R86).
The tentative expiry's end lapses the bid: a TENTATIVE entry leaves the queue, an entry of another state
loses its bid, and a lapsed-bid item is made, which lives 2000 ms (R87, R88). Another kitchen's BID for
the same ticket and generation cancels a bid in DELAY or QUEUED, its waiting BID with it: the TENTATIVE
entry leaves, an entry with a replacement bid loses it; one that is AWAITING stays (R89). The item of a replacement bid
takes the origin mark of the entry that carried it (log 55). -/
def Obligations.BidsRunOut : Prop :=
  (∀ (s : State) (origin n len : Nat) (e : Entry) (b : Bid) (start : Time),
      entryOf s origin n = some e → e.bid = some b → b.stage = .delay start len → Due s start len →
      CanSend s 1 →
      ∃ t : State, exec (.bidDelayExpiry origin n) s = .next t
        ∧ t = { s with kitchen := { s.kitchen with entries := t.kitchen.entries }, line := t.line }
        ∧ entryOf t origin n = some { e with bid := some { b with stage := .queued } }
        ∧ (∀ (x m : Nat), x ≠ origin ∨ m ≠ n → entryOf t x m = entryOf s x m)
        ∧ t.kitchen.entries.length = s.kitchen.entries.length
        ∧ Sends s t (64 + ownClass s) (.bid origin ⟨n, b.gen⟩ s.kitchen.entries.length) true)
    ∧ (∀ (s : State) (origin n : Nat) (e : Entry) (b : Bid) (start : Time),
        entryOf s origin n = some e → e.bid = some b → b.stage = .awaiting start →
        Due s start 400 → s.kitchen.lapsed.length ≤ 4 →
        ∃ t : State, exec (.tentativeExpiry origin n) s = .next t
          ∧ t = { s with kitchen :=
              { s.kitchen with entries := t.kitchen.entries, lapsed := t.kitchen.lapsed } }
          ∧ (e.state = .tentative → entryOf t origin n = none)
          ∧ (e.state ≠ .tentative → entryOf t origin n = some { e with bid := none })
          ∧ (∀ (x m : Nat), x ≠ origin ∨ m ≠ n → entryOf t x m = entryOf s x m)
          ∧ t.kitchen.lapsed.length ≤ 4
          ∧ t.kitchen.lapsed.getLast? = some
              { origin := origin, mark := e.mark, number := n, gen := b.gen, priority := b.priority
                lines := if e.state = .tentative then e.lines else b.lines, time := now s })
    ∧ (∀ (s : State) (origin n : Nat) (l : Lapsed), l ∈ s.kitchen.lapsed → l.origin = origin →
        l.number = n → (s.kitchen.lapsed.map fun l => (l.origin, l.number)).Nodup →
        Due s l.time 2000 →
        ∃ t : State, exec (.lapsedItemExpiry origin n) s = .next t
          ∧ t = { s with kitchen := { s.kitchen with lapsed := t.kitchen.lapsed } }
          ∧ t.kitchen.lapsed
            = s.kitchen.lapsed.filter (fun x => x.origin != origin || x.number != n))
    ∧ (∀ (s : State) (dest src origin depth : Nat) (ref : Ref) (e : Entry) (b : Bid),
        KitchenDelivers s ⟨dest, src, .bid origin ref depth⟩ →
        entryOf s origin ref.number = some e → e.bid = some b → b.gen = ref.gen →
        let s' := arrived ⟨dest, src, .bid origin ref depth⟩ s
        ((∀ start : Time, b.stage ≠ .awaiting start) →
          ∃ t : State, exec (.bidHeardAtKitchen dest src origin ref depth) s = .next t
            ∧ t = { s' with kitchen := t.kitchen, line := t.line }
            ∧ Cancels s' t (bidFrame origin ref.number ref.gen)
            ∧ (e.state = .tentative → t.kitchen = WithoutEntry s origin ref.number)
            ∧ (e.state ≠ .tentative →
              t.kitchen = { s.kitchen with entries := t.kitchen.entries }
                ∧ OnlyEntry s t { e with bid := none }))
        ∧ (∀ start : Time, b.stage = .awaiting start →
          exec (.bidHeardAtKitchen dest src origin ref depth) s = .next s'))

/-- An AWARD naming this station accepts its TENTATIVE entry, or makes one from a lapsed-bid item: QUEUED
with the arrival time now and the next arrival sequence (its count is log 33's), live flags from the mask,
PROGRESS QUEUED to the origin and TICKET-ACCEPTED (R91). Auto-fire follows it, and the replacement of a
QUEUED entry (R92, R96; what it does is AutoFireFillsTheCapacity's): with the fire capacity taken it changes
nothing; with room and nothing else QUEUED the accepted entry fires at once, its PROGRESS FIRED behind the
PROGRESS QUEUED and TICKET-FIRED behind TICKET-ACCEPTED (stated with the port in SENDING, LATCHED or
RETRY-WAIT; firing stamp log 33). With a replacement bid at its generation, or for want of a bid a
lapsed-bid item at it, it replaces a QUEUED entry so, and a FIRED or REVOKED-FIRED one, which is FIRED with
its arrival, flags and print state kept, PROGRESS FIRED and TICKET-ACCEPTED; the bid and its waiting BID, or
the item, go (R92). It is refused with PROGRESS REFUSED and TICKET-REFUSED when no line is left live or
nothing is held (R94): a BID that then still waits is not cancelled, and the lapsed-bid item stays (log 27).
Outside ON-LINE it is not acted on (R91). One held already, or a pass entry, is answered with its state, but
for REVOKED-FIRED, which is not answered (R93). One naming another station removes the bid, and the
TENTATIVE entry with it, or the lapsed-bid item (R95). -/
def Obligations.AwardsAreAnswered : Prop :=
  (∀ (m : Byte) (lines : List KitchenLine),
      (maskLines m lines).map KitchenLine.item = lines.map KitchenLine.item
        ∧ ∀ (p : Nat) (l : KitchenLine), (maskLines m lines)[p]? = some l → l.live = m.getLsbD p)
    ∧ (∀ (s : State) (dest src : Nat) (ref : Ref) (m : Byte),
      KitchenDelivers s ⟨dest, src, .award ref (station s) m⟩ → CanSend s 1 →
      let s' := arrived ⟨dest, src, .award ref (station s) m⟩ s
      let c : Instr := .award dest src ref (station s) m
      let live : List KitchenLine → Nat := fun lines => (lines.filter KitchenLine.live).length
      let refused : State → Prop := fun t =>
        t = { s' with kitchen := t.kitchen, line := t.line, notices := t.notices,
                      overflow := t.overflow, link := t.link }
          ∧ Sends s' t src (.progress ref .refused 0#8) false ∧ Notified s t (.ticketRefused src ref)
      let rest := s.kitchen.lapsed.filter fun l => l.origin != src || l.number != ref.number
      let unique : Prop := (s.kitchen.entries.map fun x => (x.origin, x.number)).Nodup
      let replaced : State → Entry → KitchenState → List TxItem → (TxItem → Bool) → Prop :=
        fun t x k waiting gone =>
          t = { s' with kitchen := t.kitchen, line := t.line, notices := t.notices,
                        overflow := t.overflow, link := t.link }
            ∧ t.kitchen = { s.kitchen with
                entries := t.kitchen.entries, arrivalSeq := t.kitchen.arrivalSeq, lapsed := rest }
            ∧ OnlyEntry s t x
            ∧ Notified s t (.ticketAccepted src ref x.band (live x.lines))
            ∧ t.line = { s'.line with
                waiting := joinQueue (newItem s src (.progress ref k (liveMask x.lines)) false) waiting
                sending := s.line.sending.map (TxItem.disown gone) }
      (∀ (e : Entry) (b : Bid), entryOf s src ref.number = some e → e.gen = ref.gen →
        e.state = .tentative → e.bid = some b → passAt s src ref = none →
        (live (maskLines m e.lines) ≠ 0 → unique →
          ∃ t : State, exec c s = .next (autoFire t)
            ∧ (s.join.figures.fire ≤ cookingCount s → autoFire t = t)
            ∧ t = { s' with kitchen := t.kitchen, line := t.line, notices := t.notices,
                            overflow := t.overflow, link := t.link }
            ∧ t.kitchen = { s.kitchen with
                entries := t.kitchen.entries, arrivalSeq := s.kitchen.arrivalSeq + 1, lapsed := rest }
            ∧ OnlyEntry s t { e with
                state := .queued, lines := maskLines m e.lines, band := e.priority,
                arrival := some (now s), seq := s.kitchen.arrivalSeq + 1, warn := false, late := false,
                print := .none, bid := none }
            ∧ Notified s t (.ticketAccepted src ref e.priority (live (maskLines m e.lines)))
            ∧ t.line = { s'.line with
                waiting := joinQueue
                  (newItem s src (.progress ref .queued (liveMask (maskLines m e.lines))) false)
                  (s.line.waiting.filter fun x => !bidFrame src ref.number b.gen x)
                sending := s.line.sending.map (TxItem.disown (bidFrame src ref.number b.gen)) })
        ∧ (live (maskLines m e.lines) ≠ 0 → unique → cookingCount s < s.join.figures.fire →
          (∀ x : Entry, x ∈ s.kitchen.entries → x.state ≠ .queued) → CanSend s 2 →
          s.port.state = .sending ∨ s.port.state = .latched ∨ s.port.state = .retryWait →
          ∃ t : State, exec c s = .next t
            ∧ t = { s' with
              kitchen := t.kitchen, line := t.line, notices := t.notices, overflow := t.overflow
              port := { s.port with list := s.port.list ++ [⟨src, ref.number, false⟩] }
              link := t.link }
            ∧ t.kitchen = { s.kitchen with
                entries := t.kitchen.entries, arrivalSeq := s.kitchen.arrivalSeq + 1
                fireSeq := s.kitchen.fireSeq + 1, lapsed := rest }
            ∧ OnlyEntry s t { e with
                state := .fired, lines := maskLines m e.lines, band := e.priority,
                arrival := some (now s), seq := s.kitchen.arrivalSeq + 1, warn := false, late := false,
                print := .waiting, bid := none, firedSeq := s.kitchen.fireSeq + 1 }
            ∧ Notified
                (notify (.ticketAccepted src ref e.priority (live (maskLines m e.lines))) s) t
                (.ticketFired src ref)
            ∧ t.line = { s'.line with
                waiting := joinQueue
                  (newItem s src (.progress ref .fired (liveMask (maskLines m e.lines))) false)
                  (joinQueue
                    (newItem s src (.progress ref .queued (liveMask (maskLines m e.lines))) false)
                    (s.line.waiting.filter fun x => !bidFrame src ref.number b.gen x))
                sending := s.line.sending.map (TxItem.disown (bidFrame src ref.number b.gen)) })
        ∧ (live (maskLines m e.lines) = 0 →
          ∃ t : State, exec c s = .next t ∧ refused t
            ∧ t.kitchen = WithoutEntry s src ref.number))
      ∧ (∀ l : Lapsed, entryOf s src ref.number = none → passAt s src ref = none →
        lapsedAt s src ref = some l →
        (live (maskLines m l.lines) ≠ 0 → s.kitchen.entries.length < 24 →
          ∃ t : State, exec c s = .next (autoFire t)
            ∧ (s.join.figures.fire ≤ cookingCount s → autoFire t = t)
            ∧ t = { s' with kitchen := t.kitchen, line := t.line, notices := t.notices,
                            overflow := t.overflow, link := t.link }
            ∧ t.kitchen = { s.kitchen with
                arrivalSeq := s.kitchen.arrivalSeq + 1, lapsed := rest
                entries := s.kitchen.entries ++ [
                  { origin := src, mark := l.mark, number := ref.number, gen := ref.gen
                    priority := l.priority, band := l.priority, state := .queued
                    lines := maskLines m l.lines, arrival := some (now s)
                    seq := s.kitchen.arrivalSeq + 1, warn := false, late := false, print := .none
                    bid := none, firedSeq := 0 }] }
            ∧ Notified s t (.ticketAccepted src ref l.priority (live (maskLines m l.lines)))
            ∧ Sends s' t src (.progress ref .queued (liveMask (maskLines m l.lines))) false)
        ∧ (live (maskLines m l.lines) = 0 ∨ 24 ≤ s.kitchen.entries.length →
          ∃ t : State, exec c s = .next t ∧ refused t ∧ t.kitchen = s.kitchen))
      ∧ (∀ (e : Entry) (b : Bid), entryOf s src ref.number = some e → e.gen ≠ ref.gen →
        newer e.gen ref.gen = false → e.bid = some b → b.gen = ref.gen → passAt s src ref = none →
        let lines := maskLines m b.lines
        let gone := bidFrame src ref.number b.gen
        let waiting := s.line.waiting.filter fun y => !gone y
        (e.state = .queued → live lines ≠ 0 → unique →
          ∃ t : State, exec c s = .next (autoFire t) ∧ t.kitchen.arrivalSeq = s.kitchen.arrivalSeq + 1
            ∧ (s.join.figures.fire ≤ cookingCount s → autoFire t = t)
            ∧ replaced t { e with
                gen := ref.gen, mark := markOf s src, priority := b.priority, lines := lines,
                band := b.priority, arrival := some (now s), seq := s.kitchen.arrivalSeq + 1,
                warn := false, late := false, print := .none, bid := none } .queued waiting gone)
        ∧ (e.state = .fired ∨ e.state = .revokedFired → live lines ≠ 0 →
          ∃ t : State, exec c s = .next t ∧ t.kitchen.arrivalSeq = s.kitchen.arrivalSeq
            ∧ replaced t { e with
                gen := ref.gen, mark := markOf s src, priority := b.priority, lines := lines,
                state := .fired, bid := none } .fired waiting gone)
        ∧ (live lines = 0 →
          ∃ t : State, exec c s = .next t ∧ refused t
            ∧ t.kitchen = { s.kitchen with entries := t.kitchen.entries }
            ∧ OnlyEntry s t { e with bid := none }))
      ∧ (∀ (e : Entry) (l : Lapsed), entryOf s src ref.number = some e → e.gen ≠ ref.gen →
        newer e.gen ref.gen = false → e.bid = none → lapsedAt s src ref = some l →
        passAt s src ref = none →
        let lines := maskLines m l.lines
        let x : Entry := { e with
          gen := ref.gen, mark := markOf s src, priority := l.priority, lines := lines }
        (e.state = .queued → live lines ≠ 0 → unique →
          ∃ t : State, exec c s = .next (autoFire t) ∧ t.kitchen.arrivalSeq = s.kitchen.arrivalSeq + 1
            ∧ (s.join.figures.fire ≤ cookingCount s → autoFire t = t)
            ∧ replaced t { x with
                band := l.priority, arrival := some (now s), seq := s.kitchen.arrivalSeq + 1
                warn := false, late := false, print := .none } .queued s.line.waiting (fun _ => false))
        ∧ (e.state = .fired ∨ e.state = .revokedFired → live lines ≠ 0 →
          ∃ t : State, exec c s = .next t ∧ t.kitchen.arrivalSeq = s.kitchen.arrivalSeq
            ∧ replaced t { x with state := .fired } .fired s.line.waiting (fun _ => false))
        ∧ (e.state ≠ .tentative → live lines = 0 →
          ∃ t : State, exec c s = .next t ∧ refused t
            ∧ t.kitchen = { s.kitchen with entries := t.kitchen.entries } ∧ OnlyEntry s t e))
      ∧ (∀ e : Entry, entryOf s src ref.number = some e → e.gen ≠ ref.gen →
        newer e.gen ref.gen = false → (∀ b : Bid, e.bid = some b → b.gen ≠ ref.gen) →
        lapsedAt s src ref = none → passAt s src ref = none →
        ∃ t : State, exec c s = .next t ∧ refused t ∧ t.kitchen = s.kitchen)
      ∧ (entryOf s src ref.number = none → passAt s src ref = none → lapsedAt s src ref = none →
        ∃ t : State, exec c s = .next t ∧ refused t ∧ t.kitchen = s.kitchen)
      ∧ (∀ e : Entry, entryOf s src ref.number = some e → passAt s src ref = none →
        e.gen ≠ ref.gen → newer e.gen ref.gen = true → exec c s = .next s')
      ∧ (∀ e : Entry, entryOf s src ref.number = some e → e.gen = ref.gen →
        (e.state = .queued ∨ e.state = .fired →
          ∃ t : State, exec c s = .next t ∧ t = { s' with line := t.line }
            ∧ Sends s' t src
                (.progress ref (if e.state = .queued then .queued else .fired) (liveMask e.lines)) false)
        ∧ (e.state = .revokedFired → exec c s = .next s'))
      ∧ (∀ x : PassEntry, entryOf s src ref.number = none → passAt s src ref = some x →
        ∃ t : State, exec c s = .next t ∧ t = { s' with line := t.line }
          ∧ Sends s' t src (.progress ref .ready x.live) false))
    ∧ (∀ (s : State) (dest src : Nat) (ref : Ref) (m : Byte),
        Delivers s ⟨dest, src, .award ref (station s) m⟩ → s.join.state ≠ .onLine →
        exec (.award dest src ref (station s) m) s
          = .next (arrived ⟨dest, src, .award ref (station s) m⟩ s))
    ∧ (∀ (s : State) (dest src other : Nat) (ref : Ref) (m : Byte),
        KitchenDelivers s ⟨dest, src, .award ref other m⟩ → other ≠ station s →
        let s' := arrived ⟨dest, src, .award ref other m⟩ s
        (∀ (e : Entry) (b : Bid), entryOf s src ref.number = some e → e.bid = some b →
          b.gen = ref.gen → lapsedAt s src ref = none →
          ∃ t : State, exec (.award dest src ref other m) s = .next t
            ∧ t = { s' with kitchen := t.kitchen, line := t.line }
            ∧ ((∀ start : Time, b.stage ≠ .awaiting start) →
                Cancels s' t (bidFrame src ref.number ref.gen))
            ∧ ((∃ start : Time, b.stage = .awaiting start) → t.line = s'.line)
            ∧ (e.state = .tentative → t.kitchen = WithoutEntry s src ref.number)
            ∧ (e.state ≠ .tentative →
              t.kitchen = { s.kitchen with entries := t.kitchen.entries }
                ∧ OnlyEntry s t { e with bid := none }))
        ∧ (∀ l : Lapsed, entryOf s src ref.number = none → lapsedAt s src ref = some l →
          exec (.award dest src ref other m) s = .next { s' with kitchen := { s.kitchen with
            lapsed := s.kitchen.lapsed.filter fun l =>
              l.origin != src || l.number != ref.number } })
        ∧ (entryOf s src ref.number = none → lapsedAt s src ref = none →
          exec (.award dest src ref other m) s = .next s'))

/-- A WITHDRAW of a line of a TENTATIVE or QUEUED entry clears its live flag, with LINE-WITHDRAWN when it
was set; the entry whose last live line it was leaves, and auto-fire is applied before the reply joins the
queue, if it then has room (log 39); answered REMOVED, with ticket-now-empty 1 then. A BID of such a bid
that still waits stays in the transmit queue (log 27). One of a replacement bid's line clears it in the bid,
and removes the bid with its last live line. Of a FIRED or REVOKED-FIRED entry or a pass entry it is
answered FIRED, of nothing, or a position without a line, UNKNOWN (R102). A REVOKE removes a TENTATIVE entry
with its waiting BID and a QUEUED one, with REVOKED; a QUEUED entry with a replacement bid becomes TENTATIVE
with that bid, REVOKED queued and auto-fire applied as for a removal (log 39), its flags cleared (log 51)
and its band the bid's (log 52); a FIRED one becomes REVOKED-FIRED with its notice, and a REVOKED-FIRED one
stays; a replacement bid it names, and besides any of these a pass entry and a lapsed-bid item, is removed
(R103). A COLLECT removes the pass entry, and the entry whatever its state, the port told of all but a
TENTATIVE one, with TICKET-COLLECTED and auto-fire; one that matches nothing is ignored (R104). What
auto-fire does is AutoFireFillsTheCapacity's; where no other entry is QUEUED it changes nothing. -/
def Obligations.WithdrawRevokeCollect : Prop :=
  (∀ (s : State) (dest src p : Nat) (ref : Ref), KitchenDelivers s ⟨dest, src, .withdraw ref p⟩ →
    CanSend s 1 →
    let s' := arrived ⟨dest, src, .withdraw ref p⟩ s
    let c : Instr := .withdraw dest src ref p
    let replies : State → WithdrawOutcome → Bool → Prop := fun t o empty =>
      t = { s' with kitchen := { s.kitchen with entries := t.kitchen.entries }, line := t.line,
                    notices := t.notices, overflow := t.overflow, link := t.link }
        ∧ Sends s' t src (.withdrawReply ref p o empty) false
    let told : State → Bool → Prop := fun t was =>
      if was then Notified s t (.lineWithdrawn src ref p)
      else t.notices = s.notices ∧ t.overflow = s.overflow ∧ t.link = s.link
    let quiet : State → WithdrawOutcome → Prop := fun t o =>
      t = { s' with line := t.line } ∧ Sends s' t src (.withdrawReply ref p o false) false
    let idle : Prop := ∀ x : Entry, x ∈ s.kitchen.entries → x.state = .queued →
      x.origin = src ∧ x.number = ref.number
    let othersLive : List KitchenLine → Prop := fun lines =>
      ∃ (q : Nat) (x : KitchenLine), q ≠ p ∧ lines[q]? = some x ∧ x.live = true
    (∀ e : Entry, entryOf s src ref.number = some e →
        (∀ l : KitchenLine, e.gen = ref.gen → e.state = .tentative ∨ e.state = .queued →
          e.lines[p]? = some l →
          (othersLive e.lines →
            ∃ t : State, exec c s = .next t ∧ replies t .removed false ∧ told t l.live
              ∧ OnlyEntry s t { e with lines := e.lines.set p { l with live := false } })
          ∧ (¬othersLive e.lines →
            ∃ u t : State, exec c s = .next t
              ∧ u = { s' with kitchen := WithoutEntry s src ref.number, notices := u.notices
                              overflow := u.overflow, link := u.link }
              ∧ told u l.live
              ∧ (CanSend (autoFire u) 1 → t = { autoFire u with line := t.line }
                ∧ Sends (autoFire u) t src (.withdrawReply ref p .removed true) false)
              ∧ (freeTx (autoFire u) = 0 → t = autoFire u)
              ∧ (idle → autoFire u = u)))
        ∧ (∀ (b : Bid) (l : KitchenLine), e.gen ≠ ref.gen → e.state ≠ .tentative →
          e.bid = some b → b.gen = ref.gen → b.lines[p]? = some l →
          (othersLive b.lines →
            ∃ t : State, exec c s = .next t ∧ replies t .removed false ∧ told t false
              ∧ OnlyEntry s t { e with
                  bid := some { b with lines := b.lines.set p { l with live := false } } })
          ∧ (¬othersLive b.lines →
            ∃ t : State, exec c s = .next t ∧ replies t .removed true ∧ told t false
              ∧ OnlyEntry s t { e with bid := none }))
        ∧ (e.gen = ref.gen → (∀ b : Bid, e.bid = some b → b.gen ≠ ref.gen) →
          e.state = .fired ∨ e.state = .revokedFired →
          ∃ t : State, exec c s = .next t ∧ quiet t .fired)
        ∧ (e.gen = ref.gen → e.state = .tentative
              ∨ e.state = .queued ∧ (∀ b : Bid, e.bid = some b → b.gen ≠ ref.gen) →
          e.lines.length ≤ p → passAt s src ref = none →
          ∃ t : State, exec c s = .next t ∧ quiet t .unknown)
        ∧ (e.gen ≠ ref.gen →
          (∀ b : Bid, e.bid = some b → b.gen ≠ ref.gen ∨ e.state ≠ .tentative ∧ b.lines.length ≤ p) →
          (passAt s src ref = none → ∃ t : State, exec c s = .next t ∧ quiet t .unknown)
          ∧ (∀ x : PassEntry, passAt s src ref = some x →
            ∃ t : State, exec c s = .next t ∧ quiet t .fired)))
      ∧ (entryOf s src ref.number = none →
        (∀ x : PassEntry, passAt s src ref = some x →
          ∃ t : State, exec c s = .next t ∧ quiet t .fired)
        ∧ (passAt s src ref = none → ∃ t : State, exec c s = .next t ∧ quiet t .unknown)))
    ∧ (∀ (s : State) (dest src : Nat) (ref : Ref), KitchenDelivers s ⟨dest, src, .revoke ref⟩ →
      let s' := arrived ⟨dest, src, .revoke ref⟩ s
      let c : Instr := .revoke dest src ref
      let pass := if passAt s src ref = none then s.kitchen.pass
        else s.kitchen.pass.filter fun x => x.origin != src || x.number != ref.number
      let lapsed := if lapsedAt s src ref = none then s.kitchen.lapsed
        else s.kitchen.lapsed.filter fun x => x.origin != src || x.number != ref.number
      let changed : State → Prop := fun t =>
        t = { s' with
          kitchen := { s.kitchen with entries := t.kitchen.entries, pass := pass, lapsed := lapsed }
          line := t.line, notices := t.notices, overflow := t.overflow, link := t.link }
      let idle : Prop := ∀ x : Entry, x ∈ s.kitchen.entries → x.state = .queued →
        x.origin = src ∧ x.number = ref.number
      let fires : State → Prop := fun u =>
        u = { s' with kitchen := { s.kitchen with entries := u.kitchen.entries }
                      notices := u.notices, overflow := u.overflow, link := u.link }
          ∧ exec c s = .next { autoFire u with
              kitchen := { (autoFire u).kitchen with pass := pass, lapsed := lapsed } }
          ∧ (idle → autoFire u = u)
      (∀ e : Entry, entryOf s src ref.number = some e →
        (e.gen = ref.gen → e.state = .fired →
          ∃ t : State, exec c s = .next t ∧ changed t ∧ t.line = s'.line
            ∧ OnlyEntry s t { e with state := .revokedFired }
            ∧ Notified s t (.revokedWhileFired src ref .revoke))
        ∧ (e.gen = ref.gen ∧ e.state = .revokedFired
              ∨ e.gen ≠ ref.gen ∧ (∀ b : Bid, e.bid = some b → b.gen ≠ ref.gen) →
          exec c s = .next { s' with kitchen := { s.kitchen with pass := pass, lapsed := lapsed } })
        ∧ (∀ b : Bid, e.gen = ref.gen → e.state = .tentative → e.bid = some b →
          ∃ t : State, exec c s = .next t ∧ changed t
            ∧ Cancels s' t (bidFrame src ref.number b.gen)
            ∧ t.kitchen.entries = (WithoutEntry s src ref.number).entries
            ∧ Notified s t (.revoked src ref .revoke))
        ∧ (e.gen = ref.gen → e.state = .queued → e.bid = none →
          ∃ t : State, fires t
            ∧ t.kitchen.entries = (WithoutEntry s src ref.number).entries
            ∧ Notified s t (.revoked src ref .revoke))
        ∧ (∀ b : Bid, e.gen = ref.gen → e.state = .queued → e.bid = some b →
          (s.kitchen.entries.map fun x => (x.origin, x.number)).Nodup →
          ∃ t : State, fires t
            ∧ OnlyEntry s t { e with
                state := .tentative, gen := b.gen, priority := b.priority, band := b.priority
                lines := b.lines, arrival := none, warn := false, late := false
                bid := some { b with lines := [] } }
            ∧ Notified s t (.revoked src ref .revoke))
        ∧ (∀ b : Bid, e.gen ≠ ref.gen → e.state ≠ .tentative → e.bid = some b → b.gen = ref.gen →
          ∃ t : State, exec c s = .next t ∧ changed t
            ∧ Cancels s' t (bidFrame src ref.number b.gen)
            ∧ t.notices = s.notices ∧ t.overflow = s.overflow ∧ t.link = s.link
            ∧ OnlyEntry s t { e with bid := none }))
      ∧ (entryOf s src ref.number = none →
        exec c s = .next { s' with kitchen := { s.kitchen with pass := pass, lapsed := lapsed } }))
    ∧ (∀ (s : State) (dest src : Nat) (ref : Ref), KitchenDelivers s ⟨dest, src, .collect ref⟩ →
      let s' := arrived ⟨dest, src, .collect ref⟩ s
      let c : Instr := .collectFrame dest src ref
      (∀ p : PassEntry, passAt s src ref = some p →
        (∀ e : Entry, entryOf s src ref.number = some e → e.gen ≠ ref.gen) →
        ∃ t : State, exec c s = .next (autoFire t)
          ∧ ((∀ x : Entry, x ∈ s.kitchen.entries → x.state ≠ .queued) → autoFire t = t)
          ∧ t = { s' with kitchen := t.kitchen, notices := t.notices, overflow := t.overflow,
                          link := t.link }
          ∧ t.kitchen =
            { s.kitchen with pass := s.kitchen.pass.filter fun x =>
                x.origin != src || x.number != ref.number }
          ∧ Notified s t (.ticketCollected src ref))
      ∧ (∀ e : Entry, entryOf s src ref.number = some e → e.gen = ref.gen →
        ∃ t : State, exec c s = .next (autoFire t)
          ∧ ((∀ x : Entry, x ∈ s.kitchen.entries → x.state = .queued →
              x.origin = src ∧ x.number = ref.number) → autoFire t = t)
          ∧ t = { s' with kitchen := t.kitchen, port := t.port, line := t.line,
                          notices := t.notices, overflow := t.overflow, link := t.link }
          ∧ t.kitchen = { WithoutEntry s src ref.number with
              pass := if passAt s src ref = none then s.kitchen.pass
                else s.kitchen.pass.filter fun x => x.origin != src || x.number != ref.number }
          ∧ (e.state ≠ .tentative → PortTold s t src ref.number ∧ t.line = s'.line)
          ∧ (∀ b : Bid, e.state = .tentative → e.bid = some b →
              t.port = s.port ∧ Cancels s' t (bidFrame src ref.number b.gen))
          ∧ Notified s t (.ticketCollected src ref))
      ∧ (passAt s src ref = none →
        (∀ e : Entry, entryOf s src ref.number = some e → e.gen ≠ ref.gen) → exec c s = .next s'))

/-- The warn timer sets the warn flag with a WARN notice (R97). The late timer of a FIRED entry sets the
late flag and sends PROGRESS LATE; it promotes a QUEUED entry of the normal band to the rush band, and
auto-fire is applied (R98; what it does is AutoFireFillsTheCapacity's): with the fire capacity taken the
entry waits there.
A pass entry sends its second READY 2000 ms and its third 6000 ms after the bump, and leaves the list
600 s after it with PASS-EXPIRED (R101). -/
def Obligations.EntryTimersAndPassRepeats : Prop :=
  (∀ (s : State) (origin n : Nat) (e : Entry) (arrival : Time), entryOf s origin n = some e →
    e.arrival = some arrival →
    (e.state = .queued ∨ e.state = .fired → e.warn = false →
        Due s arrival (1000 * s.join.figures.warn) →
        ∃ t : State, exec (.warnTimerExpiry origin n) s = .next t
          ∧ t = { s with kitchen := { s.kitchen with entries := t.kitchen.entries },
                         notices := t.notices, overflow := t.overflow, link := t.link }
          ∧ entryOf t origin n = some { e with warn := true }
          ∧ (∀ (x m : Nat), x ≠ origin ∨ m ≠ n → entryOf t x m = entryOf s x m)
          ∧ Notified s t (.warn origin ⟨n, e.gen⟩ e.state arrival))
      ∧ (e.state = .fired → e.late = false → Due s arrival (1000 * s.join.figures.late) → CanSend s 1 →
        ∃ t : State, exec (.lateTimerExpiry origin n) s = .next t
          ∧ t = { s with kitchen := { s.kitchen with entries := t.kitchen.entries }, line := t.line }
          ∧ entryOf t origin n = some { e with late := true }
          ∧ (∀ (x m : Nat), x ≠ origin ∨ m ≠ n → entryOf t x m = entryOf s x m)
          ∧ Sends s t origin (.progress ⟨n, e.gen⟩ .late (liveMask e.lines)) false)
      ∧ (e.state = .queued → e.band = .normal → e.late = false →
        Due s arrival (1000 * s.join.figures.late) → CanSend s 1 →
        ∃ t : State, exec (.lateTimerExpiry origin n) s = .next (autoFire t)
          ∧ (s.join.figures.fire ≤ cookingCount s → autoFire t = t)
          ∧ t = { s with kitchen := { s.kitchen with entries := t.kitchen.entries }, line := t.line }
          ∧ entryOf t origin n = some { e with late := true, band := .rush }
          ∧ (∀ (x m : Nat), x ≠ origin ∨ m ≠ n → entryOf t x m = entryOf s x m)
          ∧ Sends s t origin (.progress ⟨n, e.gen⟩ .late (liveMask e.lines)) false))
    ∧ (∀ (s : State) (origin n : Nat) (p : PassEntry), p ∈ s.kitchen.pass → p.origin = origin →
    p.number = n → (s.kitchen.pass.map fun x => (x.origin, x.number)).Nodup →
    (p.stopped = false → CanSend s 1 →
        (p.sends = 1 ∧ Due s p.bumped 2000 ∨ p.sends = 2 ∧ Due s p.bumped 6000) →
        ∃ t : State, exec (.passReadyRepeat origin n) s = .next t
          ∧ t = { s with kitchen := { s.kitchen with pass := t.kitchen.pass }, line := t.line }
          ∧ t.kitchen.pass
            = s.kitchen.pass.map (fun x => if x = p then { p with sends := p.sends + 1 } else x)
          ∧ Sends s t origin (.progress ⟨n, p.gen⟩ .ready p.live) false)
      ∧ (p.stopped = true ∨ s.join.state ≠ .onLine ∨ 3 ≤ p.sends →
        exec (.passReadyRepeat origin n) s = .next s)
      ∧ (Due s p.bumped 600000 →
        ∃ t : State, exec (.passExpiry origin n) s = .next t
          ∧ t = { s with kitchen := { s.kitchen with pass := t.kitchen.pass },
                         notices := t.notices, overflow := t.overflow, link := t.link }
          ∧ t.kitchen.pass = s.kitchen.pass.filter (fun x => x != p)
          ∧ Notified s t (.passExpired origin ⟨n, p.gen⟩)))

/-- Auto-fire fires the first QUEUED entry in band order while the fire capacity allows: at its end the
capacity is taken or nothing is QUEUED (R96). Below the capacity it fires that first entry and goes on from
there; at it, or with nothing QUEUED, it changes nothing. Band order puts rush entries first, then earlier
arrivals, then lower arrival sequences (R84). An entry that fires is FIRED and WAITING to be printed, joins
the print list, and its PROGRESS FIRED, which a full queue drops, and TICKET-FIRED follow (R96; firing stamp
log 33). On an IDLE port it starts printing at once (R110; stated in LinesAndCutsAreSent); on a DOWN one it
is UNPRINTED, with TICKET-UNPRINTED before the frame, and joins nothing (R120). -/
def Obligations.AutoFireFillsTheCapacity : Prop :=
  (∀ s : State, (s.kitchen.entries.map fun e => (e.origin, e.number)).Nodup →
      (s.join.figures.fire ≤ cookingCount (autoFire s)
        ∨ ∀ e : Entry, e ∈ (autoFire s).kitchen.entries → e.state ≠ .queued)
      ∧ (cookingCount s ≤ s.join.figures.fire →
          cookingCount (autoFire s) ≤ s.join.figures.fire)
      ∧ (autoFire s).kitchen.entries.map (fun e => (e.origin, e.number, e.gen, e.lines))
        = s.kitchen.entries.map (fun e => (e.origin, e.number, e.gen, e.lines))
      ∧ (autoFire s).kitchen.lapsed = s.kitchen.lapsed
      ∧ (autoFire s).kitchen.pass = s.kitchen.pass
      ∧ (∀ e : Entry, cookingCount s < s.join.figures.fire → nextToFire s = some e →
          autoFire s = autoFire (fireEntry e s))
      ∧ (s.join.figures.fire ≤ cookingCount s ∨ nextToFire s = none → autoFire s = s)
      ∧ (nextToFire s = none ↔ ∀ e : Entry, e ∈ s.kitchen.entries → e.state ≠ .queued))
    ∧ (∀ (s : State) (e : Entry), nextToFire s = some e →
        e ∈ s.kitchen.entries ∧ e.state = .queued
          ∧ (e.band = .normal → ∀ x : Entry, x ∈ s.kitchen.entries → x.state = .queued →
              x.band = .normal)
          ∧ ∀ x : Entry, x ∈ s.kitchen.entries → x.state = .queued → x.band = e.band →
              elapsed s (x.arrival.getD 0#32) ≤ elapsed s (e.arrival.getD 0#32)
                ∧ (elapsed s (x.arrival.getD 0#32) = elapsed s (e.arrival.getD 0#32) →
                    e.seq ≤ x.seq))
    ∧ (∀ (s : State) (e : Entry), entryOf s e.origin e.number = some e → s.port.state = .down →
        fireEntry e s
            = { s with kitchen := (fireEntry e s).kitchen, line := (fireEntry e s).line
                       notices := (fireEntry e s).notices, overflow := (fireEntry e s).overflow
                       link := (fireEntry e s).link }
          ∧ (fireEntry e s).kitchen = { s.kitchen with
              entries := (fireEntry e s).kitchen.entries, fireSeq := s.kitchen.fireSeq + 1 }
          ∧ OnlyEntry s (fireEntry e s)
              { e with state := .fired, firedSeq := s.kitchen.fireSeq + 1, print := .unprinted }
          ∧ (CanSend s 1 → Sends s (fireEntry e s) e.origin
              (.progress ⟨e.number, e.gen⟩ .fired (liveMask e.lines)) false)
          ∧ (freeTx s = 0 → (fireEntry e s).line = s.line)
          ∧ Notified (notify (.ticketUnprinted e.origin ⟨e.number, e.gen⟩) s) (fireEntry e s)
              (.ticketFired e.origin ⟨e.number, e.gen⟩))
    ∧ (∀ (s : State) (e : Entry), entryOf s e.origin e.number = some e →
        s.port.state = .sending ∨ s.port.state = .latched ∨ s.port.state = .retryWait →
        fireEntry e s
            = { s with kitchen := (fireEntry e s).kitchen, port := (fireEntry e s).port
                       line := (fireEntry e s).line, notices := (fireEntry e s).notices
                       overflow := (fireEntry e s).overflow, link := (fireEntry e s).link }
          ∧ (fireEntry e s).port
            = { s.port with list := s.port.list ++ [⟨e.origin, e.number, false⟩] }
          ∧ (fireEntry e s).kitchen = { s.kitchen with
              entries := (fireEntry e s).kitchen.entries, fireSeq := s.kitchen.fireSeq + 1 }
          ∧ OnlyEntry s (fireEntry e s)
              { e with state := .fired, firedSeq := s.kitchen.fireSeq + 1, print := .waiting }
          ∧ (CanSend s 1 → Sends s (fireEntry e s) e.origin
              (.progress ⟨e.number, e.gen⟩ .fired (liveMask e.lines)) false)
          ∧ (freeTx s = 0 → (fireEntry e s).line = s.line)
          ∧ Notified s (fireEntry e s) (.ticketFired e.origin ⟨e.number, e.gen⟩))

/-- BUMP of a FIRED entry takes it out of the queue, makes a pass entry and sends the first READY; with 12
pass entries of other tickets standing the oldest goes first, with PASS-DROPPED; of a REVOKED-FIRED entry
it only takes it out; of a TENTATIVE or QUEUED one it is refused with STATE (R100, R101). The reply lists
the tickets that fire after it (R100), their count before them in one byte (log 16): none while nothing is QUEUED; a
single QUEUED entry fires, its PROGRESS FIRED behind the READY (R96; the port stated SENDING). -/
def Obligations.BumpMovesToThePass : Prop :=
  ∀ (s : State) (slot origin n : Nat) (r : SlotRecord) (e : Entry), KitchenSlot s slot r →
    entryOf s origin n = some e →
    ((∀ x : Entry, x ∈ s.kitchen.entries → x.state ≠ .queued) →
      (e.state = .fired → CanSend s 1 →
        (s.kitchen.pass.filter fun x => x.origin != origin || x.number != n).length < 12 →
        ∃ t : State, exec (.bump slot origin n) s = .next t
          ∧ t = { s with kitchen := t.kitchen, port := t.port, line := t.line, link := t.link }
          ∧ t.kitchen = { WithoutEntry s origin n with
              pass := s.kitchen.pass.filter (fun x => x.origin != origin || x.number != n)
                ++ [{ origin := origin, mark := e.mark, number := n, gen := e.gen,
                      live := liveMask e.lines, bumped := now s, sends := 1, stopped := false }] }
          ∧ Sends s t origin (.progress ⟨n, e.gen⟩ .ready (liveMask e.lines)) false
          ∧ PortTold s t origin n
          ∧ Replied t .done [0#8])
      ∧ (∀ (x : PassEntry) (others : List PassEntry), e.state = .fired → CanSend s 1 →
        s.kitchen.pass.filter (fun x => x.origin != origin || x.number != n) = x :: others →
        others.length = 11 →
        ∃ t : State, exec (.bump slot origin n) s = .next t
          ∧ t = { s with kitchen := t.kitchen, port := t.port, line := t.line, notices := t.notices,
                         overflow := t.overflow, link := t.link }
          ∧ t.kitchen = { WithoutEntry s origin n with
              pass := others
                ++ [{ origin := origin, mark := e.mark, number := n, gen := e.gen,
                      live := liveMask e.lines, bumped := now s, sends := 1, stopped := false }] }
          ∧ Sends s t origin (.progress ⟨n, e.gen⟩ .ready (liveMask e.lines)) false
          ∧ PortTold s t origin n
          ∧ Reported s t (.passDropped x.origin ⟨x.number, x.gen⟩)
          ∧ Replied t .done [0#8])
      ∧ (e.state = .revokedFired →
        ∃ t : State, exec (.bump slot origin n) s = .next t
          ∧ t = { s with kitchen := t.kitchen, port := t.port, link := t.link }
          ∧ t.kitchen = WithoutEntry s origin n ∧ PortTold s t origin n
          ∧ Replied t .done [0#8]))
    ∧ (∀ x : Entry, e.state = .fired → x ∈ s.kitchen.entries → x.state = .queued →
        (∀ y : Entry, y ∈ s.kitchen.entries → y.state = .queued → y = x) →
        (s.kitchen.entries.map fun y => (y.origin, y.number)).Nodup →
        cookingCount s ≤ s.join.figures.fire → s.kitchen.pass.length < 12 → CanSend s 2 →
        s.port.state = .sending →
        ∃ t : State, exec (.bump slot origin n) s = .next t
          ∧ t = { s with kitchen := t.kitchen, port := t.port, line := t.line, notices := t.notices,
                         overflow := t.overflow, link := t.link }
          ∧ t.kitchen = { s.kitchen with
              fireSeq := s.kitchen.fireSeq + 1
              entries := (WithoutEntry s origin n).entries.map fun y =>
                if y = x then
                  { x with state := .fired, firedSeq := s.kitchen.fireSeq + 1, print := .waiting }
                else y
              pass := s.kitchen.pass.filter (fun x => x.origin != origin || x.number != n)
                ++ [{ origin := origin, mark := e.mark, number := n, gen := e.gen,
                      live := liveMask e.lines, bumped := now s, sends := 1, stopped := false }] }
          ∧ t.line = { s.line with waiting := t.line.waiting }
          ∧ t.line.waiting
            = joinQueue
                (newItem s x.origin (.progress ⟨x.number, x.gen⟩ .fired (liveMask x.lines)) false)
                (joinQueue (newItem s origin (.progress ⟨n, e.gen⟩ .ready (liveMask e.lines)) false)
                  s.line.waiting)
          ∧ t.port.list = s.port.list.filter (fun y => y.origin != origin || y.number != n)
              ++ [⟨x.origin, x.number, false⟩]
          ∧ Reported s t (.ticketFired x.origin ⟨x.number, x.gen⟩)
          ∧ Replied t .done (1#8 :: (be16 x.number ++ [byte x.gen])))
    ∧ (e.state = .tentative ∨ e.state = .queued →
        ∃ t : State, exec (.bump slot origin n) s = .next t ∧ OnlyLink s t ∧ Replied t .state [])

/-! ## The printer port -/

/-- The byte handshake (R106, R112): a released READY-WAIT strobes the job's first byte onto the data lines;
the STROBE pulse's end begins ACK-WAIT, or RELEASE-WAIT when BUSY is already asserted (log 31); BUSY ends
ACK-WAIT; its release ends RELEASE-WAIT, which accepts the byte, and the job's next byte is strobed. A byte
begins at READY-WAIT, which with BUSY released ends at once. READY-WAIT and each of the two other waits
record the moment they begin, from which their limit runs (R107). -/
def Obligations.HandshakeMovesEachByte : Prop :=
  ∀ s : State,
    (s.port.stage = .strobe →
        exec .strobeReleased s = .next { s with port := { s.port with
          stage := if s.port.busyPin then .releaseWait (now s) else .ackWait (now s) } })
      ∧ (s.port.stage ≠ .strobe → exec .strobeReleased s = .next s)
      ∧ (∀ start : Time, s.port.stage = .ackWait start →
          exec .busyAsserted s
            = .next { s with port := { s.port with busyPin := true, stage := .releaseWait (now s) } })
      ∧ ((∀ start : Time, s.port.stage ≠ .ackWait start) →
          exec .busyAsserted s = .next { s with port := { s.port with busyPin := true } })
      ∧ (∀ (start : Time) (b : Byte) (bs : List Byte), s.port.stage = .readyWait start →
          s.port.job = .line (b :: bs) →
          exec .busyReleased s
            = .next { s with port := { s.port with busyPin := false, stage := .strobe, pd := b } })
      ∧ (∀ (start : Time) (a b : Byte) (bs : List Byte), s.port.stage = .releaseWait start →
          s.port.job = .line (a :: b :: bs) →
          exec .busyReleased s = .next { s with port := { s.port with
            busyPin := false, job := .line (b :: bs), stage := .strobe, pd := b } })
      ∧ (∀ (b : Byte) (bs : List Byte),
          s.port.job = .line (b :: bs) ∨ s.port.job = .cut ∧ b = s.join.figures.cut →
          (s.port.busyPin = true →
            startByte s = { s with port := { s.port with stage := .readyWait (now s) } })
          ∧ (s.port.busyPin = false →
            startByte s = { s with port := { s.port with stage := .strobe, pd := b } }))
      ∧ (s.port.state ≠ .down → s.port.stage = .rest ∨ s.port.stage = .strobe →
          exec .busyReleased s = .next { s with port := { s.port with busyPin := false } })

/-- A single-lane port whose last byte of a line is accepted sends the ticket's next image line without
trailing spaces, closed by CR and LF, and after the closing rule the cut code (R111, R112); with the cut
accepted the ticket completes, its entry PRINTED while it is in the queue (R114); the lane takes the next
item, and with an empty print list the port is IDLE (R110). A lane takes an item when one joins an IDLE
port, by REPRINT or because its entry fires (R96): the entry is PRINTING, and the first line of its image,
as R111 gives it, is sent. Two lanes send their lines side by side, 20 columns and 2 spaces; a lane that
completes its ticket makes a cut owed and takes the next item, and the cut is sent, and owed no more, when
both lanes are idle and the list is empty (R113). Between
the closing rule and the cut the next-line index is the number of lines (log 56). The
rows for a whole line and a whole cut do the same from any byte (log 6). -/
def Obligations.LinesAndCutsAreSent : Prop :=
  (∀ (s : State) (k : LaneTicket) (b : Byte) (bs : List Byte) (start : Time) (c : Instr),
      dualLane s = false → s.port.state = .sending → s.port.left = some k → s.port.job = .line bs →
      (c = .printerLineAccepted ∨ c = .busyReleased ∧ bs = [b] ∧ s.port.stage = .releaseWait start) →
      ∃ t : State, exec c s = .next t
        ∧ t = { s with port := t.port }
        ∧ t.port = { s.port with
            busyPin := false, left := some { k with next := k.next + 1 }, job := t.port.job,
            stage := .strobe, pd := t.port.pd }
        ∧ (∀ l : List Byte, k.image[k.next + 1]? = some l →
            t.port.job = .line (trimSpaces l ++ [0x0D#8, 0x0A#8])
              ∧ (trimSpaces l ++ [0x0D#8, 0x0A#8]).head? = some t.port.pd)
        ∧ (k.image.length ≤ k.next + 1 →
            t.port.job = .cut ∧ t.port.pd = s.join.figures.cut))
    ∧ (∀ (s : State) (k : LaneTicket) (e : Entry) (start : Time) (c : Instr), dualLane s = false →
        s.port.left = some k → s.port.job = .cut → s.port.list = [] → k.held = true →
        entryOf s k.origin k.ref.number = some e →
        (c = .cutAccepted ∨ c = .busyReleased ∧ s.port.stage = .releaseWait start
          ∧ s.port.pd = s.join.figures.cut) →
        ∃ t : State, exec c s = .next t
          ∧ t = { s with kitchen := { s.kitchen with entries := t.kitchen.entries }, port := t.port }
          ∧ entryOf t k.origin k.ref.number = some { e with print := .printed }
          ∧ (∀ (x n : Nat), x ≠ k.origin ∨ n ≠ k.ref.number → entryOf t x n = entryOf s x n)
          ∧ t.port = { s.port with
              busyPin := false, left := none, state := .idle, job := .none, stage := .rest,
              pd := s.join.figures.cut })
    ∧ (∀ (s : State) (x y : LaneTicket) (bs l m : List Byte), dualLane s = true →
        s.port.left = some x → s.port.right = some y → s.port.job = .line bs →
        x.image[x.next + 1]? = some l → y.image[y.next + 1]? = some m →
        ∃ t : State, exec .printerLineAccepted s = .next t
          ∧ t = { s with port := t.port }
          ∧ t.port = { s.port with
              busyPin := false, state := .sending, stage := .strobe, pd := t.port.pd
              left := some { x with next := x.next + 1 }, right := some { y with next := y.next + 1 }
              job := .line
                (trimSpaces (l ++ List.replicate (20 - l.length) 0x20#8 ++ [0x20#8, 0x20#8]
                  ++ m ++ List.replicate (20 - m.length) 0x20#8) ++ [0x0D#8, 0x0A#8]) })
    ∧ (∀ (cls : Nat) (dual reprint : Bool) (e : Entry),
        image cls dual reprint e
          = ([0x4B#8, byte (48 + cls), 0x20#8, byte (48 + e.origin / 10 % 10),
                byte (48 + e.origin % 10), 0x2D#8, byte (48 + e.number / 1000 % 10),
                byte (48 + e.number / 100 % 10), byte (48 + e.number / 10 % 10),
                byte (48 + e.number % 10)]
              ++ if e.band = .rush then [0x20#8, 0x52#8, 0x55#8, 0x53#8, 0x48#8] else [])
            :: ((if reprint = true then [[0x52#8, 0x45#8, 0x50#8, 0x52#8, 0x49#8, 0x4E#8, 0x54#8]]
                  else [])
                ++ (e.lines.filter KitchenLine.live).flatMap (fun l =>
                  ([if l.item.qty < 10 then 0x20#8 else byte (48 + l.item.qty / 10),
                      byte (48 + l.item.qty % 10), 0x20#8] ++ l.item.label)
                    :: (if l.item.note = [] then []
                      else [[0x20#8, 0x20#8, 0x2A#8, 0x20#8] ++ l.item.note]))
                ++ [List.replicate (if dual = true then 20 else 42) 0x2D#8]))
    ∧ (∀ (s : State) (e : Entry) (header : List Byte) (reprint : Bool), s.port.state = .idle →
        s.port.left = none → s.port.right = none → s.port.list = [] →
        entryOf s e.origin e.number = some e → (takenBy s e reprint).image.head? = some header →
        let begun : State → Prop := fun t =>
          t.port = { s.port with
              state := .sending, left := some (takenBy s e reprint)
              job := .line (lineBytes s header [])
              stage := if s.port.busyPin = true then .readyWait (now s) else .strobe, pd := t.port.pd }
            ∧ (s.port.busyPin = true → t.port.pd = s.port.pd)
            ∧ (s.port.busyPin = false → (lineBytes s header []).head? = some t.port.pd)
        (∀ (slot : Nat) (r : SlotRecord), reprint = true → KitchenSlot s slot r → e.state = .fired →
          ∃ t : State, exec (.reprint slot e.origin e.number) s = .next t ∧ begun t
            ∧ t = { s with kitchen := { s.kitchen with entries := t.kitchen.entries },
                           port := t.port, link := t.link }
            ∧ OnlyEntry s t { e with print := .printing } ∧ Replied t .done [])
        ∧ (reprint = false → begun (fireEntry e s)
          ∧ fireEntry e s
            = { s with kitchen := (fireEntry e s).kitchen, port := (fireEntry e s).port
                       line := (fireEntry e s).line, notices := (fireEntry e s).notices
                       overflow := (fireEntry e s).overflow, link := (fireEntry e s).link }
          ∧ (fireEntry e s).kitchen = { s.kitchen with
              entries := (fireEntry e s).kitchen.entries, fireSeq := s.kitchen.fireSeq + 1 }
          ∧ OnlyEntry s (fireEntry e s)
              { e with state := .fired, firedSeq := s.kitchen.fireSeq + 1, print := .printing }
          ∧ (CanSend s 1 → Sends s (fireEntry e s) e.origin
              (.progress ⟨e.number, e.gen⟩ .fired (liveMask e.lines)) false)
          ∧ (freeTx s = 0 → (fireEntry e s).line = s.line)
          ∧ Notified s (fireEntry e s) (.ticketFired e.origin ⟨e.number, e.gen⟩)))
    ∧ (∀ (s : State) (k : LaneTicket) (e next : Entry) (it : PrintItem) (rest : List PrintItem)
        (header : List Byte), dualLane s = false → s.port.left = some k → s.port.job = .cut →
        s.port.list = it :: rest → k.held = true → entryOf s k.origin k.ref.number = some e →
        entryOf s it.origin it.number = some next → e.origin ≠ next.origin ∨ e.number ≠ next.number →
        (takenBy s next it.reprint).image.head? = some header →
        ∃ t : State, exec .cutAccepted s = .next t
          ∧ t = { s with kitchen := { s.kitchen with entries := t.kitchen.entries }, port := t.port }
          ∧ entryOf t e.origin e.number = some { e with print := .printed }
          ∧ entryOf t next.origin next.number = some { next with print := .printing }
          ∧ t.port = { s.port with
              busyPin := false, state := .sending, left := some (takenBy s next it.reprint), list := rest
              job := .line (lineBytes s header []), stage := .strobe, pd := t.port.pd }
          ∧ (lineBytes s header []).head? = some t.port.pd)
    ∧ (∀ (s : State) (x : LaneTicket) (e : Entry) (bs : List Byte), dualLane s = true →
        s.port.left = some x → s.port.right = none → s.port.job = .line bs →
        x.image.length ≤ x.next + 1 → x.held = true → entryOf s x.origin x.ref.number = some e →
        (s.port.list = [] →
          ∃ t : State, exec .printerLineAccepted s = .next t
            ∧ t = { s with kitchen := { s.kitchen with entries := t.kitchen.entries }, port := t.port }
            ∧ OnlyEntry s t { e with print := .printed }
            ∧ t.port = { s.port with
                busyPin := false, state := .sending, left := none, cutOwed := true, job := .cut,
                stage := .strobe, pd := s.join.figures.cut })
        ∧ (∀ (it : PrintItem) (next : Entry) (header : List Byte), s.port.list = [it] →
          entryOf s it.origin it.number = some next →
          e.origin ≠ next.origin ∨ e.number ≠ next.number →
          (takenBy s next it.reprint).image.head? = some header →
          ∃ t : State, exec .printerLineAccepted s = .next t
            ∧ t = { s with kitchen := { s.kitchen with entries := t.kitchen.entries }, port := t.port }
            ∧ entryOf t e.origin e.number = some { e with print := .printed }
            ∧ entryOf t next.origin next.number = some { next with print := .printing }
            ∧ t.port = { s.port with
                busyPin := false, state := .sending, left := some (takenBy s next it.reprint), list := []
                cutOwed := true, job := .line (lineBytes s header []), stage := .strobe
                pd := t.port.pd }))
    ∧ (∀ s : State, dualLane s = true → s.port.left = none → s.port.right = none →
        s.port.list = [] → s.port.job = .cut →
        exec .cutAccepted s = .next { s with port := { s.port with
          busyPin := false, cutOwed := false, state := .idle, job := .none, stage := .rest
          pd := s.join.figures.cut } })
    ∧ (∀ (s : State) (slot origin n : Nat) (r : SlotRecord) (e : Entry), KitchenSlot s slot r →
        entryOf s origin n = some e → e.state = .fired →
        (inPrint s origin n = false → s.port.state = .sending →
          ∃ t : State, exec (.reprint slot origin n) s = .next t
            ∧ t = { s with kitchen := { s.kitchen with entries := t.kitchen.entries },
                           port := t.port, link := t.link }
            ∧ entryOf t origin n = some { e with print := .waiting }
            ∧ (∀ (x m : Nat), x ≠ origin ∨ m ≠ n → entryOf t x m = entryOf s x m)
            ∧ t.port = { s.port with list := s.port.list ++ [⟨origin, n, true⟩] }
            ∧ Replied t .done [])
        ∧ (inPrint s origin n = true ∨ s.port.state = .down →
          ∃ t : State, exec (.reprint slot origin n) s = .next t ∧ OnlyLink s t ∧ Replied t .state []))

/-- A handshake wait's limit raises NO-RESPONSE (R107), a FAULT asserted for 50 ms LINE-FAULT (R108): the
handshake stops, the kind is recorded, PRINTER-FAULT is queued, and the response is taken: LATCHED,
RETRY-WAIT until the next check, or DOWN with lanes and list given up (R116, R117, R119, R120; DOWN is
stated with BUSY or FAULT asserted, log 29). A ticket of a lane or of the list that is given up is
UNPRINTED while its entry is in the queue, with a TICKET-UNPRINTED notice for it after PRINTER-FAULT: the
left lane's before the right lane's, an order the rule leaves open (log 53), then those of the list,
oldest first (R120). STROBE is at rest from then on (log 45). That HANDSHAKE_LIMIT_EXPIRY commanded in a
READY-WAIT or RELEASE-WAIT of a byte with BUSY released takes the end of that wait, as BUSY_RELEASED does,
is no rule of the spec but the model's choice (log 30). Outside IDLE and SENDING no fault arises. The
limit taken in the STROBE stage (log 15) is not stated here; that of a recovery's READY-WAIT is stated in
RecoveryRestartsTheTickets. -/
def Obligations.PrinterFaultsTakeTheirResponse : Prop :=
  (∀ (s : State) (start : Time) (c : Instr) (k : FaultKind) (w : Response) (glitch : Deglitch),
      (c = .handshakeLimitExpiry ∧ k = .noResponse ∧ w = s.join.figures.noResponse
          ∧ glitch = s.port.deglitch ∧ s.port.state = .sending ∧ s.port.job ≠ .recovery
          ∧ Due s start 2000
          ∧ (s.port.stage = .ackWait start ∨ s.port.busyPin = true
            ∧ (s.port.stage = .readyWait start ∨ s.port.stage = .releaseWait start))
        ∨ c = .deglitchTimerExpiry ∧ k = .lineFault ∧ w = s.join.figures.lineFault ∧ glitch = .used
          ∧ (s.port.state = .idle ∨ s.port.state = .sending) ∧ Due s start 50
          ∧ s.port.deglitch = .running start) →
      ∃ t : State, exec c s = .next t
        ∧ (w = .latch →
            t = { s with port := t.port, notices := t.notices, overflow := t.overflow, link := t.link }
              ∧ t.port = { s.port with
                  job := .none, stage := .rest, deglitch := glitch, faultKind := some k,
                  state := .latched }
              ∧ Notified s t (.printerFault k .latch))
        ∧ (w = .retry →
            t = { s with port := t.port, notices := t.notices, overflow := t.overflow, link := t.link }
              ∧ t.port = { s.port with
                  job := .none, stage := .rest, deglitch := glitch, faultKind := some k,
                  state := .retryWait, retryFrom := some (now s) }
              ∧ Notified s t (.printerFault k .retry))
        ∧ (w = .skip → s.port.busyPin = true ∨ s.port.faultPin = true →
            t = { s with kitchen := { s.kitchen with entries := t.kitchen.entries }, port := t.port,
                         notices := t.notices, overflow := t.overflow, link := t.link }
              ∧ t.port = { s.port with
                  job := .none, stage := .rest, deglitch := glitch, faultKind := some k, state := .down,
                  left := none, right := none, list := [], cutOwed := false }
              ∧ (s.port.left = none → s.port.right = none → s.port.list = [] →
                  t.kitchen = s.kitchen ∧ Notified s t (.printerFault k .skip))
              ∧ (∀ (x n : Nat),
                let lost : Prop :=
                  (∃ q : LaneTicket, (s.port.left = some q ∨ s.port.right = some q) ∧ q.held = true
                    ∧ q.origin = x ∧ q.ref.number = n)
                  ∨ ∃ it : PrintItem, it ∈ s.port.list ∧ it.origin = x ∧ it.number = n
                (∀ e : Entry, entryOf s x n = some e →
                  (lost → entryOf t x n = some { e with print := .unprinted })
                  ∧ (¬lost → entryOf t x n = some e))
                ∧ (entryOf s x n = none → entryOf t x n = none))
              ∧ (let given : List NoticeBody :=
                  (s.port.left.toList ++ s.port.right.toList).map
                      (fun q => .ticketUnprinted q.origin q.ref)
                    ++ s.port.list.filterMap fun it =>
                      (entryOf s it.origin it.number).map fun e =>
                        .ticketUnprinted it.origin ⟨e.number, e.gen⟩
                let s₁ := given.foldl (fun u b => notify b u) (notify (.printerFault k .skip) s)
                t.notices = s₁.notices ∧ t.overflow = s₁.overflow ∧ t.link = s₁.link)))
    ∧ (∀ (s : State) (start : Time), s.port.state = .sending → s.port.job ≠ .recovery →
        s.port.busyPin = false →
        s.port.stage = .readyWait start ∨ s.port.stage = .releaseWait start →
        exec .handshakeLimitExpiry s = exec .busyReleased s)
    ∧ (∀ (s : State) (start : Time), s.port.deglitch = .running start → Due s start 50 →
        s.port.state = .latched ∨ s.port.state = .retryWait ∨ s.port.state = .down →
        exec .deglitchTimerExpiry s = .next { s with port := { s.port with deglitch := .used } })
    ∧ (∀ s : State, s.port.faultPin = false →
        exec .faultAsserted s = .next { s with port := { s.port with
          faultPin := true
          deglitch := if role s = .kitchen ∧ joined s = true then .running (now s)
            else s.port.deglitch } })
    ∧ (∀ s : State, s.port.state ≠ .down →
        exec .faultReleased s
          = .next { s with port := { s.port with faultPin := false, deglitch := .off } })

/-- Recovery: CLEAR-PRINTER in LATCHED with FAULT released, a retry check in RETRY-WAIT, and FAULT or BUSY
released in DOWN begin it, with a PRIME pulse of half a millisecond (R117 to R120); a retry check that
finds a LINE-FAULT's FAULT still asserted waits another interval (R119). Its READY-WAIT begins as the
pulse ends, and with BUSY asserted NO-RESPONSE arises 2000 ms later (R107, R118; log 30). That with BUSY
released HANDSHAKE_LIMIT_EXPIRY takes the recovery's end, which comes as the pulse ends, is the model's
choice (log 30). Its end queues PRINTER-RESUMED and starts each lane's ticket again from its header, the
word REPRINT after it, printing them on (R118; with items in the list, stated where no idle lane takes
one). With no ticket in a lane and none in the list it sends an owed cut, or ends in IDLE. The fault kind
is kept until that end (log 25). -/
def Obligations.RecoveryRestartsTheTickets : Prop :=
  (∀ (s : State) (slot : Nat) (r : SlotRecord), KitchenSlot s slot r →
      (s.port.state = .latched → s.port.faultPin = false →
        ∃ t : State, exec (.clearPrinter slot) s = .next t
          ∧ t = { s with port := t.port, link := t.link }
          ∧ t.port = { s.port with
              state := .sending, job := .recovery, stage := t.port.stage, retryFrom := none
              primeLeft := Straps.halvesPerMs s.straps / 2 }
          ∧ (s.ClockSound → ∃ start : Time, t.port.stage = .readyWait start
              ∧ start = (if s.clock.msPhase + Straps.halvesPerMs s.straps / 2
                  < Straps.halvesPerMs s.straps then now s else now s + 1)
              ∧ (s.port.busyPin = true → ∃ u : State, exec .handshakeLimitExpiry t = .next u
                ∧ u.clock.time = start + 2000#32 ∧ u.port.faultKind = some .noResponse
                ∧ (s.join.figures.noResponse = .latch → u.port.state = .latched
                  ∧ u.port.stage = .rest ∧ u.port.job = .none))
              ∧ (s.port.busyPin = false → ∃ u : State, exec .handshakeLimitExpiry t = .next u
                ∧ u.clock.time = start ∧ u.port.faultKind = none))
          ∧ Replied t .done [])
        ∧ (s.port.state ≠ .latched ∨ s.port.faultPin = true →
          ∃ t : State, exec (.clearPrinter slot) s = .next t ∧ OnlyLink s t ∧ Replied t .state []))
    ∧ (∀ (s : State) (start : Time), s.port.state = .retryWait → s.port.retryFrom = some start →
        Due s start 5000 →
        (s.port.faultKind = some .lineFault → s.port.faultPin = true →
          exec .retryCheck s
            = .next { s with port := { s.port with retryFrom := some (now s) } })
        ∧ (s.port.faultKind ≠ some .lineFault ∨ s.port.faultPin = false →
          ∃ t : State, exec .retryCheck s = .next t ∧ t = { s with port := t.port }
            ∧ (∃ start : Time, t.port.stage = .readyWait start)
            ∧ t.port = { s.port with
                state := .sending, job := .recovery, stage := t.port.stage, retryFrom := none
                primeLeft := Straps.halvesPerMs s.straps / 2 }))
    ∧ (∀ (s : State) (c : Instr), s.port.state = .down → s.port.stage = .rest →
        (c = .faultReleased ∧ s.port.busyPin = false ∨ c = .busyReleased ∧ s.port.faultPin = false) →
        ∃ t : State, exec c s = .next t ∧ t = { s with port := t.port }
          ∧ t.port.state = .sending ∧ t.port.job = .recovery ∧ t.port.busyPin = false
          ∧ t.port.faultPin = false ∧ t.port.primeLeft = Straps.halvesPerMs s.straps / 2)
    ∧ (∀ (s : State) (start : Time), s.port.state = .sending → s.port.job = .recovery →
        s.port.stage = .readyWait start →
        (s.port.busyPin = false → exec .handshakeLimitExpiry s = exec .recoveryEnd s)
        ∧ (s.port.primeLeft ≠ 0 →
          exec .busyReleased s = .next { s with port := { s.port with busyPin := false } }))
    ∧ (∀ (s : State) (start : Time) (c : Instr), s.port.job = .recovery →
        c = .recoveryEnd ∨ c = .busyReleased ∧ s.port.stage = .readyWait start ∧ s.port.primeLeft = 0 →
        let again : LaneTicket → LaneTicket := fun k => { k with
          next := 0, reprint := true
          image := if k.reprint then k.image else k.image.take 1
            ++ [0x52#8, 0x45#8, 0x50#8, 0x52#8, 0x49#8, 0x4E#8, 0x54#8] :: k.image.drop 1 }
        let left := s.port.left.map again
        let right := s.port.right.map again
        let header : Option LaneTicket → List Byte := fun k =>
          (k.map fun q => q.image.getD 0 []).getD []
        ∃ t : State, exec c s = .next t
          ∧ t = { s with kitchen := { s.kitchen with entries := t.kitchen.entries }, clock := t.clock
                         line := t.line, port := t.port, notices := t.notices, overflow := t.overflow
                         link := t.link }
          ∧ t.port.faultKind = none ∧ t.port.primeLeft = 0 ∧ t.port.busyPin = false
          ∧ (c = .busyReleased → t.clock = s.clock ∧ t.line = s.line)
          ∧ Notified { s with clock := t.clock } t .printerResumed
          ∧ (s.port.list = [] ∨ s.port.left.isSome = true
                ∧ (dualLane s = true → s.port.right.isSome = true) → t.kitchen = s.kitchen)
          ∧ (s.port.left.isSome = true ∨ dualLane s = true ∧ s.port.right.isSome = true →
              s.port.list = [] ∨ s.port.left.isSome = true
                ∧ (dualLane s = true → s.port.right.isSome = true) →
              t.port = { s.port with
                busyPin := false, faultKind := none, primeLeft := 0, state := .sending
                stage := .strobe, job := .line (lineBytes s (header left) (header right))
                pd := (lineBytes s (header left) (header right)).head?.getD 0#8
                left := left, right := right })
          ∧ (s.port.left = none → s.port.right = none → s.port.list = [] →
              t.port = if dualLane s = true ∧ s.port.cutOwed = true then { s.port with
                  busyPin := false, faultKind := none, primeLeft := 0, state := .sending, job := .cut
                  stage := .strobe, pd := s.join.figures.cut }
                else { s.port with
                  busyPin := false, faultKind := none, primeLeft := 0, state := .idle, job := .none
                  stage := .rest }))

/-! ## The terminal link and the notices -/

/-- A transaction (R166 to R168, Table 10-2): SEL's fall begins it, its rise ends it, and between them the
bits of SDI, sampled at the rising edges of SCK, most significant first, give the request kind, the body
length and the body, a byte at every eighth rising edge. Fewer edges leave a byte in progress, more begin
the next one; the rise of SEL discards its bits. SDO changes at the falling edges: its first bit stands
from SEL's fall, and the falling edge after the eighth rising edge shows the first bit of the next byte. At
the end of the turnaround byte the request they spell is taken; a kind and body that spell none are
ignored until SEL rises. The reply is clocked out byte by byte. SDO is undriven at rest and all ones
outside the reply. Edges while SEL is released are disregarded. The row carries the edges it stands for,
which act in their order (log 37); the request row itself is what the turnaround byte takes (log 5). -/
def Obligations.LinkMovesThroughItsPhases : Prop :=
  (∀ s : State,
      (s.link.phase = .rest → s.link.sel = false →
        exec .transactionBegin s
          = .next { s with link := ⟨true, false, true, .kind, [], 0#8, 0, [], none, 0, none⟩ })
      ∧ (s.link.phase ≠ .rest ∨ s.link.sel = true → exec .transactionBegin s = .next s)
      ∧ exec .selRise s = .next { s with link := ⟨false, false, true, .rest, [], 0#8, 0, [], none, 0, none⟩ }
      ∧ (s.link.phase = .rest → sdo s = none)
      ∧ (s.link.phase ≠ .rest → s.link.phase ≠ .reply → sdo s = some 0xFF#8)
      ∧ (s.link.phase = .rest → sdoLevel s = none)
      ∧ (s.link.phase ≠ .rest → sdoLevel s = some s.link.sdoBit))
    ∧ (∀ (s t : State) (xs ys : List ClockEdge), exec (.linkByteComplete xs) s = .next t →
        exec (.linkByteComplete (xs ++ ys)) s = exec (.linkByteComplete ys) t)
    ∧ (∀ s : State, s.link.phase ≠ .rest →
        (∀ (b : Byte) (j : Nat), s.link.sck = true → sdo s = some b → s.link.bits.length = j → j < 8 →
          exec (.linkByteComplete [.fall]) s = .next { s with link := { s.link with
            sck := false, sdoBit := b.getLsbD (7 - j) } })
        ∧ (∀ x : Bool, s.link.sck = false → s.link.bits.length < 7 →
          exec (.linkByteComplete [.rise x]) s = .next { s with link := { s.link with
            sck := true, bits := s.link.bits ++ [x] } })
        ∧ (∀ (x : Bool) (b : Byte), s.link.sck = false →
          s.link.bits ++ [x] = (List.range 8).map (fun i => b.getLsbD (7 - i)) →
          s.link.sdoBit = ((sdo s).getD 0#8).getLsbD 0 →
          exec (.linkByteComplete [.rise x]) s
            = exec (.linkByteComplete (clockByte b)) { s with link := { s.link with bits := [] } })
        ∧ (∀ x : Bool, s.link.sck = true → exec (.linkByteComplete [.rise x]) s = .next s)
        ∧ (s.link.sck = false → exec (.linkByteComplete [.fall]) s = .next s))
    ∧ (∀ (s : State) (edges : List ClockEdge), s.link.phase = .rest →
        exec (.linkByteComplete edges) s = .next s)
    ∧ (∀ (s : State) (b : Byte), s.link.bits = [] →
        let high : Link := { s.link with sck := true, sdoBit := true }
        (s.link.phase = .kind →
          exec (.linkByteComplete (clockByte b)) s
            = .next { s with link := { high with kind := b, phase := .length } })
        ∧ (s.link.phase = .length →
          exec (.linkByteComplete (clockByte b)) s = .next { s with link := { high with
            length := b.toNat, phase := if b = 0#8 then .turnaround else .body } })
        ∧ (s.link.phase = .body →
          exec (.linkByteComplete (clockByte b)) s = .next { s with link := { high with
            body := s.link.body ++ [b]
            phase := if s.link.body.length + 1 < s.link.length then .body else .turnaround } })
        ∧ (∀ i : Instr, s.link.phase = .turnaround →
          decodeRequest s.link.kind s.link.body = some i →
          exec (.linkByteComplete (clockByte b)) s = exec i { s with link := high })
        ∧ (s.link.phase = .turnaround → decodeRequest s.link.kind s.link.body = none →
          ∃ t : State, exec (.linkByteComplete (clockByte b)) s = .next t ∧ OnlyLink s t
            ∧ t.link.phase = .ignoring ∧ t.link.reply = none ∧ sdoLevel t = some true)
        ∧ (s.link.phase = .spent ∨ s.link.phase = .ignoring →
          exec (.linkByteComplete (clockByte b)) s = .next { s with link := high })
        ∧ (∀ r : Reply, s.link.phase = .reply → s.link.reply = some r →
          (s.link.clocked = 0 → sdo s = some (byte (ReplyCode.code r.code)))
          ∧ (s.link.clocked = 1 → sdo s = some (byte r.body.length))
          ∧ (∀ (j : Nat) (x : Byte), s.link.clocked = j + 2 → r.body[j]? = some x → sdo s = some x)
          ∧ (∀ x : Byte, sdo s = some x → s.link.clocked < r.body.length + 1 →
            exec (.linkByteComplete (clockByte b)) s
              = .next { s with link := { s.link with
                  sck := true, sdoBit := x.getLsbD 0, clocked := s.link.clocked + 1 } })
          ∧ (∀ x : Byte, sdo s = some x → s.link.clocked = r.body.length + 1 →
            s.link.fetching = none →
            exec (.linkByteComplete (clockByte b)) s = .next { s with link := { s.link with
              sck := true, sdoBit := x.getLsbD 0, phase := .spent, clocked := r.body.length + 2 } })))
    ∧ (∀ (s : State) (k : Byte) (body : List Byte),
        (decodeRequest k body = none →
          ∃ t : State, exec (.ignoredTransaction k body) s = .next t ∧ OnlyLink s t
            ∧ t.link.phase = .ignoring ∧ t.link.reply = none)
        ∧ (decodeRequest k body ≠ none → exec (.ignoredTransaction k body) s = .next s))

/-- A notice joins the queue while fewer than 32 stand there; else it is lost and the overflow flag takes
the time of the first loss (R171). FETCH returns an OVERFLOW, else the oldest notice, else an empty body,
and removes nothing; the end of its last reply byte removes what it returned. A notice lost while an
OVERFLOW is read out is noted in the link, the first such loss, and then keeps the flag set with its time
(R173; log 22). An abandoned FETCH removes nothing. -/
def Obligations.FetchTakesTheOldestNotice : Prop :=
  (∀ (b : NoticeBody) (s : State),
      (s.notices.length < 32 →
        notify b s = { s with notices := s.notices ++ [⟨now s, b⟩] })
      ∧ (32 ≤ s.notices.length →
        notify b s = { s with overflow := some (s.overflow.getD (now s)), link := (notify b s).link }
          ∧ (notify b s).link = { s.link with fetching := (notify b s).link.fetching }
          ∧ (s.link.fetching = some (.overflow none) →
              (notify b s).link.fetching = some (.overflow (some (now s))))
          ∧ (s.link.fetching ≠ some (.overflow none) →
              (notify b s).link.fetching = s.link.fetching)))
    ∧ (∀ s : State, ∃ t : State, exec .fetch s = .next t ∧ OnlyLink s t
        ∧ t.link.phase = .reply ∧ t.link.clocked = 0
        ∧ (∀ loss : Time, s.overflow = some loss →
            t.link.reply = some ⟨.done, 0x2B#8 :: (be32 (now s).toNat ++ be32 loss.toNat)⟩
              ∧ t.link.fetching = some (.overflow none))
        ∧ (∀ (n : Notice) (rest : List Notice), s.overflow = none → s.notices = n :: rest →
            t.link.reply = some ⟨.done, Notice.bytes n⟩ ∧ t.link.fetching = some .notice
              ∧ (Notice.bytes n).take 5 = byte (NoticeBody.code n.body) :: be32 n.time.toNat)
        ∧ (s.overflow = none → s.notices = [] →
            t.link.reply = some ⟨.done, []⟩ ∧ t.link.fetching = some .empty))
    ∧ (∀ (s : State) (f : Fetching) (r : Reply) (b : Byte) (c : Instr), s.link.phase = .reply →
        s.link.fetching = some f → s.link.reply = some r →
        (c = .fetchReplyEnd
          ∨ c = .linkByteComplete (clockByte b) ∧ s.link.bits = []
            ∧ s.link.clocked = r.body.length + 1) →
        ∃ t : State, exec c s = .next t
          ∧ t = { s with notices := t.notices, overflow := t.overflow, link := t.link }
          ∧ t.link = { s.link with
              sck := true, phase := .spent, bits := [], clocked := r.body.length + 2, fetching := none
              sdoBit := (((byte r.body.length :: r.body).getLast?).getD 0#8).getLsbD 0 }
          ∧ (f = .empty → t.notices = s.notices ∧ t.overflow = s.overflow)
          ∧ (f = .notice → t.notices = s.notices.tail ∧ t.overflow = s.overflow)
          ∧ (∀ later : Option Time, f = .overflow later →
              t.notices = s.notices ∧ t.overflow = later))
    ∧ (∀ s : State, s.link.phase ≠ .reply ∨ s.link.fetching = none →
        exec .fetchReplyEnd s = .next s)
    ∧ (∀ s : State, ∃ t : State, exec .selRise s = .next t ∧ t.notices = s.notices
        ∧ t.overflow = s.overflow)

/-- ATTN is asserted exactly while the notice queue holds a notice or the overflow flag is set, and after a
reset it is released; the terminal link plays no part (R172). -/
def Obligations.AttnFollowsTheNotices : Prop :=
  (∀ s : State, attn s = true ↔ s.notices ≠ [] ∨ s.overflow.isSome = true)
    ∧ (∀ (p : Straps) (s t : State), exec (.reset p) s = .next t → attn t = false)

/-- The eight queries are taken at both roles and in every join state, need no operator slot and change no
block but the link (and the free counter, logs 13 and 36); each replies DONE with the fields given here
at the head of its body, or its refusal: UNKNOWN for a code or number that names nothing, FIELD for an
operand out of range (R39, R164, R174 to R179). The sorts of some fields, the optional groups and
the coding of the served standing are the model's (logs 16 to 18 and 57). -/
def Obligations.QueriesChangeNothing : Prop :=
  (∀ s : State, ∃ (t : State) (body : List Byte), exec .queryState s = .next t
      ∧ t = { s with link := t.link, free := t.free } ∧ Replied t .done body
      ∧ (s.join.state ≠ .strapFault → t.free = s.free)
      ∧ body.take 7 = [byte s.straps.sta.val, byte s.straps.stb.val, byte s.straps.role.val,
          byte s.straps.mode.val, byte (8 * s.straps.sta.val + s.straps.stb.val),
          if s.straps.role.val = 0 then 0#8 else 1#8, byte s.straps.role.val])
    ∧ (∀ (s : State) (n : Nat), ∃ t : State, exec (.queryStation n) s = .next t ∧ OnlyLink s t
        ∧ (n = 0 ∨ 62 < n → Replied t .field [])
        ∧ (1 ≤ n → n ≤ 62 → heard s n = none →
            Replied t .done (0#8 :: (List.replicate 18 0#8
              ++ [1, 2, 3, 4, 5, 6, 7].map fun c => if classServed s c then 1#8 else 0#8)))
        ∧ (∀ h : Heard, 1 ≤ n → n ≤ 62 → heard s n = some h →
            Replied t .done ((if h.silent then 2#8 else 1#8) :: 1#8
              :: ([byte (Role.code h.role), byte h.cls] ++ be16 h.mark ++ be32 h.lastHeard.toNat
                ++ [byte h.depth, byte h.freeSlots, if h.accepting then 1#8 else 0#8,
                    byte (PrinterState.code h.printer), if h.lastCall then 1#8 else 0#8]
                ++ be32 (elapsed s h.lastHeard)
                ++ [1, 2, 3, 4, 5, 6, 7].map fun c => if classServed s c then 1#8 else 0#8))))
    ∧ (∀ (s : State) (code first i : Nat),
        (tabOf s code = none →
          (∃ t : State, exec (.queryTab code first) s = .next t ∧ OnlyLink s t ∧ Replied t .unknown [])
          ∧ ∃ t : State, exec (.queryShare code i) s = .next t ∧ OnlyLink s t ∧ Replied t .unknown [])
        ∧ (∀ tb : Tab, tabOf s code = some tb →
          (∃ (t : State) (rest : List Byte), exec (.queryTab code first) s = .next t ∧ OnlyLink s t
            ∧ Replied t .done (be16 code ++ [byte (TabState.code tb.state)] ++ be16 tb.operator
                ++ be32 tb.openedAt.toNat ++ be32 tb.lines.length ++ [byte tb.shares.length]
                ++ be32 tb.gross ++ be32 tb.total ++ [byte (min 8 (tb.lines.length - first))] ++ rest))
          ∧ (∀ sh : Share, tb.shares[i]? = some sh →
            ∃ (t : State) (rest : List Byte), exec (.queryShare code i) s = .next t ∧ OnlyLink s t
              ∧ Replied t .done ([byte (ShareState.code sh.state), byte sh.discount]
                  ++ amountsBytes sh.amounts ++ rest))
          ∧ (tb.shares.length ≤ i →
            ∃ t : State, exec (.queryShare code i) s = .next t ∧ OnlyLink s t ∧ Replied t .field [])))
    ∧ (∀ (s : State) (n : Nat),
        (ticketOf s n = none →
          ∃ t : State, exec (.queryTicket n) s = .next t ∧ OnlyLink s t ∧ Replied t .unknown [])
        ∧ (∀ k : Ticket, ticketOf s n = some k →
          ∃ (t : State) (rest : List Byte), exec (.queryTicket n) s = .next t ∧ OnlyLink s t
            ∧ Replied t .done (be16 n ++ [byte k.gen, byte k.cls, byte k.slot, byte k.issue,
                byte k.positions.length] ++ k.positions.map byte ++ [k.live] ++ rest)))
    ∧ (∀ (s : State) (part first : Nat), ∃ t : State, exec (.queryQueue part first) s = .next t
        ∧ t = { s with link := t.link, free := t.free }
        ∧ (part = 0 → ∃ rest : List Byte, Replied t .done
            ([byte s.kitchen.entries.length, byte s.join.figures.fire,
              byte (min 8 (s.kitchen.entries.length - first))] ++ rest))
        ∧ (part = 1 → ∃ rest : List Byte, Replied t .done (byte s.kitchen.pass.length :: rest))
        ∧ (part = 2 → ∃ rest : List Byte, Replied t .done (byte s.kitchen.lapsed.length :: rest))
        ∧ (part = 3 → ∃ rest : List Byte,
            Replied t .done (byte (PortState.code s.port.state) :: rest))
        ∧ (3 < part → Replied t .field []))
    ∧ (∀ (s : State) (n : Nat), ∃ t : State, exec (.queryBorrowed n) s = .next t
        ∧ t = { s with link := t.link, free := t.free }
        ∧ (7 < n → Replied t .field [])
        ∧ (n ≤ 7 → s.borrowed.length ≤ n → Replied t .done (be32 s.borrowed.length))
        ∧ (∀ b : Borrowed, n ≤ 7 → s.borrowed[n]? = some b → ∃ rest : List Byte,
            Replied t .done (be32 s.borrowed.length ++ be16 b.code
              ++ [byte b.share, byte b.slot, byte (BorrowedState.code b.state)] ++ rest)))
    ∧ (∀ (s : State) (n : Nat), ∃ t : State, exec (.queryTotals n) s = .next t ∧ OnlyLink s t
        ∧ (3 < n → Replied t .field [])
        ∧ (n ≤ 3 → slotOf s n = none → ∃ rest : List Byte,
            Replied t .done (0#8 :: (List.replicate 37 0#8 ++ be48 s.closed.totals.cash
              ++ be48 s.closed.totals.card ++ be48Int s.closed.totals.rounding
              ++ be32 s.closed.totals.shares ++ be32 s.closed.totals.voids
              ++ be32 s.closed.totals.wastes ++ be32 s.closed.shifts ++ rest)))
        ∧ (∀ r : SlotRecord, n ≤ 3 → slotOf s n = some r → ∃ rest : List Byte,
            Replied t .done (1#8 :: (be16 r.operator ++ [byte r.level] ++ be32 r.since.toNat
              ++ be48 r.totals.cash ++ be48 r.totals.card ++ be48Int r.totals.rounding
              ++ be32 r.totals.shares ++ be32 r.totals.voids ++ be32 r.totals.wastes ++ rest))))
end

