-- ==== Sys2Proof/Laws/State.lean ====
section
/-! SUPPORT. One lemma for each field that each update leaves as it was, so that no later proof
unfolds a record update. -/

namespace Sys2Proof.Machine

variable (s : State)

/-! ### updTicket -/

@[simp] theorem updTicket_pending (number : Nat) (f : Ticket → Ticket) :
    (updTicket number f s).pending = s.pending := rfl
@[simp] theorem updTicket_clock (number : Nat) (f : Ticket → Ticket) :
    (updTicket number f s).clock = s.clock := rfl
@[simp] theorem updTicket_straps (number : Nat) (f : Ticket → Ticket) :
    (updTicket number f s).straps = s.straps := rfl
@[simp] theorem updTicket_join (number : Nat) (f : Ticket → Ticket) :
    (updTicket number f s).join = s.join := rfl
@[simp] theorem updTicket_line (number : Nat) (f : Ticket → Ticket) :
    (updTicket number f s).line = s.line := rfl
@[simp] theorem updTicket_stations (number : Nat) (f : Ticket → Ticket) :
    (updTicket number f s).stations = s.stations := rfl
@[simp] theorem updTicket_tabs (number : Nat) (f : Ticket → Ticket) :
    (updTicket number f s).tabs = s.tabs := rfl
@[simp] theorem updTicket_lastCall (number : Nat) (f : Ticket → Ticket) :
    (updTicket number f s).lastCall = s.lastCall := rfl
@[simp] theorem updTicket_nextTicket (number : Nat) (f : Ticket → Ticket) :
    (updTicket number f s).nextTicket = s.nextTicket := rfl
@[simp] theorem updTicket_kitchen (number : Nat) (f : Ticket → Ticket) :
    (updTicket number f s).kitchen = s.kitchen := rfl
@[simp] theorem updTicket_port (number : Nat) (f : Ticket → Ticket) :
    (updTicket number f s).port = s.port := rfl
@[simp] theorem updTicket_borrowed (number : Nat) (f : Ticket → Ticket) :
    (updTicket number f s).borrowed = s.borrowed := rfl
@[simp] theorem updTicket_slots (number : Nat) (f : Ticket → Ticket) :
    (updTicket number f s).slots = s.slots := rfl
@[simp] theorem updTicket_closed (number : Nat) (f : Ticket → Ticket) :
    (updTicket number f s).closed = s.closed := rfl
@[simp] theorem updTicket_link (number : Nat) (f : Ticket → Ticket) :
    (updTicket number f s).link = s.link := rfl
@[simp] theorem updTicket_notices (number : Nat) (f : Ticket → Ticket) :
    (updTicket number f s).notices = s.notices := rfl
@[simp] theorem updTicket_overflow (number : Nat) (f : Ticket → Ticket) :
    (updTicket number f s).overflow = s.overflow := rfl
@[simp] theorem updTicket_free (number : Nat) (f : Ticket → Ticket) :
    (updTicket number f s).free = s.free := rfl

/-! ### updEntry -/

@[simp] theorem updEntry_pending (origin number : Nat) (f : Entry → Entry) :
    (updEntry origin number f s).pending = s.pending := rfl
@[simp] theorem updEntry_clock (origin number : Nat) (f : Entry → Entry) :
    (updEntry origin number f s).clock = s.clock := rfl
@[simp] theorem updEntry_straps (origin number : Nat) (f : Entry → Entry) :
    (updEntry origin number f s).straps = s.straps := rfl
@[simp] theorem updEntry_join (origin number : Nat) (f : Entry → Entry) :
    (updEntry origin number f s).join = s.join := rfl
@[simp] theorem updEntry_line (origin number : Nat) (f : Entry → Entry) :
    (updEntry origin number f s).line = s.line := rfl
@[simp] theorem updEntry_stations (origin number : Nat) (f : Entry → Entry) :
    (updEntry origin number f s).stations = s.stations := rfl
@[simp] theorem updEntry_tabs (origin number : Nat) (f : Entry → Entry) :
    (updEntry origin number f s).tabs = s.tabs := rfl
@[simp] theorem updEntry_lastCall (origin number : Nat) (f : Entry → Entry) :
    (updEntry origin number f s).lastCall = s.lastCall := rfl
@[simp] theorem updEntry_tickets (origin number : Nat) (f : Entry → Entry) :
    (updEntry origin number f s).tickets = s.tickets := rfl
@[simp] theorem updEntry_nextTicket (origin number : Nat) (f : Entry → Entry) :
    (updEntry origin number f s).nextTicket = s.nextTicket := rfl
@[simp] theorem updEntry_port (origin number : Nat) (f : Entry → Entry) :
    (updEntry origin number f s).port = s.port := rfl
@[simp] theorem updEntry_borrowed (origin number : Nat) (f : Entry → Entry) :
    (updEntry origin number f s).borrowed = s.borrowed := rfl
@[simp] theorem updEntry_slots (origin number : Nat) (f : Entry → Entry) :
    (updEntry origin number f s).slots = s.slots := rfl
@[simp] theorem updEntry_closed (origin number : Nat) (f : Entry → Entry) :
    (updEntry origin number f s).closed = s.closed := rfl
@[simp] theorem updEntry_link (origin number : Nat) (f : Entry → Entry) :
    (updEntry origin number f s).link = s.link := rfl
@[simp] theorem updEntry_notices (origin number : Nat) (f : Entry → Entry) :
    (updEntry origin number f s).notices = s.notices := rfl
@[simp] theorem updEntry_overflow (origin number : Nat) (f : Entry → Entry) :
    (updEntry origin number f s).overflow = s.overflow := rfl
@[simp] theorem updEntry_free (origin number : Nat) (f : Entry → Entry) :
    (updEntry origin number f s).free = s.free := rfl

/-! ### dropEntry -/

@[simp] theorem dropEntry_pending (origin number : Nat) :
    (dropEntry origin number s).pending = s.pending := rfl
@[simp] theorem dropEntry_clock (origin number : Nat) :
    (dropEntry origin number s).clock = s.clock := rfl
@[simp] theorem dropEntry_straps (origin number : Nat) :
    (dropEntry origin number s).straps = s.straps := rfl
@[simp] theorem dropEntry_join (origin number : Nat) :
    (dropEntry origin number s).join = s.join := rfl
@[simp] theorem dropEntry_line (origin number : Nat) :
    (dropEntry origin number s).line = s.line := rfl
@[simp] theorem dropEntry_stations (origin number : Nat) :
    (dropEntry origin number s).stations = s.stations := rfl
@[simp] theorem dropEntry_tabs (origin number : Nat) :
    (dropEntry origin number s).tabs = s.tabs := rfl
@[simp] theorem dropEntry_lastCall (origin number : Nat) :
    (dropEntry origin number s).lastCall = s.lastCall := rfl
@[simp] theorem dropEntry_tickets (origin number : Nat) :
    (dropEntry origin number s).tickets = s.tickets := rfl
@[simp] theorem dropEntry_nextTicket (origin number : Nat) :
    (dropEntry origin number s).nextTicket = s.nextTicket := rfl
@[simp] theorem dropEntry_port (origin number : Nat) :
    (dropEntry origin number s).port = s.port := rfl
@[simp] theorem dropEntry_borrowed (origin number : Nat) :
    (dropEntry origin number s).borrowed = s.borrowed := rfl
@[simp] theorem dropEntry_slots (origin number : Nat) :
    (dropEntry origin number s).slots = s.slots := rfl
@[simp] theorem dropEntry_closed (origin number : Nat) :
    (dropEntry origin number s).closed = s.closed := rfl
@[simp] theorem dropEntry_link (origin number : Nat) :
    (dropEntry origin number s).link = s.link := rfl
@[simp] theorem dropEntry_notices (origin number : Nat) :
    (dropEntry origin number s).notices = s.notices := rfl
@[simp] theorem dropEntry_overflow (origin number : Nat) :
    (dropEntry origin number s).overflow = s.overflow := rfl
@[simp] theorem dropEntry_free (origin number : Nat) :
    (dropEntry origin number s).free = s.free := rfl

/-! ### updBorrowed -/

@[simp] theorem updBorrowed_pending (code share : Nat) (f : Borrowed → Borrowed) :
    (updBorrowed code share f s).pending = s.pending := rfl
@[simp] theorem updBorrowed_clock (code share : Nat) (f : Borrowed → Borrowed) :
    (updBorrowed code share f s).clock = s.clock := rfl
@[simp] theorem updBorrowed_straps (code share : Nat) (f : Borrowed → Borrowed) :
    (updBorrowed code share f s).straps = s.straps := rfl
@[simp] theorem updBorrowed_join (code share : Nat) (f : Borrowed → Borrowed) :
    (updBorrowed code share f s).join = s.join := rfl
@[simp] theorem updBorrowed_line (code share : Nat) (f : Borrowed → Borrowed) :
    (updBorrowed code share f s).line = s.line := rfl
@[simp] theorem updBorrowed_stations (code share : Nat) (f : Borrowed → Borrowed) :
    (updBorrowed code share f s).stations = s.stations := rfl
@[simp] theorem updBorrowed_tabs (code share : Nat) (f : Borrowed → Borrowed) :
    (updBorrowed code share f s).tabs = s.tabs := rfl
@[simp] theorem updBorrowed_lastCall (code share : Nat) (f : Borrowed → Borrowed) :
    (updBorrowed code share f s).lastCall = s.lastCall := rfl
@[simp] theorem updBorrowed_tickets (code share : Nat) (f : Borrowed → Borrowed) :
    (updBorrowed code share f s).tickets = s.tickets := rfl
@[simp] theorem updBorrowed_nextTicket (code share : Nat) (f : Borrowed → Borrowed) :
    (updBorrowed code share f s).nextTicket = s.nextTicket := rfl
@[simp] theorem updBorrowed_kitchen (code share : Nat) (f : Borrowed → Borrowed) :
    (updBorrowed code share f s).kitchen = s.kitchen := rfl
@[simp] theorem updBorrowed_port (code share : Nat) (f : Borrowed → Borrowed) :
    (updBorrowed code share f s).port = s.port := rfl
@[simp] theorem updBorrowed_slots (code share : Nat) (f : Borrowed → Borrowed) :
    (updBorrowed code share f s).slots = s.slots := rfl
@[simp] theorem updBorrowed_closed (code share : Nat) (f : Borrowed → Borrowed) :
    (updBorrowed code share f s).closed = s.closed := rfl
@[simp] theorem updBorrowed_link (code share : Nat) (f : Borrowed → Borrowed) :
    (updBorrowed code share f s).link = s.link := rfl
@[simp] theorem updBorrowed_notices (code share : Nat) (f : Borrowed → Borrowed) :
    (updBorrowed code share f s).notices = s.notices := rfl
@[simp] theorem updBorrowed_overflow (code share : Nat) (f : Borrowed → Borrowed) :
    (updBorrowed code share f s).overflow = s.overflow := rfl
@[simp] theorem updBorrowed_free (code share : Nat) (f : Borrowed → Borrowed) :
    (updBorrowed code share f s).free = s.free := rfl

/-! ### dropBorrowed -/

@[simp] theorem dropBorrowed_pending (code share : Nat) :
    (dropBorrowed code share s).pending = s.pending := rfl
@[simp] theorem dropBorrowed_clock (code share : Nat) :
    (dropBorrowed code share s).clock = s.clock := rfl
@[simp] theorem dropBorrowed_straps (code share : Nat) :
    (dropBorrowed code share s).straps = s.straps := rfl
@[simp] theorem dropBorrowed_join (code share : Nat) :
    (dropBorrowed code share s).join = s.join := rfl
@[simp] theorem dropBorrowed_line (code share : Nat) :
    (dropBorrowed code share s).line = s.line := rfl
@[simp] theorem dropBorrowed_stations (code share : Nat) :
    (dropBorrowed code share s).stations = s.stations := rfl
@[simp] theorem dropBorrowed_tabs (code share : Nat) :
    (dropBorrowed code share s).tabs = s.tabs := rfl
@[simp] theorem dropBorrowed_lastCall (code share : Nat) :
    (dropBorrowed code share s).lastCall = s.lastCall := rfl
@[simp] theorem dropBorrowed_tickets (code share : Nat) :
    (dropBorrowed code share s).tickets = s.tickets := rfl
@[simp] theorem dropBorrowed_nextTicket (code share : Nat) :
    (dropBorrowed code share s).nextTicket = s.nextTicket := rfl
@[simp] theorem dropBorrowed_kitchen (code share : Nat) :
    (dropBorrowed code share s).kitchen = s.kitchen := rfl
@[simp] theorem dropBorrowed_port (code share : Nat) :
    (dropBorrowed code share s).port = s.port := rfl
@[simp] theorem dropBorrowed_slots (code share : Nat) :
    (dropBorrowed code share s).slots = s.slots := rfl
@[simp] theorem dropBorrowed_closed (code share : Nat) :
    (dropBorrowed code share s).closed = s.closed := rfl
@[simp] theorem dropBorrowed_link (code share : Nat) :
    (dropBorrowed code share s).link = s.link := rfl
@[simp] theorem dropBorrowed_notices (code share : Nat) :
    (dropBorrowed code share s).notices = s.notices := rfl
@[simp] theorem dropBorrowed_overflow (code share : Nat) :
    (dropBorrowed code share s).overflow = s.overflow := rfl
@[simp] theorem dropBorrowed_free (code share : Nat) :
    (dropBorrowed code share s).free = s.free := rfl

/-! ### cancelWaiting -/

@[simp] theorem cancelWaiting_pending (p : TxItem → Bool) :
    (cancelWaiting p s).pending = s.pending := rfl
@[simp] theorem cancelWaiting_clock (p : TxItem → Bool) :
    (cancelWaiting p s).clock = s.clock := rfl
@[simp] theorem cancelWaiting_straps (p : TxItem → Bool) :
    (cancelWaiting p s).straps = s.straps := rfl
@[simp] theorem cancelWaiting_join (p : TxItem → Bool) :
    (cancelWaiting p s).join = s.join := rfl
@[simp] theorem cancelWaiting_stations (p : TxItem → Bool) :
    (cancelWaiting p s).stations = s.stations := rfl
@[simp] theorem cancelWaiting_tabs (p : TxItem → Bool) :
    (cancelWaiting p s).tabs = s.tabs := rfl
@[simp] theorem cancelWaiting_lastCall (p : TxItem → Bool) :
    (cancelWaiting p s).lastCall = s.lastCall := rfl
@[simp] theorem cancelWaiting_tickets (p : TxItem → Bool) :
    (cancelWaiting p s).tickets = s.tickets := rfl
@[simp] theorem cancelWaiting_nextTicket (p : TxItem → Bool) :
    (cancelWaiting p s).nextTicket = s.nextTicket := rfl
@[simp] theorem cancelWaiting_kitchen (p : TxItem → Bool) :
    (cancelWaiting p s).kitchen = s.kitchen := rfl
@[simp] theorem cancelWaiting_port (p : TxItem → Bool) :
    (cancelWaiting p s).port = s.port := rfl
@[simp] theorem cancelWaiting_borrowed (p : TxItem → Bool) :
    (cancelWaiting p s).borrowed = s.borrowed := rfl
@[simp] theorem cancelWaiting_slots (p : TxItem → Bool) :
    (cancelWaiting p s).slots = s.slots := rfl
@[simp] theorem cancelWaiting_closed (p : TxItem → Bool) :
    (cancelWaiting p s).closed = s.closed := rfl
@[simp] theorem cancelWaiting_link (p : TxItem → Bool) :
    (cancelWaiting p s).link = s.link := rfl
@[simp] theorem cancelWaiting_notices (p : TxItem → Bool) :
    (cancelWaiting p s).notices = s.notices := rfl
@[simp] theorem cancelWaiting_overflow (p : TxItem → Bool) :
    (cancelWaiting p s).overflow = s.overflow := rfl
@[simp] theorem cancelWaiting_free (p : TxItem → Bool) :
    (cancelWaiting p s).free = s.free := rfl

/-! ### cancelFrames -/

@[simp] theorem cancelFrames_pending (p : TxItem → Bool) :
    (cancelFrames p s).pending = s.pending := rfl
@[simp] theorem cancelFrames_clock (p : TxItem → Bool) :
    (cancelFrames p s).clock = s.clock := rfl
@[simp] theorem cancelFrames_straps (p : TxItem → Bool) :
    (cancelFrames p s).straps = s.straps := rfl
@[simp] theorem cancelFrames_join (p : TxItem → Bool) :
    (cancelFrames p s).join = s.join := rfl
@[simp] theorem cancelFrames_stations (p : TxItem → Bool) :
    (cancelFrames p s).stations = s.stations := rfl
@[simp] theorem cancelFrames_tabs (p : TxItem → Bool) :
    (cancelFrames p s).tabs = s.tabs := rfl
@[simp] theorem cancelFrames_lastCall (p : TxItem → Bool) :
    (cancelFrames p s).lastCall = s.lastCall := rfl
@[simp] theorem cancelFrames_tickets (p : TxItem → Bool) :
    (cancelFrames p s).tickets = s.tickets := rfl
@[simp] theorem cancelFrames_nextTicket (p : TxItem → Bool) :
    (cancelFrames p s).nextTicket = s.nextTicket := rfl
@[simp] theorem cancelFrames_kitchen (p : TxItem → Bool) :
    (cancelFrames p s).kitchen = s.kitchen := rfl
@[simp] theorem cancelFrames_port (p : TxItem → Bool) :
    (cancelFrames p s).port = s.port := rfl
@[simp] theorem cancelFrames_borrowed (p : TxItem → Bool) :
    (cancelFrames p s).borrowed = s.borrowed := rfl
@[simp] theorem cancelFrames_slots (p : TxItem → Bool) :
    (cancelFrames p s).slots = s.slots := rfl
@[simp] theorem cancelFrames_closed (p : TxItem → Bool) :
    (cancelFrames p s).closed = s.closed := rfl
@[simp] theorem cancelFrames_link (p : TxItem → Bool) :
    (cancelFrames p s).link = s.link := rfl
@[simp] theorem cancelFrames_notices (p : TxItem → Bool) :
    (cancelFrames p s).notices = s.notices := rfl
@[simp] theorem cancelFrames_overflow (p : TxItem → Bool) :
    (cancelFrames p s).overflow = s.overflow := rfl
@[simp] theorem cancelFrames_free (p : TxItem → Bool) :
    (cancelFrames p s).free = s.free := rfl

/-! ### disownFrames -/

@[simp] theorem disownFrames_pending (p : TxItem → Bool) :
    (disownFrames p s).pending = s.pending := rfl
@[simp] theorem disownFrames_clock (p : TxItem → Bool) :
    (disownFrames p s).clock = s.clock := rfl
@[simp] theorem disownFrames_straps (p : TxItem → Bool) :
    (disownFrames p s).straps = s.straps := rfl
@[simp] theorem disownFrames_join (p : TxItem → Bool) :
    (disownFrames p s).join = s.join := rfl
@[simp] theorem disownFrames_stations (p : TxItem → Bool) :
    (disownFrames p s).stations = s.stations := rfl
@[simp] theorem disownFrames_tabs (p : TxItem → Bool) :
    (disownFrames p s).tabs = s.tabs := rfl
@[simp] theorem disownFrames_lastCall (p : TxItem → Bool) :
    (disownFrames p s).lastCall = s.lastCall := rfl
@[simp] theorem disownFrames_tickets (p : TxItem → Bool) :
    (disownFrames p s).tickets = s.tickets := rfl
@[simp] theorem disownFrames_nextTicket (p : TxItem → Bool) :
    (disownFrames p s).nextTicket = s.nextTicket := rfl
@[simp] theorem disownFrames_kitchen (p : TxItem → Bool) :
    (disownFrames p s).kitchen = s.kitchen := rfl
@[simp] theorem disownFrames_port (p : TxItem → Bool) :
    (disownFrames p s).port = s.port := rfl
@[simp] theorem disownFrames_borrowed (p : TxItem → Bool) :
    (disownFrames p s).borrowed = s.borrowed := rfl
@[simp] theorem disownFrames_slots (p : TxItem → Bool) :
    (disownFrames p s).slots = s.slots := rfl
@[simp] theorem disownFrames_closed (p : TxItem → Bool) :
    (disownFrames p s).closed = s.closed := rfl
@[simp] theorem disownFrames_link (p : TxItem → Bool) :
    (disownFrames p s).link = s.link := rfl
@[simp] theorem disownFrames_notices (p : TxItem → Bool) :
    (disownFrames p s).notices = s.notices := rfl
@[simp] theorem disownFrames_overflow (p : TxItem → Bool) :
    (disownFrames p s).overflow = s.overflow := rfl
@[simp] theorem disownFrames_free (p : TxItem → Bool) :
    (disownFrames p s).free = s.free := rfl

/-! ### advance -/

@[simp] theorem advance_pending (h : Nat) :
    (advance h s).pending = s.pending := rfl
@[simp] theorem advance_straps (h : Nat) :
    (advance h s).straps = s.straps := rfl
@[simp] theorem advance_join (h : Nat) :
    (advance h s).join = s.join := rfl
@[simp] theorem advance_stations (h : Nat) :
    (advance h s).stations = s.stations := rfl
@[simp] theorem advance_tabs (h : Nat) :
    (advance h s).tabs = s.tabs := rfl
@[simp] theorem advance_lastCall (h : Nat) :
    (advance h s).lastCall = s.lastCall := rfl
@[simp] theorem advance_tickets (h : Nat) :
    (advance h s).tickets = s.tickets := rfl
@[simp] theorem advance_nextTicket (h : Nat) :
    (advance h s).nextTicket = s.nextTicket := rfl
@[simp] theorem advance_kitchen (h : Nat) :
    (advance h s).kitchen = s.kitchen := rfl
@[simp] theorem advance_borrowed (h : Nat) :
    (advance h s).borrowed = s.borrowed := rfl
@[simp] theorem advance_slots (h : Nat) :
    (advance h s).slots = s.slots := rfl
@[simp] theorem advance_closed (h : Nat) :
    (advance h s).closed = s.closed := rfl
@[simp] theorem advance_link (h : Nat) :
    (advance h s).link = s.link := rfl
@[simp] theorem advance_notices (h : Nat) :
    (advance h s).notices = s.notices := rfl
@[simp] theorem advance_overflow (h : Nat) :
    (advance h s).overflow = s.overflow := rfl
@[simp] theorem advance_free (h : Nat) :
    (advance h s).free = s.free := rfl

/-! ### updPort -/

@[simp] theorem updPort_pending (f : Port → Port) :
    (updPort f s).pending = s.pending := rfl
@[simp] theorem updPort_clock (f : Port → Port) :
    (updPort f s).clock = s.clock := rfl
@[simp] theorem updPort_straps (f : Port → Port) :
    (updPort f s).straps = s.straps := rfl
@[simp] theorem updPort_join (f : Port → Port) :
    (updPort f s).join = s.join := rfl
@[simp] theorem updPort_line (f : Port → Port) :
    (updPort f s).line = s.line := rfl
@[simp] theorem updPort_stations (f : Port → Port) :
    (updPort f s).stations = s.stations := rfl
@[simp] theorem updPort_tabs (f : Port → Port) :
    (updPort f s).tabs = s.tabs := rfl
@[simp] theorem updPort_lastCall (f : Port → Port) :
    (updPort f s).lastCall = s.lastCall := rfl
@[simp] theorem updPort_tickets (f : Port → Port) :
    (updPort f s).tickets = s.tickets := rfl
@[simp] theorem updPort_nextTicket (f : Port → Port) :
    (updPort f s).nextTicket = s.nextTicket := rfl
@[simp] theorem updPort_kitchen (f : Port → Port) :
    (updPort f s).kitchen = s.kitchen := rfl
@[simp] theorem updPort_borrowed (f : Port → Port) :
    (updPort f s).borrowed = s.borrowed := rfl
@[simp] theorem updPort_slots (f : Port → Port) :
    (updPort f s).slots = s.slots := rfl
@[simp] theorem updPort_closed (f : Port → Port) :
    (updPort f s).closed = s.closed := rfl
@[simp] theorem updPort_link (f : Port → Port) :
    (updPort f s).link = s.link := rfl
@[simp] theorem updPort_notices (f : Port → Port) :
    (updPort f s).notices = s.notices := rfl
@[simp] theorem updPort_overflow (f : Port → Port) :
    (updPort f s).overflow = s.overflow := rfl
@[simp] theorem updPort_free (f : Port → Port) :
    (updPort f s).free = s.free := rfl

/-! ### setPrint -/

@[simp] theorem setPrint_pending (origin number : Nat) (p : PrintState) :
    (setPrint origin number p s).pending = s.pending := rfl
@[simp] theorem setPrint_clock (origin number : Nat) (p : PrintState) :
    (setPrint origin number p s).clock = s.clock := rfl
@[simp] theorem setPrint_straps (origin number : Nat) (p : PrintState) :
    (setPrint origin number p s).straps = s.straps := rfl
@[simp] theorem setPrint_join (origin number : Nat) (p : PrintState) :
    (setPrint origin number p s).join = s.join := rfl
@[simp] theorem setPrint_line (origin number : Nat) (p : PrintState) :
    (setPrint origin number p s).line = s.line := rfl
@[simp] theorem setPrint_stations (origin number : Nat) (p : PrintState) :
    (setPrint origin number p s).stations = s.stations := rfl
@[simp] theorem setPrint_tabs (origin number : Nat) (p : PrintState) :
    (setPrint origin number p s).tabs = s.tabs := rfl
@[simp] theorem setPrint_lastCall (origin number : Nat) (p : PrintState) :
    (setPrint origin number p s).lastCall = s.lastCall := rfl
@[simp] theorem setPrint_tickets (origin number : Nat) (p : PrintState) :
    (setPrint origin number p s).tickets = s.tickets := rfl
@[simp] theorem setPrint_nextTicket (origin number : Nat) (p : PrintState) :
    (setPrint origin number p s).nextTicket = s.nextTicket := rfl
@[simp] theorem setPrint_port (origin number : Nat) (p : PrintState) :
    (setPrint origin number p s).port = s.port := rfl
@[simp] theorem setPrint_borrowed (origin number : Nat) (p : PrintState) :
    (setPrint origin number p s).borrowed = s.borrowed := rfl
@[simp] theorem setPrint_slots (origin number : Nat) (p : PrintState) :
    (setPrint origin number p s).slots = s.slots := rfl
@[simp] theorem setPrint_closed (origin number : Nat) (p : PrintState) :
    (setPrint origin number p s).closed = s.closed := rfl
@[simp] theorem setPrint_link (origin number : Nat) (p : PrintState) :
    (setPrint origin number p s).link = s.link := rfl
@[simp] theorem setPrint_notices (origin number : Nat) (p : PrintState) :
    (setPrint origin number p s).notices = s.notices := rfl
@[simp] theorem setPrint_overflow (origin number : Nat) (p : PrintState) :
    (setPrint origin number p s).overflow = s.overflow := rfl
@[simp] theorem setPrint_free (origin number : Nat) (p : PrintState) :
    (setPrint origin number p s).free = s.free := rfl

/-! ### updKitchen -/

@[simp] theorem updKitchen_pending (f : Kitchen → Kitchen) :
    (updKitchen f s).pending = s.pending := rfl
@[simp] theorem updKitchen_clock (f : Kitchen → Kitchen) :
    (updKitchen f s).clock = s.clock := rfl
@[simp] theorem updKitchen_straps (f : Kitchen → Kitchen) :
    (updKitchen f s).straps = s.straps := rfl
@[simp] theorem updKitchen_join (f : Kitchen → Kitchen) :
    (updKitchen f s).join = s.join := rfl
@[simp] theorem updKitchen_line (f : Kitchen → Kitchen) :
    (updKitchen f s).line = s.line := rfl
@[simp] theorem updKitchen_stations (f : Kitchen → Kitchen) :
    (updKitchen f s).stations = s.stations := rfl
@[simp] theorem updKitchen_tabs (f : Kitchen → Kitchen) :
    (updKitchen f s).tabs = s.tabs := rfl
@[simp] theorem updKitchen_lastCall (f : Kitchen → Kitchen) :
    (updKitchen f s).lastCall = s.lastCall := rfl
@[simp] theorem updKitchen_tickets (f : Kitchen → Kitchen) :
    (updKitchen f s).tickets = s.tickets := rfl
@[simp] theorem updKitchen_nextTicket (f : Kitchen → Kitchen) :
    (updKitchen f s).nextTicket = s.nextTicket := rfl
@[simp] theorem updKitchen_port (f : Kitchen → Kitchen) :
    (updKitchen f s).port = s.port := rfl
@[simp] theorem updKitchen_borrowed (f : Kitchen → Kitchen) :
    (updKitchen f s).borrowed = s.borrowed := rfl
@[simp] theorem updKitchen_slots (f : Kitchen → Kitchen) :
    (updKitchen f s).slots = s.slots := rfl
@[simp] theorem updKitchen_closed (f : Kitchen → Kitchen) :
    (updKitchen f s).closed = s.closed := rfl
@[simp] theorem updKitchen_link (f : Kitchen → Kitchen) :
    (updKitchen f s).link = s.link := rfl
@[simp] theorem updKitchen_notices (f : Kitchen → Kitchen) :
    (updKitchen f s).notices = s.notices := rfl
@[simp] theorem updKitchen_overflow (f : Kitchen → Kitchen) :
    (updKitchen f s).overflow = s.overflow := rfl
@[simp] theorem updKitchen_free (f : Kitchen → Kitchen) :
    (updKitchen f s).free = s.free := rfl

/-! ### updRx -/

@[simp] theorem updRx_pending (f : Receiver → Receiver) :
    (updRx f s).pending = s.pending := rfl
@[simp] theorem updRx_clock (f : Receiver → Receiver) :
    (updRx f s).clock = s.clock := rfl
@[simp] theorem updRx_straps (f : Receiver → Receiver) :
    (updRx f s).straps = s.straps := rfl
@[simp] theorem updRx_join (f : Receiver → Receiver) :
    (updRx f s).join = s.join := rfl
@[simp] theorem updRx_stations (f : Receiver → Receiver) :
    (updRx f s).stations = s.stations := rfl
@[simp] theorem updRx_tabs (f : Receiver → Receiver) :
    (updRx f s).tabs = s.tabs := rfl
@[simp] theorem updRx_lastCall (f : Receiver → Receiver) :
    (updRx f s).lastCall = s.lastCall := rfl
@[simp] theorem updRx_tickets (f : Receiver → Receiver) :
    (updRx f s).tickets = s.tickets := rfl
@[simp] theorem updRx_nextTicket (f : Receiver → Receiver) :
    (updRx f s).nextTicket = s.nextTicket := rfl
@[simp] theorem updRx_kitchen (f : Receiver → Receiver) :
    (updRx f s).kitchen = s.kitchen := rfl
@[simp] theorem updRx_port (f : Receiver → Receiver) :
    (updRx f s).port = s.port := rfl
@[simp] theorem updRx_borrowed (f : Receiver → Receiver) :
    (updRx f s).borrowed = s.borrowed := rfl
@[simp] theorem updRx_slots (f : Receiver → Receiver) :
    (updRx f s).slots = s.slots := rfl
@[simp] theorem updRx_closed (f : Receiver → Receiver) :
    (updRx f s).closed = s.closed := rfl
@[simp] theorem updRx_link (f : Receiver → Receiver) :
    (updRx f s).link = s.link := rfl
@[simp] theorem updRx_notices (f : Receiver → Receiver) :
    (updRx f s).notices = s.notices := rfl
@[simp] theorem updRx_overflow (f : Receiver → Receiver) :
    (updRx f s).overflow = s.overflow := rfl
@[simp] theorem updRx_free (f : Receiver → Receiver) :
    (updRx f s).free = s.free := rfl

/-! ### updLink -/

@[simp] theorem updLink_pending (f : Link → Link) :
    (updLink f s).pending = s.pending := rfl
@[simp] theorem updLink_clock (f : Link → Link) :
    (updLink f s).clock = s.clock := rfl
@[simp] theorem updLink_straps (f : Link → Link) :
    (updLink f s).straps = s.straps := rfl
@[simp] theorem updLink_join (f : Link → Link) :
    (updLink f s).join = s.join := rfl
@[simp] theorem updLink_line (f : Link → Link) :
    (updLink f s).line = s.line := rfl
@[simp] theorem updLink_stations (f : Link → Link) :
    (updLink f s).stations = s.stations := rfl
@[simp] theorem updLink_tabs (f : Link → Link) :
    (updLink f s).tabs = s.tabs := rfl
@[simp] theorem updLink_lastCall (f : Link → Link) :
    (updLink f s).lastCall = s.lastCall := rfl
@[simp] theorem updLink_tickets (f : Link → Link) :
    (updLink f s).tickets = s.tickets := rfl
@[simp] theorem updLink_nextTicket (f : Link → Link) :
    (updLink f s).nextTicket = s.nextTicket := rfl
@[simp] theorem updLink_kitchen (f : Link → Link) :
    (updLink f s).kitchen = s.kitchen := rfl
@[simp] theorem updLink_port (f : Link → Link) :
    (updLink f s).port = s.port := rfl
@[simp] theorem updLink_borrowed (f : Link → Link) :
    (updLink f s).borrowed = s.borrowed := rfl
@[simp] theorem updLink_slots (f : Link → Link) :
    (updLink f s).slots = s.slots := rfl
@[simp] theorem updLink_closed (f : Link → Link) :
    (updLink f s).closed = s.closed := rfl
@[simp] theorem updLink_notices (f : Link → Link) :
    (updLink f s).notices = s.notices := rfl
@[simp] theorem updLink_overflow (f : Link → Link) :
    (updLink f s).overflow = s.overflow := rfl
@[simp] theorem updLink_free (f : Link → Link) :
    (updLink f s).free = s.free := rfl

/-! ### recomputeTabs -/

@[simp] theorem recomputeTabs_pending (f : Figures) :
    (recomputeTabs f s).pending = s.pending := rfl
@[simp] theorem recomputeTabs_clock (f : Figures) :
    (recomputeTabs f s).clock = s.clock := rfl
@[simp] theorem recomputeTabs_straps (f : Figures) :
    (recomputeTabs f s).straps = s.straps := rfl
@[simp] theorem recomputeTabs_join (f : Figures) :
    (recomputeTabs f s).join = s.join := rfl
@[simp] theorem recomputeTabs_line (f : Figures) :
    (recomputeTabs f s).line = s.line := rfl
@[simp] theorem recomputeTabs_stations (f : Figures) :
    (recomputeTabs f s).stations = s.stations := rfl
@[simp] theorem recomputeTabs_lastCall (f : Figures) :
    (recomputeTabs f s).lastCall = s.lastCall := rfl
@[simp] theorem recomputeTabs_tickets (f : Figures) :
    (recomputeTabs f s).tickets = s.tickets := rfl
@[simp] theorem recomputeTabs_nextTicket (f : Figures) :
    (recomputeTabs f s).nextTicket = s.nextTicket := rfl
@[simp] theorem recomputeTabs_kitchen (f : Figures) :
    (recomputeTabs f s).kitchen = s.kitchen := rfl
@[simp] theorem recomputeTabs_port (f : Figures) :
    (recomputeTabs f s).port = s.port := rfl
@[simp] theorem recomputeTabs_borrowed (f : Figures) :
    (recomputeTabs f s).borrowed = s.borrowed := rfl
@[simp] theorem recomputeTabs_slots (f : Figures) :
    (recomputeTabs f s).slots = s.slots := rfl
@[simp] theorem recomputeTabs_closed (f : Figures) :
    (recomputeTabs f s).closed = s.closed := rfl
@[simp] theorem recomputeTabs_link (f : Figures) :
    (recomputeTabs f s).link = s.link := rfl
@[simp] theorem recomputeTabs_notices (f : Figures) :
    (recomputeTabs f s).notices = s.notices := rfl
@[simp] theorem recomputeTabs_overflow (f : Figures) :
    (recomputeTabs f s).overflow = s.overflow := rfl
@[simp] theorem recomputeTabs_free (f : Figures) :
    (recomputeTabs f s).free = s.free := rfl

/-! ### startSending -/

@[simp] theorem startSending_pending (head : TxItem) (rest : List TxItem) :
    (startSending head rest s).pending = s.pending := rfl
@[simp] theorem startSending_clock (head : TxItem) (rest : List TxItem) :
    (startSending head rest s).clock = s.clock := rfl
@[simp] theorem startSending_straps (head : TxItem) (rest : List TxItem) :
    (startSending head rest s).straps = s.straps := rfl
@[simp] theorem startSending_join (head : TxItem) (rest : List TxItem) :
    (startSending head rest s).join = s.join := rfl
@[simp] theorem startSending_stations (head : TxItem) (rest : List TxItem) :
    (startSending head rest s).stations = s.stations := rfl
@[simp] theorem startSending_tabs (head : TxItem) (rest : List TxItem) :
    (startSending head rest s).tabs = s.tabs := rfl
@[simp] theorem startSending_lastCall (head : TxItem) (rest : List TxItem) :
    (startSending head rest s).lastCall = s.lastCall := rfl
@[simp] theorem startSending_tickets (head : TxItem) (rest : List TxItem) :
    (startSending head rest s).tickets = s.tickets := rfl
@[simp] theorem startSending_nextTicket (head : TxItem) (rest : List TxItem) :
    (startSending head rest s).nextTicket = s.nextTicket := rfl
@[simp] theorem startSending_kitchen (head : TxItem) (rest : List TxItem) :
    (startSending head rest s).kitchen = s.kitchen := rfl
@[simp] theorem startSending_port (head : TxItem) (rest : List TxItem) :
    (startSending head rest s).port = s.port := rfl
@[simp] theorem startSending_borrowed (head : TxItem) (rest : List TxItem) :
    (startSending head rest s).borrowed = s.borrowed := rfl
@[simp] theorem startSending_slots (head : TxItem) (rest : List TxItem) :
    (startSending head rest s).slots = s.slots := rfl
@[simp] theorem startSending_closed (head : TxItem) (rest : List TxItem) :
    (startSending head rest s).closed = s.closed := rfl
@[simp] theorem startSending_link (head : TxItem) (rest : List TxItem) :
    (startSending head rest s).link = s.link := rfl
@[simp] theorem startSending_notices (head : TxItem) (rest : List TxItem) :
    (startSending head rest s).notices = s.notices := rfl
@[simp] theorem startSending_overflow (head : TxItem) (rest : List TxItem) :
    (startSending head rest s).overflow = s.overflow := rfl
@[simp] theorem startSending_free (head : TxItem) (rest : List TxItem) :
    (startSending head rest s).free = s.free := rfl

/-! ### stopDriving -/

@[simp] theorem stopDriving_pending :
    (stopDriving s).pending = s.pending := rfl
@[simp] theorem stopDriving_clock :
    (stopDriving s).clock = s.clock := rfl
@[simp] theorem stopDriving_straps :
    (stopDriving s).straps = s.straps := rfl
@[simp] theorem stopDriving_join :
    (stopDriving s).join = s.join := rfl
@[simp] theorem stopDriving_stations :
    (stopDriving s).stations = s.stations := rfl
@[simp] theorem stopDriving_tabs :
    (stopDriving s).tabs = s.tabs := rfl
@[simp] theorem stopDriving_lastCall :
    (stopDriving s).lastCall = s.lastCall := rfl
@[simp] theorem stopDriving_tickets :
    (stopDriving s).tickets = s.tickets := rfl
@[simp] theorem stopDriving_nextTicket :
    (stopDriving s).nextTicket = s.nextTicket := rfl
@[simp] theorem stopDriving_kitchen :
    (stopDriving s).kitchen = s.kitchen := rfl
@[simp] theorem stopDriving_port :
    (stopDriving s).port = s.port := rfl
@[simp] theorem stopDriving_borrowed :
    (stopDriving s).borrowed = s.borrowed := rfl
@[simp] theorem stopDriving_slots :
    (stopDriving s).slots = s.slots := rfl
@[simp] theorem stopDriving_closed :
    (stopDriving s).closed = s.closed := rfl
@[simp] theorem stopDriving_link :
    (stopDriving s).link = s.link := rfl
@[simp] theorem stopDriving_notices :
    (stopDriving s).notices = s.notices := rfl
@[simp] theorem stopDriving_overflow :
    (stopDriving s).overflow = s.overflow := rfl
@[simp] theorem stopDriving_free :
    (stopDriving s).free = s.free := rfl

/-! ### advanceUntil -/

@[simp] theorem advanceUntil_pending (start : Time) (limit : Nat) :
    (advanceUntil start limit s).pending = s.pending := by unfold advanceUntil; split <;> rfl
@[simp] theorem advanceUntil_straps (start : Time) (limit : Nat) :
    (advanceUntil start limit s).straps = s.straps := by unfold advanceUntil; split <;> rfl
@[simp] theorem advanceUntil_join (start : Time) (limit : Nat) :
    (advanceUntil start limit s).join = s.join := by unfold advanceUntil; split <;> rfl
@[simp] theorem advanceUntil_stations (start : Time) (limit : Nat) :
    (advanceUntil start limit s).stations = s.stations := by unfold advanceUntil; split <;> rfl
@[simp] theorem advanceUntil_tabs (start : Time) (limit : Nat) :
    (advanceUntil start limit s).tabs = s.tabs := by unfold advanceUntil; split <;> rfl
@[simp] theorem advanceUntil_lastCall (start : Time) (limit : Nat) :
    (advanceUntil start limit s).lastCall = s.lastCall := by unfold advanceUntil; split <;> rfl
@[simp] theorem advanceUntil_tickets (start : Time) (limit : Nat) :
    (advanceUntil start limit s).tickets = s.tickets := by unfold advanceUntil; split <;> rfl
@[simp] theorem advanceUntil_nextTicket (start : Time) (limit : Nat) :
    (advanceUntil start limit s).nextTicket = s.nextTicket := by unfold advanceUntil; split <;> rfl
@[simp] theorem advanceUntil_kitchen (start : Time) (limit : Nat) :
    (advanceUntil start limit s).kitchen = s.kitchen := by unfold advanceUntil; split <;> rfl
@[simp] theorem advanceUntil_borrowed (start : Time) (limit : Nat) :
    (advanceUntil start limit s).borrowed = s.borrowed := by unfold advanceUntil; split <;> rfl
@[simp] theorem advanceUntil_slots (start : Time) (limit : Nat) :
    (advanceUntil start limit s).slots = s.slots := by unfold advanceUntil; split <;> rfl
@[simp] theorem advanceUntil_closed (start : Time) (limit : Nat) :
    (advanceUntil start limit s).closed = s.closed := by unfold advanceUntil; split <;> rfl
@[simp] theorem advanceUntil_link (start : Time) (limit : Nat) :
    (advanceUntil start limit s).link = s.link := by unfold advanceUntil; split <;> rfl
@[simp] theorem advanceUntil_notices (start : Time) (limit : Nat) :
    (advanceUntil start limit s).notices = s.notices := by unfold advanceUntil; split <;> rfl
@[simp] theorem advanceUntil_overflow (start : Time) (limit : Nat) :
    (advanceUntil start limit s).overflow = s.overflow := by unfold advanceUntil; split <;> rfl
@[simp] theorem advanceUntil_free (start : Time) (limit : Nat) :
    (advanceUntil start limit s).free = s.free := by unfold advanceUntil; split <;> rfl

/-! ### notify -/

@[simp] theorem notify_pending (body : NoticeBody) :
    (notify body s).pending = s.pending := by unfold notify; split <;> rfl
@[simp] theorem notify_clock (body : NoticeBody) :
    (notify body s).clock = s.clock := by unfold notify; split <;> rfl
@[simp] theorem notify_straps (body : NoticeBody) :
    (notify body s).straps = s.straps := by unfold notify; split <;> rfl
@[simp] theorem notify_join (body : NoticeBody) :
    (notify body s).join = s.join := by unfold notify; split <;> rfl
@[simp] theorem notify_line (body : NoticeBody) :
    (notify body s).line = s.line := by unfold notify; split <;> rfl
@[simp] theorem notify_stations (body : NoticeBody) :
    (notify body s).stations = s.stations := by unfold notify; split <;> rfl
@[simp] theorem notify_tabs (body : NoticeBody) :
    (notify body s).tabs = s.tabs := by unfold notify; split <;> rfl
@[simp] theorem notify_lastCall (body : NoticeBody) :
    (notify body s).lastCall = s.lastCall := by unfold notify; split <;> rfl
@[simp] theorem notify_tickets (body : NoticeBody) :
    (notify body s).tickets = s.tickets := by unfold notify; split <;> rfl
@[simp] theorem notify_nextTicket (body : NoticeBody) :
    (notify body s).nextTicket = s.nextTicket := by unfold notify; split <;> rfl
@[simp] theorem notify_kitchen (body : NoticeBody) :
    (notify body s).kitchen = s.kitchen := by unfold notify; split <;> rfl
@[simp] theorem notify_port (body : NoticeBody) :
    (notify body s).port = s.port := by unfold notify; split <;> rfl
@[simp] theorem notify_borrowed (body : NoticeBody) :
    (notify body s).borrowed = s.borrowed := by unfold notify; split <;> rfl
@[simp] theorem notify_slots (body : NoticeBody) :
    (notify body s).slots = s.slots := by unfold notify; split <;> rfl
@[simp] theorem notify_closed (body : NoticeBody) :
    (notify body s).closed = s.closed := by unfold notify; split <;> rfl
@[simp] theorem notify_free (body : NoticeBody) :
    (notify body s).free = s.free := by unfold notify; split <;> rfl

/-! ### setHeard -/

@[simp] theorem setHeard_pending (n : Nat) (e : Heard) :
    (setHeard n e s).pending = s.pending := by unfold setHeard; split <;> rfl
@[simp] theorem setHeard_clock (n : Nat) (e : Heard) :
    (setHeard n e s).clock = s.clock := by unfold setHeard; split <;> rfl
@[simp] theorem setHeard_straps (n : Nat) (e : Heard) :
    (setHeard n e s).straps = s.straps := by unfold setHeard; split <;> rfl
@[simp] theorem setHeard_join (n : Nat) (e : Heard) :
    (setHeard n e s).join = s.join := by unfold setHeard; split <;> rfl
@[simp] theorem setHeard_line (n : Nat) (e : Heard) :
    (setHeard n e s).line = s.line := by unfold setHeard; split <;> rfl
@[simp] theorem setHeard_tabs (n : Nat) (e : Heard) :
    (setHeard n e s).tabs = s.tabs := by unfold setHeard; split <;> rfl
@[simp] theorem setHeard_lastCall (n : Nat) (e : Heard) :
    (setHeard n e s).lastCall = s.lastCall := by unfold setHeard; split <;> rfl
@[simp] theorem setHeard_tickets (n : Nat) (e : Heard) :
    (setHeard n e s).tickets = s.tickets := by unfold setHeard; split <;> rfl
@[simp] theorem setHeard_nextTicket (n : Nat) (e : Heard) :
    (setHeard n e s).nextTicket = s.nextTicket := by unfold setHeard; split <;> rfl
@[simp] theorem setHeard_kitchen (n : Nat) (e : Heard) :
    (setHeard n e s).kitchen = s.kitchen := by unfold setHeard; split <;> rfl
@[simp] theorem setHeard_port (n : Nat) (e : Heard) :
    (setHeard n e s).port = s.port := by unfold setHeard; split <;> rfl
@[simp] theorem setHeard_borrowed (n : Nat) (e : Heard) :
    (setHeard n e s).borrowed = s.borrowed := by unfold setHeard; split <;> rfl
@[simp] theorem setHeard_slots (n : Nat) (e : Heard) :
    (setHeard n e s).slots = s.slots := by unfold setHeard; split <;> rfl
@[simp] theorem setHeard_closed (n : Nat) (e : Heard) :
    (setHeard n e s).closed = s.closed := by unfold setHeard; split <;> rfl
@[simp] theorem setHeard_link (n : Nat) (e : Heard) :
    (setHeard n e s).link = s.link := by unfold setHeard; split <;> rfl
@[simp] theorem setHeard_notices (n : Nat) (e : Heard) :
    (setHeard n e s).notices = s.notices := by unfold setHeard; split <;> rfl
@[simp] theorem setHeard_overflow (n : Nat) (e : Heard) :
    (setHeard n e s).overflow = s.overflow := by unfold setHeard; split <;> rfl
@[simp] theorem setHeard_free (n : Nat) (e : Heard) :
    (setHeard n e s).free = s.free := by unfold setHeard; split <;> rfl

/-! ### putTab -/

@[simp] theorem putTab_pending (slot : Nat) (t : Option Tab) :
    (putTab slot t s).pending = s.pending := by unfold putTab; split <;> rfl
@[simp] theorem putTab_clock (slot : Nat) (t : Option Tab) :
    (putTab slot t s).clock = s.clock := by unfold putTab; split <;> rfl
@[simp] theorem putTab_straps (slot : Nat) (t : Option Tab) :
    (putTab slot t s).straps = s.straps := by unfold putTab; split <;> rfl
@[simp] theorem putTab_join (slot : Nat) (t : Option Tab) :
    (putTab slot t s).join = s.join := by unfold putTab; split <;> rfl
@[simp] theorem putTab_line (slot : Nat) (t : Option Tab) :
    (putTab slot t s).line = s.line := by unfold putTab; split <;> rfl
@[simp] theorem putTab_stations (slot : Nat) (t : Option Tab) :
    (putTab slot t s).stations = s.stations := by unfold putTab; split <;> rfl
@[simp] theorem putTab_lastCall (slot : Nat) (t : Option Tab) :
    (putTab slot t s).lastCall = s.lastCall := by unfold putTab; split <;> rfl
@[simp] theorem putTab_tickets (slot : Nat) (t : Option Tab) :
    (putTab slot t s).tickets = s.tickets := by unfold putTab; split <;> rfl
@[simp] theorem putTab_nextTicket (slot : Nat) (t : Option Tab) :
    (putTab slot t s).nextTicket = s.nextTicket := by unfold putTab; split <;> rfl
@[simp] theorem putTab_kitchen (slot : Nat) (t : Option Tab) :
    (putTab slot t s).kitchen = s.kitchen := by unfold putTab; split <;> rfl
@[simp] theorem putTab_port (slot : Nat) (t : Option Tab) :
    (putTab slot t s).port = s.port := by unfold putTab; split <;> rfl
@[simp] theorem putTab_borrowed (slot : Nat) (t : Option Tab) :
    (putTab slot t s).borrowed = s.borrowed := by unfold putTab; split <;> rfl
@[simp] theorem putTab_slots (slot : Nat) (t : Option Tab) :
    (putTab slot t s).slots = s.slots := by unfold putTab; split <;> rfl
@[simp] theorem putTab_closed (slot : Nat) (t : Option Tab) :
    (putTab slot t s).closed = s.closed := by unfold putTab; split <;> rfl
@[simp] theorem putTab_link (slot : Nat) (t : Option Tab) :
    (putTab slot t s).link = s.link := by unfold putTab; split <;> rfl
@[simp] theorem putTab_notices (slot : Nat) (t : Option Tab) :
    (putTab slot t s).notices = s.notices := by unfold putTab; split <;> rfl
@[simp] theorem putTab_overflow (slot : Nat) (t : Option Tab) :
    (putTab slot t s).overflow = s.overflow := by unfold putTab; split <;> rfl
@[simp] theorem putTab_free (slot : Nat) (t : Option Tab) :
    (putTab slot t s).free = s.free := by unfold putTab; split <;> rfl

/-! ### updTab -/

@[simp] theorem updTab_pending (slot : Nat) (f : Tab → Tab) :
    (updTab slot f s).pending = s.pending := by unfold updTab; split <;> simp
@[simp] theorem updTab_clock (slot : Nat) (f : Tab → Tab) :
    (updTab slot f s).clock = s.clock := by unfold updTab; split <;> simp
@[simp] theorem updTab_straps (slot : Nat) (f : Tab → Tab) :
    (updTab slot f s).straps = s.straps := by unfold updTab; split <;> simp
@[simp] theorem updTab_join (slot : Nat) (f : Tab → Tab) :
    (updTab slot f s).join = s.join := by unfold updTab; split <;> simp
@[simp] theorem updTab_line (slot : Nat) (f : Tab → Tab) :
    (updTab slot f s).line = s.line := by unfold updTab; split <;> simp
@[simp] theorem updTab_stations (slot : Nat) (f : Tab → Tab) :
    (updTab slot f s).stations = s.stations := by unfold updTab; split <;> simp
@[simp] theorem updTab_lastCall (slot : Nat) (f : Tab → Tab) :
    (updTab slot f s).lastCall = s.lastCall := by unfold updTab; split <;> simp
@[simp] theorem updTab_tickets (slot : Nat) (f : Tab → Tab) :
    (updTab slot f s).tickets = s.tickets := by unfold updTab; split <;> simp
@[simp] theorem updTab_nextTicket (slot : Nat) (f : Tab → Tab) :
    (updTab slot f s).nextTicket = s.nextTicket := by unfold updTab; split <;> simp
@[simp] theorem updTab_kitchen (slot : Nat) (f : Tab → Tab) :
    (updTab slot f s).kitchen = s.kitchen := by unfold updTab; split <;> simp
@[simp] theorem updTab_port (slot : Nat) (f : Tab → Tab) :
    (updTab slot f s).port = s.port := by unfold updTab; split <;> simp
@[simp] theorem updTab_borrowed (slot : Nat) (f : Tab → Tab) :
    (updTab slot f s).borrowed = s.borrowed := by unfold updTab; split <;> simp
@[simp] theorem updTab_slots (slot : Nat) (f : Tab → Tab) :
    (updTab slot f s).slots = s.slots := by unfold updTab; split <;> simp
@[simp] theorem updTab_closed (slot : Nat) (f : Tab → Tab) :
    (updTab slot f s).closed = s.closed := by unfold updTab; split <;> simp
@[simp] theorem updTab_link (slot : Nat) (f : Tab → Tab) :
    (updTab slot f s).link = s.link := by unfold updTab; split <;> simp
@[simp] theorem updTab_notices (slot : Nat) (f : Tab → Tab) :
    (updTab slot f s).notices = s.notices := by unfold updTab; split <;> simp
@[simp] theorem updTab_overflow (slot : Nat) (f : Tab → Tab) :
    (updTab slot f s).overflow = s.overflow := by unfold updTab; split <;> simp
@[simp] theorem updTab_free (slot : Nat) (f : Tab → Tab) :
    (updTab slot f s).free = s.free := by unfold updTab; split <;> simp

/-! ### addTotals -/

@[simp] theorem addTotals_pending (slot : Nat) (f : Totals → Totals) :
    (addTotals slot f s).pending = s.pending := by unfold addTotals; split <;> rfl
@[simp] theorem addTotals_clock (slot : Nat) (f : Totals → Totals) :
    (addTotals slot f s).clock = s.clock := by unfold addTotals; split <;> rfl
@[simp] theorem addTotals_straps (slot : Nat) (f : Totals → Totals) :
    (addTotals slot f s).straps = s.straps := by unfold addTotals; split <;> rfl
@[simp] theorem addTotals_join (slot : Nat) (f : Totals → Totals) :
    (addTotals slot f s).join = s.join := by unfold addTotals; split <;> rfl
@[simp] theorem addTotals_line (slot : Nat) (f : Totals → Totals) :
    (addTotals slot f s).line = s.line := by unfold addTotals; split <;> rfl
@[simp] theorem addTotals_stations (slot : Nat) (f : Totals → Totals) :
    (addTotals slot f s).stations = s.stations := by unfold addTotals; split <;> rfl
@[simp] theorem addTotals_tabs (slot : Nat) (f : Totals → Totals) :
    (addTotals slot f s).tabs = s.tabs := by unfold addTotals; split <;> rfl
@[simp] theorem addTotals_lastCall (slot : Nat) (f : Totals → Totals) :
    (addTotals slot f s).lastCall = s.lastCall := by unfold addTotals; split <;> rfl
@[simp] theorem addTotals_tickets (slot : Nat) (f : Totals → Totals) :
    (addTotals slot f s).tickets = s.tickets := by unfold addTotals; split <;> rfl
@[simp] theorem addTotals_nextTicket (slot : Nat) (f : Totals → Totals) :
    (addTotals slot f s).nextTicket = s.nextTicket := by unfold addTotals; split <;> rfl
@[simp] theorem addTotals_kitchen (slot : Nat) (f : Totals → Totals) :
    (addTotals slot f s).kitchen = s.kitchen := by unfold addTotals; split <;> rfl
@[simp] theorem addTotals_port (slot : Nat) (f : Totals → Totals) :
    (addTotals slot f s).port = s.port := by unfold addTotals; split <;> rfl
@[simp] theorem addTotals_borrowed (slot : Nat) (f : Totals → Totals) :
    (addTotals slot f s).borrowed = s.borrowed := by unfold addTotals; split <;> rfl
@[simp] theorem addTotals_closed (slot : Nat) (f : Totals → Totals) :
    (addTotals slot f s).closed = s.closed := by unfold addTotals; split <;> rfl
@[simp] theorem addTotals_link (slot : Nat) (f : Totals → Totals) :
    (addTotals slot f s).link = s.link := by unfold addTotals; split <;> rfl
@[simp] theorem addTotals_notices (slot : Nat) (f : Totals → Totals) :
    (addTotals slot f s).notices = s.notices := by unfold addTotals; split <;> rfl
@[simp] theorem addTotals_overflow (slot : Nat) (f : Totals → Totals) :
    (addTotals slot f s).overflow = s.overflow := by unfold addTotals; split <;> rfl
@[simp] theorem addTotals_free (slot : Nat) (f : Totals → Totals) :
    (addTotals slot f s).free = s.free := by unfold addTotals; split <;> rfl

/-! ### frameEnded -/

@[simp] theorem frameEnded_pending (item : TxItem) :
    (frameEnded item s).pending = s.pending := by unfold frameEnded; split <;> [rfl; (split <;> rfl)]
@[simp] theorem frameEnded_clock (item : TxItem) :
    (frameEnded item s).clock = s.clock := by unfold frameEnded; split <;> [rfl; (split <;> rfl)]
@[simp] theorem frameEnded_straps (item : TxItem) :
    (frameEnded item s).straps = s.straps := by unfold frameEnded; split <;> [rfl; (split <;> rfl)]
@[simp] theorem frameEnded_join (item : TxItem) :
    (frameEnded item s).join = s.join := by unfold frameEnded; split <;> [rfl; (split <;> rfl)]
@[simp] theorem frameEnded_line (item : TxItem) :
    (frameEnded item s).line = s.line := by unfold frameEnded; split <;> [rfl; (split <;> rfl)]
@[simp] theorem frameEnded_stations (item : TxItem) :
    (frameEnded item s).stations = s.stations := by unfold frameEnded; split <;> [rfl; (split <;> rfl)]
@[simp] theorem frameEnded_tabs (item : TxItem) :
    (frameEnded item s).tabs = s.tabs := by unfold frameEnded; split <;> [rfl; (split <;> rfl)]
@[simp] theorem frameEnded_lastCall (item : TxItem) :
    (frameEnded item s).lastCall = s.lastCall := by unfold frameEnded; split <;> [rfl; (split <;> rfl)]
@[simp] theorem frameEnded_nextTicket (item : TxItem) :
    (frameEnded item s).nextTicket = s.nextTicket := by unfold frameEnded; split <;> [rfl; (split <;> rfl)]
@[simp] theorem frameEnded_port (item : TxItem) :
    (frameEnded item s).port = s.port := by unfold frameEnded; split <;> [rfl; (split <;> rfl)]
@[simp] theorem frameEnded_slots (item : TxItem) :
    (frameEnded item s).slots = s.slots := by unfold frameEnded; split <;> [rfl; (split <;> rfl)]
@[simp] theorem frameEnded_closed (item : TxItem) :
    (frameEnded item s).closed = s.closed := by unfold frameEnded; split <;> [rfl; (split <;> rfl)]
@[simp] theorem frameEnded_link (item : TxItem) :
    (frameEnded item s).link = s.link := by unfold frameEnded; split <;> [rfl; (split <;> rfl)]
@[simp] theorem frameEnded_notices (item : TxItem) :
    (frameEnded item s).notices = s.notices := by unfold frameEnded; split <;> [rfl; (split <;> rfl)]
@[simp] theorem frameEnded_overflow (item : TxItem) :
    (frameEnded item s).overflow = s.overflow := by unfold frameEnded; split <;> [rfl; (split <;> rfl)]
@[simp] theorem frameEnded_free (item : TxItem) :
    (frameEnded item s).free = s.free := by unfold frameEnded; split <;> [rfl; (split <;> rfl)]

/-! ### offerFrame -/

@[simp] theorem offerFrame_pending (dest : Nat) (body : FrameBody) (wait : Bool) :
    (offerFrame dest body wait s).pending = s.pending := by unfold offerFrame; split <;> simp
@[simp] theorem offerFrame_clock (dest : Nat) (body : FrameBody) (wait : Bool) :
    (offerFrame dest body wait s).clock = s.clock := by unfold offerFrame; split <;> simp
@[simp] theorem offerFrame_straps (dest : Nat) (body : FrameBody) (wait : Bool) :
    (offerFrame dest body wait s).straps = s.straps := by unfold offerFrame; split <;> simp
@[simp] theorem offerFrame_join (dest : Nat) (body : FrameBody) (wait : Bool) :
    (offerFrame dest body wait s).join = s.join := by unfold offerFrame; split <;> simp
@[simp] theorem offerFrame_stations (dest : Nat) (body : FrameBody) (wait : Bool) :
    (offerFrame dest body wait s).stations = s.stations := by unfold offerFrame; split <;> simp
@[simp] theorem offerFrame_tabs (dest : Nat) (body : FrameBody) (wait : Bool) :
    (offerFrame dest body wait s).tabs = s.tabs := by unfold offerFrame; split <;> simp
@[simp] theorem offerFrame_lastCall (dest : Nat) (body : FrameBody) (wait : Bool) :
    (offerFrame dest body wait s).lastCall = s.lastCall := by unfold offerFrame; split <;> simp
@[simp] theorem offerFrame_nextTicket (dest : Nat) (body : FrameBody) (wait : Bool) :
    (offerFrame dest body wait s).nextTicket = s.nextTicket := by unfold offerFrame; split <;> simp
@[simp] theorem offerFrame_port (dest : Nat) (body : FrameBody) (wait : Bool) :
    (offerFrame dest body wait s).port = s.port := by unfold offerFrame; split <;> simp
@[simp] theorem offerFrame_slots (dest : Nat) (body : FrameBody) (wait : Bool) :
    (offerFrame dest body wait s).slots = s.slots := by unfold offerFrame; split <;> simp
@[simp] theorem offerFrame_closed (dest : Nat) (body : FrameBody) (wait : Bool) :
    (offerFrame dest body wait s).closed = s.closed := by unfold offerFrame; split <;> simp
@[simp] theorem offerFrame_link (dest : Nat) (body : FrameBody) (wait : Bool) :
    (offerFrame dest body wait s).link = s.link := by unfold offerFrame; split <;> simp
@[simp] theorem offerFrame_notices (dest : Nat) (body : FrameBody) (wait : Bool) :
    (offerFrame dest body wait s).notices = s.notices := by unfold offerFrame; split <;> simp
@[simp] theorem offerFrame_overflow (dest : Nat) (body : FrameBody) (wait : Bool) :
    (offerFrame dest body wait s).overflow = s.overflow := by unfold offerFrame; split <;> simp
@[simp] theorem offerFrame_free (dest : Nat) (body : FrameBody) (wait : Bool) :
    (offerFrame dest body wait s).free = s.free := by unfold offerFrame; split <;> simp

end Sys2Proof.Machine
end

