-- ==== Sys2Proof/Laws/Ops.lean ====
section
/-! SUPPORT. For each shared operation, once, everything it can do: notices, the transmit queue, the
records by name, time. -/

namespace Sys2Proof.Machine

/-! ## Notices -/

/-- With room in the queue a notice joins its tail and nothing else changes (R171). -/
theorem notify_of_room {s : State} (b : NoticeBody) (h : s.notices.length < 32) :
    notify b s = { s with notices := s.notices ++ [⟨now s, b⟩] } := by
  simp [notify, noticeCapacity, h]

/-- On a full queue a notice is lost, and the overflow flag holds the first loss (R171). -/
theorem notify_of_full {s : State} (b : NoticeBody) (h : 32 ≤ s.notices.length) :
    (notify b s).notices = s.notices ∧ (notify b s).overflow = some (s.overflow.getD (now s)) := by
  have : ¬ s.notices.length < 32 := by omega
  simp [notify, noticeCapacity, this]

theorem notify_notices_le {s : State} (b : NoticeBody) (h : s.notices.length ≤ 32) :
    (notify b s).notices.length ≤ 32 := by
  unfold notify noticeCapacity
  split <;> simp <;> omega

/-- What a notice leaves of the link: only what a FETCH in progress notes of a loss (R173). -/
theorem notify_link (b : NoticeBody) (s : State) :
    (notify b s).link = s.link
      ∨ (notify b s).link
        = { s.link with fetching := s.link.fetching.map (Fetching.noteLoss (now s)) } := by
  unfold notify
  split
  · exact .inl rfl
  · exact .inr rfl

/-- A notice depends on the notice queue, the overflow flag, the link and the clock alone. -/
theorem notify_congr {s t : State} (b : NoticeBody) (hn : t.notices = s.notices)
    (ho : t.overflow = s.overflow) (hl : t.link = s.link) (hc : t.clock = s.clock) :
    (notify b t).notices = (notify b s).notices ∧ (notify b t).overflow = (notify b s).overflow
      ∧ (notify b t).link = (notify b s).link := by
  unfold notify now
  rw [hn, ho, hl, hc]
  split <;> simp

/-! ## The transmit queue -/

/-- Where a record lets its frames go, the one in transmission is cancelled too late (R16, log 28). -/
theorem cancelFrames_eq (p : TxItem → Bool) (s : State) :
    cancelFrames p s = { cancelWaiting p s with line := { (cancelWaiting p s).line with
      sending := s.line.sending.map (TxItem.disown p) } } := rfl

theorem joinQueue_length (x : TxItem) (q : List TxItem) :
    (joinQueue x q).length = q.length + 1 := by
  induction q with
  | nil => rfl
  | cons y ys ih => unfold joinQueue; split <;> simp [ih]

theorem mem_joinQueue {x y : TxItem} {q : List TxItem} : y ∈ joinQueue x q ↔ y = x ∨ y ∈ q := by
  induction q with
  | nil => simp [joinQueue]
  | cons z zs ih => unfold joinQueue; split <;> simp [ih]; tauto

/-- A frame joins behind every frame of its class or a lower one, and class order stays (R14). -/
theorem joinQueue_sorted {x : TxItem} {q : List TxItem} (h : q.Pairwise fun a b => a.cls ≤ b.cls) :
    (joinQueue x q).Pairwise fun a b => a.cls ≤ b.cls := by
  induction q with
  | nil => simp [joinQueue]
  | cons y ys ih =>
    obtain ⟨hy, hys⟩ := List.pairwise_cons.1 h
    unfold joinQueue
    split
    · refine List.pairwise_cons.2 ⟨fun z hz => ?_, ih hys⟩
      rcases mem_joinQueue.1 hz with rfl | hz
      · assumption
      · exact hy z hz
    · refine List.pairwise_cons.2 ⟨fun z hz => ?_, h⟩
      rcases List.mem_cons.1 hz with rfl | hz
      · omega
      · have := hy z hz; omega

theorem joinQueue_split {x : TxItem} {q : List TxItem} (h : q.Pairwise fun a b => a.cls ≤ b.cls) :
    joinQueue x q = (q.filter fun y => y.cls ≤ x.cls) ++ [x] ++ q.filter fun y => x.cls < y.cls := by
  induction q with
  | nil => rfl
  | cons y ys ih =>
    obtain ⟨hy, hys⟩ := List.pairwise_cons.1 h
    unfold joinQueue
    split
    · next hle => simp [hle, ih hys, Nat.not_lt.2 hle]
    · next hlt =>
      have hl : x.cls < y.cls := by omega
      have h1 : ys.filter (fun y => y.cls ≤ x.cls) = [] := by
        rw [List.filter_eq_nil_iff]
        intro z hz
        have := hy z hz
        simp; omega
      have h2 : ys.filter (fun y => x.cls < y.cls) = ys := by
        rw [List.filter_eq_self]
        intro z hz
        have := hy z hz
        simp; omega
      simp [hlt, hl, h1, h2]

theorem returnToQueue_length (x : TxItem) (q : List TxItem) :
    (returnToQueue x q).length = q.length + 1 := by
  induction q with
  | nil => rfl
  | cons y ys ih => unfold returnToQueue; split <;> simp [ih]

theorem mem_returnToQueue {x y : TxItem} {q : List TxItem} :
    y ∈ returnToQueue x q ↔ y = x ∨ y ∈ q := by
  induction q with
  | nil => simp [returnToQueue]
  | cons z zs ih => unfold returnToQueue; split <;> simp [ih]; tauto

/-- A collided frame returns as the first of its class, and class order stays (R14, R20). -/
theorem returnToQueue_sorted {x : TxItem} {q : List TxItem}
    (h : q.Pairwise fun a b => a.cls ≤ b.cls) :
    (returnToQueue x q).Pairwise fun a b => a.cls ≤ b.cls := by
  induction q with
  | nil => simp [returnToQueue]
  | cons y ys ih =>
    obtain ⟨hy, hys⟩ := List.pairwise_cons.1 h
    unfold returnToQueue
    split
    · refine List.pairwise_cons.2 ⟨fun z hz => ?_, ih hys⟩
      rcases mem_returnToQueue.1 hz with rfl | hz
      · omega
      · exact hy z hz
    · refine List.pairwise_cons.2 ⟨fun z hz => ?_, h⟩
      rcases List.mem_cons.1 hz with rfl | hz
      · omega
      · have := hy z hz; omega

theorem returnToQueue_split (x : TxItem) (q : List TxItem) :
    returnToQueue x q
      = (q.takeWhile fun y => y.cls < x.cls) ++ [x] ++ q.dropWhile fun y => y.cls < x.cls := by
  induction q with
  | nil => rfl
  | cons y ys ih =>
    unfold returnToQueue
    split
    · next h => simp [h, ih]
    · next h => simp [h]

/-- A composed frame that can join does, and nothing else changes (R14, R15). -/
theorem offerFrame_of_free {s : State} {dest : Nat} {body : FrameBody} {wait : Bool}
    (ho : s.join.state = .onLine) (hf : 1 ≤ freeTx s) :
    offerFrame dest body wait s
      = { s with line := { s.line with
            waiting := joinQueue (newItem s dest body wait) s.line.waiting } } := by
  have : 0 < freeTx s := hf
  simp [offerFrame, ho, this]

/-- A composed frame that cannot join is dropped, which counts as its end (R15, R65). -/
theorem offerFrame_of_dropped {s : State} {dest : Nat} {body : FrameBody} {wait : Bool}
    (h : s.join.state ≠ .onLine ∨ freeTx s = 0) :
    offerFrame dest body wait s = frameEnded (newItem s dest body wait) s := by
  unfold offerFrame
  rw [if_neg]
  rintro ⟨h1, h2⟩
  rcases h with h | h
  · exact h h1
  · omega

/-- The end of a frame that starts no wait changes nothing. -/
theorem frameEnded_of_no_wait {x : TxItem} (h : x.wait = false) (s : State) : frameEnded x s = s := by
  simp [frameEnded, h]

/-- Whether it joins or is dropped, a frame never takes the queue past 16 (R14). -/
theorem txCount_offerFrame_le {s : State} (dest : Nat) (body : FrameBody) (wait : Bool)
    (h : txCount s ≤ 16) : txCount (offerFrame dest body wait s) ≤ 16 := by
  by_cases hc : s.join.state = .onLine ∧ 1 ≤ freeTx s
  · have h2 := hc.2
    rw [offerFrame_of_free hc.1 hc.2]
    simp only [txCount, joinQueue_length]
    simp only [freeTx, txCapacity, txCount] at h2 h
    omega
  · have hd : s.join.state ≠ .onLine ∨ freeTx s = 0 := by
      by_cases h1 : s.join.state = .onLine
      · right
        have : ¬ 1 ≤ freeTx s := fun h2 => hc ⟨h1, h2⟩
        omega
      · exact .inl h1
    rw [offerFrame_of_dropped hd]
    simpa [txCount] using h

/-! ## Records by name -/

/-- Another station's entry is untouched by a change of one entry. -/
theorem heard_setHeard_ne {s : State} {n m : Nat} (e : Heard) (h : m ≠ n) :
    heard (setHeard n e s) m = heard s m := by
  unfold setHeard
  split
  · next hn =>
    unfold heard
    split
    · next hm =>
      have h1 : n - 1 ≠ m - 1 := by
        simp only [stationNumber, Bool.and_eq_true, decide_eq_true_eq] at hn hm
        omega
      simp [h1]
    · rfl
  · rfl

/-- The entry written is the entry read. -/
theorem heard_setHeard_self {s : State} {n : Nat} (e : Heard) (h : stationNumber n = true) :
    heard (setHeard n e s) n = some e := by
  have hb : n - 1 < 62 := by
    simp only [stationNumber, Bool.and_eq_true, decide_eq_true_eq] at h
    omega
  simp [heard, setHeard, h, hb]

/-- A station that is heard has a number 1 to 62. -/
theorem stationNumber_of_heard {s : State} {n : Nat} {e : Heard} (h : heard s n = some e) :
    stationNumber n = true := by
  unfold heard at h
  split at h
  · assumption
  · cases h

theorem tabIn_putTab_self {s : State} {slot : Nat} (t : Option Tab) (h : slot < 32) :
    tabIn (putTab slot t s) slot = t := by
  simp [tabIn, putTab, h]

theorem tabs_putTab_ne {s : State} {slot i : Nat} (t : Option Tab) (h : i ≠ slot) :
    (putTab slot t s).tabs[i]? = s.tabs[i]? := by
  unfold putTab
  split
  · have : slot ≠ i := fun e => h e.symm
    simp [this]
  · rfl

theorem lt_of_tabIn {s : State} {slot : Nat} {t : Tab} (h : tabIn s slot = some t) : slot < 32 := by
  by_contra hc
  have : s.tabs[slot]? = none := by simp [Nat.le_of_not_lt hc]
  simp [tabIn, this] at h

theorem issue_putTab {s : State} {slot i : Nat} (t : Option Tab) :
    ((putTab slot t s).tabs[i]?).map TabSlot.issue = (s.tabs[i]?).map TabSlot.issue := by
  by_cases hi : i = slot
  · subst hi
    unfold putTab
    split
    · next e he =>
      have : i < 32 := by
        by_contra hc
        simp [Nat.le_of_not_lt hc] at he
      simp [this] at he
      simp [this, he]
    · rfl
  · rw [tabs_putTab_ne t hi]

/-- Finding a changed element by a name that the change keeps. -/
theorem find?_map_named {α : Type} (p : α → Bool) (f : α → α) (c : α → Prop) [DecidablePred c]
    (hc : ∀ x, c x ↔ p x = true) (hf : ∀ x, p x = true → p (f x) = true) (xs : List α) :
    (xs.map fun x => if c x then f x else x).find? p = (xs.find? p).map f := by
  induction xs with
  | nil => rfl
  | cons x xs ih =>
    by_cases hx : p x = true
    · simp [hx, (hc x).2 hx, hf x hx]
    · have hcx : ¬ c x := fun h => hx ((hc x).1 h)
      have hx' : p x = false := by simpa using hx
      simp only [List.map_cons, if_neg hcx, List.find?_cons, hx', ih]

/-- A change of elements of another name is not seen. -/
theorem find?_map_other {α : Type} (q : α → Bool) (f : α → α) (c : α → Prop) [DecidablePred c]
    (h : ∀ x, c x → q x = false ∧ q (f x) = false) (xs : List α) :
    (xs.map fun x => if c x then f x else x).find? q = xs.find? q := by
  induction xs with
  | nil => rfl
  | cons x xs ih =>
    by_cases hx : c x
    · obtain ⟨h1, h2⟩ := h x hx
      simp only [List.map_cons, if_pos hx, List.find?_cons, h1, h2, ih]
    · simp only [List.map_cons, if_neg hx, List.find?_cons, ih]

/-- An element whose name has been filtered out is not found. -/
theorem find?_filter_named {α : Type} (p k : α → Bool) (h : ∀ x, p x = true → k x = false)
    (xs : List α) : (xs.filter k).find? p = none := by
  rw [List.find?_eq_none]
  intro x hx hp
  have h1 := (List.mem_filter.1 hx).2
  rw [h x hp] at h1
  cases h1

/-- Elements of another name are found as before. -/
theorem find?_filter_other {α : Type} (q k : α → Bool) (h : ∀ x, q x = true → k x = true)
    (xs : List α) : (xs.filter k).find? q = xs.find? q := by
  induction xs with
  | nil => rfl
  | cons x xs ih =>
    by_cases hk : k x = true
    · simp only [List.filter_cons, hk, if_true, List.find?_cons, ih]
    · have hq : q x = false := by
        by_contra hq
        exact hk (h x (by simpa using hq))
      simp only [List.filter_cons, hk, List.find?_cons, hq]
      simpa using ih

theorem ticketOf_number {s : State} {n : Nat} {t : Ticket} (h : ticketOf s n = some t) :
    t.number = n := by
  have := List.find?_some h
  simpa using this

/-- The ticket record changed by name is the one read by name, if the change keeps its number. -/
theorem ticketOf_updTicket_self {s : State} {n : Nat} {f : Ticket → Ticket}
    (hf : ∀ t, (f t).number = t.number) :
    ticketOf (updTicket n f s) n = (ticketOf s n).map f :=
  find?_map_named _ f (fun t => t.number = n) (by simp) (by simp [hf]) s.tickets

theorem ticketOf_updTicket_ne {s : State} {n m : Nat} {f : Ticket → Ticket}
    (hf : ∀ t, (f t).number = t.number) (h : m ≠ n) :
    ticketOf (updTicket n f s) m = ticketOf s m :=
  find?_map_other _ f (fun t => t.number = n)
    (by rintro t rfl; simp [hf, h.symm]) s.tickets

theorem entryOf_name {s : State} {o n : Nat} {e : Entry} (h : entryOf s o n = some e) :
    e.origin = o ∧ e.number = n := by
  have := List.find?_some h
  simpa using this

/-- The queue entry changed by name is the one read by name, if the change keeps its name. -/
theorem entryOf_updEntry_self {s : State} {o n : Nat} {f : Entry → Entry}
    (hf : ∀ e, e.origin = o → e.number = n → (f e).origin = o ∧ (f e).number = n) :
    entryOf (updEntry o n f s) o n = (entryOf s o n).map f :=
  find?_map_named _ f (fun e => e.origin = o ∧ e.number = n) (by simp)
    (fun e he => by
      simp only [Bool.and_eq_true, beq_iff_eq] at he ⊢
      exact hf e he.1 he.2)
    s.kitchen.entries

theorem entryOf_updEntry_ne {s : State} {o n x m : Nat} {f : Entry → Entry}
    (hf : ∀ e, e.origin = o → e.number = n → (f e).origin = o ∧ (f e).number = n)
    (h : x ≠ o ∨ m ≠ n) :
    entryOf (updEntry o n f s) x m = entryOf s x m :=
  find?_map_other _ f (fun e => e.origin = o ∧ e.number = n)
    (fun e he => by
      have hfe := hf e he.1 he.2
      simp only [Bool.and_eq_false_imp, beq_iff_eq, beq_eq_false_iff_ne, he.1, he.2, hfe.1, hfe.2]
      refine ⟨?_, ?_⟩ <;> (rintro rfl rfl; simp at h))
    s.kitchen.entries

theorem entryOf_dropEntry_self (s : State) (o n : Nat) : entryOf (dropEntry o n s) o n = none :=
  find?_filter_named _ _ (by simp) s.kitchen.entries

theorem entryOf_dropEntry_ne {s : State} {o n x m : Nat} (h : x ≠ o ∨ m ≠ n) :
    entryOf (dropEntry o n s) x m = entryOf s x m :=
  find?_filter_other _ _
    (fun e he => by
      simp only [Bool.and_eq_true, beq_iff_eq] at he
      obtain ⟨rfl, rfl⟩ := he
      simp only [Bool.not_eq_true', Bool.and_eq_false_imp, beq_iff_eq, beq_eq_false_iff_ne]
      rintro rfl rfl
      simp at h)
    s.kitchen.entries

theorem borrowedOf_name {s : State} {c i : Nat} {b : Borrowed} (h : borrowedOf s c i = some b) :
    b.code = c ∧ b.share = i := by
  have := List.find?_some h
  simpa using this

/-- The borrowed-share entry changed by name is the one read by name. -/
theorem borrowedOf_updBorrowed_self {s : State} {c i : Nat} {f : Borrowed → Borrowed}
    (hf : ∀ b, (f b).code = b.code ∧ (f b).share = b.share) :
    borrowedOf (updBorrowed c i f s) c i = (borrowedOf s c i).map f :=
  find?_map_named _ f (fun b => b.code = c ∧ b.share = i) (by simp)
    (fun b hb => by simpa [(hf b).1, (hf b).2] using hb) s.borrowed

theorem borrowedOf_updBorrowed_ne {s : State} {c i d j : Nat} {f : Borrowed → Borrowed}
    (hf : ∀ b, (f b).code = b.code ∧ (f b).share = b.share) (h : d ≠ c ∨ j ≠ i) :
    borrowedOf (updBorrowed c i f s) d j = borrowedOf s d j :=
  find?_map_other _ f (fun b => b.code = c ∧ b.share = i)
    (fun b hb => by
      simp only [Bool.and_eq_false_imp, beq_iff_eq, beq_eq_false_iff_ne, (hf b).1, (hf b).2, hb.1,
        hb.2]
      refine ⟨?_, ?_⟩ <;> (rintro rfl rfl; simp at h))
    s.borrowed

theorem borrowedOf_dropBorrowed_self (s : State) (c i : Nat) :
    borrowedOf (dropBorrowed c i s) c i = none :=
  find?_filter_named _ _ (by simp) s.borrowed

/-! ## Time -/

/-- A timer that has run its limit lets no time pass (log 2). -/
theorem advanceUntil_of_due {s : State} {start : Time} {limit : Nat} (h : Due s start limit) :
    advanceUntil start limit s = s := by
  unfold advanceUntil
  rw [if_neg]
  exact Nat.not_lt.2 h

theorem halvesPerMs_pos (p : Straps) : 0 < Straps.halvesPerMs p := by
  unfold Straps.halvesPerMs
  split <;> omega

/-- After time has passed the running millisecond still holds fewer half bit times than a millisecond
has. -/
theorem clockSound_advance (h : Nat) (s : State) : (advance h s).ClockSound :=
  Nat.mod_lt _ (halvesPerMs_pos s.straps)

end Sys2Proof.Machine
end

