-- ==== Sys2Proof/Laws/Requests.lean ====
section
/-! SUPPORT. What the checks of a request, its answer, and the delivery of a frame come to. -/

namespace Sys2Proof.Machine

/-! ## Checks (R42, R136, R157) -/

theorem need_of {p : Prop} [Decidable p] (h : p) (c : ReplyCode) (k : RequestResult) :
    need p c k = k := if_pos h

theorem need_of_not {p : Prop} [Decidable p] (h : ¬p) (c : ReplyCode) (k : RequestResult) :
    need p c k = .error c := if_neg h

theorem withSlot_of_some {s : State} {slot : Nat} {r : SlotRecord} (h : slotOf s slot = some r)
    (k : SlotRecord → RequestResult) : withSlot s slot k = k r := by simp [withSlot, h]

theorem withSlot_of_none {s : State} {slot : Nat} (h : slotOf s slot = none)
    (k : SlotRecord → RequestResult) : withSlot s slot k = .error .notSigned := by
  simp [withSlot, h]

theorem withTab_of_some {s : State} {code : Nat} {t : Tab} (h : tabOf s code = some t)
    (k : Tab → RequestResult) : withTab s code k = k t := by simp [withTab, h]

theorem withTab_of_none {s : State} {code : Nat} (h : tabOf s code = none)
    (k : Tab → RequestResult) : withTab s code k = .error .unknown := by simp [withTab, h]

/-- The tab a code names is the one in its slot, under that code. -/
theorem tabIn_of_tabOf {s : State} {code : Nat} {t : Tab} (h : tabOf s code = some t) :
    codeHome code = station s ∧ tabIn s (codeSlot code) = some t ∧ t.code = code := by
  unfold tabOf at h
  split at h
  · next hh =>
    split at h
    · next u hu =>
      split at h
      · cases h; exact ⟨hh, hu, by assumption⟩
      · cases h
    · cases h
  · cases h

/-- The first steps of a tab's request, passed (R42). -/
theorem tabRequest_of {s : State} {slot code level : Nat} {r : SlotRecord} {t : Tab}
    (h : TillSlot s slot level r) (ht : tabOf s code = some t)
    (k : SlotRecord → Tab → RequestResult) : tabRequest s slot code level k = k r t := by
  unfold tabRequest
  rw [need_of h.2.1, withSlot_of_some h.2.2.1, withTab_of_some ht, need_of h.2.2.2]

/-- The first steps of a kitchen's request that names an entry, passed (R99). -/
theorem kitchenRequest_of {s : State} {slot origin number : Nat} {r : SlotRecord} {e : Entry}
    (h : KitchenSlot s slot r) (he : entryOf s origin number = some e)
    (k : Entry → RequestResult) : kitchenRequest s slot origin number k = k e := by
  unfold kitchenRequest
  rw [need_of h.2.1, withSlot_of_some h.2.2.1]
  simp only [he]
  rw [need_of h.2.2.2]

theorem unlessStrapFault_of {s : State} (h : s.join.state ≠ .strapFault) (k : RequestResult) :
    unlessStrapFault s k = k := need_of h _ _

theorem unlessStrapFault_of_fault {s : State} (h : s.join.state = .strapFault) (k : RequestResult) :
    unlessStrapFault s k = .error .config := need_of_not (by simp [h]) _ _

/-- The frames needed are free (R15). -/
theorem needFrames_of {s : State} {n : Nat} (h : CanSend s n) (k : RequestResult) :
    needFrames s n k = k := by
  unfold needFrames
  split
  · rfl
  · rw [need_of h.1, need_of h.2]

/-! ## The answer (R167, R169) -/

/-- A refusal changes the link alone. -/
theorem answer_error (i : Instr) (c : ReplyCode) (s : State) :
    answer i (.error c) s = { s with link := replying i { code := c, body := [] } none } := rfl

/-- A request taken: its new state, with its reply in the link. -/
theorem answer_ok (i : Instr) (c : ReplyCode) (b : List Byte) (t s : State) :
    answer i (.ok (c, b, t)) s = { t with link := replying i { code := c, body := b } none } := rfl

theorem answer_taken (i : Instr) (b : List Byte) (t s : State) :
    answer i (taken b t) s = { t with link := replying i { code := .done, body := b } none } := rfl

theorem answer_accepted (i : Instr) (t s : State) :
    answer i (accepted t) s = { t with link := replying i { code := .accepted, body := [] } none } :=
  rfl

/-- Whatever the result, the link holds its reply, none of it clocked. -/
theorem replied_replying (t : State) (i : Instr) (c : ReplyCode) (b : List Byte) :
    Replied { t with link := replying i { code := c, body := b } none } c b := ⟨rfl, rfl, rfl, rfl⟩

/-! ## Delivery (R9, R13, R35; log 4) -/

/-- A frame that is delivered has left the inbound queue when the table and its owner act (R13). -/
theorem deliver_of {s : State} {f : Frame} (h : Arrives s f) (table owner : State → State) :
    deliver f table owner s
      = deliverTo f.src table owner
          { s with line := { s.line with inbound := s.line.inbound.tail } } := by
  obtain ⟨hj, hv, ha, hq⟩ := h
  unfold deliver
  rw [if_pos ⟨hj, hv, ha⟩]
  cases hi : s.line.inbound with
  | nil =>
    have hd : driving s = false := by
      rcases hq with h | h
      · exact h.2
      · rw [hi] at h; cases h
    have e : s = { s with line := { s.line with inbound := List.tail [] } } := by
      rw [List.tail_nil, ← hi]
    simp only [hd, Bool.false_eq_true, if_false]
    exact congrArg _ e
  | cons g rest =>
    have hg : g = f := by
      rcases hq with h | h
      · rw [hi] at h; cases h.1
      · rw [hi] at h; simpa using h
    subst hg
    simp

/-- A delivered frame of another station acts on the state in which it has arrived. -/
theorem deliverFrame_of {s : State} {f : Frame} (h : Delivers s f) (owner : State → State) :
    deliverFrame f owner s = owner (arrived f s) := by
  have hs : ¬ f.src
      = station { s with line := { s.line with inbound := s.line.inbound.tail } } := h.2
  unfold deliverFrame
  rw [deliver_of h.1, deliverTo, if_neg hs]
  rfl

/-- What the arrival of a frame changes: the inbound queue and its source's entry. -/
theorem arrived_eq (f : Frame) (s : State) :
    arrived f s = { s with
      line := { s.line with inbound := s.line.inbound.tail }
      stations := (arrived f s).stations } := by
  unfold arrived refresh
  split
  · unfold setHeard; split <;> rfl
  · rfl

@[simp] theorem arrived_line (f : Frame) (s : State) :
    (arrived f s).line = { s.line with inbound := s.line.inbound.tail } := by rw [arrived_eq]
@[simp] theorem arrived_clock (f : Frame) (s : State) : (arrived f s).clock = s.clock := by
  rw [arrived_eq]
@[simp] theorem arrived_straps (f : Frame) (s : State) : (arrived f s).straps = s.straps := by
  rw [arrived_eq]
@[simp] theorem arrived_join (f : Frame) (s : State) : (arrived f s).join = s.join := by
  rw [arrived_eq]
@[simp] theorem arrived_tabs (f : Frame) (s : State) : (arrived f s).tabs = s.tabs := by
  rw [arrived_eq]
@[simp] theorem arrived_lastCall (f : Frame) (s : State) : (arrived f s).lastCall = s.lastCall := by
  rw [arrived_eq]
@[simp] theorem arrived_tickets (f : Frame) (s : State) : (arrived f s).tickets = s.tickets := by
  rw [arrived_eq]
@[simp] theorem arrived_kitchen (f : Frame) (s : State) : (arrived f s).kitchen = s.kitchen := by
  rw [arrived_eq]
@[simp] theorem arrived_port (f : Frame) (s : State) : (arrived f s).port = s.port := by
  rw [arrived_eq]
@[simp] theorem arrived_borrowed (f : Frame) (s : State) : (arrived f s).borrowed = s.borrowed := by
  rw [arrived_eq]
@[simp] theorem arrived_slots (f : Frame) (s : State) : (arrived f s).slots = s.slots := by
  rw [arrived_eq]
@[simp] theorem arrived_link (f : Frame) (s : State) : (arrived f s).link = s.link := by
  rw [arrived_eq]
@[simp] theorem arrived_notices (f : Frame) (s : State) : (arrived f s).notices = s.notices := by
  rw [arrived_eq]
@[simp] theorem arrived_overflow (f : Frame) (s : State) : (arrived f s).overflow = s.overflow := by
  rw [arrived_eq]

/-- The source's last-heard time is now; nothing else of its entry changes (R35). -/
theorem heard_arrived_self (f : Frame) (s : State) :
    heard (arrived f s) f.src = (heard s f.src).map fun h => { h with lastHeard := now s } := by
  unfold arrived refresh
  have e : heard { s with line := { s.line with inbound := s.line.inbound.tail } } f.src
      = heard s f.src := rfl
  rw [e]
  cases h : heard s f.src with
  | none => exact h
  | some x => exact heard_setHeard_self _ (stationNumber_of_heard h)

theorem heard_arrived_ne (f : Frame) (s : State) {n : Nat} (h : n ≠ f.src) :
    heard (arrived f s) n = heard s n := by
  unfold arrived refresh
  split
  · exact heard_setHeard_ne _ h
  · rfl

/-- The arrival of a frame changes no start mark. -/
@[simp] theorem markOf_arrived (f : Frame) (s : State) (n : Nat) :
    markOf (arrived f s) n = markOf s n := by
  unfold markOf
  by_cases h : n = f.src
  · subst h
    rw [heard_arrived_self]
    cases heard s f.src <;> rfl
  · rw [heard_arrived_ne f s h]

end Sys2Proof.Machine
end

