-- ==== Sys2Proof/Laws/Blocks.lean ====
section
/-! SUPPORT. What the blocks' shared operations can change: for each one equation that names the
fields it may touch, and for the shares of a tab what a change of state leaves. -/

namespace Sys2Proof.Machine

/-! ## Notices, frames, tab slots -/

/-- A notice touches the notice queue, the overflow flag and the loss noted in the link. -/
theorem notify_frame (b : NoticeBody) (s : State) :
    notify b s = { s with
      notices := (notify b s).notices, overflow := (notify b s).overflow,
      link := (notify b s).link } := by
  unfold notify; split <;> rfl

/-- Putting a tab into a slot touches the tabs. -/
theorem putTab_frame (slot : Nat) (t : Option Tab) (s : State) :
    putTab slot t s = { s with tabs := (putTab slot t s).tabs } := by
  unfold putTab; split <;> rfl

/-- A frame's end touches the records whose waits are timed from it. -/
theorem frameEnded_frame (x : TxItem) (s : State) :
    frameEnded x s = { s with
      tickets := (frameEnded x s).tickets, kitchen := (frameEnded x s).kitchen,
      borrowed := (frameEnded x s).borrowed } := by
  unfold frameEnded
  split
  · rfl
  · split <;> rfl

/-- A frame offered without a wait touches the transmit queue at most. -/
theorem offerFrame_frame (dest : Nat) (body : FrameBody) (s : State) :
    offerFrame dest body false s = { s with line := { s.line with
      waiting := (offerFrame dest body false s).line.waiting } } := by
  unfold offerFrame
  split
  · rfl
  · rw [frameEnded_of_no_wait rfl]

/-- The check for freeing touches the tabs and may queue a notice (R56). -/
theorem checkFree_frame (slot : Nat) (s : State) :
    checkFree slot s = { s with
      tabs := (checkFree slot s).tabs, notices := (checkFree slot s).notices,
      overflow := (checkFree slot s).overflow, link := (checkFree slot s).link } := by
  unfold checkFree
  split
  · split
    · rw [notify_frame, putTab_frame]
    · rfl
  · rfl

/-- A share's change of state touches the tabs and may queue TAB-FREED (R53, R56). -/
theorem setShare_frame (slot index : Nat) (st : ShareState) (s : State) :
    setShare slot index st s = { s with
      tabs := (setShare slot index st s).tabs, notices := (setShare slot index st s).notices,
      overflow := (setShare slot index st s).overflow, link := (setShare slot index st s).link } := by
  unfold setShare
  split
  · split
    · dsimp only
      split
      · rw [checkFree_frame, putTab_frame]
      · rw [putTab_frame]
    · rfl
  · rfl

/-- A line report touches the tabs and may queue TAB-FREED (R47). -/
theorem lineReport_frame (slot index : Nat) (r : Report) (s : State) :
    lineReport slot index r s = { s with
      tabs := (lineReport slot index r s).tabs, notices := (lineReport slot index r s).notices,
      overflow := (lineReport slot index r s).overflow, link := (lineReport slot index r s).link } := by
  unfold lineReport
  split
  · split
    · dsimp only
      rw [checkFree_frame, putTab_frame]
    · rfl
  · rfl

/-- The reports of a ticket touch what its line reports touch. -/
theorem ticketReport_frame (t : Ticket) (positions : List Nat) (r : Report) (s : State) :
    ticketReport t positions r s = { s with
      tabs := (ticketReport t positions r s).tabs
      notices := (ticketReport t positions r s).notices
      overflow := (ticketReport t positions r s).overflow
      link := (ticketReport t positions r s).link } := by
  unfold ticketReport
  induction positions generalizing s with
  | nil => rfl
  | cons p ps ih =>
      rw [List.foldl_cons, ih]
      split
      · rw [lineReport_frame]
      · rfl

/-- A freed ticket record touches the tickets, the transmit queue and what the check for freeing
touches (R82). -/
theorem freeTicket_frame (number : Nat) (s : State) :
    freeTicket number s = { s with
      tickets := (freeTicket number s).tickets, line := (freeTicket number s).line
      tabs := (freeTicket number s).tabs, notices := (freeTicket number s).notices
      overflow := (freeTicket number s).overflow, link := (freeTicket number s).link } := by
  unfold freeTicket
  split
  · dsimp only
    rw [checkFree_frame]
    rfl
  · rfl

/-! ## Shares -/

/-- A request for a share of a tab reaches its check of the share. -/
theorem shareRequest_of {s : State} {slot code i level : Nat} {r : SlotRecord} {t : Tab} {sh : Share}
    (h : TillSlot s slot level r) (ht : tabOf s code = some t) (hs : t.shares[i]? = some sh)
    (k : SlotRecord → Tab → Share → RequestResult) :
    shareRequest s slot code i level k = k r t sh := by
  unfold shareRequest
  rw [tabRequest_of h ht]
  simp [hs]

/-- A tab with a share neither paid nor EMPTY is PAYING or OPEN by its locks (R53). -/
theorem restate_of_unpaid {t : Tab} (hc : t.state ≠ .closed)
    (hn : ∃ sh ∈ t.shares, sh.state ≠ .empty ∧ ShareState.isPaid sh.state = false) :
    Tab.restate t = { t with state := if Tab.locked t then .paying else .opened } := by
  unfold Tab.restate
  rw [if_neg hc, if_neg]
  · split <;> simp_all
  · obtain ⟨sh, h1, h2, h3⟩ := hn
    simp only [Bool.and_eq_true, List.all_eq_true, not_and]
    intro h
    have := h sh h1
    cases hst : sh.state <;> simp_all [ShareState.isEmpty, ShareState.isPaid]

/-- A share that becomes neither paid nor EMPTY: the tab with it, PAYING or OPEN by its locks. -/
theorem setShare_of_unpaid {s : State} {slot i : Nat} {t : Tab} {sh : Share} {st : ShareState}
    (ht : tabIn s slot = some t) (hs : t.shares[i]? = some sh) (hc : t.state ≠ .closed)
    (h1 : st ≠ .empty) (h2 : ShareState.isPaid st = false) :
    setShare slot i st s
      = putTab slot (some { Tab.withShare i { sh with state := st } t with
          state := if Tab.locked (Tab.withShare i { sh with state := st } t) then .paying
            else .opened }) s := by
  have hlt := (List.getElem?_eq_some_iff.1 hs).1
  unfold setShare
  simp only [ht, hs]
  rw [restate_of_unpaid (t := { t with shares := t.shares.set i { sh with state := st } }) hc
    ⟨{ sh with state := st }, List.mem_iff_getElem?.2 ⟨i, by simp [hlt]⟩, h1, h2⟩, if_neg]
  · rfl
  · rintro ⟨h, _⟩
    dsimp only at h
    split at h <;> simp at h

/-- A tab with a held, adrift or paid share is locked (R124). -/
theorem locked_withShare {t : Tab} {i : Nat} {sh : Share} {st : ShareState}
    (hs : t.shares[i]? = some sh) (h : ShareState.locks st = true) :
    Tab.locked (Tab.withShare i { sh with state := st } t) = true := by
  have hlt := (List.getElem?_eq_some_iff.1 hs).1
  unfold Tab.locked Tab.withShare
  rw [List.any_eq_true]
  exact ⟨{ sh with state := st }, List.mem_iff_getElem?.2 ⟨i, by simp [hlt]⟩, h⟩

/-! ## The printer port and auto-fire -/

/-- An idle lane that takes an item touches the port and the kitchen's entries (R110). -/
theorem takeItem_frame (put : LaneTicket → Port → Port) (s : State) :
    takeItem put s = { s with
      port := (takeItem put s).port
      kitchen := { s.kitchen with entries := (takeItem put s).kitchen.entries } } := by
  unfold takeItem
  split
  · rfl
  · dsimp only
    split <;> rfl

/-- A printer line that starts touches the port and the kitchen's entries (R112, R113). -/
theorem startLine_frame (s : State) :
    startLine s = { s with
      port := (startLine s).port
      kitchen := { s.kitchen with entries := (startLine s).kitchen.entries } } := by
  have hsend : ∀ (j : Job) (u : State), sendJob j u = { u with port := (sendJob j u).port } := by
    intro j u
    unfold sendJob startByte
    split
    · split <;> rfl
    · rfl
  have hl : ∀ u : State, fillLeft u = { u with
      port := (fillLeft u).port
      kitchen := { u.kitchen with entries := (fillLeft u).kitchen.entries } } := by
    intro u; unfold fillLeft; split
    · exact takeItem_frame _ u
    · rfl
  have hr : ∀ u : State, fillRight u = { u with
      port := (fillRight u).port
      kitchen := { u.kitchen with entries := (fillRight u).kitchen.entries } } := by
    intro u; unfold fillRight; split
    · exact takeItem_frame _ u
    · rfl
  unfold startLine
  split
  · dsimp only
    split
    · split
      · rw [hsend, hr, hl]
      · rw [hr, hl]; rfl
    · rw [hsend, hr, hl]
  · dsimp only
    split
    · rw [hsend, hl]
    · rw [hl]; rfl

/-- Giving up the print list touches the kitchen's entries and the notices (R120). -/
theorem giveUp_frame (items : List PrintItem) (s : State) :
    items.foldl giveUpItem s = { s with
      kitchen := { s.kitchen with entries := (items.foldl giveUpItem s).kitchen.entries }
      notices := (items.foldl giveUpItem s).notices
      overflow := (items.foldl giveUpItem s).overflow
      link := (items.foldl giveUpItem s).link } := by
  induction items generalizing s with
  | nil => rfl
  | cons it rest ih =>
      rw [List.foldl_cons, ih]
      unfold giveUpItem
      split
      · unfold unprinted
        rw [notify_frame]
        rfl
      · rfl

/-- An item that joins the print list touches the port, the kitchen's entries and the notices. -/
theorem joinPrintList_frame (origin : Nat) (ref : Ref) (reprint : Bool) (s : State) :
    joinPrintList origin ref reprint s = { s with
      port := (joinPrintList origin ref reprint s).port
      kitchen := { s.kitchen with
        entries := (joinPrintList origin ref reprint s).kitchen.entries }
      notices := (joinPrintList origin ref reprint s).notices
      overflow := (joinPrintList origin ref reprint s).overflow
      link := (joinPrintList origin ref reprint s).link } := by
  unfold joinPrintList
  split
  · unfold unprinted
    rw [notify_frame]
    rfl
  · dsimp only
    split
    · rw [startLine_frame]
      rfl
    · rfl

/-- An entry that fires touches the kitchen, the port, the transmit queue and the notices (R96). -/
theorem fireEntry_frame (e : Entry) (s : State) :
    fireEntry e s = { s with
      kitchen := (fireEntry e s).kitchen, port := (fireEntry e s).port
      line := (fireEntry e s).line, notices := (fireEntry e s).notices
      overflow := (fireEntry e s).overflow, link := (fireEntry e s).link } := by
  unfold fireEntry sendProgress
  dsimp only
  rw [notify_frame, offerFrame_frame, joinPrintList_frame]
  rfl

/-- Auto-fire touches what its firings touch (R96). -/
theorem autoFire_frame (s : State) :
    autoFire s = { s with
      kitchen := (autoFire s).kitchen, port := (autoFire s).port, line := (autoFire s).line
      notices := (autoFire s).notices, overflow := (autoFire s).overflow
      link := (autoFire s).link } := by
  have h : ∀ (n : Nat) (fired : List Entry) (u : State), (fireUpTo n fired u).2 = { u with
      kitchen := (fireUpTo n fired u).2.kitchen, port := (fireUpTo n fired u).2.port
      line := (fireUpTo n fired u).2.line, notices := (fireUpTo n fired u).2.notices
      overflow := (fireUpTo n fired u).2.overflow, link := (fireUpTo n fired u).2.link } := by
    intro n
    induction n with
    | zero => intro _ _; rfl
    | succ n ih =>
        intro fired u
        unfold fireUpTo
        split
        · split
          · rename_i e _
            rw [ih, fireEntry_frame]
          · rfl
        · rfl
  exact h _ _ s

/-- Giving up a lane touches the kitchen's entries and the notices (R120). -/
theorem giveUpLane_frame (lane : Option LaneTicket) (s : State) :
    giveUpLane lane s = { s with
      kitchen := { s.kitchen with entries := (giveUpLane lane s).kitchen.entries }
      notices := (giveUpLane lane s).notices, overflow := (giveUpLane lane s).overflow
      link := (giveUpLane lane s).link } := by
  unfold giveUpLane
  split
  · rfl
  · rw [notify_frame]
    split <;> rfl

/-- Entering DOWN touches the port, the kitchen's entries and the notices (R120). -/
theorem goDown_frame (s : State) :
    goDown s = { s with
      port := (goDown s).port
      kitchen := { s.kitchen with entries := (goDown s).kitchen.entries }
      notices := (goDown s).notices, overflow := (goDown s).overflow
      link := (goDown s).link } := by
  have hx : ∀ u : State, downExit u = { u with port := (downExit u).port } := by
    intro u; unfold downExit beginRecovery; split <;> rfl
  unfold goDown
  dsimp only
  rw [hx, giveUp_frame, giveUpLane_frame, giveUpLane_frame]
  rfl

/-- A fault touches the port, the kitchen's entries and the notices (R116). -/
theorem raiseFault_frame (k : FaultKind) (s : State) :
    raiseFault k s = { s with
      port := (raiseFault k s).port
      kitchen := { s.kitchen with entries := (raiseFault k s).kitchen.entries }
      notices := (raiseFault k s).notices, overflow := (raiseFault k s).overflow
      link := (raiseFault k s).link } := by
  unfold raiseFault
  split
  · dsimp only
    split
    · rw [notify_frame]; rfl
    · rw [notify_frame]; rfl
    · rw [goDown_frame, notify_frame]; rfl
  · dsimp only
    split
    · rw [notify_frame]; rfl
    · rw [notify_frame]; rfl
    · rw [goDown_frame, notify_frame]; rfl
  · rfl
  · rfl
  · rfl

/-! ## Reissue -/

/-- Sending an OFFER touches the transmit queue, or the ticket's wait where it is dropped (R65). -/
theorem sendOffer_frame (n : Nat) (s : State) :
    sendOffer n s = { s with
      line := { s.line with waiting := (sendOffer n s).line.waiting }
      tickets := (sendOffer n s).tickets } := by
  unfold sendOffer
  split
  · unfold offerFrame
    dsimp only
    split
    · rfl
    · rfl
  · rfl

/-- The end of a ticket's withdrawals touches the tickets, the tabs and the notices (R77, step 4). -/
theorem endWithdrawals_frame (n : Nat) (s : State) :
    endWithdrawals n s = { s with
      tickets := (endWithdrawals n s).tickets, tabs := (endWithdrawals n s).tabs
      notices := (endWithdrawals n s).notices, overflow := (endWithdrawals n s).overflow
      link := (endWithdrawals n s).link } := by
  unfold endWithdrawals
  split
  · dsimp only
    unfold updTicket
    rw [ticketReport_frame]
  · rfl

/-- A reissue touches the tickets, the tabs, the transmit queue and the notices (R77). -/
theorem reissue_frame (n : Nat) (revoke : Bool) (stale : Option (Nat × Nat)) (cause : ReissueCause)
    (s : State) :
    reissue n revoke stale cause s = { s with
      tickets := (reissue n revoke stale cause s).tickets
      tabs := (reissue n revoke stale cause s).tabs
      line := (reissue n revoke stale cause s).line
      notices := (reissue n revoke stale cause s).notices
      overflow := (reissue n revoke stale cause s).overflow
      link := (reissue n revoke stale cause s).link } := by
  unfold reissue
  split
  · rfl
  · dsimp only
    split
    · split <;> split <;> (rw [endWithdrawals_frame]; simp only [sendRevoke]; try rw [offerFrame_frame]) <;> rfl
    · split
      · rw [freeTicket_frame, endWithdrawals_frame]
        split <;> split <;> (simp only [sendRevoke]; try rw [offerFrame_frame]) <;> rfl
      · rw [sendOffer_frame, notify_frame]
        simp only [updTicket]
        rw [endWithdrawals_frame]
        split <;> split <;> (simp only [sendRevoke]; try rw [offerFrame_frame]) <;> rfl

end Sys2Proof.Machine
end

