-- ==== Sys2Proof/Laws/Link.lean ====
section
/-! SUPPORT. What the edges of the terminal link's clock can do, said once. -/

namespace Sys2Proof.Machine

@[simp] theorem updLink_link (f : Link → Link) (s : State) : (updLink f s).link = f s.link := rfl

@[simp] theorem execLinkByteComplete_nil (s : State) : execLinkByteComplete [] s = .next s := rfl

/-- The edges of a row act one after another. -/
theorem execLinkByteComplete_cons (e : ClockEdge) (es : List ClockEdge) (s t : State)
    (h : clockEdge e s = .next t) :
    execLinkByteComplete (e :: es) s = execLinkByteComplete es t := by
  simp only [execLinkByteComplete, h]

/-- Everything an edge can do: in a transaction a rise with SCK low samples SDI and a fall with SCK high
changes SDO; every other edge is disregarded. -/
theorem clockEdge_cases (e : ClockEdge) (s : State) :
    (∃ sdi : Bool, e = .rise sdi ∧ s.link.phase ≠ .rest ∧ s.link.sck = false
        ∧ clockEdge e s = clockRise sdi s)
      ∨ (e = .fall ∧ s.link.phase ≠ .rest ∧ s.link.sck = true ∧ clockEdge e s = clockFall s)
      ∨ clockEdge e s = .next s := by
  by_cases h : s.link.phase = .rest
  · exact .inr (.inr (by simp [clockEdge, h]))
  · cases e <;> cases hc : s.link.sck <;> simp [clockEdge, h, hc]

/-- A falling edge changes the level of SCK and the latch of SDO, nothing else. -/
theorem clockFall_next (s : State) :
    clockFall s = .next (updLink (fun l => { l with sck := false, sdoBit := nextSdoBit s }) s) := rfl

end Sys2Proof.Machine
end

