-- ==== Sys2Proof/Tests/Slice0.lean ====
section
/-! SUPPORT. Tests: well-formedness refuses each ill-formed term; words and figures written out from the
spec; and, for every obligation with hypotheses, a concrete state and operands that meet them, with the
conclusion's main clauses evaluated there. Expected values come from the spec's tables or by hand from
its rules. -/

set_option maxRecDepth 100000

namespace Sys2Proof.Tests

open Machine

/-! ## Small states -/

/-- The command completes in a state with this property. -/
def runs (c : Instr) (s : State) (p : State → Bool) : Bool :=
  match exec c s with
  | .next t => p t
  | .fault _ => false
  | .refused _ => false

/-- The same for a step. -/
def steps (s : State) (p : State → Bool) : Bool :=
  match step s with
  | .next t => p t
  | .fault _ => false
  | .refused _ => false

/-- The command completes and leaves everything outside the link as it was, with this reply. -/
def refuses (c : Instr) (s : State) (code : ReplyCode) : Bool :=
  runs c s fun t => decide (OnlyLink s t ∧ Replied t code [])

/-- The command changes nothing. -/
def stays (c : Instr) (s : State) : Bool := runs c s fun t => t == s

/-- An operator of this level who has taken nothing. -/
def operator (id level : Nat) : SlotRecord := ⟨id, level, 0#32, Totals.zero⟩

/-- A station of these straps, ON-LINE at 100 s, slot 0 of level 0 and slot 1 of level 2 signed on. -/
def online (p : Straps) : State :=
  let r := State.afterReset p
  { r with
    clock := { r.clock with time := 100000#32 }
    join := { r.join with state := .onLine, startMark := 7, presenceFrom := some 99000#32 }
    line := { r.line with rx := Receiver.fresh .hunt, since := 131071 }
    port := { r.port with primeLeft := 0 }
    slots := (r.slots.setIfInBounds 0 (some (operator 1001 0))).setIfInBounds 1
      (some (operator 1002 2)) }

/-- Till 14 of the spec's examples. -/
def till : State := online ⟨1, 6, 0, 0⟩

/-- Kitchen 21, class 1, single lane. -/
def kit : State := online ⟨2, 5, 1, 0⟩

/-- A station heard, with this mark. -/
def heardAs (role : Role) (cls mark : Nat) (last : Time) : Heard :=
  ⟨false, role, cls, mark, last, 0, 24, true, .ok, false⟩

/-- With station `n` in the table. -/
def hears (n : Nat) (h : Heard) (s : State) : State := setHeard n h s

/-- A share of this total, or a line of it. -/
def share (total : Nat) (state : ShareState) : Share :=
  ⟨0, ⟨total, 0, total, 0, 0, 0, 0, 0, total⟩, state⟩

/-- Two of a kitchen item of class 1 at 300 cents. -/
def soup (state : TabLineState) (place : Option (Nat × Nat)) : TabLine :=
  ⟨[0x53#8], [], 2, 300, 0, 0, 1, false, .one 0, state, place⟩

/-- One counter item at 101 cents with a deposit of 25, of tax group 1. -/
def beer (state : TabLineState) : TabLine :=
  ⟨[0x42#8], [], 1, 101, 1, 25, 0, false, .one 0, state, none⟩

/-- Tab 14-00-01 with these lines and shares. -/
def tabWith (state : TabState) (lines : List TabLine) (shares : List Share) : Tab :=
  { code := 14337, state := state, operator := 1001, openedAt := 5#32, lines := lines
    shares := shares
    gross := ((lines.filter TabLine.counted).map TabLine.gross).sum
    total := (shares.map fun sh => sh.amounts.total).sum }

/-- With this tab in slot 0. -/
def holding (t : Tab) (s : State) : State :=
  { s with tabs := s.tabs.setIfInBounds 0 ⟨1, some t⟩ }

/-- A tab with a kitchen line and a counter line in the given states, and one share of this state. -/
def oneShare (state : TabState) (a b : TabLineState) (sh : ShareState) : State :=
  holding (tabWith state [soup a (some (1, 0)), beer b] [share 726 sh]) till

/-- Tab 14-00-01 OPEN with a SENT soup and a SERVED beer, and its ticket. -/
def openTab : State := oneShare .opened .sent .served .opened

/-- Tab 14-00-01 with every line finished and its one share EMPTY or as given. -/
def finished (sh : ShareState) : State := oneShare .opened .served .void sh

/-- Ticket 1 of the tab in slot 0: its positions name the lines 0 and 1. -/
def ticket (state : TicketState) (awardee : Option Awardee) : Ticket :=
  { number := 1, gen := 2, cls := 1, slot := 0, issue := 1, positions := [0, 1], live := 3#8
    priority := .normal, state := state, attempt := 0, awardee := awardee, repeats := 0, lost := none
    stale := none, kmask := 0#8, late := false, sent := 0#32, placed := none, ready := none
    wait := .none, withdrawals := [] }

/-- Kitchen 21 as awardee. -/
def by21 : Option Awardee := some ⟨21, 9, 3⟩

def tickets (ts : List Ticket) (s : State) : State := { s with tickets := ts }

/-- An entry of ticket 1 of till 14 with two live lines. -/
def entry (state : EntryState) (bid : Option Bid) : Entry :=
  { origin := 14, mark := 7, number := 1, gen := 2, priority := .normal, band := .normal
    state := state, lines := [⟨⟨2, [0x53#8], []⟩, true⟩, ⟨⟨1, [0x54#8], []⟩, true⟩]
    arrival := some 90000#32, seq := 1, warn := false, late := false, print := .none, bid := bid
    firedSeq := 0 }

/-- A bid of that ticket in this stage. -/
def bidIn (stage : BidStage) : Bid := ⟨2, .normal, [], stage, 1⟩

def entries (es : List Entry) (s : State) : State :=
  { s with kitchen := { s.kitchen with entries := es } }

/-- The borrowed share 0 of tab 22-00-01. -/
def lent (state : BorrowedState) (wait : BorrowedWait) : Borrowed :=
  { code := 22529, share := 0, slot := 0, state := state, homeMark := 4, homeSilent := false
    amounts := some ⟨300, 0, 300, 0, 0, 0, 0, 0, 300⟩, taken := some ⟨.card, 300, 0⟩
    created := 0#32, granted := none, paid := none, attempts := 1, wait := wait, paused := false }

def borrowing (b : Borrowed) (s : State) : State := { s with borrowed := [b] }

/-- A frame in transmission. -/
def sending (x : TxItem) (s : State) : State :=
  { s with line := { s.line with state := some .sending, sending := some x, txPos := 0, since := 0 } }

/-- With these frames waiting. -/
def waiting (xs : List TxItem) (s : State) : State := { s with line := { s.line with waiting := xs } }

/-- Sixteen frames waiting: the transmit queue is full. -/
def fullQueue (s : State) : State :=
  waiting (List.replicate 16 (newItem s 127 .lastCall false)) s

/-- A property of every numbered element of a list. -/
theorem getElem?_all {α : Type} {l : List α} {P : Nat → α → Prop}
    (h : ∀ p ∈ l.zipIdx, P p.2 p.1) (i : Nat) (x : α) (hx : l[i]? = some x) : P i x := by
  refine h (x, i) ?_
  rw [List.mem_iff_getElem?]
  exact ⟨i, by simp [hx]⟩

/-! ## Well-formedness: each check refuses an ill-formed term -/

/-- Each request field above its sort, each list of the wrong length. -/
theorem test_wf_refuses_requests :
    ([.signOn 65536 0, .signOn 1 256, .signOff 256, .openTab 256, .lastCall 256, .clearPrinter 256,
      .configure ⟨65536, 0, 0, 0, 0, 0, 0, 0, 0, 0⟩, .configure ⟨0, 65536, 0, 0, 0, 0, 0, 0, 0, 0⟩,
      .configure ⟨0, 0, 65536, 0, 0, 0, 0, 0, 0, 0⟩, .configure ⟨0, 0, 0, 65536, 0, 0, 0, 0, 0, 0⟩,
      .configure ⟨0, 0, 0, 0, 256, 0, 0, 0, 0, 0⟩, .configure ⟨0, 0, 0, 0, 0, 65536, 0, 0, 0, 0⟩,
      .configure ⟨0, 0, 0, 0, 0, 0, 65536, 0, 0, 0⟩, .configure ⟨0, 0, 0, 0, 0, 0, 0, 256, 0, 0⟩,
      .configure ⟨0, 0, 0, 0, 0, 0, 0, 0, 256, 0⟩, .configure ⟨0, 0, 0, 0, 0, 0, 0, 0, 0, 256⟩,
      .addLine 256 0 ⟨[], [], 0, 0, 0, 0, 0, 0⟩, .addLine 0 65536 ⟨[], [], 0, 0, 0, 0, 0, 0⟩,
      .addLine 0 0 ⟨List.replicate 200 0#8, List.replicate 43 0#8, 0, 0, 0, 0, 0, 0⟩,
      .addLine 0 0 ⟨[], [], 256, 0, 0, 0, 0, 0⟩, .addLine 0 0 ⟨[], [], 0, 65536, 0, 0, 0, 0⟩,
      .addLine 0 0 ⟨[], [], 0, 0, 256, 0, 0, 0⟩, .addLine 0 0 ⟨[], [], 0, 0, 0, 65536, 0, 0⟩,
      .addLine 0 0 ⟨[], [], 0, 0, 0, 0, 256, 0⟩, .addLine 0 0 ⟨[], [], 0, 0, 0, 0, 0, 256⟩,
      .voidLine 0 0 256, .closeTab 0 65536, .assign 0 0 0 0 0 [1], .discount 0 0 0 256,
      .assign 0 0 256 0 0 (List.replicate 8 0), .assign 0 0 0 0 0 (List.replicate 8 256),
      .retryTicket 0 65536, .pay 0 0 0 0 4294967296, .bump 0 256 0, .reprint 0 0 65536,
      .queryStation 256, .queryTab 65536 0, .queryTicket 65536, .queryQueue 256 0,
      .linkByteComplete [],
      .ignoredTransaction 0#8 (List.replicate 256 0#8)] : List Instr).any Instr.wf = false := by
  decide

/-- A name out of range, and each range of a frame's fields (Table 1-3). -/
theorem test_wf_refuses_frames :
    ([.silenceTimerExpiry 63, .offerWindowExpiry 4096, .withdrawReplyWaitExpiry 1 8,
      .bidDelayExpiry 0 1, .passExpiry 14 0, .askWaitExpiry 65536 0, .holdLimitExpiry 1 8,
      .lastCallFrame 256 1, .lastCallFrame 127 0, .lastCallFrame 127 63,
      .presence 127 1 ⟨.till, 1, 1, 0, 0, false, .ok, false⟩,
      .presence 127 1 ⟨.kitchen, 0, 1, 0, 0, false, .ok, false⟩,
      .presence 127 1 ⟨.till, 0, 0, 0, 0, false, .ok, false⟩,
      .presence 127 1 ⟨.till, 0, 1, 25, 0, false, .ok, false⟩,
      .presence 127 1 ⟨.till, 0, 1, 0, 25, false, .ok, false⟩,
      .offer 65 1 ⟨⟨1, 0⟩, 8, .normal, 0, [⟨1, [0x41#8], []⟩]⟩,
      .offer 65 1 ⟨⟨1, 0⟩, 1, .normal, 5, [⟨1, [0x41#8], []⟩]⟩, .offer 65 1 ⟨⟨1, 0⟩, 1, .normal, 0, []⟩,
      .offer 65 1 ⟨⟨1, 0⟩, 1, .normal, 0, [⟨61, [0x41#8], []⟩]⟩,
      .offer 65 1 ⟨⟨1, 0⟩, 1, .normal, 0, [⟨1, [], []⟩]⟩,
      .offer 65 1 ⟨⟨1, 0⟩, 1, .normal, 0, [⟨1, [0x7F#8], []⟩]⟩,
      .bid 14 1 63 ⟨1, 0⟩ 0, .bidHeardAtKitchen 65 1 1 ⟨0, 0⟩ 0, .bid 14 1 1 ⟨1, 0⟩ 25,
      .award 65 1 ⟨1, 16⟩ 1 1#8, .award 65 1 ⟨1, 0⟩ 1 0#8, .progress 14 1 ⟨4096, 0⟩ .ready 0#8,
      .withdraw 21 1 ⟨1, 0⟩ 8, .withdrawReply 14 1 ⟨1, 0⟩ 8 .fired false, .revoke 21 1 ⟨0, 0⟩,
      .collectFrame 21 1 ⟨0, 0⟩, .shareAsk 14 1 65536 0, .shareAsk 14 1 0 8,
      .shareGrant 14 1 0 0 ⟨500001, 0, 0, 0, 0, 0, 0, 0, 0⟩, .shareDeny 14 1 0 8 .null,
      .shareSettle 14 1 0 0 .cash 1345001 0, .shareSettle 14 1 0 0 .cash 0 3,
      .shareReturn 14 1 0 8, .shareClose 14 1 0 8 .conflict] : List Instr).any Instr.wf = false := by
  decide

/-- And well-formed ones are accepted. -/
theorem test_wf_accepts :
    ([.signOn 65535 255, .lastCallFrame 127 62, .pay 3 14337 7 1 4294967295, .reset ⟨7, 7, 7, 7⟩,
      .award 65 14 ⟨4095, 15⟩ 21 0xFF#8] : List Instr).all Instr.wf = true := by decide

/-! ## Words and figures written out from the spec -/

/-- The check over 31H to 39H (R5). -/
theorem test_crc_of_r5 :
    crc [0x31#8, 0x32#8, 0x33#8, 0x34#8, 0x35#8, 0x36#8, 0x37#8, 0x38#8, 0x39#8] = 0x29B1#16 := by
  decide

/-- Tab 14-07-21 has the code 38F5H (chapter 3). -/
theorem test_tab_code : tabCode 14 7 21 = 0x38F5 := by decide

/-- Requests as kind byte and body bytes by Table 10-7: SIGN-ON of operator 300 at level 2, PAY of share 1
of tab 14-07-21 in cash with 20.00, QUERY-TICKET of ticket 4095. -/
theorem test_request_bytes :
    decodeRequest 0x03#8 [0x01#8, 0x2C#8, 0x02#8] = some (.signOn 300 2)
      ∧ encodeRequest (.pay 2 0x38F5 1 0 2000)
        = some (0x29#8, [0x02#8, 0x38#8, 0xF5#8, 0x01#8, 0x00#8, 0x00#8, 0x00#8, 0x07#8, 0xD0#8])
      ∧ decodeRequest 0x45#8 [0x0F#8, 0xFF#8] = some (.queryTicket 4095)
      ∧ decodeRequest 0x45#8 [0x0F#8] = none := by decide

/-- A WITHDRAW of position 3 of ticket 258, generation 5, to station 21 from station 14, by Tables 1-1 to
1-3; its check is computed over those bytes. -/
theorem test_frame_bytes :
    (Frame.bytes ⟨21, 14, .withdraw ⟨258, 5⟩ 3⟩).take 8
      = [21#8, 14#8, 0x06#8, 0x04#8, 0x01#8, 0x02#8, 0x05#8, 0x03#8] := by decide

/-- Tab 14-03-05 of Tables 7-4 to 7-7. -/
def lager : TabLine :=
  ⟨[0x4C#8], [], 2, 850, 1, 100, 0, true, .weighted [1, 1, 0, 0, 0, 0, 0, 0], .entered, none⟩
def hotDog : TabLine := ⟨[0x48#8], [], 2, 575, 0, 0, 0, false, .allEqual, .entered, none⟩
def nachos : TabLine := ⟨[0x4E#8], [], 1, 1199, 0, 0, 0, false, .one 2, .entered, none⟩
def rates : Figures := { Figures.default with tax0 := 700, tax1 := 1000 }

/-- Step 7 of Table 7-5, the records of Table 7-7. -/
theorem test_amounts_of_table_7_7 :
    amountsOf rates [lager, hotDog, nachos] 3 0 0 = ⟨1234, 0, 1234, 27, 85, 0, 0, 100, 1446⟩
      ∧ amountsOf rates [lager, hotDog, nachos] 3 1 10 = ⟨1233, 123, 1110, 24, 77, 0, 0, 100, 1311⟩
      ∧ amountsOf rates [lager, hotDog, nachos] 3 2 0 = ⟨1582, 0, 1582, 111, 0, 0, 0, 0, 1693⟩ := by
  decide

/-- Table 7-8. -/
theorem test_payments_of_table_7_8 :
    paymentStep 1446 0 2000 = .ok (.cash, 1445, -1, 555)
      ∧ paymentStep 1311 1 0 = .ok (.card, 1311, 0, 0)
      ∧ paymentStep 1693 0 2000 = .ok (.cash, 1695, 2, 305)
      ∧ paymentStep 1693 0 1690 = .error .short := by decide

/-! ## Witnesses: steps, refusals, reset, invariants, encodings

Each theorem meets the hypotheses of the obligation it is named after, clause by clause, and evaluates
conclusions of it. -/

/-- A bad strap setting: station 0. -/
def badStraps : State := State.afterReset ⟨0, 0, 0, 6⟩

theorem slotOf_above (s : State) (j : Nat) (h : 4 ≤ j) : slotOf s j = none := by
  simp [slotOf, h]

/-- A property of the four slots is one of all. -/
theorem slots_all {s : State} {P : SlotRecord → Prop}
    (h : ∀ r ∈ s.slots.toList, ∀ x ∈ r, P x) (j : Nat) (x : SlotRecord)
    (hx : slotOf s j = some x) : P x := by
  refine h (some x) ?_ x rfl
  simp only [slotOf, Option.join_eq_some_iff] at hx
  rw [Vector.mem_toList_iff]
  exact Vector.mem_of_getElem? hx

/-- A property of the 32 tabs is one of all. -/
theorem tabs_all {s : State} {P : Nat → Tab → Prop}
    (h : ∀ p ∈ s.tabs.toList.zipIdx, ∀ x ∈ p.1.tab, P p.2 x) (i : Nat) (x : Tab)
    (hx : tabIn s i = some x) : P i x := by
  simp only [tabIn, Option.bind_eq_some_iff] at hx
  obtain ⟨e, he, hx⟩ := hx
  have := getElem?_all (P := fun i (e : TabSlot) => ∀ x ∈ e.tab, P i x) h i e (by simpa using he)
  exact this x hx

theorem witness_StepRunsFrontCommand :
    steps { till with pending := [.busyAsserted, .busyReleased] }
      (fun t => t.pending == [.busyReleased] && t.port.busyPin) = true := by decide

/-- A millisecond that ends, a BUSY line one and two bit times after its last transition, a timer with a
millisecond to run. -/
theorem witness_IdleStepLetsTimePass :
    (till.pending = [] ∧ 498 + 1 < Straps.halvesPerMs till.straps ∧ till.line.state = some .idle
      ∧ steps { till with clock := { till.clock with msPhase := 498 } }
          (fun t => t.clock == { till.clock with msPhase := 499, halfBits := 1#33 }) = true
      ∧ steps { till with clock := { till.clock with msPhase := 499 } }
          (fun t => t.clock == { time := 100001#32, msPhase := 0, halfBits := 1#33 }) = true)
      ∧ (steps { till with line := { till.line with state := some .busy, since := 2 } }
          (fun t => t.line.state == some .busy && t.line.since == 3)
        && steps { till with line := { till.line with state := some .busy, since := 3 } }
          (fun t => t.line.state == some .idle && t.line.since == 4)
        && steps badStraps (fun t => t.clock.halfBits == 0#33 && t.line == badStraps.line)) = true
      ∧ till.ClockSound ∧ elapsed till 99999#32 < 2
      ∧ elapsed (advanceUntil 99999#32 2 till) 99999#32 = 2
      ∧ advanceUntil 99999#32 1 till = till := by decide

theorem witness_OnlyResetReadsTheStraps :
    runs .start badStraps (fun t => t.join.state == .strapFault)
      && runs .start { till with join := { till.join with state := .duplicate } }
        (fun t => t.join.state == .duplicate) = true := by decide

theorem witness_RefusalsChangeNothing :
    requestKind (.signOn 1 0) = some 3 ∧ refuses (.signOn 0 0) till .field = true
      ∧ 0x3F < 0x40 ∧ badStraps.join.state = .strapFault
      ∧ refuses (.signOn 1 0) badStraps .config = true
      ∧ runs .fetch badStraps (fun t => decide (Replied { t with link := { t.link with
          fetching := none } } .done [])) = true := by decide

theorem witness_ResetReturnsEveryBlock :
    role (State.afterReset ⟨2, 5, 1, 0⟩) = .kitchen
      ∧ runs (.reset ⟨2, 5, 1, 0⟩) kit (fun t => t == { State.afterReset ⟨2, 5, 1, 0⟩ with
          pending := [], free := 0 } && 2 * t.port.primeLeft == 500) = true := by decide

/-- States that are not at reset and meet the invariants, a step of each. -/
theorem witness_StepKeepsQueuesSound :
    (fullQueue till).QueuesSound ∧ txCount (fullQueue till) = 16
      ∧ (entries [entry .queued none] kit).QueuesSound
      ∧ steps { fullQueue till with pending := [.transmissionStart] }
          (fun t => decide t.QueuesSound && txCount t == 16) = true := by decide

theorem witness_StepKeepsRoleAndJoin_roles :
    till.TillPrintsNothing ∧ till.KitchenKeepsNoTabs ∧ kit.TillPrintsNothing
      ∧ kit.KitchenKeepsNoTabs := by decide

theorem witness_StepKeepsRoleAndJoin_line :
    (sending (newItem till 127 .lastCall false) till).LineFollowsJoin ∧ till.ClockSound
      ∧ (hears 21 (heardAs .kitchen 1 9 0#32) till).OwnEntryAbsent
      ∧ runs .transmissionComplete (sending (newItem till 127 .lastCall false) till)
          (fun t => decide t.LineFollowsJoin) = true := by decide

theorem witness_StepKeepsEntriesAndNames :
    (entries [entry .fired none, { entry .queued none with number := 2 }] kit).WithinFireCapacity
      ∧ (tickets [ticket .fired by21, { ticket .placed by21 with number := 4095 }] till).NamesUnique
      ∧ (borrowing (lent .asking .none) till).NamesUnique := by decide

theorem witness_StepKeepsTabsSound : (oneShare .opened .sent .served .opened).TabsSound := by
  refine getElem?_all (P := fun slot (e : TabSlot) => e.issue < 32 ∧ ∀ t : Tab, e.tab = some t →
    Tab.Sound (station (oneShare .opened .sent .served .opened)) slot e.issue t)
    (l := (oneShare .opened .sent .served .opened).tabs.toList) ?_ |> fun h slot e he =>
      h slot e (by simpa using he)
  intro p hp
  have h : ∀ p ∈ (oneShare .opened .sent .served .opened).tabs.toList.zipIdx,
      p.1.issue < 32 ∧ ∀ t ∈ p.1.tab, Tab.Sound 14 p.2 p.1.issue t := by decide
  exact ⟨(h p hp).1, fun t ht => (h p hp).2 t ht⟩

theorem witness_RequestBytesRoundTrip :
    (Instr.pay 3 14337 7 1 4294967295).wf = true
      ∧ encodeRequest (.pay 3 14337 7 1 4294967295)
        = some (0x29#8, [0x03#8, 0x38#8, 0x01#8, 0x07#8, 0x01#8, 0xFF#8, 0xFF#8, 0xFF#8, 0xFF#8])
      ∧ decodeRequest 0x29#8 [0x03#8, 0x38#8, 0x01#8, 0x07#8, 0x01#8, 0xFF#8, 0xFF#8, 0xFF#8, 0xFF#8]
        = some (.pay 3 14337 7 1 4294967295) := by decide

theorem witness_FrameBytesRoundTrip :
    Frame.valid ⟨65, 14, .offer ⟨⟨4095, 15⟩, 1, .rush, 4, [⟨60, [0x53#8], [0x7E#8]⟩]⟩⟩ = true
      ∧ parseFrame (Frame.bytes ⟨65, 14, .offer ⟨⟨4095, 15⟩, 1, .rush, 4, [⟨60, [0x53#8], [0x7E#8]⟩]⟩⟩)
        = some ⟨65, 14, .offer ⟨⟨4095, 15⟩, 1, .rush, 4, [⟨60, [0x53#8], [0x7E#8]⟩]⟩⟩ := by decide

/-- The frame behind seven others fills the inbound queue. -/
theorem witness_HeardFrameIsQueued :
    Frame.valid ⟨127, 21, .lastCall⟩ = true ∧ acceptsDest till 127 = true
      ∧ till.line.rx = Receiver.fresh .hunt ∧ till.line.state ≠ none ∧ driving till = false
      ∧ (match runAll (hearFrame ⟨127, 21, .lastCall⟩ ++ [.receptionEnd])
            { till with line := { till.line with
              inbound := List.replicate 7 ⟨14, 21, .lastCall⟩ } } with
          | .next t => t.line.inbound
              == List.replicate 7 ⟨14, 21, .lastCall⟩ ++ [⟨127, 21, .lastCall⟩]
          | _ => false) = true := by decide

/-! ## Witnesses: the line, joining, operators -/

/-- A frame of class 2 that has collided this often. -/
def item (s : State) (n : Nat) : TxItem := { newItem s 127 (.presence (presenceFields s)) false with n := n }

/-- The class of a frame decides its place; the sixteenth entry is the last. -/
theorem witness_FramesWaitTheirTurn :
    till.join.state = .onLine ∧ freeTx (waiting [item till 3] till) = 15
      ∧ (offerFrame 22 (.shareAsk 22529 0) true (waiting [item till 3] till)).line.waiting
        = [newItem till 22 (.shareAsk 22529 0) true, item till 3]
      ∧ (offerFrame 127 .lastCall false (waiting [item till 3] till)).line.waiting
        = [item till 3, newItem till 127 .lastCall false]
      ∧ freeTx (fullQueue till) = 0
      ∧ (offerFrame 127 .lastCall false (fullQueue till)).line = (fullQueue till).line := by decide

/-- PRESENCE of class 2, first try: 32 + 256 bit times, of which 100 half bit times have passed. -/
theorem witness_FramesWaitTheirTurn_start :
    let s := waiting [item till 0] { till with line := { till.line with since := 100 } }
    s.join.state = .onLine ∧ s.line.waiting = item till 0 :: [] ∧ s.line.sending = none
      ∧ s.line.rx.state ≠ .take
      ∧ runs .transmissionStart s (fun t => t.line.sending == some (item till 0)
          && t.line.state == some .sending && t.clock.halfBits == 476#33) = true := by decide

/-- A LAST-CALL of 6 characters: 16 + 54 cells. -/
theorem witness_FrameEndsReachTheirOwners :
    let s := sending (newItem till 127 .lastCall false) till
    s.line.state = some .sending ∧ s.line.sending = some (newItem till 127 .lastCall false)
      ∧ s.line.txPos ≤ 2 * Frame.bitTimes ⟨127, 14, .lastCall⟩
      ∧ runs .transmissionComplete s (fun t => t.clock.halfBits == 140#33
          && t.line.state == some .busy && t.line.sending == none) = true := by decide

def offering : State := tickets [ticket .offering none] (oneShare .opened .sent .served .opened)

/-- The waits of a ticket. -/
theorem witness_FrameEndsReachTheirOwners_tickets :
    (match offerBody offering (ticket .offering none) with
      | .offer o => o.ref == ⟨1, 2⟩ && o.attempt == 0
      | _ => false) = true
      ∧ runs .transmissionComplete (sending
          (newItem offering 65 (offerBody offering (ticket .offering none)) true) offering)
          (fun t => (ticketOf t 1).map Ticket.wait == some (.offerWindow (now t))) = true
      ∧ runs .transmissionComplete (sending (newItem offering 65 (.award ⟨1, 2⟩ 21 3#8) true)
          (tickets [ticket .placing by21] till))
          (fun t => (ticketOf t 1).map Ticket.wait == some (.awardWait (now t))) = true
      ∧ runs .transmissionComplete (sending (newItem till 21 (.withdraw ⟨1, 2⟩ 0) true)
          (tickets [{ ticket .placed by21 with withdrawals := [⟨0, 1, none⟩] }] till))
          (fun t => (ticketOf t 1).map Ticket.withdrawals
            == some [⟨0, 1, some (now t)⟩]) = true := by decide

/-- The tentative expiry and the waits of a borrowed share. -/
theorem witness_FrameEndsReachTheirOwners_others :
    runs .transmissionComplete (sending (newItem kit 65 (.bid 14 ⟨1, 2⟩ 1) true)
        (entries [entry .tentative (some (bidIn .queued))] kit))
        (fun t => ((entryOf t 14 1).bind Entry.bid).map Bid.stage
          == some (.awaiting (now t))) = true
      ∧ runs .transmissionComplete (sending (newItem till 22 (.shareAsk 22529 0) true)
        (borrowing (lent .asking .none) till))
        (fun t => (borrowedOf t 22529 0).map Borrowed.wait == some (.ask (now t))) = true
      ∧ runs .transmissionComplete (sending (newItem till 22 (.shareSettle 22529 0 .card 300 0) true)
        (borrowing (lent .confirming .none) till))
        (fun t => (borrowedOf t 22529 0).map Borrowed.wait == some (.again (now t))) = true
      ∧ runs .transmissionComplete (sending (newItem till 22 (.shareReturn 22529 0) true)
        (borrowing (lent .returning .none) till))
        (fun t => (borrowedOf t 22529 0).map Borrowed.wait == some (.again (now t))) = true := by decide

/-- The fifteenth collision returns the frame as the first of its class with
k = (5 * 14 + 11 * 15) modulo 64 = 43, the sixteenth drops it. -/
theorem witness_CollisionJamsAndBacksOff :
    let x := { newItem till 127 .lastCall false with n := 14 }
    let s := waiting [item till 0] (sending x till)
    (Frame.cells x.frame)[s.line.txPos / 2]? = some false
      ∧ stays (.collision .zero) s = true
      ∧ runs (.collision .violation) s (fun t => t.line.state == some .jamming) = true
      ∧ runs .jamEnd { s with line := { s.line with state := some .jamming } } (fun t =>
          t.line.waiting == [{ x with n := 15, k := 43 }, item till 0]
            && t.clock.halfBits == 64#33) = true
      ∧ runs .jamEnd { sending { x with n := 15 } till with line :=
          { (sending { x with n := 15 } till).line with state := some .jamming, txPos := 64 } } (fun t =>
          t.line.waiting == [] && t.clock.halfBits == 0#33) = true := by decide

theorem witness_StationAcceptsItsDestinations :
    role till = .till ∧ role kit = .kitchen ∧ Straps.invalid till.straps = false
      ∧ ([14, 64, 65, 71, 127].all (acceptsDest till) && [21, 65, 127].all (acceptsDest kit)
        && [0, 13, 63, 72, 126, 128].all (fun d => !acceptsDest till d)
        && [0, 14, 63, 64, 66, 72, 126].all (fun d => !acceptsDest kit d)) = true := by decide

/-- A transition in the idle line, one of our own, and one at an OFF receiver. -/
theorem witness_ReceiverDecodesTheLine :
    driving (sending (newItem till 127 .lastCall false) till) = true
      ∧ (let s := { till with line := { till.line with since := 1 } }
         driving s = false ∧ s.line.state ≠ none ∧ s.line.since ≤ 2
           ∧ runs (.lineTransition 2) s (fun t => t.line.rx.history == [.zero]
               && t.line.since == 0 && t.line.state == some .busy) = true)
      ∧ runs (.lineTransition 3) (State.afterReset ⟨1, 6, 0, 0⟩) (fun t =>
          t.line.rx.state == .off) = true := by decide

/-- The three receiver events, a character with a mark 0 and one of another destination. -/
theorem witness_ReceiverDecodesTheLine_events :
    let rx (st : RxState) (h c : List Cell) : State :=
      { till with line := { till.line with rx := { Receiver.fresh st with history := h, cells := c } } }
    let chars (mark : Bool) (d : Byte) : List Cell := ((charCells mark d).map Cell.ofBool).reverse
    runs .syncPatternMatch (rx .hunt (syncPattern.map Cell.ofBool).reverse [])
        (fun t => t.line.rx == Receiver.fresh .address) = true
      ∧ runs .destinationCharacter (rx .address [] (chars true 127#8))
        (fun t => t.line.rx == { Receiver.fresh .take with dest := 127 }) = true
      ∧ runs .destinationCharacter (rx .address [] (chars false 127#8))
        (fun t => t.line.rx == Receiver.fresh .hunt) = true
      ∧ runs .destinationCharacter (rx .address [] (chars true 126#8))
        (fun t => t.line.rx == Receiver.fresh .hunt) = true
      ∧ (let lasted (v n : Nat) : State := { till with line := { till.line with rx :=
          { Receiver.fresh .take with cells := List.replicate n .zero, violation := v } } }
         runs .frameAbandoned (lasted 16 9) (fun t => t.line.rx == Receiver.fresh .hunt)
           && stays .frameAbandoned (lasted 15 9)) = true := by decide

/-- A jam from the middle of a cell on, in TAKE: an interval of one bit time as its first transition
falls, then intervals of one and a half. The sixth of these ends nine bit times after its start, and only
then are eight known to have passed. -/
theorem witness_ReceiverDecodesTheLine_jam :
    let s := { till with line := { till.line with
      state := some .busy, since := 0, rx := { Receiver.fresh .take with dest := 127 } } }
    (match runAll (List.replicate 5 (.lineTransition 3)) s with
      | .next t => t.line.rx.violation == 15 && t.line.rx.state == .take
          && stays .frameAbandoned t
          && runs (.lineTransition 3) t (fun u => u.line.rx.violation == 18
              && runs .frameAbandoned u (fun v => v.line.rx == Receiver.fresh .hunt))
      | _ => false) = true
      ∧ Receiver.push (acceptsDest s) { s.line.rx with violation := 15, cells := [.violation] } (.zero, 2)
        = { s.line.rx with violation := 0, cells := [.zero, .violation] } := by decide

/-- The whole of a LAST-CALL behind its destination is in TAKE but for its last cell: it joins the
inbound queue, and does not when eight stand there. -/
theorem witness_ReceptionEndQueuesTheFrame :
    let f : Frame := ⟨127, 21, .lastCall⟩
    let cells := ((((Frame.bytes f).drop 1).flatMap (charCells false)).map Cell.ofBool).reverse
    let s (n : Nat) : State := { till with line := { till.line with
      inbound := List.replicate n f
      rx := { Receiver.fresh .take with
        cells := cells.tail, dest := 127, openHalf := cells.head? == some .one } } }
    (s 7).line.rx.state = .take ∧ driving (s 7) = false ∧ Frame.valid f = true
      ∧ (((if (s 7).line.rx.openHalf then Cell.one else .zero) :: (s 7).line.rx.cells).reverse
        = (((Frame.bytes f).drop 1).flatMap (charCells false)).map Cell.ofBool)
      ∧ runs .receptionEnd (s 7) (fun t => t.line.inbound == List.replicate 8 f) = true
      ∧ runs .receptionEnd (s 8) (fun t => t.line.inbound == List.replicate 8 f) = true := by decide

/-- A till's rates and a kitchen's figures at the ends of their ranges. -/
theorem witness_ConfigureAndStart :
    (State.afterReset ⟨1, 6, 0, 0⟩).join.state = .config ∧ till.join.state ≠ .config
      ∧ runs (.configure ⟨2501, 2500, 0, 1, 9, 9, 9, 9, 9, 9⟩) (State.afterReset ⟨1, 6, 0, 0⟩)
        (fun t => t.join.figures
          == { Figures.default with tax0 := 2500, tax1 := 2500, tax3 := 1 }) = true
      ∧ runs (.configure ⟨1, 1, 1, 1, 0, 1801, 29, 1, 3, 255⟩) (State.afterReset ⟨2, 5, 1, 0⟩)
        (fun t => t.join.figures
          == ⟨0, 0, 0, 0, 1, 1800, 1800, .retry, .skip, 0xFF#8⟩) = true
      ∧ runs .start (State.afterReset ⟨2, 5, 1, 0⟩) (fun t => t.join.state == .joining
          && t.join.windowFrom == some 0#32 && t.line.rx == Receiver.fresh .hunt) = true
      ∧ refuses .start till .config = true
      ∧ refuses (.configure ⟨0, 0, 0, 0, 0, 0, 0, 0, 0, 0⟩) till .config = true := by decide

/-- A window that ends at a bit-time count whose low 16 bits are 0. -/
theorem witness_JoinWindowAndPresence :
    let s := { till with
      clock := { till.clock with halfBits := 0x20000#33 }
      join := { till.join with state := .joining, windowFrom := some 97500#32, presenceFrom := none } }
    Due s 97500#32 2500 ∧ s.line.waiting = [] ∧ s.line.sending = none ∧ bitCount s % 65536 = 0
      ∧ runs .joinWindowEnd s (fun t => t.join.state == .onLine && t.join.startMark == 1
          && t.line.waiting.map (fun x => x.frame)
            == [⟨127, 14, .presence ⟨.till, 0, 1, 0, 0, false, .ok, false⟩⟩]) = true := by decide

/-- The timer with none waiting, with one waiting, and with the queue full of others. -/
theorem witness_JoinWindowAndPresence_timer :
    Due kit 99000#32 1000
      ∧ runs .presenceTimerExpiry kit (fun t => t.join.presenceFrom == some 100000#32
          && t.line.waiting.map (fun x => x.frame)
            == [⟨127, 21, .presence ⟨.kitchen, 1, 7, 0, 24, true, .ok, false⟩⟩]) = true
      ∧ runs .presenceTimerExpiry (waiting [{ item till 3 with k := 5 }] { kit with lastCall := true })
          (fun t => t.line.waiting.map (fun x => (x.frame.body, x.n, x.k))
            == [(.presence ⟨.kitchen, 1, 7, 0, 24, true, .ok, true⟩, 3, 5)]) = true
      ∧ runs .presenceTimerExpiry (fullQueue kit)
          (fun t => t.line == (fullQueue kit).line) = true := by decide

theorem witness_SilenceMakesAnEntrySilent :
    let s := hears 21 (heardAs .kitchen 1 9 96500#32)
    heard (s kit) 21 = some (heardAs .kitchen 1 9 96500#32) ∧ Due (s till) 96500#32 3500
      ∧ ((s (tickets [ticket .fired (some ⟨21, 8, 3⟩)] till)).tickets.map Ticket.number).Nodup
      ∧ runs (.silenceTimerExpiry 21) (s { kit with straps := ⟨2, 4, 1, 0⟩ }) (fun t =>
          t.notices == [⟨100000#32, .silent 21 9⟩]) = true
      ∧ runs (.silenceTimerExpiry 21) (s (tickets [ticket .fired (some ⟨21, 8, 3⟩)] till)) (fun t =>
          ticketOf t 1 == some { ticket .fired by21 with lost := some .silent }
            && heard t 21 == some { heardAs .kitchen 1 9 96500#32 with silent := true }) = true := by
  decide

/-- A first PRESENCE, one with the mark held, one with another mark, and both from a SILENT entry. -/
theorem witness_StationTableHearsFrames :
    let p : PresenceFields := ⟨.kitchen, 1, 9, 2, 22, true, .ok, false⟩
    let was (mark : Nat) (silent : Bool) : State :=
      hears 21 { heardAs .kitchen 1 mark 0#32 with silent := silent } till
    let said (s : State) (l : List NoticeBody) : Bool :=
      runs (.presence 127 21 p) s fun t => t.notices.map (fun x => x.body) == l
        && heard t 21 == some ⟨false, .kitchen, 1, 9, 100000#32, 2, 22, true, .ok, false⟩
    Delivers till ⟨127, 21, .presence p⟩ ∧ heard till 21 = none
      ∧ (said till [.present 21 9] && said (was 9 false) [] && said (was 9 true) [.present 21 9]
        && said (was 8 false) [.restarted 21 8 9]
        && said (was 8 true) [.restarted 21 8 9, .present 21 9]) = true := by decide

theorem tabIn_till (i : Nat) : tabIn till i = none := by
  cases h : tabIn till i with
  | none => rfl
  | some t => exact (tabs_all (s := till) (P := fun _ _ => False) (by decide) i t h).elim

theorem witness_StationTableHearsFrames_noTables :
    till.tickets = [] ∧ till.borrowed = [] ∧ (∀ i : Nat, tabIn till i = none)
      ∧ till.kitchen.entries = [] ∧ till.kitchen.lapsed = [] ∧ till.kitchen.pass = [] :=
  ⟨rfl, rfl, tabIn_till, rfl, rfl, rfl⟩

/-- The frames a till, and those a kitchen, only hears. -/
theorem witness_StationTableHearsFrames_ownerless :
    let o : OfferFields := ⟨⟨1, 2⟩, 1, .normal, 0, [⟨2, [0x53#8], []⟩]⟩
    let s := hears 22 (heardAs .till 0 9 0#32) till
    Delivers s ⟨65, 22, .offer o⟩ ∧ Delivers s ⟨65, 22, .award ⟨1, 2⟩ 21 1#8⟩
      ∧ Delivers s ⟨14, 22, .withdraw ⟨1, 2⟩ 7⟩ ∧ Delivers s ⟨14, 22, .revoke ⟨1, 2⟩⟩
      ∧ Delivers s ⟨14, 22, .collect ⟨1, 2⟩⟩
      ∧ runs (.offer 65 22 o) s (fun t =>
          heard t 22 == some (heardAs .till 0 9 100000#32) && t.kitchen == s.kitchen) = true := by
  decide

theorem witness_StationTableHearsFrames_kitchen :
    Delivers kit ⟨21, 14, .progress ⟨1, 2⟩ .fired 1#8⟩
      ∧ Delivers kit ⟨21, 14, .withdrawReply ⟨1, 2⟩ 0 .fired false⟩
      ∧ stays (.shareAsk 21 14 14337 0) kit = true
      ∧ stays (.shareSettle 21 14 14337 0 .card 300 0) kit = true := by decide

theorem witness_StationTableHearsFrames_shares :
    Delivers kit ⟨21, 14, .shareAsk 14337 0⟩ ∧ Delivers kit ⟨21, 14, .shareReturn 14337 0⟩
      ∧ Delivers kit ⟨21, 14, .shareGrant 14337 0 ⟨0, 0, 0, 0, 0, 0, 0, 0, 0⟩⟩
      ∧ Delivers kit ⟨21, 14, .shareDeny 14337 0 .held⟩
      ∧ Delivers kit ⟨21, 14, .shareSettle 14337 0 .card 300 0⟩
      ∧ Delivers kit ⟨21, 14, .shareClose 14337 0 .conflict⟩ := by decide

/-- From JOINING and ON-LINE; a bid dies with it; in DUPLICATE nothing. Every delivery row, by its own
number, at a till. -/
theorem witness_OwnNumberMakesADuplicate :
    let f : Frame := ⟨127, 21, .lastCall⟩
    let s := entries [entry .tentative (some (bidIn .queued)),
      { entry .queued (some (bidIn .queued)) with number := 2 }]
        (sending (newItem kit 127 .lastCall false)
          { kit with line := { kit.line with inbound := [f] } })
    let j := { kit with join := { kit.join with state := .joining, windowFrom := some 0#32 } }
    deliveredFrame (role s) (.lastCallFrame 127 21) = some f ∧ f.src = station s
      ∧ s.join.state = .onLine ∧ s.line.sending ≠ none ∧ j.line.sending = none
      ∧ runs (.lastCallFrame 127 21) s (fun t => t.join.state == .duplicate
          && t.line.sending == none && t.line.state == some .busy && t.line.inbound == []
          && t.kitchen.entries.map (fun e => (e.number, e.bid)) == [(2, none)]
          && t.notices == [⟨100000#32, .duplicate 21⟩]) = true
      ∧ runs (.lastCallFrame 127 21) j
          (fun t => t.join.state == .duplicate && t.join.windowFrom == none) = true
      ∧ stays (.lastCallFrame 127 21) { kit with join :=
          { kit.join with state := .duplicate } } = true := by decide

theorem witness_OwnNumberMakesADuplicate_arrives :
    let f : Frame := ⟨127, 21, .lastCall⟩
    Arrives (sending (newItem kit 127 .lastCall false)
        { kit with line := { kit.line with inbound := [f] } }) f
      ∧ Arrives { kit with join := { kit.join with state := .joining } } f
      ∧ Arrives till ⟨127, 14, .lastCall⟩ := by decide

theorem witness_OwnNumberMakesADuplicate_rows :
    ([.presence 127 14 ⟨.till, 0, 7, 0, 0, false, .ok, false⟩,
      .offer 65 14 ⟨⟨1, 2⟩, 1, .normal, 0, [⟨2, [0x53#8], []⟩]⟩, .bid 14 14 14 ⟨1, 2⟩ 0,
      .award 65 14 ⟨1, 2⟩ 21 1#8, .progress 14 14 ⟨1, 2⟩ .queued 1#8, .withdraw 14 14 ⟨1, 2⟩ 0,
      .withdrawReply 14 14 ⟨1, 2⟩ 0 .removed false, .revoke 14 14 ⟨1, 2⟩, .collectFrame 14 14 ⟨1, 2⟩,
      .lastCallFrame 127 14, .shareAsk 14 14 14337 0,
      .shareGrant 14 14 14337 0 ⟨0, 0, 0, 0, 0, 0, 0, 0, 0⟩, .shareDeny 14 14 14337 0 .held,
      .shareSettle 14 14 14337 0 .card 1 0, .shareReturn 14 14 14337 0,
      .shareClose 14 14 14337 0 .conflict] : List Instr).all (fun c =>
        (deliveredFrame (role till) c).any (fun f => f.src == 14)
          && runs c till fun t => t.join.state == .duplicate
            && t.notices == [⟨100000#32, .duplicate 14⟩]) = true
      ∧ deliveredFrame (role kit) (.bidHeardAtKitchen 65 21 14 ⟨1, 2⟩ 0)
        = some ⟨65, 21, .bid 14 ⟨1, 2⟩ 0⟩ := by decide

/-- The frames emptied from the transmit queue reach the waits of their owners. -/
theorem witness_OwnNumberMakesADuplicate_owners :
    let s := borrowing (lent .confirming .none) (tickets [{ ticket .placing by21 with
      withdrawals := [⟨0, 1, none⟩] }, { ticket .offering none with number := 2 }] openTab)
    let frames : List TxItem := [newItem s 21 (.withdraw ⟨1, 2⟩ 0) true,
      newItem s 65 (.award ⟨1, 2⟩ 21 3#8) true,
      newItem s 22 (.shareSettle 22529 0 .card 300 0) true,
      newItem s 65 (offerBody s { ticket .offering none with number := 2 }) true]
    runs (.lastCallFrame 127 14) (waiting frames s) (fun t => t.line.waiting == []
      && t.tickets.map (fun k => (k.wait, k.withdrawals))
        == [(.awardWait 100000#32, [⟨0, 1, some 100000#32⟩]), (.offerWindow 100000#32, [])]
      && t.borrowed.map Borrowed.wait == [.again 100000#32]) = true
    ∧ runs (.lastCallFrame 127 14) (waiting [newItem s 22 (.shareAsk 22529 0) true]
        (borrowing (lent .asking .none) till)) (fun t =>
          t.borrowed.map Borrowed.wait == [.ask 100000#32]) = true
    ∧ runs (.lastCallFrame 127 14) (waiting [newItem s 22 (.shareReturn 22529 0) true]
        (borrowing (lent .returning .none) till)) (fun t =>
          t.borrowed.map Borrowed.wait == [.again 100000#32]) = true := by decide

/-- Ids 1 and 9999 and 10000, the lowest empty slot, an id signed on, no slot. -/
theorem witness_SignOnAndSignOff_on :
    (∀ j < 2, slotOf till j ≠ none) ∧ slotOf till 2 = none
      ∧ runs (.signOn 9999 4) till (fun t => slotOf t 2 == some ⟨9999, 3, 100000#32, Totals.zero⟩
          && t.link.reply == some ⟨.done, [2#8, 3#8]⟩) = true
      ∧ runs (.signOn 1 0) till (fun t => (slotOf t 2).isSome) = true
      ∧ refuses (.signOn 10000 0) till .field = true ∧ refuses (.signOn 0 0) till .field = true
      ∧ slotOf till 1 = some (operator 1002 2) ∧ refuses (.signOn 1002 0) till .state = true
      ∧ (let s := { till with slots := Vector.replicate 4 (some (operator 7 0)) }
         (∀ j < 4, slotOf s j ≠ none) ∧ refuses (.signOn 8 0) s .full = true) := by decide

theorem witness_SignOnAndSignOff_free :
    ∀ (j : Nat) (r : SlotRecord), slotOf till j = some r → r.operator ≠ 9999 :=
  slots_all (by decide)

/-- Nothing held, a share held, a borrowed entry held; an empty slot. -/
theorem witness_SignOnAndSignOff_off :
    let sums : Totals := ⟨5, 6, -1, 2, 3, 4⟩
    let s := { till with
      slots := till.slots.setIfInBounds 0 (some { operator 1001 0 with totals := sums }) }
    runs (.signOff 0) s (fun t => slotOf t 0 == none
        && t.closed == ⟨⟨5, 6, -1, 2, 3, 4⟩, 1⟩
        && t.notices.map (fun x => x.body)
          == [.shiftReport 0 1001 0 0#32 100000#32 ⟨5, 6, -1, 2, 3, 4⟩]) = true
      ∧ refuses (.signOff 2) till .notSigned = true
      ∧ refuses (.signOff 0) (oneShare .paying .sent .served (.heldLocal 0)) .holding = true
      ∧ refuses (.signOff 0) (borrowing (lent .borrowed .none) till) .holding = true
      ∧ runs (.signOff 0) (borrowing (lent .orphaned .none) till) (fun t =>
          slotOf t 0 == none) = true := by decide

theorem witness_SignOnAndSignOff_nothingHeld :
    (∀ (i : Nat) (t : Tab) (sh : Share), tabIn till i = some t → sh ∈ t.shares →
        sh.state ≠ .heldLocal 0)
      ∧ ∀ b : Borrowed, b ∈ till.borrowed → b.slot = 0 → b.state = .asking ∨ b.state = .orphaned :=
  ⟨fun i t sh h => by simp [tabIn_till] at h, fun b hb => by
    simp [till, online, State.afterReset] at hb⟩

/-! ## Witnesses: tabs, lines, split -/

/-- Every tab slot but slot 0 is as it was. -/
def othersSame (s t : State) : Bool := t.tabs.toList.tail == s.tabs.toList.tail

theorem witness_TabsOpenAndClose_open :
    TillSlot openTab 0 3 (operator 1001 0) ∧ openTab.tabs[1]? = some ⟨0, none⟩
      ∧ tabIn openTab 0 ≠ none
      ∧ runs (.openTab 0) openTab (fun t => t.tabs[0]? == openTab.tabs[0]?
          && t.tabs[1]? == some ⟨1, some ⟨14 * 1024 + 33, .opened, 1001, 100000#32, [],
            [⟨0, ⟨0, 0, 0, 0, 0, 0, 0, 0, 0⟩, .empty⟩], 0, 0⟩⟩
          && t.link.reply == some ⟨.done, [0x38#8, 0x21#8]⟩) = true
      ∧ runs (.openTab 0) { till with tabs := till.tabs.setIfInBounds 0 ⟨31, none⟩ } (fun t =>
          (t.tabs[0]?).map TabSlot.issue == some 0) = true := by decide

theorem witness_TabsOpenAndClose_full :
    let s := { till with tabs := Vector.replicate 32 ⟨1, some (tabWith .opened [] [])⟩ }
    (∀ j < 32, tabIn s j ≠ none) ∧ refuses (.openTab 0) s .full = true := by decide

/-- Every line finished; a line still SENT; a ticket record on the tab; a share not EMPTY. -/
theorem witness_TabsOpenAndClose_close :
    TillSlot (finished .empty) 1 2 (operator 1002 2) ∧ (tabOf (finished .empty) 14337).isSome = true
      ∧ runs (.closeTab 1 14337) (finished .empty) (fun t => t.tabs[0]? == some ⟨1, none⟩
          && t.notices.map (fun x => x.body) == [.tabFreed 14337]) = true
      ∧ runs (.closeTab 1 14337) (oneShare .opened .sent .served .empty) (fun t =>
          (tabIn t 0).map Tab.state == some .closed && t.notices == []) = true
      ∧ runs (.closeTab 1 14337) (tickets [ticket .ready by21] (finished .empty)) (fun t =>
          (tabIn t 0).map Tab.state == some .closed && t.notices == []) = true
      ∧ refuses (.closeTab 1 14337) (finished .opened) .state = true := by decide

/-- The tab where class 1 is served. -/
def served : State := hears 21 (heardAs .kitchen 1 9 100000#32) openTab

/-- The fields of a line at 500 of `qty`, of this class, restricted or not. -/
def aLine (qty cls restricted : Nat) : LineFields := ⟨[0x41#8], [], qty, 50000, 9, 501, cls, restricted⟩

/-- Clamped values, the limit of 500,000 cents met exactly and passed, and each refusal of R45. -/
theorem witness_AddLineChecksThenAppends :
    TillSlot served 0 3 (operator 1001 0) ∧ (tabOf served 14337).map Tab.gross = some 701
      ∧ runs (.addLine 0 14337 (aLine 9 8 0)) served (fun t => othersSame served t
          && (tabIn t 0).map (fun tb => (tb.gross, tb.lines.length)) == some (450701, 3)
          && t.link.reply == some ⟨.done, [2#8, 0xC3#8, 0x50#8, 0x01#8, 0xF4#8, 3#8, 0#8]⟩) = true
      ∧ runs (.addLine 0 14337 { aLine 1 1 1 with price := 49299 }) served (fun t =>
          (tabIn t 0).map Tab.gross == some 50000) = true
      ∧ refuses (.addLine 0 14337 (aLine 10 0 0)) served .limit = true
      ∧ refuses (.addLine 0 14337 (aLine 61 0 0)) served .field = true
      ∧ refuses (.addLine 0 14337 { aLine 1 0 0 with label := [] }) served .field = true
      ∧ refuses (.addLine 0 14337 { aLine 1 0 0 with note := [0x7F#8] }) served .field = true
      ∧ refuses (.addLine 0 14337 (aLine 1 2 0)) served .unserved = true
      ∧ refuses (.addLine 0 14337 (aLine 1 1 1)) { served with lastCall := true } .restricted = true
      ∧ refuses (.addLine 0 14337 (aLine 1 0 0)) (oneShare .paying .sent .served (.heldLocal 0))
        .locked = true
      ∧ refuses (.addLine 0 14337 (aLine 1 0 0)) (oneShare .closed .sent .served .empty)
        .state = true
      ∧ refuses (.addLine 0 14337 (aLine 1 0 0)) (holding (tabWith .opened
          (List.replicate 24 (beer .served)) [share 0 .empty]) till) .full = true := by decide

/-- An ENTERED line; a SENT line of an OFFERING ticket with another live, and as the last live; a SENT line
of a PLACED ticket. -/
theorem witness_VoidAndWasteByLineState_void :
    let was (st : TicketState) (live : Byte) : State :=
      tickets [{ ticket st by21 with live := live }] openTab
    TillSlot openTab 1 2 (operator 1002 2) ∧ CanSend openTab 1
      ∧ runs (.voidLine 0 14337 1) (oneShare .opened .sent .entered .opened) (fun t =>
          (tabIn t 0).map (fun tb => (tb.gross, (tb.lines[1]?).map TabLine.state))
            == some (600, some .void)
          && (slotOf t 0).map (fun r => r.totals.voids) == some 1) = true
      ∧ runs (.voidLine 1 14337 0) (was .offering 3#8) (fun t =>
          (ticketOf t 1).map Ticket.live == some 2#8
            && (tabIn t 0).map (fun tb => (tb.gross, (tb.lines[0]?).map TabLine.place))
              == some (101, some none)) = true
      ∧ runs (.voidLine 1 14337 0) (was .stranded 1#8) (fun t => t.tickets == []) = true
      ∧ runs (.voidLine 1 14337 0) (was .placed 1#8) (fun t =>
          (ticketOf t 1).map Ticket.withdrawals == some [⟨0, 1, none⟩]
            && (tabIn t 0).map (fun tb => (tb.gross, (tb.lines[0]?).map TabLine.state))
              == some (701, some .withdrawing)
            && t.line.waiting == [newItem openTab 21 (.withdraw ⟨1, 2⟩ 0) true]
            && t.link.reply == some ⟨.accepted, []⟩) = true := by decide

theorem witness_VoidAndWasteByLineState_waste :
    runs (.wasteLine 0 14337 0) (oneShare .opened .fired .served .opened) (fun t =>
        (tabIn t 0).map (fun tb => (tb.gross, (tb.lines[0]?).map fun l => (l.state, l.place)))
          == some (101, some (.waste, some (1, 0)))
        && (slotOf t 0).map (fun r => r.totals.wastes) == some 1) = true
      ∧ refuses (.wasteLine 0 14337 0) openTab .state = true
      ∧ refuses (.wasteLine 1 14337 0) openTab .level = true := by decide

theorem witness_LastCallIsAdopted :
    TillSlot till 0 1 (operator 1001 0) ∧ till.lastCall = false ∧ CanSend till 1
      ∧ runs (.lastCall 0) till (fun t => t.lastCall
          && t.line.waiting == [newItem till 127 .lastCall false]
          && t.notices == [⟨100000#32, .lastCall 14⟩]) = true
      ∧ refuses (.lastCall 0) { till with lastCall := true } .done = true
      ∧ refuses (.lastCall 0) (fullQueue till) .lineBusy = true
      ∧ refuses (.lastCall 0) { till with join := { till.join with state := .joining } } .offline = true
      ∧ Delivers kit ⟨127, 14, .lastCall⟩
      ∧ runs (.lastCallFrame 127 14) kit (fun t => t.lastCall
          && t.notices == [⟨100000#32, .lastCall 14⟩]) = true := by decide

/-- Nine shares asked for; 701 cents and the deposit of 25 in two and in eight. -/
theorem witness_SplitAssignDiscount :
    let two := holding (tabWith .opened [soup .sent none, beer .served]
      [share 363 .opened, share 363 .opened]) till
    let totals (t : State) : Option (List Nat) :=
      (tabIn t 0).map fun tb => tb.shares.map fun sh => sh.amounts.total
    TillSlot openTab 1 2 (operator 1002 2)
      ∧ runs (.split 1 14337 9) openTab (fun t =>
          (totals t).map (fun l => (l.length, l.sum)) == some (8, 726)) = true
      ∧ runs (.split 1 14337 2) openTab (fun t => totals t == some [376, 350]
          && t.link.reply == some ⟨.done, [2#8, 0#8, 0#8, 0x02#8, 0xD6#8]⟩) = true
      ∧ refuses (.split 1 14337 0) openTab .field = true
      ∧ runs (.assign 1 14337 0 1 1 [0, 0, 0, 0, 0, 0, 0, 0]) two (fun t =>
          totals t == some [126, 600]) = true
      ∧ runs (.assign 1 14337 0 2 0 [1, 10, 5, 0, 0, 0, 0, 0]) two (fun t =>
          ((tabIn t 0).bind fun tb => tb.lines[0]?).map TabLine.alloc
            == some (.weighted [1, 9, 0, 0, 0, 0, 0, 0])) = true
      ∧ runs (.discount 1 14337 1 51) two (fun t =>
          (((tabIn t 0).bind fun tb => tb.shares[1]?).map Share.discount) == some 50) = true := by decide

theorem witness_SharesDivideAndAddUp :
    0 < [1, 0, 2].sum ∧ divide 11 [1, 0, 2] = [4, 0, 7] ∧ divide 2 [1, 1, 1] = [1, 1, 0]
      ∧ (∀ sh ∈ (tabWith .opened [] [share 1 .opened, share 0 .empty]).shares,
        sh.state = .opened ∨ sh.state = .empty)
      ∧ (∃ sh ∈ (tabWith .paying [] [share 1 (.heldLocal 0)]).shares,
        sh.state ≠ .opened ∧ sh.state ≠ .empty)
      ∧ 50 ≤ 50 := by decide

theorem witness_PaymentStepSettles :
    1693 % 10 = 3 ∧ paymentStep 1693 0 1695 = .ok (.cash, 1693 + 2, 2, 0)
      ∧ paymentStep 1693 0 1694 = .error .short ∧ paymentStep 1 0 0 = .ok (.cash, 0, -1, 0)
      ∧ paymentStep 1 2 5 = .error .field := by decide

/-! ## Witnesses: tickets -/

/-- Nine soups and a beer ENTERED, or nine soups with thirty records held. -/
def toSend : State :=
  holding (tabWith .opened (beer .entered :: List.replicate 9 (soup .entered none))
    [share 0 .opened]) till

theorem witness_SendCutsTicketsAndOffers :
    TillSlot toSend 0 3 (operator 1001 0)
      ∧ (tabOf toSend 14337).map ticketsNeeded = some [(1, [1, 2, 3, 4, 5, 6, 7, 8]), (1, [9])]
      ∧ CanSend toSend 2
      ∧ runs (.send 0 14337 1) toSend (fun t =>
          t.tickets.map (fun k => (k.number, k.positions, k.live, k.priority))
            == [(1, [1, 2, 3, 4, 5, 6, 7, 8], 0xFF#8, .rush), (2, [9], 1#8, .rush)]
          && (tabIn t 0).map (fun tb => tb.lines.map fun l => (l.state, l.place))
            == some ((.served, none) :: ([0, 1, 2, 3, 4, 5, 6, 7].map fun p =>
              (.sent, some (1, p))) ++ [(.sent, some (2, 0))])
          && t.line.waiting.length == 2
          && t.link.reply == some ⟨.done, [2#8, 0#8, 1#8, 0#8, 2#8]⟩) = true := by decide

theorem witness_SendCutsTicketsAndOffers_room :
    let held (n : Nat) : State :=
      tickets ((List.range n).map fun i => { ticket .fired by21 with number := i + 1 }) toSend
    (held 30).tickets.length + 2 ≤ 32
      ∧ runs (.send 0 14337 0) (held 30) (fun t => t.tickets.length == 32) = true
      ∧ refuses (.send 0 14337 0) (held 31) .full = true
      ∧ (sendOffer 1 offering).line.waiting
        = [newItem offering 65 (.offer ⟨⟨1, 2⟩, 1, .normal, 0,
            [⟨2, [0x53#8], []⟩, ⟨1, [0x42#8], []⟩]⟩) true] := by decide

/-- The first ticket of a fired or ready state whose awardee is lost this way. -/
def lostTicket (lost : Option Lost) : State :=
  tickets [{ ticket .fired by21 with lost := lost, gen := 15 }] openTab

theorem witness_RetryAndCollectTickets_retry :
    let stranded := tickets [{ ticket .stranded none with attempt := 4 }] openTab
    TillSlot stranded 0 3 (operator 1001 0) ∧ CanSend stranded 1
      ∧ runs (.retryTicket 0 1) stranded (fun t =>
          ticketOf t 1 == some (ticket .offering none) && t.line.waiting.length == 1) = true
      ∧ runs (.retryTicket 0 1) (lostTicket (some .silent)) (fun t =>
          ticketOf t 1 == some { ticket .offering none with gen := 0, stale := some ⟨21, 9, 15⟩ }
          && t.notices.map (fun x => x.body)
            == [.reissued ⟨1, 0⟩ 14337 (some 21) .retrySilent]) = true
      ∧ runs (.retryTicket 0 1) (lostTicket (some .restarted)) (fun t =>
          (ticketOf t 1).map Ticket.stale == some none) = true
      ∧ refuses (.retryTicket 0 1) (lostTicket none) .state = true := by decide

theorem witness_RetryAndCollectTickets_collect :
    let s := tickets [ticket .ready by21, { ticket .offering none with number := 2 }]
      (oneShare .opened .ready .served .opened)
    TillSlot s 0 3 (operator 1001 0) ∧ CanSend s 1 ∧ (tabIn s 0).map Tab.state = some .opened
      ∧ runs (.collect 0 1) s (fun t => t.tickets.map Ticket.number == [2]
          && t.line.waiting == [newItem s 21 (.collect ⟨1, 2⟩) false]
          && (tabIn t 0).map (fun tb => tb.lines.map TabLine.state) == some [.served, .served])
        = true := by decide

theorem witness_TicketWaitsRunOut_offer :
    let s (attempt : Nat) : State := tickets [{ ticket .offering none with
      attempt := attempt, wait := .offerWindow 99850#32 }] openTab
    Due (s 3) 99850#32 150 ∧ CanSend (s 3) 1 ∧ freeTx (fullQueue (s 3)) = 0
      ∧ runs (.offerWindowExpiry 1) (s 3) (fun t =>
          ticketOf t 1 == some { ticket .offering none with attempt := 4 }
            && t.line.waiting.length == 1) = true
      ∧ runs (.offerWindowExpiry 1) (fullQueue (s 3)) (fun t => ticketOf t 1
          == some { ticket .offering none with attempt := 4, wait := .offerWindow (now t) }) = true
      ∧ runs (.offerWindowExpiry 1) (s 4) (fun t =>
          ticketOf t 1 == some { ticket .stranded none with attempt := 4 }
            && t.notices.map (fun x => x.body) == [.stranded ⟨1, 2⟩ 14337]) = true := by decide

theorem witness_TicketWaitsRunOut_award :
    let s (repeats : Nat) : State := tickets [{ ticket .placing by21 with
      repeats := repeats, wait := .awardWait 99700#32 }] openTab
    Due (s 1) 99700#32 300 ∧ CanSend (s 2) 2
      ∧ runs (.awardWaitExpiry 1) (s 1) (fun t =>
          ticketOf t 1 == some { ticket .placing by21 with repeats := 2 }
            && t.line.waiting == [newItem (s 1) 21 (.award ⟨1, 2⟩ 21 3#8) true]) = true
      ∧ runs (.awardWaitExpiry 1) (s 2) (fun t =>
          ticketOf t 1 == some { ticket .offering none with gen := 3 }
            && t.line.waiting.map (fun x => x.frame.dest) == [65, 21]
            && t.notices.map (fun x => x.body)
              == [.reissued ⟨1, 3⟩ 14337 (some 21) .awardExhausted]) = true := by decide

theorem witness_TicketWaitsRunOut_withdraw :
    let s (attempt : Nat) : State := tickets [{ ticket .placed by21 with
      withdrawals := [⟨0, attempt, some 99800#32⟩] }] (oneShare .opened .withdrawing .served .opened)
    Due (s 2) 99800#32 200 ∧ CanSend (s 2) 1
      ∧ runs (.withdrawReplyWaitExpiry 1 0) (s 2) (fun t =>
          (ticketOf t 1).map Ticket.withdrawals == some [⟨0, 3, none⟩]
            && t.line.waiting == [newItem (s 2) 21 (.withdraw ⟨1, 2⟩ 0) true]) = true
      ∧ runs (.withdrawReplyWaitExpiry 1 0) (s 3) (fun t =>
          (ticketOf t 1).map Ticket.withdrawals == some []
            && (tabIn t 0).map (fun tb => tb.lines.map TabLine.state) == some [.sent, .served]
            && t.notices.map (fun x => x.body) == [.withdrawFailed ⟨1, 2⟩ 14337 0]) = true := by decide

theorem witness_FirstBidTakesTheTicket :
    let s (st : TicketState) (a : Option Awardee) : State :=
      hears 21 (heardAs .kitchen 1 9 0#32)
        (tickets [{ ticket st a with stale := some ⟨21, 8, 1⟩ }] openTab)
    TillDelivers (s .stranded none) ⟨65, 21, .bid 14 ⟨1, 2⟩ 3⟩ ∧ CanSend (s .stranded none) 1
      ∧ runs (.bid 65 21 14 ⟨1, 2⟩ 3) (s .stranded none) (fun t =>
          ticketOf t 1 == some (ticket .placing by21)
            && t.line.waiting == [newItem (s .stranded none) 65 (.award ⟨1, 2⟩ 21 3#8) true]) = true
      ∧ runs (.bid 65 20 14 ⟨1, 2⟩ 3) (s .placed by21) (fun t =>
          ticketOf t 1 == ticketOf (s .placed by21) 1
            && t.line.waiting
              == [newItem (s .placed by21) 20 (.award ⟨1, 2⟩ 21 3#8) false]) = true
      ∧ runs (.bid 65 21 14 ⟨1, 3⟩ 3) (s .offering none) (fun t =>
          t == arrived ⟨65, 21, .bid 14 ⟨1, 3⟩ 3⟩ (s .offering none)) = true
      ∧ TillDelivers (s .offering none) ⟨65, 21, .bid 15 ⟨1, 2⟩ 3⟩
      ∧ runs (.bid 65 21 15 ⟨1, 2⟩ 3) (s .offering none) (fun t =>
          t == arrived ⟨65, 21, .bid 15 ⟨1, 2⟩ 3⟩ (s .offering none)) = true := by decide

/-- The taken cells of Table 4-3 from PLACING, and a stale report. -/
theorem witness_ProgressAndWithdrawReplies_progress :
    let s (st : TicketState) : State := tickets [ticket st by21] openTab
    let said (st : TicketState) (ks : KitchenState) (p : Ticket → Bool) (l : TabLineState) : Bool :=
      runs (.progress 14 21 ⟨1, 2⟩ ks 3#8) (s st) fun t => (ticketOf t 1).any p
        && (tabIn t 0).map (fun tb => tb.lines.map TabLine.state) == some [l, .served]
    TillDelivers (s .placing) ⟨14, 21, .progress ⟨1, 2⟩ .queued 3#8⟩ ∧ CanSend (s .placing) 1
      ∧ (said .placing .queued (fun k => k.state == .placed && k.placed == some 100000#32) .sent
        && said .placing .fired (fun k => k.state == .fired && k.placed == some 100000#32) .fired
        && said .placing .ready (fun k => k.state == .ready && k.ready == some 100000#32) .ready
        && said .placing .late (fun k => k.state == .placed && k.late) .sent
        && said .placed .fired (fun k => k.state == .fired && k.placed == none) .fired
        && said .placed .ready (fun k => k.state == .ready && k.ready == some 100000#32) .ready
        && said .ready .late (fun k => k.state == .ready && k.late) .sent
        && said .ready .fired (fun k => k.state == .ready) .sent) = true
      ∧ runs (.progress 14 20 ⟨1, 2⟩ .fired 3#8) (s .placed) (fun t =>
          (ticketOf t 1).map Ticket.state == some .placed
            && t.line.waiting == [newItem (s .placed) 20 (.revoke ⟨1, 2⟩) false]) = true := by decide

theorem witness_ProgressAndWithdrawReplies_reply :
    let s (st : TicketState) : State := tickets [{ ticket st by21 with
      withdrawals := [⟨0, 1, none⟩] }] (oneShare .opened .withdrawing .served .opened)
    TillDelivers (s .placed) ⟨14, 21, .withdrawReply ⟨1, 2⟩ 0 .removed false⟩
      ∧ runs (.withdrawReply 14 21 ⟨1, 2⟩ 0 .removed false) (s .placed) (fun t =>
          ticketOf t 1 == some { ticket .placed by21 with live := 2#8 }
            && (tabIn t 0).map Tab.gross == some 101) = true
      ∧ runs (.withdrawReply 14 21 ⟨1, 2⟩ 0 .fired false) (s .ready) (fun t =>
          ticketOf t 1 == some (ticket .ready by21)
            && (tabIn t 0).map (fun tb => tb.lines.map TabLine.state) == some [.fired, .served]
            && t.notices.map (fun x => x.body) == [.withdrawRefused ⟨1, 2⟩ 14337 0]) = true
      ∧ runs (.withdrawReply 14 21 ⟨1, 2⟩ 0 .fired false) (s .placing) (fun t =>
          (ticketOf t 1).map Ticket.state == some .fired) = true
      ∧ runs (.withdrawReply 14 21 ⟨1, 2⟩ 1 .removed false) (s .placed) (fun t =>
          t == arrived ⟨14, 21, .withdrawReply ⟨1, 2⟩ 1 .removed false⟩ (s .placed)) = true := by decide

/-! ## Witnesses: settlement -/

/-- Tab 14-00-01 PAYING with share 0 as given and share 1 OPEN or as given. -/
def twoShares (a b : ShareState) : State :=
  holding (tabWith .paying [soup .sent none, beer .served] [share 376 a, share 351 b]) till

def tabStates (t : State) : Option (TabState × List ShareState) :=
  (tabIn t 0).map fun tb => (tb.state, tb.shares.map Share.state)

theorem witness_LocalHolds :
    TillSlot openTab 1 2 (operator 1002 2)
      ∧ runs (.take 1 14337 0) openTab (fun t => tabStates t == some (.paying, [.heldLocal 1])
          && t.link.reply == some ⟨.done, amountsBytes (share 726 .opened).amounts⟩) = true
      ∧ runs (.giveBack 1 14337 0) (twoShares (.heldLocal 1) (.heldLocal 0)) (fun t =>
          tabStates t == some (.paying, [.opened, .heldLocal 0])) = true
      ∧ runs (.giveBack 1 14337 0) (twoShares (.heldLocal 1) .opened) (fun t =>
          tabStates t == some (.opened, [.opened, .opened])) = true
      ∧ runs (.forceRelease 0 14337 0) (twoShares (.adrift 22 9 .silent) .opened) (fun t =>
          tabStates t == some (.opened, [.opened, .opened])
            && t.notices.map (fun x => x.body) == [.shareReleased 14337 0 22 .silent]) = true := by
  decide

/-- 351 in cash is 350 with adjustment -1; the last share to be paid closes the tab, and frees it when
every line is finished. -/
theorem witness_PaymentsSettleShares_local :
    let paid : Payment := ⟨.card, 376, 0, 14, some 1001, 7#32⟩
    let done : State := holding (tabWith .paying [soup .served none, beer .void]
      [share 376 (.paid paid), share 351 (.heldLocal 1)]) till
    paymentStep 351 0 400 = .ok (.cash, 350, -1, 50)
      ∧ runs (.pay 1 14337 1 0 400) (twoShares .opened (.heldLocal 1)) (fun t =>
          tabStates t == some (.paying, [.opened, .paid ⟨.cash, 350, -1, 14, some 1002, 100000#32⟩])
            && (slotOf t 1).map SlotRecord.totals == some ⟨350, 0, -1, 1, 0, 0⟩
            && t.link.reply == some ⟨.done,
              [0#8, 0#8, 0x01#8, 0x5E#8, 0xFF#8, 0#8, 0#8, 0#8, 0x32#8]⟩) = true
      ∧ runs (.pay 1 14337 1 1 0) (twoShares (.paid paid) (.heldLocal 1)) (fun t =>
          (tabStates t).map Prod.fst == some .closed && t.notices == []
            && (slotOf t 1).map SlotRecord.totals == some ⟨0, 351, 0, 1, 0, 0⟩) = true
      ∧ runs (.pay 1 14337 1 1 0) done (fun t => t.tabs[0]? == some ⟨1, none⟩
          && t.notices.map (fun x => x.body) == [.tabFreed 14337]) = true := by decide

theorem witness_PaymentsSettleShares_borrowed :
    let s := borrowing { lent .borrowed (.hold 0#32) with taken := none } till
    TillSlot s 0 2 (operator 1001 0) ∧ codeHome 22529 ≠ station s ∧ CanSend s 1
      ∧ runs (.pay 0 22529 0 0 305) s (fun t =>
          borrowedOf t 22529 0 == some { lent .confirming .none with
            taken := some ⟨.cash, 300, 0⟩, paid := some 100000#32 }
          && t.line.waiting == [newItem s 22 (.shareSettle 22529 0 .cash 300 0) true]) = true
      ∧ runs (.giveBack 0 22529 0) s (fun t =>
          (borrowedOf t 22529 0).map Borrowed.state == some .returning
          && t.line.waiting == [newItem s 22 (.shareReturn 22529 0) true]) = true := by decide

theorem witness_BorrowingStartsAndEnds :
    let s := hears 22 { heardAs .till 0 4 0#32 with silent := true } till
    codeHome (62 * 1024) = 62 ∧ codeHome (63 * 1024) = 63 ∧ CanSend s 1
      ∧ runs (.takeRemote 0 22529 0) s (fun t =>
          t.borrowed == [{ lent .asking .none with
            homeSilent := true, amounts := none, taken := none, created := 100000#32 }]
          && t.line.waiting == [newItem s 22 (.shareAsk 22529 0) true]
          && t.link.reply == some ⟨.accepted, []⟩) = true
      ∧ refuses (.takeRemote 0 (63 * 1024) 0) s .field = true
      ∧ refuses (.takeRemote 0 1023 0) s .field = true ∧ refuses (.takeRemote 0 14337 0) s .field = true
      ∧ runs (.takeRemote 0 (62 * 1024) 7) s (fun t => t.borrowed.length == 1) = true
      ∧ runs (.clearOrphan 0 22529 0) (borrowing (lent .orphaned .none) till) (fun t =>
          t.borrowed == [] && t.link.reply
            == some ⟨.done, [1#8, 0#8, 0#8, 0x01#8, 0x2C#8, 0#8]⟩) = true
      ∧ refuses (.clearOrphan 0 22529 0) (borrowing (lent .borrowed .none) till) .state = true := by
  decide

/-- Each check of R140 in turn, and the grants of R141. -/
theorem witness_AskIsDeniedOrGranted :
    let on (s : State) : State := hears 22 (heardAs .till 0 4 0#32) s
    let denies (s : State) (code i : Nat) (why : DenyReason) : Bool :=
      runs (.shareAsk 14 22 code i) (on s) fun t => t.tabs == s.tabs
        && t.line.waiting == [newItem s 22 (.shareDeny code i why) false]
    let grants (s : State) (after : List ShareState) (said : List NoticeBody) : Bool :=
      runs (.shareAsk 14 22 14337 0) (on s) fun t => tabStates t == some (.paying, after)
        && t.line.waiting
          == [newItem s 22 (.shareGrant 14337 0 (share (if after.length == 1 then 726 else 376)
            .opened).amounts) false] && t.notices.map (fun x => x.body) == said
    TillDelivers (on openTab) ⟨14, 22, .shareAsk 14337 0⟩ ∧ CanSend (on openTab) 1
      ∧ (denies openTab 0 0 .null && denies openTab 22529 0 .wrongHome
        && denies openTab 14369 0 .absent && denies openTab 14338 0 .stale
        && denies openTab 14337 1 .range && denies (finished .empty) 14337 0 .settled
        && denies (twoShares (.heldLocal 0) .opened) 14337 0 .held
        && denies (twoShares (.heldRemote 22 3) .opened) 14337 0 .held
        && denies (twoShares (.adrift 21 4 .silent) .opened) 14337 0 .held
        && denies (oneShare .opened .withdrawing .served .opened) 14337 0 .pending) = true
      ∧ (grants openTab [.heldRemote 22 4] []
        && grants (twoShares (.heldRemote 22 4) .opened) [.heldRemote 22 4, .opened] []
        && grants (twoShares (.adrift 22 0 .silent) .opened) [.heldRemote 22 4, .opened]
          [.shareRecovered 14337 0 22 4]) = true := by decide

/-- 376 by card, in agreement and not; repeated; from a station that does not hold the share; for no
tab. -/
theorem witness_HomeRecordsSettlements_settle :
    let s := twoShares (.heldRemote 22 4) .opened
    let paid : Payment := ⟨.card, 376, 0, 22, none, 100000#32⟩
    let answers (s : State) (code settled : Nat) (o : CloseOutcome) (after : Option (List ShareState))
        (said : List NoticeBody) : Bool :=
      runs (.shareSettle 14 22 code 0 .card settled 0) s fun t =>
        (tabStates t).map Prod.snd == after && t.notices.map (fun x => x.body) == said
          && t.line.waiting == [newItem s 22 (.shareClose code 0 o) false]
    TillDelivers s ⟨14, 22, .shareSettle 14337 0 .card 376 0⟩ ∧ CanSend s 1
      ∧ paymentStep 376 (Tender.code .card) 376 = .ok (.card, 376, 0, 0)
      ∧ (answers s 14337 376 .paidRecorded (some [.paid paid, .opened])
            [.remotePaid 14337 0 22 .card 376]
        && answers (twoShares (.paid paid) .opened) 14337 376 .paidRecorded
            (some [.paid paid, .opened]) []
        && answers s 14337 375 .conflict (some [.heldRemote 22 4, .opened])
            [.conflict 14337 0 22 .card 375 3#8]
        && answers (twoShares .opened .opened) 14337 376 .conflict (some [.opened, .opened])
            [.conflict 14337 0 22 .card 376 0#8]) = true
      ∧ tabOf till 14337 = none := by decide

theorem witness_HomeRecordsSettlements_noTab :
    runs (.shareSettle 14 22 14337 0 .card 376 0) till (fun t => t.notices.length == 1
      && t.line.waiting == [newItem till 22 (.shareClose 14337 0 .conflict) false]) = true := by decide

theorem witness_HomeRecordsSettlements_return :
    let s := twoShares (.adrift 22 4 .restarted) .opened
    TillDelivers s ⟨14, 22, .shareReturn 14337 0⟩ ∧ CanSend s 1
      ∧ runs (.shareReturn 14 22 14337 0) s (fun t =>
          tabStates t == some (.opened, [.opened, .opened])
            && t.notices.map (fun x => x.body) == [.remoteReturned 14337 0 22]
            && t.line.waiting == [newItem s 22 (.shareClose 14337 0 .returnRecorded) false]) = true
      ∧ runs (.shareReturn 14 21 14337 0) s (fun t => t.tabs == s.tabs && t.notices == []
          && t.line.waiting == [newItem s 21 (.shareClose 14337 0 .returnRecorded) false]) = true := by
  decide

theorem witness_BorrowerTakesAnswers :
    let s (st : BorrowedState) : State := borrowing (lent st .none) till
    let said (c : Instr) (s : State) (l : List NoticeBody) (st : List BorrowedState) : Bool :=
      runs c s fun t => t.notices.map (fun x => x.body) == l && t.borrowed.map Borrowed.state == st
    let a : Amounts := ⟨300, 0, 300, 0, 0, 0, 0, 0, 300⟩
    codeHome 22529 = 22 ∧ TillDelivers (s .asking) ⟨14, 22, .shareGrant 22529 0 a⟩
      ∧ TillDelivers (s .asking) ⟨14, 22, .shareDeny 22529 0 .pending⟩
      ∧ TillDelivers (s .confirming) ⟨14, 22, .shareClose 22529 0 .conflict⟩
      ∧ (said (.shareGrant 14 22 22529 0 a) (s .asking) [.shareGranted 22529 0 300] [.borrowed]
        && said (.shareDeny 14 22 22529 0 .pending) (s .asking) [.shareDenied 22529 0 .pending] []
        && said (.shareClose 14 22 22529 0 .paidRecorded) (s .confirming)
          [.settleConfirmed 22529 0 .card 300] []
        && said (.shareClose 14 22 22529 0 .returnRecorded) (s .returning)
          [.returnConfirmed 22529 0] []
        && said (.shareClose 14 22 22529 0 .conflict) (s .confirming)
          [.settleConflict 22529 0 0 .card 300] [.orphaned]) = true
      ∧ runs (.shareGrant 14 22 22529 1 a) (s .asking) (fun t =>
          t.line.waiting == [newItem till 22 (.shareReturn 22529 1) false]) = true := by decide

theorem witness_BorrowerWaitsRunOut :
    let ask (n : Nat) : State :=
      borrowing { lent .asking (.ask 99700#32) with attempts := n } till
    let hold : State := borrowing (lent .borrowed (.hold 0#32))
      { till with clock := { till.clock with time := 180000#32 } }
    let again (silent : Bool) : State :=
      borrowing { lent .returning (.again 99000#32) with homeSilent := silent } till
    let x := newItem till 22 (.shareReturn 22529 0) true
    Due (ask 2) 99700#32 300 ∧ Due hold 0#32 180000 ∧ Due (again false) 99000#32 1000
      ∧ runs (.askWaitExpiry 22529 0) (ask 2) (fun t => t.line.waiting.length == 1
          && (borrowedOf t 22529 0).map Borrowed.attempts == some 3) = true
      ∧ runs (.askWaitExpiry 22529 0) (ask 3) (fun t => t.borrowed == []
          && t.notices.map (fun n => n.body) == [.askFailed 22529 0]) = true
      ∧ runs (.holdLimitExpiry 22529 0) hold (fun t => t.line.waiting == [x]
          && (borrowedOf t 22529 0).map Borrowed.state == some .returning
          && t.notices.map (fun n => n.body) == [.holdExpired 22529 0 0]) = true
      ∧ runs (.repeatWaitExpiry 22529 0) (again false) (fun t => t.line.waiting == [x]
          && (borrowedOf t 22529 0).map Borrowed.attempts == some 2) = true
      ∧ ofBorrowed 22529 0 x = true
      ∧ runs (.repeatWaitExpiry 22529 0) (waiting [x] (again false)) (fun t => t.line.waiting == [x]
          && (borrowedOf t 22529 0).map Borrowed.wait == some (.again (now t))) = true
      ∧ runs (.repeatWaitExpiry 22529 0) (again true) (fun t => t.line.waiting == []
          && (borrowedOf t 22529 0).map Borrowed.paused == some true) = true := by decide

/-! ## Witnesses: the kitchen queue -/

def offered : OfferFields := ⟨⟨1, 2⟩, 1, .rush, 0, [⟨2, [0x53#8], []⟩]⟩

/-- Twenty-three other entries FIRED or twenty-four. -/
def fullKitchen (n : Nat) : State :=
  entries ((List.range n).map fun i => { entry .fired none with number := 100 + i }) kit

theorem witness_OffersStartBids :
    KitchenDelivers (fullKitchen 23) ⟨65, 14, .offer offered⟩
      ∧ entryOf (fullKitchen 23) 14 1 = none
      ∧ runs (.offer 65 14 offered) (fullKitchen 23) (fun t => t.kitchen.entries.length == 24
          && (entryOf t 14 1).map (fun e => (e.state, e.bid.map Bid.stage))
            == some (.tentative, some (.delay 100000#32 71))) = true
      ∧ runs (.offer 65 14 { offered with priority := .normal }) kit (fun t =>
          (entryOf t 14 1).map (fun e => (e.mark, e.bid.map Bid.stage))
            == some (0, some (.delay 100000#32 4))) = true
      ∧ stays (.offer 65 14 offered) (fullKitchen 24) = true
      ∧ stays (.offer 66 14 { offered with cls := 2 }) kit = true
      ∧ stays (.offer 65 14 offered) { kit with port := { kit.port with state := .latched } } = true
      ∧ stays (.offer 65 14 offered) (entries [entry .queued none] kit) = true := by decide

theorem witness_BidsRunOut :
    let s (st : EntryState) (b : BidStage) : State := entries [entry st (some (bidIn b))] kit
    Due kit 99996#32 4 ∧ Due kit 99600#32 400 ∧ CanSend kit 1
      ∧ runs (.bidDelayExpiry 14 1) (s .tentative (.delay 99996#32 4)) (fun t =>
          (entryOf t 14 1).bind (fun e => e.bid.map Bid.stage) == some .queued
            && t.line.waiting == [newItem kit 65 (.bid 14 ⟨1, 2⟩ 1) true]) = true
      ∧ runs (.tentativeExpiry 14 1) (s .tentative (.awaiting 99600#32)) (fun t =>
          t.kitchen.entries == [] && t.kitchen.lapsed.map (fun l => (l.number, l.lines))
            == [(1, (entry .tentative none).lines)]) = true
      ∧ runs (.tentativeExpiry 14 1) (s .fired (.awaiting 99600#32)) (fun t =>
          t.kitchen.entries == [entry .fired none]
            && t.kitchen.lapsed.map (fun l => (l.number, l.lines)) == [(1, [])]) = true := by decide

theorem witness_BidsRunOut_lapsedAndHeard :
    let l (n : Nat) : Lapsed := ⟨14, 7, n, 2, .normal, [], 98000#32⟩
    let s := { kit with kitchen := { kit.kitchen with lapsed := [l 1, l 2] } }
    let b (st : BidStage) : State := entries [entry .tentative (some (bidIn st))] kit
    Due s 98000#32 2000 ∧ (s.kitchen.lapsed.map fun l => (l.origin, l.number)).Nodup
      ∧ runs (.lapsedItemExpiry 14 2) s (fun t => t.kitchen.lapsed == [l 1]) = true
      ∧ KitchenDelivers kit ⟨65, 22, .bid 14 ⟨1, 2⟩ 3⟩
      ∧ runs (.bidHeardAtKitchen 65 22 14 ⟨1, 2⟩ 3) (b (.delay 99999#32 4)) (fun t =>
          t.kitchen.entries == []) = true
      ∧ stays (.bidHeardAtKitchen 65 22 14 ⟨1, 2⟩ 3) (b (.awaiting 99999#32)) = true := by decide

/-- The award of one of two lines, with three entries FIRED. -/
theorem witness_AwardsAreAnswered_accepted :
    let s := entries (entry .tentative (some (bidIn (.awaiting 99999#32)))
      :: ((List.range 3).map fun i => { entry .fired none with number := 100 + i })) kit
    KitchenDelivers s ⟨65, 14, .award ⟨1, 2⟩ 21 2#8⟩ ∧ CanSend s 1 ∧ passAt s 14 ⟨1, 2⟩ = none
      ∧ s.join.figures.fire ≤ cookingCount s
      ∧ runs (.award 65 14 ⟨1, 2⟩ 21 2#8) s (fun t =>
          (entryOf t 14 1).map (fun e => (e.state, e.arrival, e.seq, e.lines.map KitchenLine.live))
            == some (.queued, some 100000#32, 1, [false, true])
          && t.line.waiting == [newItem s 14 (.progress ⟨1, 2⟩ .queued 2#8) false]
          && t.notices.map (fun x => x.body) == [.ticketAccepted 14 ⟨1, 2⟩ .normal 1]) = true := by
  decide

theorem witness_AwardsAreAnswered_others :
    let s (st : EntryState) (b : Option Bid) : State := entries [entry st b] kit
    entryOf kit 14 1 = none ∧ lapsedAt kit 14 ⟨1, 2⟩ = none
      ∧ runs (.award 65 14 ⟨1, 2⟩ 21 3#8) kit (fun t =>
          t.line.waiting == [newItem kit 14 (.progress ⟨1, 2⟩ .refused 0#8) false]
            && t.notices.map (fun x => x.body) == [.ticketRefused 14 ⟨1, 2⟩]) = true
      ∧ runs (.award 65 14 ⟨1, 2⟩ 21 3#8) (s .fired none) (fun t =>
          t.line.waiting == [newItem kit 14 (.progress ⟨1, 2⟩ .fired 3#8) false]) = true
      ∧ stays (.award 65 14 ⟨1, 2⟩ 21 3#8) (s .revokedFired none) = true
      ∧ KitchenDelivers (s .tentative (some (bidIn .queued))) ⟨65, 14, .award ⟨1, 2⟩ 20 3#8⟩
      ∧ runs (.award 65 14 ⟨1, 2⟩ 20 3#8) (waiting [newItem kit 65 (.bid 14 ⟨1, 2⟩ 1) true]
          (s .tentative (some (bidIn .queued)))) (fun t => t.kitchen.entries == []
            && t.line.waiting == []) = true := by decide

theorem witness_WithdrawRevokeCollect_withdraw :
    let s (st : EntryState) : State := entries [entry st none] kit
    KitchenDelivers (s .queued) ⟨21, 14, .withdraw ⟨1, 2⟩ 0⟩ ∧ CanSend (s .queued) 1
      ∧ runs (.withdraw 21 14 ⟨1, 2⟩ 0) (s .queued) (fun t =>
          (entryOf t 14 1).map (fun e => e.lines.map KitchenLine.live) == some [false, true]
            && t.line.waiting == [newItem kit 14 (.withdrawReply ⟨1, 2⟩ 0 .removed false) false]
            && t.notices.map (fun x => x.body) == [.lineWithdrawn 14 ⟨1, 2⟩ 0]) = true
      ∧ runs (.withdraw 21 14 ⟨1, 2⟩ 7) (s .revokedFired) (fun t =>
          t.kitchen == (s .revokedFired).kitchen
            && t.line.waiting == [newItem kit 14 (.withdrawReply ⟨1, 2⟩ 7 .fired false) false]) = true
      ∧ runs (.withdraw 21 14 ⟨1, 2⟩ 7) kit (fun t =>
          t.line.waiting == [newItem kit 14 (.withdrawReply ⟨1, 2⟩ 7 .unknown false) false]) = true := by
  decide

theorem witness_WithdrawRevokeCollect_revoke :
    let s (st : EntryState) : State := entries [entry st none] kit
    KitchenDelivers (s .fired) ⟨21, 14, .revoke ⟨1, 2⟩⟩ ∧ lapsedAt (s .fired) 14 ⟨1, 2⟩ = none
      ∧ runs (.revoke 21 14 ⟨1, 2⟩) (s .fired) (fun t =>
          (entryOf t 14 1).map Entry.state == some .revokedFired
            && t.notices.map (fun x => x.body) == [.revokedWhileFired 14 ⟨1, 2⟩ .revoke]) = true
      ∧ stays (.revoke 21 14 ⟨1, 2⟩) (s .revokedFired) = true
      ∧ (∀ x ∈ (s .queued).kitchen.entries, x.state = .queued → x.origin = 14 ∧ x.number = 1)
      ∧ runs (.revoke 21 14 ⟨1, 2⟩) (s .queued) (fun t => t.kitchen.entries == []
          && t.notices.map (fun x => x.body) == [.revoked 14 ⟨1, 2⟩ .revoke]) = true
      ∧ stays (.revoke 21 14 ⟨1, 2⟩) kit = true := by decide

/-- A pass entry of ticket 1 bumped at this time after so many sends. -/
def onPass (bumped : Time) (sends : Nat) (s : State) : State :=
  { s with kitchen := { s.kitchen with pass := [⟨14, 7, 1, 2, 3#8, bumped, sends, false⟩] } }

theorem witness_WithdrawRevokeCollect_collect :
    let s := entries [entry .fired none]
      { kit with port := { kit.port with list := [⟨14, 1, false⟩, ⟨14, 2, false⟩] } }
    KitchenDelivers kit ⟨21, 14, .collect ⟨1, 2⟩⟩
      ∧ (∀ e ∈ s.kitchen.entries, e.state ≠ .queued)
      ∧ runs (.collectFrame 21 14 ⟨1, 2⟩) (onPass 0#32 3 kit) (fun t => t.kitchen.pass == []
          && t.notices.map (fun x => x.body) == [.ticketCollected 14 ⟨1, 2⟩]) = true
      ∧ runs (.collectFrame 21 14 ⟨1, 2⟩) s (fun t => t.kitchen.entries == []
          && t.port.list == [⟨14, 2, false⟩]) = true
      ∧ stays (.collectFrame 21 14 ⟨1, 2⟩) kit = true := by decide

theorem witness_EntryTimersAndPassRepeats_entry :
    let s (st : EntryState) (n : Nat) : State :=
      entries ({ entry st none with arrival := some 0#32 }
        :: (List.range n).map fun i => { entry .fired none with number := 100 + i })
        { kit with clock := { kit.clock with time := 480000#32 } }
    Due (s .fired 0) 0#32 (1000 * (s .fired 0).join.figures.late) ∧ CanSend (s .fired 0) 1
      ∧ (s .queued 3).join.figures.fire ≤ cookingCount (s .queued 3)
      ∧ runs (.warnTimerExpiry 14 1) (s .queued 0) (fun t =>
          (entryOf t 14 1).map Entry.warn == some true
            && t.notices.map (fun x => x.body) == [.warn 14 ⟨1, 2⟩ .queued 0#32]) = true
      ∧ runs (.lateTimerExpiry 14 1) (s .fired 0) (fun t =>
          (entryOf t 14 1).map (fun e => (e.late, e.band)) == some (true, .normal)
            && t.line.waiting == [newItem kit 14 (.progress ⟨1, 2⟩ .late 3#8) false]) = true
      ∧ runs (.lateTimerExpiry 14 1) (s .queued 3) (fun t =>
          (entryOf t 14 1).map (fun e => (e.late, e.band, e.state))
            == some (true, .rush, .queued)) = true := by decide

theorem witness_EntryTimersAndPassRepeats_pass :
    let s (bumped : Time) (n : Nat) : State :=
      onPass bumped n { kit with clock := { kit.clock with time := 600000#32 } }
    Due (s 598000#32 1) 598000#32 2000 ∧ Due (s 0#32 3) 0#32 600000 ∧ CanSend (s 598000#32 1) 1
      ∧ runs (.passReadyRepeat 14 1) (s 598000#32 1) (fun t =>
          t.kitchen.pass.map PassEntry.sends == [2]
            && t.line.waiting == [newItem kit 14 (.progress ⟨1, 2⟩ .ready 3#8) false]) = true
      ∧ runs (.passReadyRepeat 14 1) (s 594000#32 2) (fun t =>
          t.kitchen.pass.map PassEntry.sends == [3]) = true
      ∧ stays (.passReadyRepeat 14 1) (s 594000#32 3) = true
      ∧ runs (.passExpiry 14 1) (s 0#32 3) (fun t => t.kitchen.pass == []
          && t.notices.map (fun x => x.body) == [.passExpired 14 ⟨1, 2⟩]) = true := by decide

/-- A rush entry fires before an earlier one of the normal band. -/
theorem witness_AutoFireFillsTheCapacity :
    let s := entries [entry .queued none, { entry .queued none with
      number := 2, band := .rush, arrival := some 95000#32, seq := 2 }] kit
    (s.kitchen.entries.map fun e => (e.origin, e.number)).Nodup
      ∧ (nextToFire s).map Entry.number = some 2 ∧ cookingCount (autoFire s) = 2
      ∧ (let p := { s with port := { s.port with state := .sending } }
         entryOf p 14 1 = some (entry .queued none) ∧ CanSend p 1
           ∧ (fireEntry (entry .queued none) p).port.list = [⟨14, 1, false⟩]) := by decide

theorem witness_BumpMovesToThePass :
    let s (st : EntryState) : State := entries [entry st none] (onPass 0#32 1
      { kit with port := { kit.port with list := [⟨14, 1, false⟩] } })
    KitchenSlot (s .fired) 0 (operator 1001 0) ∧ CanSend (s .fired) 1
      ∧ (∀ x ∈ (s .fired).kitchen.entries, x.state ≠ .queued)
      ∧ runs (.bump 0 14 1) (s .fired) (fun t => t.kitchen.entries == [] && t.port.list == []
          && t.kitchen.pass == [⟨14, 7, 1, 2, 3#8, 100000#32, 1, false⟩]
          && t.line.waiting == [newItem kit 14 (.progress ⟨1, 2⟩ .ready 3#8) false]) = true
      ∧ runs (.bump 0 14 1) (s .revokedFired) (fun t => t.kitchen.entries == []
          && t.kitchen.pass.length == 1 && t.line.waiting == []) = true
      ∧ refuses (.bump 0 14 1) (s .tentative) .state = true := by decide

/-! ## Witnesses: the printer port -/

/-- The kitchen with its port changed. -/
def port (f : Port → Port) (s : State) : State := { s with port := f s.port }

def twoBytes : Job := .line [0x41#8, 0x42#8]

theorem witness_HandshakeMovesEachByte :
    let at' (st : Stage) : State :=
      port (fun p => { p with state := .sending, job := twoBytes, stage := st }) kit
    runs .strobeReleased (at' .strobe) (fun t => t.port.stage == .ackWait 100000#32) = true
      ∧ runs .strobeReleased (port (fun p => { p with busyPin := true }) (at' .strobe)) (fun t =>
          t.port.stage == .releaseWait 100000#32) = true
      ∧ stays .strobeReleased (at' (.ackWait 5#32)) = true
      ∧ runs .busyAsserted (at' (.ackWait 5#32)) (fun t => t.port.busyPin
          && t.port.stage == .releaseWait 100000#32) = true
      ∧ runs .busyAsserted (at' .strobe) (fun t => t.port.busyPin && t.port.stage == .strobe) = true
      ∧ runs .busyReleased (at' (.readyWait 5#32)) (fun t => t.port.pd == 0x41#8
          && t.port.stage == .strobe) = true
      ∧ runs .busyReleased (at' (.releaseWait 5#32)) (fun t => t.port.pd == 0x42#8
          && t.port.job == .line [0x42#8] && t.port.stage == .strobe) = true := by decide

/-- The image of ticket 1: a header, a line that ends in spaces, the closing rule. -/
def lane (next : Nat) : LaneTicket :=
  ⟨14, ⟨1, 2⟩, [[0x48#8], [0x41#8, 0x20#8], [0x3D#8]], next, false, true⟩

/-- The ticket in the left lane of a port that sends this. -/
def printing (job : Job) (next : Nat) : State :=
  entries [{ entry .fired none with print := .printing }]
    (port (fun p => { p with
      state := .sending, job := job, left := some (lane next), stage := .releaseWait 5#32 }) kit)

theorem witness_LinesAndCutsAreSent :
    dualLane (printing (.line [0x0A#8]) 0) = false
      ∧ entryOf (printing .cut 2) 14 1 = some { entry .fired none with print := .printing }
      ∧ ([.busyReleased, .printerLineAccepted].all fun c =>
          runs c (printing (.line [0x0A#8]) 0) fun t =>
            t.port.job == .line [0x41#8, 0x0D#8, 0x0A#8] && t.port.pd == 0x41#8
              && t.port.left == some (lane 1)) = true
      ∧ runs .busyReleased (printing (.line [0x0A#8]) 2) (fun t =>
          t.port.job == .cut && t.port.pd == 0x0C#8) = true
      ∧ runs .cutAccepted (printing .cut 3) (fun t => t.port.state == .idle && t.port.left == none
          && (entryOf t 14 1).map Entry.print == some .printed) = true := by decide

/-- Kitchen 21 with two lanes: both send their line 1; and REPRINT. -/
theorem witness_LinesAndCutsAreSent_twoLanes :
    let s := { printing (.line [0x0A#8]) 0 with straps := ⟨2, 5, 1, 1⟩ }
    let dual := port (fun p => { p with right := some { lane 0 with ref := ⟨2, 0⟩ } }) s
    dualLane dual = true
      ∧ runs .printerLineAccepted dual (fun t => t.port.job
          == .line (0x41#8 :: (List.replicate 21 0x20#8 ++ [0x41#8, 0x0D#8, 0x0A#8]))) = true
      ∧ (let s := entries [entry .fired none] (port (fun p => { p with state := .sending }) kit)
         KitchenSlot s 0 (operator 1001 0) ∧ inPrint s 14 1 = false
           ∧ runs (.reprint 0 14 1) s (fun t => t.port.list == [⟨14, 1, true⟩]
               && (entryOf t 14 1).map Entry.print == some .waiting) = true)
      ∧ refuses (.reprint 0 14 1) (printing .cut 0) .state = true := by decide

/-- A port that faults with this response. -/
def faulting (w : Response) : State :=
  let s := port (fun p => { p with
    state := .sending, stage := .ackWait 98000#32, deglitch := .running 99950#32, busyPin := true
    list := [⟨14, 1, false⟩] }) (entries [{ entry .fired none with print := .waiting }] kit)
  { s with join := { s.join with figures := { s.join.figures with lineFault := w, noResponse := w } } }

theorem witness_PrinterFaultsTakeTheirResponse :
    let said (c : Instr) (w : Response) (st : PortState) (k : FaultKind) : Bool :=
      runs c (faulting w) fun t => t.port.state == st && t.port.faultKind == some k
        && t.notices.map (fun x => x.body) == (.printerFault k w
          :: (if w == .skip then [.ticketUnprinted 14 ⟨1, 2⟩] else []))
    Due (faulting .latch) 98000#32 2000 ∧ Due (faulting .latch) 99950#32 50
      ∧ (said .handshakeLimitExpiry .latch .latched .noResponse
        && said .handshakeLimitExpiry .retry .retryWait .noResponse
        && said .handshakeLimitExpiry .skip .down .noResponse
        && said .deglitchTimerExpiry .latch .latched .lineFault
        && said .deglitchTimerExpiry .skip .down .lineFault) = true
      ∧ runs .handshakeLimitExpiry (faulting .skip) (fun t =>
          (entryOf t 14 1).map Entry.print == some .unprinted && t.port.list == []) = true
      ∧ runs .deglitchTimerExpiry (port (fun p => { p with state := .latched }) (faulting .latch))
          (fun t => t.port.deglitch == .used && t.notices == []) = true
      ∧ runs .faultAsserted kit (fun t => t.port.deglitch == .running 100000#32) = true
      ∧ runs .faultAsserted till (fun t => t.port.deglitch == .off && t.port.faultPin) = true
      ∧ runs .faultReleased (faulting .latch) (fun t => t.port.deglitch == .off) = true := by decide

theorem witness_RecoveryRestartsTheTickets :
    let s (st : PortState) (pin : Bool) : State := port (fun p => { p with
      state := st, faultPin := pin, faultKind := some .lineFault, retryFrom := some 95000#32 }) kit
    let recovers (c : Instr) (s : State) : Bool := runs c s fun t =>
      t.port.state == .sending && t.port.job == .recovery && t.port.primeLeft == 250
    KitchenSlot (s .latched false) 0 (operator 1001 0) ∧ Due (s .retryWait true) 95000#32 5000
      ∧ (recovers (.clearPrinter 0) (s .latched false) && recovers .retryCheck (s .retryWait false)
        && recovers .faultReleased (s .down true)
        && recovers .busyReleased (port (fun p => { p with busyPin := true }) (s .down false))) = true
      ∧ refuses (.clearPrinter 0) (s .latched true) .state = true
      ∧ runs .retryCheck (s .retryWait true) (fun t =>
          t.port.state == .retryWait && t.port.retryFrom == some 100000#32) = true
      ∧ ([.recoveryEnd, .busyReleased].all fun c => runs c
          (port (fun p => { p with stage := .readyWait 5#32 }) (printing .recovery 2)) fun t =>
            t.notices.map (fun x => x.body) == [.printerResumed]
              && t.port.job == .line [0x48#8, 0x0D#8, 0x0A#8]
              && t.port.left.map (fun k => (k.next, (k.image[1]?).map List.length))
                == some (0, some 7)) = true := by decide

/-! ## Witnesses: the terminal link and the notices -/

/-- The link with these fields. -/
def linked (phase : Phase) (f : Link → Link) (s : State) : State :=
  { s with link := f { s.link with sel := true, phase := phase } }

/-- SIGN-ON of operator 300 byte by byte: 03H, 03H, 01H 2CH 01H, the turnaround byte, two reply bytes and
two body bytes. -/
theorem witness_LinkMovesThroughItsPhases :
    (match runAll (.transactionBegin :: [0x03#8, 0x03#8, 0x01#8, 0x2C#8, 0x01#8, 0#8].map
          fun b => Instr.linkByteComplete (clockByte b)) till with
      | .next t => (slotOf t 2).map SlotRecord.operator == some 300 && sdo t == some 0#8
          && runs (.linkByteComplete (clockByte 0#8)) t (fun u => sdo u == some 2#8)
          && runs .selRise t (fun u => sdo u == none && u.link.phase == .rest)
      | _ => false) = true
      ∧ runs (.linkByteComplete (clockByte 0x40#8)) (linked .kind id till) (fun t =>
          t.link.phase == .length) = true
      ∧ runs (.linkByteComplete (clockByte 0#8)) (linked .length id till) (fun t =>
          t.link.phase == .turnaround) = true
      ∧ runs (.linkByteComplete (clockByte 0#8)) (linked .turnaround id till) (fun t =>
          t.link.phase == .ignoring && sdo t == some 0xFF#8) = true
      ∧ stays (.linkByteComplete (clockByte 0#8))
        (linked .ignoring (fun l => { l with sck := true, sdoBit := true }) till) = true
      ∧ stays .transactionBegin (linked .body id till) = true
      ∧ decodeRequest 0x7F#8 [] = none
      ∧ runs (.ignoredTransaction 0x7F#8 []) till (fun t => t.link.phase == .ignoring) = true
      ∧ stays (.ignoredTransaction 0x40#8 []) till = true := by decide

theorem witness_LinkMovesThroughItsPhases_reply :
    let s (n : Nat) : State := linked .reply (fun l => { l with
      reply := some ⟨.done, [0x41#8, 0x42#8]⟩, clocked := n }) till
    (sdo (s 0), sdo (s 1), sdo (s 2), sdo (s 3)) = (some 0#8, some 2#8, some 0x41#8, some 0x42#8)
      ∧ runs (.linkByteComplete (clockByte 0#8)) (s 2) (fun t => t.link.clocked == 3
          && t.link.phase == .reply) = true
      ∧ runs (.linkByteComplete (clockByte 0#8)) (s 3) (fun t => t.link.phase == .spent) = true := by decide

/-- Thirty-one and thirty-two notices; a FETCH of the oldest; its last byte; an abandoned one. -/
theorem witness_FetchTakesTheOldestNotice :
    let s (n : Nat) : State :=
      { till with notices := List.replicate n ⟨7#32, .lastCall 5⟩ }
    let ended (f : Fetching) (r : List Byte) (s : State) : State :=
      linked .reply (fun l => { l with
        fetching := some f, reply := some ⟨.done, r⟩, clocked := r.length + 1 }) s
    ((notify (.lastCall 6) (s 31)).notices.length, (notify (.lastCall 6) (s 31)).overflow) = (32, none)
      ∧ ((notify (.lastCall 6) (s 32)).notices.length, (notify (.lastCall 6) (s 32)).overflow)
        = (32, some 100000#32)
      ∧ runs .fetch (s 2) (fun t => t.link.reply
          == some ⟨.done, [0x05#8, 0#8, 0#8, 0#8, 7#8, 5#8]⟩ && t.notices.length == 2) = true
      ∧ runs .fetch { s 2 with overflow := some 9#32 } (fun t => t.link.reply
          == some ⟨.done, [0x2B#8, 0#8, 0x01#8, 0x86#8, 0xA0#8, 0#8, 0#8, 0#8, 9#8]⟩) = true
      ∧ ([.fetchReplyEnd, .linkByteComplete (clockByte 0#8)].all fun c =>
          runs c (ended .notice [1#8] (s 2)) fun t => t.notices.length == 1
            && t.link.phase == .spent) = true
      ∧ runs .fetchReplyEnd (ended (.overflow none) [1#8] { s 2 with overflow := some 9#32 })
          (fun t => t.notices.length == 2 && t.overflow == none) = true
      ∧ stays .fetchReplyEnd (s 2) = true
      ∧ runs .selRise (ended .notice [1#8] (s 2)) (fun t => t.notices.length == 2) = true
      ∧ attn (s 1) = true ∧ attn (s 0) = false := by decide

theorem witness_QueriesChangeNothing :
    let is (c : Instr) (s : State) (b : List Byte) : Bool :=
      runs c s fun t => (t.link.reply.map fun r => (r.code, r.body.take b.length)) == some (.done, b)
    till.join.state ≠ .strapFault ∧ heard till 62 = none ∧ slotOf till 3 = none
      ∧ (tabOf openTab 14337).isSome = true ∧ tabOf openTab 14338 = none
      ∧ (is .queryState till [1#8, 6#8, 0#8, 0#8, 14#8, 0#8, 0#8]
        && is (.queryStation 62) till (List.replicate 26 0#8)
        && is (.queryStation 21) served [1#8, 1#8, 1#8, 1#8, 0#8, 9#8]
        && refuses (.queryStation 63) till .field && refuses (.queryStation 0) till .field
        && is (.queryTab 14337 1) openTab [0x38#8, 0x01#8, 0#8, 0x03#8, 0xE9#8]
        && refuses (.queryTab 14338 0) openTab .unknown
        && is (.queryShare 14337 0) openTab [0#8, 0#8]
        && refuses (.queryShare 14337 1) openTab .field
        && is (.queryTicket 1) offering [0#8, 1#8, 2#8, 1#8, 0#8, 1#8, 2#8, 0#8, 1#8, 3#8]
        && refuses (.queryTicket 1) till .unknown) = true := by decide

theorem witness_QueriesChangeNothing_lists :
    let is (c : Instr) (s : State) (b : List Byte) : Bool :=
      runs c s fun t => (t.link.reply.map fun r => (r.code, r.body.take b.length)) == some (.done, b)
    (is (.queryQueue 0 0) (fullKitchen 9) [9#8, 3#8, 8#8]
        && is (.queryQueue 1 0) (onPass 0#32 1 kit) [1#8] && is (.queryQueue 2 0) kit [0#8]
        && refuses (.queryQueue 4 0) kit .field
        && is (.queryBorrowed 0) (borrowing (lent .asking .none) till)
          [0#8, 0#8, 0#8, 1#8, 0x58#8, 0x01#8, 0#8, 0#8]
        && is (.queryBorrowed 7) till [0#8, 0#8, 0#8, 0#8] && refuses (.queryBorrowed 8) till .field
        && is (.queryTotals 0) till [1#8, 0x03#8, 0xE9#8, 0#8]
        && is (.queryTotals 3) till (List.replicate 38 0#8)
        && refuses (.queryTotals 4) till .field) = true := by decide

/-! ## Witnesses: further clauses, forms and boundaries -/

/-- The last cell of the one LAST-CALL is a 0, whose transition lies at its beginning; that of the other is a
1, whose last one lies at its middle. With the last transition behind it the count goes on. -/
theorem witness_FrameEndsReachTheirOwners_since :
    let x (src : Nat) : TxItem :=
      { newItem till 127 .lastCall false with frame := ⟨127, src, .lastCall⟩ }
    let at' (src pos since : Nat) : State :=
      let s := sending (x src) till
      { s with line := { s.line with txPos := pos, since := since } }
    (Frame.cells (x 14).frame).getLast? = some false ∧ (Frame.cells (x 9).frame).getLast? = some true
      ∧ ([at' 14 0 0, at' 14 137 0].all fun s => runs .transmissionComplete s fun t =>
          t.line.since == 2) = true
      ∧ runs .transmissionComplete (at' 9 0 0) (fun t => t.line.since == 1) = true
      ∧ runs .transmissionComplete (at' 14 140 5) (fun t => t.line.since == 5
          && t.line.state == some .idle && t.clock.halfBits == 0#33) = true := by decide

/-- An OFFER dropped at its sixteenth collision starts its window; at the fifteenth it waits again. -/
theorem witness_CollisionJamsAndBacksOff_owner :
    let x (n : Nat) : TxItem :=
      { newItem offering 65 (offerBody offering (ticket .offering none)) true with n := n }
    let s (n : Nat) : State :=
      let s := sending (x n) offering
      { s with line := { s.line with state := some .jamming, txPos := 64, since := 1 } }
    runs .jamEnd (s 15) (fun t => (ticketOf t 1).map Ticket.wait == some (.offerWindow (now t))
        && t.line.waiting == []) = true
      ∧ runs .jamEnd (s 14) (fun t => (ticketOf t 1).map Ticket.wait == some .none
        && t.line.waiting.map TxItem.n == [15]) = true := by decide

/-- The signal of a frame and of its jam, and the level of the pair after their first half bit times. -/
theorem witness_CollisionJamsAndBacksOff_signal :
    let s := sending (newItem till 127 .lastCall false) till
    let j := { s with line := { s.line with state := some .jamming } }
    let at' (s : State) (pos : Nat) : State := { s with line := { s.line with txPos := pos } }
    (LineCtl.signal s.line).take 4 = [true, false, true, false]
      ∧ ((LineCtl.signal s.line).drop 24).take 8 = [true, true, true, true, true, false, true, true]
      ∧ (LineCtl.signal j.line).take 7 = [true, false, false, true, false, false, true]
      ∧ [0, 1, 2, 3].map (fun n => pairLevel (at' s n)) = [some true, some true, some false, some false]
      ∧ [0, 1, 2, 3].map (fun n => pairLevel (at' j n)) = [some true, some true, some true, some false]
      ∧ pairLevel till = none := by decide

/-- By SILENT: a PLACED ticket is reissued with its stale holder, a share lent is ADRIFT, the home of a
borrowed one silent; a ticket that is OFFERING stays. -/
theorem witness_SilenceMakesAnEntrySilent_tables :
    let s (k : Ticket) : State := tickets [k] openTab
    let lentTab := twoShares (.heldRemote 22 4) .opened
    (∃ a ∈ (ticket .placed by21).awardee, a.station = 21)
      ∧ CanSend (s (ticket .placed by21)) 1
      ∧ (let t := ticketEvent 21 (.silent 9) (s (ticket .placed by21)) 1
         (ticketOf t 1 == some { ticket .offering none with gen := 3, stale := some ⟨21, 9, 2⟩ }
          && t.notices.map (fun x => x.body) == [.reissued ⟨1, 3⟩ 14337 (some 21) .awardeeSilent]
          && t.line.waiting.map (fun x => x.frame.dest) == [65]) = true)
      ∧ ticketEvent 21 (.silent 9) (s (ticket .offering none)) 1 = s (ticket .offering none)
      ∧ tabStates (raiseEvent 22 (.silent 4) lentTab)
        = some (.paying, [.adrift 22 4 .silent, .opened])
      ∧ homeShareEvent 22 (.silent 4) 0 14337 1 (share 351 .opened) lentTab = lentTab
      ∧ (raiseEvent 22 (.silent 4) (borrowing (lent .asking .none) till)).borrowed
        = [{ lent .asking .none with homeSilent := true }]
      ∧ homeTabEvent 22 (.silent 4) till 0 = till := by decide

/-- RESTARTED on a PLACED, a FIRED and an already lost ticket, and on a stale holder; a set last-call
flag. -/
theorem witness_StationTableHearsFrames_restarted :
    let s (k : Ticket) : State := tickets [k] openTab
    let after (k : Ticket) : Option Ticket := ticketOf (ticketEvent 21 (.restarted 10) (s k) 1) 1
    let lost := { ticket .ready by21 with lost := some .restarted }
    after (ticket .placed by21) = some { ticket .offering none with gen := 3 }
      ∧ after { ticket .fired by21 with lost := some .silent }
        = some { ticket .fired by21 with lost := some .restarted }
      ∧ ticketEvent 21 (.restarted 10) (s lost) 1 = s lost
      ∧ after { ticket .offering none with stale := some ⟨21, 9, 1⟩ } = some (ticket .offering none)
      ∧ ticketEvent 20 (.restarted 10) (s lost) 1 = s lost
      ∧ runs (.presence 127 21 ⟨.kitchen, 1, 9, 2, 22, true, .ok, true⟩) till (fun t => t.lastCall
          && t.notices.map (fun x => x.body) == [.present 21 9, .lastCall 21]) = true := by decide

/-- PRESENT with the mark held and with another: a lost ticket and a stale holder. -/
theorem witness_StationTableHearsFrames_present :
    let s (k : Ticket) : State := tickets [k] openTab
    let lost := { ticket .fired by21 with lost := some .silent }
    let old := { ticket .offering none with stale := some ⟨21, 9, 1⟩ }
    let after (mark : Nat) (k : Ticket) : State := ticketEvent 21 (.present mark) (s k) 1
    ticketOf (after 9 lost) 1 = some (ticket .fired by21) ∧ after 10 lost = s lost
      ∧ CanSend (s old) 1 ∧ ticketOf (after 9 old) 1 = some (ticket .offering none)
      ∧ (after 9 old).line.waiting = [newItem (s old) 21 (.revoke ⟨1, 1⟩) false]
      ∧ (after 10 old).line.waiting = [] ∧ after 9 (ticket .placed by21) = s (ticket .placed by21) := by
  decide

/-- Shares lent under a mark, under mark 0, and ADRIFT, by both events. -/
theorem witness_StationTableHearsFrames_lentShares :
    let by' (e : StationEvent) (st : ShareState) : Option ShareState × List NoticeBody :=
      let t := homeShareEvent 22 e 0 14337 0 (share 376 st) (twoShares st .opened)
      ((tabStates t).bind fun p => p.2[0]?, t.notices.map fun x => x.body)
    [by' (.restarted 5) (.heldRemote 22 4), by' (.restarted 4) (.heldRemote 22 4),
        by' (.restarted 5) (.heldRemote 22 0), by' (.present 5) (.heldRemote 22 0),
        by' (.restarted 5) (.adrift 22 4 .silent), by' (.present 4) (.adrift 22 4 .silent),
        by' (.present 5) (.adrift 22 4 .silent), by' (.present 4) (.adrift 22 4 .restarted)]
      = [(some (.adrift 22 4 .restarted), [.shareAdrift 14337 0 22 4 .restarted]),
        (some (.heldRemote 22 4), []), (some (.heldRemote 22 0), []), (some (.heldRemote 22 5), []),
        (some (.adrift 22 4 .restarted), [.shareAdrift 14337 0 22 4 .restarted]),
        (some (.heldRemote 22 4), [.shareRecovered 14337 0 22 4]),
        (some (.adrift 22 4 .silent), []), (some (.adrift 22 4 .restarted), [])] := by decide

/-- Borrowed entries under another mark, under the mark held and under 0; a paused one. -/
theorem witness_StationTableHearsFrames_borrowed :
    let s (b : Borrowed) : State := borrowing b till
    let r (m : Nat) (b : Borrowed) : State := borrowedEvent (.restarted m) (s b) b
    let p (m : Nat) (b : Borrowed) : State := borrowedEvent (.present m) (s b) b
    let paused (st : BorrowedState) : Borrowed := { lent st .none with homeSilent := true, paused := true }
    (r 5 (lent .borrowed (.hold 0#32))).borrowed = []
      ∧ (r 5 (lent .borrowed (.hold 0#32))).notices.map (fun x => x.body)
        = [.homeLost 22529 0 0 .borrowed]
      ∧ (r 5 { lent .confirming .none with homeMark := 0 }).borrowed.map Borrowed.state = [.orphaned]
      ∧ r 5 (lent .orphaned .none) = s (lent .orphaned .none)
      ∧ r 4 (lent .borrowed .none) = s (lent .borrowed .none)
      ∧ (p 5 { lent .borrowed .none with homeMark := 0 }).borrowed.map Borrowed.homeMark = [5]
      ∧ p 5 (lent .borrowed .none) = s (lent .borrowed .none)
      ∧ CanSend (s (paused .returning)) 1
      ∧ (p 4 (paused .returning)).borrowed = [{ lent .returning .none with attempts := 2 }]
      ∧ (p 4 (paused .returning)).line.waiting = [newItem till 22 (.shareReturn 22529 0) true]
      ∧ (p 4 (paused .confirming)).line.waiting
        = [newItem till 22 (.shareSettle 22529 0 .card 300 0) true] := by decide

/-- Entries of till 14 under other marks, one of another origin, and a pass entry. -/
def restartedKitchen : State :=
  let e (n mark : Nat) (st : EntryState) (b : Option Bid) : Entry :=
    { entry st b with number := n, mark := mark }
  waiting [newItem kit 65 (.bid 14 ⟨1, 2⟩ 1) true] (entries
    [e 1 7 .tentative (some (bidIn .queued)), e 2 0 .queued none, e 3 7 .fired (some (bidIn .queued)),
      e 4 8 .fired none, { e 5 7 .fired none with origin := 15 }] (onPass 0#32 1 kit))

theorem witness_StationTableHearsFrames_kitchenEntries :
    let t := raiseEvent 14 (.restarted 8) restartedKitchen
    restartedKitchen.join.figures.fire ≤ cookingCount restartedKitchen
      ∧ (restartedKitchen.kitchen.entries.map fun e => (e.origin, e.number)).Nodup
      ∧ (t.kitchen.entries.map fun e => (e.number, e.state, e.bid))
        = [(3, .revokedFired, none), (4, .fired, none), (5, .fired, none)]
      ∧ t.kitchen.pass.map PassEntry.stopped = [true] ∧ t.line.waiting = [] := by decide

theorem witness_StationTableHearsFrames_kitchenNotices :
    (raiseEvent 14 (.restarted 8) restartedKitchen).notices.map (fun x => x.body)
        = [.revoked 14 ⟨1, 2⟩ .originRestarted, .revoked 14 ⟨2, 2⟩ .originRestarted,
          .revokedWhileFired 14 ⟨3, 2⟩ .originRestarted]
      ∧ (raiseEvent 14 (.present 8) restartedKitchen).kitchen.entries.map Entry.mark
        = [7, 8, 7, 8, 7] := by decide

/-- Numbers go on from the next number, past 4095 to 1, and skip one in use; the OFFERs join in turn. -/
def toSendFrom4095 : State :=
  { tickets [{ ticket .fired by21 with number := 1 }] toSend with nextTicket := 4095 }

theorem witness_SendCutsTicketsAndOffers_numbers :
    runs (.send 0 14337 0) toSendFrom4095 (fun t => t.tickets.map Ticket.number == [1, 4095, 2]
      && t.nextTicket == 3) = true := by decide

theorem witness_SendCutsTicketsAndOffers_offers :
    runs (.send 0 14337 0) toSendFrom4095 (fun t => t.line.waiting.map (fun x => (x.frame.dest,
        match x.frame.body with | .offer o => (o.ref, o.items.length) | _ => (⟨0, 0⟩, 0)))
      == [(65, ⟨4095, 0⟩, 8), (65, ⟨2, 0⟩, 1)]) = true := by decide

/-- The last live line of an OFFERING ticket: its waiting OFFER goes, one in transmission starts no
wait. -/
theorem witness_VoidAndWasteByLineState_frames :
    let x := newItem openTab 65 (offerBody openTab (ticket .offering none)) true
    let s := waiting [x, item till 0]
      (sending x (tickets [{ ticket .offering none with live := 1#8 }] openTab))
    ofTicket 1 x = true
      ∧ runs (.voidLine 1 14337 0) s (fun t => t.line.waiting == [item till 0]
          && t.line.sending == some { x with wait := false }) = true := by decide

/-- The last share paid remotely closes the tab, and frees it with every line finished and no ticket
held. -/
theorem witness_HomeRecordsSettlements_last :
    let paid : Payment := ⟨.card, 376, 0, 22, none, 100000#32⟩
    let two (l : TabLineState) : State := holding (tabWith .paying [soup l none, beer .void]
      [share 376 (.heldRemote 22 4), share 351 (.paid ⟨.card, 351, 0, 14, some 1001, 7#32⟩),
        share 0 .empty]) till
    let settles (s : State) (p : State → Bool) : Bool :=
      runs (.shareSettle 14 22 14337 0 .card 376 0) s fun t => p t && t.line.waiting == [newItem s 22 (.shareClose 14337 0 .paidRecorded) false]
    let closes (s : State) : Bool := settles s fun t =>
      (tabStates t).map (fun p => (p.1, p.2[0]?)) == some (.closed, some (.paid paid))
        && t.notices.map (fun x => x.body) == [.remotePaid 14337 0 22 .card 376]
    closes (two .sent) = true ∧ closes (tickets [ticket .ready by21] (two .served)) = true
      ∧ settles (two .served) (fun t => t.tabs[0]? == some ⟨1, none⟩
          && t.notices.map (fun x => x.body)
            == [.tabFreed 14337, .remotePaid 14337 0 22 .card 376]) = true := by decide

/-- The waiting frames of a freed entry go, one in transmission starts no wait, and a SHARE-RETURN that
answered an unmatched grant stays. -/
theorem witness_BorrowerTakesAnswers_frames :
    let x := newItem till 22 (.shareAsk 22529 0) true
    let other := newItem till 22 (.shareReturn 22529 0) false
    let s := waiting [x, other] (sending x (borrowing (lent .asking .none)
      { till with line := { till.line with inbound := [⟨14, 22, .shareDeny 22529 0 .pending⟩] } }))
    TillDelivers s ⟨14, 22, .shareDeny 22529 0 .pending⟩ ∧ ofBorrowed 22529 0 x = true
      ∧ ofBorrowed 22529 0 other = false
      ∧ runs (.shareDeny 14 22 22529 0 .pending) s (fun t => t.borrowed == []
          && t.line.waiting == [other] && t.line.sending == some { x with wait := false }) = true := by
  decide

/-- The repeat wait of a CONFIRMING entry repeats its SHARE-SETTLE. -/
theorem witness_BorrowerWaitsRunOut_confirming :
    let s := borrowing (lent .confirming (.again 99000#32)) till
    Due s 99000#32 1000 ∧ CanSend s 1
      ∧ runs (.repeatWaitExpiry 22529 0) s (fun t =>
          t.borrowed == [{ lent .confirming .none with attempts := 2 }]
            && t.line.waiting == [newItem till 22 (.shareSettle 22529 0 .card 300 0) true]) = true := by
  decide

/-- An OFFER of the next generation for an entry QUEUED and for one TENTATIVE; of one that is no newer, of
the entry's and of its bid's. -/
theorem witness_OffersStartBids_newer :
    let o (gen : Nat) : OfferFields := { offered with ref := ⟨1, gen⟩ }
    let s (st : EntryState) (b : Option Bid) : State := entries [entry st b] kit
    KitchenDelivers kit ⟨65, 14, .offer (o 3)⟩ ∧ newer 2 3 = false ∧ newer 2 1 = true
      ∧ runs (.offer 65 14 (o 3)) (s .queued none) (fun t => t.kitchen.entries
          == [entry .queued (some ⟨3, .rush, [⟨⟨2, [0x53#8], []⟩, true⟩], .delay 100000#32 2, 1⟩)]) = true
      ∧ runs (.offer 65 14 (o 3)) (waiting [newItem kit 65 (.bid 14 ⟨1, 2⟩ 1) true]
          (s .tentative (some (bidIn .queued)))) (fun t =>
            t.kitchen.entries.map (fun e => (e.gen, e.state, e.band, e.lines.length))
              == [(3, .tentative, .rush, 1)] && t.line.waiting == []) = true
      ∧ stays (.offer 65 14 (o 1)) (s .queued none) = true
      ∧ stays (.offer 65 14 (o 2)) (s .queued none) = true
      ∧ stays (.offer 65 14 (o 3)) (s .queued (some { bidIn .queued with gen := 3 })) = true := by decide

/-- Another station's BID ends that of an entry held beside it, its waiting BID too. -/
theorem witness_BidsRunOut_heardBeside :
    let s := waiting [newItem kit 65 (.bid 14 ⟨1, 3⟩ 1) true]
      (entries [entry .fired (some { bidIn .queued with gen := 3 })] kit)
    KitchenDelivers s ⟨65, 22, .bid 14 ⟨1, 3⟩ 3⟩
      ∧ runs (.bidHeardAtKitchen 65 22 14 ⟨1, 3⟩ 3) s (fun t =>
          t.kitchen.entries == [entry .fired none] && t.line.waiting == []) = true := by decide

/-- An AWARD of a newer generation replaces an entry QUEUED, FIRED or REVOKED-FIRED; of no live line it is
refused and the bid ends. -/
theorem witness_AwardsAreAnswered_replaced :
    let b : Bid := ⟨3, .rush, [⟨⟨1, [0x55#8], []⟩, true⟩], .awaiting 99999#32, 1⟩
    let s (st : EntryState) : State := entries (entry st (some b)
      :: ((List.range 3).map fun i => { entry .fired none with number := 100 + i })) kit
    let takes (st : EntryState) (k : KitchenState) (p : Entry → Bool) : Bool :=
      runs (.award 65 14 ⟨1, 3⟩ 21 1#8) (s st) fun t => (entryOf t 14 1).any (fun e =>
          p e && e.gen == 3 && e.priority == .rush && e.lines == b.lines && e.bid == none)
        && t.line.waiting == [newItem kit 14 (.progress ⟨1, 3⟩ k 1#8) false]
    KitchenDelivers (s .queued) ⟨65, 14, .award ⟨1, 3⟩ 21 1#8⟩
      ∧ (s .queued).join.figures.fire ≤ cookingCount (s .queued) ∧ passAt (s .queued) 14 ⟨1, 3⟩ = none
      ∧ takes .queued .queued (fun e => e.state == .queued && e.arrival == some 100000#32
          && e.band == .rush && e.seq == 1) = true
      ∧ takes .fired .fired (fun e => e.state == .fired && e.arrival == some 90000#32
          && e.band == .normal) = true
      ∧ takes .revokedFired .fired (fun e => e.state == .fired) = true
      ∧ runs (.award 65 14 ⟨1, 3⟩ 21 2#8) (s .fired) (fun t =>
          entryOf t 14 1 == some (entry .fired none)
            && t.notices.map (fun x => x.body) == [.ticketRefused 14 ⟨1, 3⟩]) = true := by decide

/-- A lapsed bid awarded after all, with room and without, for a live line and for none. -/
theorem witness_AwardsAreAnswered_lapsed :
    let l : Lapsed := ⟨14, 7, 1, 2, .normal, (entry .tentative none).lines, 99000#32⟩
    let s (n : Nat) : State := entries ((List.range n).map fun i => { entry .fired none with
      number := 100 + i }) { kit with kitchen := { kit.kitchen with lapsed := [l] } }
    let refuses' (n : Nat) (m : Byte) : Bool := runs (.award 65 14 ⟨1, 2⟩ 21 m) (s n) fun t =>
      t.kitchen == (s n).kitchen && t.notices.map (fun x => x.body) == [.ticketRefused 14 ⟨1, 2⟩]
    lapsedAt (s 23) 14 ⟨1, 2⟩ = some l ∧ (s 23).join.figures.fire ≤ cookingCount (s 23)
      ∧ runs (.award 65 14 ⟨1, 2⟩ 21 1#8) (s 23) (fun t => t.kitchen.lapsed == []
          && (entryOf t 14 1).map (fun e => (e.state, e.lines.map KitchenLine.live))
            == some (.queued, [true, false])) = true
      ∧ refuses' 24 1#8 = true ∧ refuses' 3 0x0C#8 = true := by decide

/-- An AWARD to another station, the bid in its delay, awaiting or lapsed. -/
theorem witness_AwardsAreAnswered_elsewhere :
    let x := newItem kit 65 (.bid 14 ⟨1, 2⟩ 1) true
    let s (st : BidStage) : State := waiting [x] (entries [entry .queued (some (bidIn st))] kit)
    let lapsed := { kit with kitchen := { kit.kitchen with
      lapsed := [⟨14, 7, 1, 2, .normal, [], 99000#32⟩] } }
    runs (.award 65 14 ⟨1, 2⟩ 20 3#8) (s (.delay 99999#32 4)) (fun t =>
        t.kitchen.entries == [entry .queued none] && t.line.waiting == []) = true
      ∧ runs (.award 65 14 ⟨1, 2⟩ 20 3#8) (s (.awaiting 99999#32)) (fun t =>
        t.kitchen.entries == [entry .queued none] && t.line.waiting == [x]) = true
      ∧ runs (.award 65 14 ⟨1, 2⟩ 20 3#8) lapsed (fun t => t.kitchen.lapsed == []) = true := by decide

/-- The last live line of an entry and of a bid beside one; no line at a position; a pass entry. -/
theorem witness_WithdrawRevokeCollect_last :
    let one (st : EntryState) : Entry :=
      { entry st none with lines := [⟨⟨2, [0x53#8], []⟩, true⟩, ⟨⟨1, [0x54#8], []⟩, false⟩] }
    let b (l : Bool) : Bid := ⟨3, .rush, [⟨⟨1, [0x55#8], []⟩, true⟩, ⟨⟨1, [0x56#8], []⟩, l⟩], .queued, 1⟩
    let s (e : Entry) : State := entries [e] kit
    let replies (s : State) (ref : Ref) (p : Nat) (o : WithdrawOutcome) (empty : Bool) (es : List Entry)
        (told : List NoticeBody) : Bool :=
      runs (.withdraw 21 14 ref p) s fun t => t.kitchen.entries == es
        && t.line.waiting == [newItem kit 14 (.withdrawReply ref p o empty) false]
        && t.notices.map (fun x => x.body) == told
    (replies (s (one .queued)) ⟨1, 2⟩ 0 .removed true [] [.lineWithdrawn 14 ⟨1, 2⟩ 0]
      && replies (s (one .tentative)) ⟨1, 2⟩ 1 .removed false [one .tentative] []
      && replies (s (entry .fired (some (b true)))) ⟨1, 3⟩ 0 .removed false
        [entry .fired (some { b true with
          lines := [⟨⟨1, [0x55#8], []⟩, false⟩, ⟨⟨1, [0x56#8], []⟩, true⟩] })] []
      && replies (s (entry .fired (some (b false)))) ⟨1, 3⟩ 0 .removed true [entry .fired none] []
      && replies (s (one .queued)) ⟨1, 2⟩ 2 .unknown false [one .queued] []
      && replies (onPass 0#32 1 kit) ⟨1, 2⟩ 0 .fired false [] []) = true := by decide

/-- A REVOKE of a TENTATIVE entry, of a QUEUED one with a bid beside it, of that bid, and of what is on the
pass and lapsed. -/
theorem witness_WithdrawRevokeCollect_revokeBids :
    let x (gen : Nat) : TxItem := newItem kit 65 (.bid 14 ⟨1, gen⟩ 1) true
    let b : Bid := ⟨3, .rush, [⟨⟨1, [0x55#8], []⟩, true⟩], .queued, 1⟩
    let s (e : Entry) (gen : Nat) : State := waiting [x gen] (entries [e] kit)
    let old := onPass 0#32 1 { kit with kitchen := { kit.kitchen with
      lapsed := [⟨14, 7, 1, 2, .normal, [], 99000#32⟩] } }
    runs (.revoke 21 14 ⟨1, 2⟩) (s (entry .tentative (some (bidIn .queued))) 2) (fun t =>
        t.kitchen.entries == [] && t.line.waiting == []
          && t.notices.map (fun x => x.body) == [.revoked 14 ⟨1, 2⟩ .revoke]) = true
      ∧ runs (.revoke 21 14 ⟨1, 2⟩) (s (entry .queued (some b)) 3) (fun t =>
          t.kitchen.entries == [{ entry .tentative (some { b with lines := [] }) with
            gen := 3, priority := .rush, band := .rush, lines := b.lines, arrival := none }]
          && t.line.waiting == [x 3]) = true
      ∧ runs (.revoke 21 14 ⟨1, 3⟩) (s (entry .queued (some b)) 3) (fun t =>
          t.kitchen.entries == [entry .queued none] && t.line.waiting == [] && t.notices == []) = true
      ∧ runs (.revoke 21 14 ⟨1, 2⟩) old (fun t => t.kitchen.pass == [] && t.kitchen.lapsed == [])
        = true := by decide

/-- A COLLECT takes an entry out whatever its state; a lane goes on from its copy. -/
theorem witness_WithdrawRevokeCollect_anyState :
    let x := newItem kit 65 (.bid 14 ⟨1, 2⟩ 1) true
    let s (st : EntryState) : State := waiting [x] (entries [entry st
      (if st = .tentative then some (bidIn .queued) else none)]
        { kit with port := { kit.port with left := some ⟨14, ⟨1, 2⟩, [[0x48#8]], 0, false, true⟩ } })
    let collects (st : EntryState) (held : Bool) (l : List TxItem) : Bool :=
      runs (.collectFrame 21 14 ⟨1, 2⟩) (s st) fun t => t.kitchen.entries == []
        && t.port.left.map LaneTicket.held == some held && t.line.waiting == l
        && t.notices.map (fun x => x.body) == [.ticketCollected 14 ⟨1, 2⟩]
    (collects .tentative true [] && collects .queued false [x] && collects .fired false [x]
      && collects .revokedFired false [x]) = true
      ∧ stays (.collectFrame 21 14 ⟨1, 3⟩) (s .fired) = true := by decide

/-- With room the entry next to fire fires first; a port DOWN leaves it unprinted. -/
theorem witness_AutoFireFillsTheCapacity_next :
    let e := { entry .queued none with number := 2, band := .rush, arrival := some 95000#32, seq := 2 }
    let s := entries [entry .queued none, e] kit
    let down := { s with port := { s.port with state := .down } }
    cookingCount s < s.join.figures.fire ∧ nextToFire s = some e ∧ autoFire s = autoFire (fireEntry e s)
      ∧ ((autoFire s).kitchen.entries.map fun e => (e.number, e.firedSeq)) = [(1, 2), (2, 1)]
      ∧ autoFire kit = kit ∧ nextToFire kit = none ∧ CanSend down 1 ∧ freeTx (fullQueue down) = 0
      ∧ (fireEntry e (fullQueue down)).line = (fullQueue down).line
      ∧ entryOf (fireEntry e down) 14 2
        = some { e with state := .fired, firedSeq := 1, print := .unprinted }
      ∧ (fireEntry e down).notices.map (fun x => x.body)
        = [.ticketUnprinted 14 ⟨2, 2⟩, .ticketFired 14 ⟨2, 2⟩] := by decide

/-- The one QUEUED entry fires as a FIRED one leaves; a QUEUED entry itself is refused. -/
theorem witness_BumpMovesToThePass_fires :
    let q := { entry .queued none with number := 2 }
    let s := entries [entry .fired none, q] (port (fun p => { p with state := .sending }) kit)
    KitchenSlot s 0 (operator 1001 0) ∧ CanSend s 2 ∧ cookingCount s ≤ s.join.figures.fire
      ∧ runs (.bump 0 14 1) s (fun t =>
          t.kitchen.entries == [{ q with state := .fired, firedSeq := 1, print := .waiting }]
          && t.line.waiting == [newItem kit 14 (.progress ⟨1, 2⟩ .ready 3#8) false,
            newItem kit 14 (.progress ⟨2, 2⟩ .fired 3#8) false]
          && t.link.reply == some ⟨.done, [1#8, 0#8, 2#8, 2#8]⟩) = true
      ∧ refuses (.bump 0 14 2) s .state = true := by decide

/-- A byte that starts with BUSY asserted waits from now; with it released it is strobed. -/
theorem witness_HandshakeMovesEachByte_start :
    let s (job : Job) (busy : Bool) : State := port (fun p => { p with job := job, busyPin := busy }) kit
    (startByte (s twoBytes true)).port.stage = .readyWait 100000#32
      ∧ (startByte (s twoBytes true)).port.pd = 0#8
      ∧ (startByte (s twoBytes false)).port.stage = .strobe
      ∧ (startByte (s .cut false)).port.pd = kit.join.figures.cut := by decide

/-- The image of a RUSH ticket of two lines, one live and with a note, by R111. -/
theorem witness_LinesAndCutsAreSent_image :
    image 1 true true { entry .fired none with
        number := 258, band := .rush
        lines := [⟨⟨12, [0x53#8], [0x4E#8]⟩, true⟩, ⟨⟨1, [0x54#8], []⟩, false⟩] }
      = [[0x4B, 0x31, 0x20, 0x31, 0x34, 0x2D, 0x30, 0x32, 0x35, 0x38, 0x20, 0x52, 0x55, 0x53, 0x48],
        [0x52, 0x45, 0x50, 0x52, 0x49, 0x4E, 0x54], [0x31, 0x32, 0x20, 0x53], [0x20, 0x20, 0x2A, 0x20, 0x4E],
        List.replicate 20 0x2D] := by decide

/-- An IDLE port takes a REPRINT and a ticket that fires, with BUSY released and asserted. -/
theorem witness_LinesAndCutsAreSent_start :
    let pinned (busy : Bool) : State := port (fun p => { p with busyPin := busy }) kit
    let s (busy : Bool) : State := entries [entry .fired none] (pinned busy)
    let q (busy : Bool) : State := entries [entry .queued none] (pinned busy)
    (s false).port.state = .idle
      ∧ (takenBy (s false) (entry .fired none) true).image.head?
        = some [0x4B#8, 0x31#8, 0x20#8, 0x31#8, 0x34#8, 0x2D#8, 0x30#8, 0x30#8, 0x30#8, 0x31#8]
      ∧ runs (.reprint 0 14 1) (s false) (fun t => t.port.state == .sending && t.port.pd == 0x4B#8
          && t.port.stage == .strobe && t.port.left == some (takenBy (s false) (entry .fired none) true)
          && (entryOf t 14 1).map Entry.print == some .printing) = true
      ∧ runs (.reprint 0 14 1) (s true) (fun t => t.port.stage == .readyWait 100000#32
          && t.port.pd == 0#8) = true
      ∧ (fireEntry (entry .queued none) (q false)).port.stage = .strobe
      ∧ (fireEntry (entry .queued none) (q true)).port.left
        = some (takenBy (q true) (entry .queued none) false) := by decide

/-- A cut that another ticket of the list follows. -/
theorem witness_LinesAndCutsAreSent_next :
    let e : Entry := { entry .fired none with number := 2, print := .waiting }
    let s := { entries [{ entry .fired none with print := .printing }, e]
        (port (fun p => { p with list := [⟨14, 2, true⟩, ⟨14, 3, false⟩] }) (printing .cut 3)) with
      straps := ⟨2, 5, 1, 0⟩ }
    dualLane s = false
      ∧ runs .cutAccepted s (fun t => t.port.list == [⟨14, 3, false⟩]
          && t.port.left == some (takenBy s e true) && t.port.pd == 0x4B#8 && t.port.stage == .strobe
          && t.kitchen.entries.map Entry.print == [.printed, .printing]) = true := by decide

/-- Two lanes: the last line of the one ticket owes a cut, which is sent once no lane has a ticket; the
next of the list begins at once. -/
theorem witness_LinesAndCutsAreSent_owed :
    let e : Entry := { entry .fired none with number := 2, print := .waiting }
    let s (list : List PrintItem) : State :=
      { entries [{ entry .fired none with print := .printing }, e]
        (port (fun p => { p with list := list }) (printing (.line [0x0A#8]) 2)) with
        straps := ⟨2, 5, 1, 1⟩ }
    let cut := { port (fun p => { p with state := .sending, job := .cut, cutOwed := true }) kit with
      straps := ⟨2, 5, 1, 1⟩ }
    dualLane (s []) = true
      ∧ runs .printerLineAccepted (s []) (fun t => t.port.job == .cut && t.port.cutOwed
          && t.port.left == none && t.port.pd == 0x0C#8) = true
      ∧ runs .printerLineAccepted (s [⟨14, 2, false⟩]) (fun t => t.port.cutOwed
          && t.port.left == some (takenBy (s []) e false) && t.port.list == []) = true
      ∧ runs .cutAccepted cut (fun t => t.port.state == .idle && !t.port.cutOwed
          && t.port.stage == .rest) = true := by decide

/-- The limit of the recovery's READY-WAIT is commanded within the PRIME pulse, begun in the first and in
the second half of a millisecond: with BUSY asserted NO-RESPONSE arises 2000 ms after the pulse's end, with it
released the recovery ends with the pulse. -/
theorem witness_RecoveryRestartsTheTickets_limit :
    let s (busy : Bool) (phase : Nat) : State :=
      { port (fun p => { p with state := .latched, faultKind := some .lineFault, busyPin := busy })
        kit with clock := { kit.clock with msPhase := phase } }
    let fails (phase : Nat) (start : Time) : Bool :=
      runs (.clearPrinter 0) (s true phase) fun t => t.port.stage == .readyWait start
        && runs .handshakeLimitExpiry t fun u => u.clock.time == start + 2000#32
          && u.port.faultKind == some .noResponse && u.port.state == .latched
    let ends (phase : Nat) (start : Time) : Bool :=
      runs (.clearPrinter 0) (s false phase) fun t => t.port.stage == .readyWait start
        && runs .handshakeLimitExpiry t fun u => u.clock.time == start && u.port.faultKind == none
          && u.port.state == .idle && u.port.job == .none && u.port.stage == .rest
          && u.notices == [⟨start, .printerResumed⟩]
    (s true 499).ClockSound ∧ (ends 0 100000#32 && ends 499 100001#32) = true ∧ (fails 0 100000#32 && fails 249 100000#32 && fails 250 100001#32
      && fails 499 100001#32) = true := by decide

/-- Seven rising edges with their falling ones, then the eighth; one row of nine completes the byte and
begins the next; a rise of SEL discards the bits; a level that does not change is no edge. -/
theorem witness_LinkMovesThroughItsPhases_bits :
    let s := linked .kind id till
    let seven := (clockByte 0x48#8).take 14
    linkBits 0x48#8 = [false, true, false, false, true, false, false, false]
      ∧ runs (.linkByteComplete seven) s (fun t => t.link.phase == .kind && t.link.bits.length == 7
          && runs (.linkByteComplete [.fall, .rise false]) t (fun u => u.link.phase == .length
            && u.link.kind == 0x48#8 && u.link.bits == [])
          && runs .selRise t (fun u => u.link.bits == [])) = true
      ∧ runs (.linkByteComplete (clockByte 0x48#8 ++ [.fall, .rise true])) s (fun t =>
          t.link.phase == .length && t.link.kind == 0x48#8 && t.link.bits == [true]) = true
      ∧ stays (.linkByteComplete [.fall]) s = true
      ∧ stays (.linkByteComplete [.rise true, .rise false])
        (linked .kind (fun l => { l with sck := true }) till) = true
      ∧ stays (.linkByteComplete [.rise true, .fall]) till = true := by decide

/-- SDO changes at the falling edges: the reply byte A5H bit by bit, its first bit at the fall after the
eighth rising edge of the byte before, its last one until the fall after its own. -/
theorem witness_LinkMovesThroughItsPhases_sdo :
    let r := linked .reply (fun l => { l with
      sck := true, sdoBit := true, reply := some ⟨.done, [0xA5#8]⟩, clocked := 1 }) till
    let after (n : Nat) : Option Bool :=
      match exec (.linkByteComplete ((clockByte 0#8 ++ clockByte 0#8 ++ [ClockEdge.fall]).take n)) r with
      | .next t => sdoLevel t
      | _ => none
    ([1, 15, 16, 17, 18, 19, 20, 21, 23, 25, 27, 29, 31, 32, 33].map after)
        = [false, true, true, true, true, false, false, true, false, false, true, false, true, true,
          true].map some
      ∧ sdo r = some 1#8 ∧ sdoLevel till = none ∧ sdoLevel (linked .kind id till) = some true := by
  decide

/-- A notice lost while an OVERFLOW is read out keeps the flag, with the time of the first such loss. -/
theorem witness_FetchTakesTheOldestNotice_loss :
    let s := linked .reply (fun l => { l with
      fetching := some (.overflow none), reply := some ⟨.done, [1#8]⟩, clocked := 2 })
      { till with notices := List.replicate 32 ⟨7#32, .lastCall 5⟩, overflow := some 9#32 }
    let lost := notify (.lastCall 6) s
    let later := notify (.lastCall 7) { lost with clock := { lost.clock with time := 100005#32 } }
    32 ≤ s.notices.length ∧ lost.overflow = some 9#32
      ∧ later.link.fetching = some (.overflow (some 100000#32))
      ∧ runs .fetchReplyEnd later (fun t => t.overflow == some 100000#32
          && t.notices.length == 32) = true
      ∧ runs .fetchReplyEnd s (fun t => t.overflow == none) = true := by decide

/-- A frame that joins leaves a count that is sound; a violation as the newest cell, with a count of 16 or
less, discards its reception; an invalid check joins nothing. -/
theorem witness_ReceptionEndQueuesTheFrame_discards :
    let cells := ((((Frame.bytes ⟨127, 21, .lastCall⟩).drop 1).flatMap (charCells false)).map
      Cell.ofBool).reverse
    let s (v : Nat) (c : List Cell) : State := { till with line := { till.line with
      rx := { Receiver.fresh .take with cells := c, dest := 127, violation := v } } }
    Receiver.CountSound (s 0 cells.tail).line.rx ∧ Receiver.CountSound (s 16 (.violation :: cells)).line.rx
      ∧ ([s 16 (.violation :: cells), s 3 (.violation :: cells), s 0 (.zero :: cells), s 0 []].all
        fun u => runs .receptionEnd u fun t => t.line.inbound == []
          && t.line.rx == Receiver.fresh .hunt) = true := by decide

/-- A complete first character is judged first, of this station's destinations and of another's; an
incomplete one, HUNT and a station that drives the pair. -/
theorem witness_ReceptionEndQueuesTheFrame_address :
    let rx (st : RxState) (c : List Cell) : State :=
      { till with line := { till.line with rx := { Receiver.fresh st with cells := c } } }
    let chars (d : Byte) : List Cell := ((charCells true d).map Cell.ofBool).reverse
    9 ≤ (rx .address (chars 127#8)).line.rx.cells.length
      ∧ runs .destinationCharacter (rx .address (chars 127#8)) (fun u => u.line.rx.state == .take
          && !driving u && runs .receptionEnd u fun t => t.line.rx == Receiver.fresh .hunt) = true
      ∧ runs .receptionEnd (rx .address (chars 127#8)) (fun t =>
          t.line.rx == Receiver.fresh .hunt) = true
      ∧ stays .receptionEnd (rx .address (chars 126#8)) = true
      ∧ stays .receptionEnd (rx .address ((chars 127#8).take 8)) = true
      ∧ stays .receptionEnd (rx .hunt []) = true
      ∧ stays .receptionEnd (sending (newItem till 127 .lastCall false) (rx .take [])) = true := by
  decide

/-- R11's refusals: a wrong check, a body too long for its length, an unknown kind, a field out of range, a
frame cut short. -/
theorem witness_FrameBytesRoundTrip_refuses :
    let b := Frame.bytes ⟨127, 21, .lastCall⟩
    let whole (d : List Byte) : List Byte := d ++ be16 (crc d).toNat
    parseFrame b = some ⟨127, 21, .lastCall⟩ ∧ whole (b.take 4) = b
      ∧ (parseFrame (b.set 4 (b.getD 4 0#8 + 1#8))).isNone = true
      ∧ (parseFrame (b.take 5)).isNone = true ∧ (parseFrame (b ++ [0#8])).isNone = true
      ∧ (parseFrame (whole [127#8, 21#8, 0xEE#8, 0#8])).isNone = true
      ∧ (parseFrame (whole [127#8, 63#8, b.getD 2 0#8, 0#8])).isNone = true := by decide

/-- The refused rows of Table 3-6, each with a slot's level. -/
theorem witness_VoidAndWasteByLineState_refused :
    let by' (st : TicketState) (level : Nat) (s : State) : State :=
      tickets [ticket st by21] { s with slots := s.slots.setIfInBounds 1 (some (operator 1002 level)) }
    let off (s : State) : State := { s with join := { s.join with state := .joining } }
    let line (l : TabLineState) : State := oneShare .opened l .served .opened
    ([TicketState.fired, .ready].all fun st => refuses (.voidLine 1 14337 0) (by' st 3 openTab) .state)
        = true
      ∧ ([TicketState.offering, .placing, .placed, .stranded].all fun st =>
          refuses (.voidLine 1 14337 0) (by' st 3 openTab) .level) = true
      ∧ refuses (.voidLine 1 14337 0) (by' .placing 2 (off openTab)) .offline = true
      ∧ refuses (.voidLine 1 14337 0) (fullQueue (by' .placed 2 openTab)) .lineBusy = true
      ∧ ([TabLineState.fired, .ready, .served, .void, .waste].all fun l =>
          refuses (.voidLine 0 14337 0) (line l) .state) = true
      ∧ refuses (.voidLine 0 14337 0) (line .withdrawing) .pending = true := by decide

/-- LOCKED before STATE before FIELD, for both requests. -/
theorem witness_VoidAndWasteByLineState_order :
    let both (code : Nat) (line : Nat) (s : State) (why : ReplyCode) : Bool :=
      refuses (.voidLine 0 code line) s why && refuses (.wasteLine 0 code line) s why
    TillSlot openTab 0 3 (operator 1001 0)
      ∧ both 14337 9 (oneShare .closed .served .served
        (.paid ⟨.card, 726, 0, 14, some 1001, 7#32⟩)) .locked = true
      ∧ both 14337 9 (oneShare .paying .served .served (.adrift 22 4 .silent)) .locked = true
      ∧ both 14337 9 (oneShare .closed .served .served .empty) .state = true
      ∧ both 14337 2 openTab .field = true := by decide

/-- The notices of the taken cells of Table 4-3, and a ready report's lines; a second LATE says nothing. -/
theorem witness_ProgressAndWithdrawReplies_notices :
    let s (st : TicketState) (late : Bool) : State := tickets [{ ticket st by21 with late := late }] openTab
    let told (st : TicketState) (late : Bool) (ks : KitchenState) (l : List NoticeBody) : Bool :=
      runs (.progress 14 21 ⟨1, 2⟩ ks 3#8) (s st late) fun t => t.notices.map (fun x => x.body) == l
    (told .placing false .late [.placed ⟨1, 2⟩ 14337 21 3 3#8, .late ⟨1, 2⟩ 14337 21 3#8]
        && told .placing true .late [.placed ⟨1, 2⟩ 14337 21 3 3#8]
        && told .ready false .late [.late ⟨1, 2⟩ 14337 21 3#8] && told .fired true .late []
        && told .placed false .fired []) = true
      ∧ ([TicketState.placing, .placed, .fired].all fun st =>
          told st false .ready [.ready ⟨1, 2⟩ 14337 21 3#8]) = true
      ∧ runs (.progress 14 21 ⟨1, 2⟩ .ready 3#8)
        (tickets [ticket .fired by21] (oneShare .opened .fired .served .opened)) (fun t =>
          (tabIn t 0).map (fun tb => tb.lines.map TabLine.state) == some [.ready, .served]) = true := by
  decide

/-- REFUSED of a PLACED and of a FIRED ticket; stale reports and reports of no record, of both kinds. -/
theorem witness_ProgressAndWithdrawReplies_refused :
    let s (st : TicketState) : State := tickets [ticket st by21] openTab
    let reply (ref : Ref) : Instr := .withdrawReply 14 21 ref 0 .removed false
    let none' (ref : Ref) : FrameBody := .withdrawReply ref 0 .removed false
    CanSend (s .placed) 2
      ∧ runs (.progress 14 21 ⟨1, 2⟩ .refused 0#8) (s .placed) (fun t =>
          ticketOf t 1 == some { ticket .offering none with gen := 3 }
            && t.line.waiting.map (fun x => x.frame.dest) == [65, 21]
            && t.notices.map (fun x => x.body) == [.reissued ⟨1, 3⟩ 14337 (some 21) .refused]) = true
      ∧ runs (.progress 14 21 ⟨1, 2⟩ .refused 1#8) (s .fired) (fun t =>
          ticketOf t 1 == some { ticket .fired by21 with kmask := 1#8 } && t.line.waiting == []) = true
      ∧ TillDelivers (s .placed) ⟨14, 21, none' ⟨1, 1⟩⟩ ∧ TillDelivers (s .placed) ⟨14, 21, none' ⟨9, 1⟩⟩
      ∧ runs (reply ⟨1, 1⟩) (s .placed) (fun t => t.tickets == (s .placed).tickets
          && t.line.waiting == [newItem (s .placed) 21 (.revoke ⟨1, 1⟩) false]) = true
      ∧ runs (reply ⟨9, 1⟩) (s .placed) (fun t =>
          t == arrived ⟨14, 21, none' ⟨9, 1⟩⟩ (s .placed)) = true
      ∧ runs (.progress 14 21 ⟨9, 1⟩ .fired 1#8) (s .placed) (fun t =>
          t == arrived ⟨14, 21, .progress ⟨9, 1⟩ .fired 1#8⟩ (s .placed)) = true := by decide

/-- UNKNOWN and now-empty with another position live, and with none; FIRED of PLACING and PLACED. -/
theorem witness_ProgressAndWithdrawReplies_emptied :
    let s (st : TicketState) (live : Byte) : State := tickets [{ ticket st by21 with
      live := live, withdrawals := [⟨0, 1, none⟩] }] (oneShare .opened .withdrawing .sent .opened)
    let reply (o : WithdrawOutcome) (e : Bool) : Instr := .withdrawReply 14 21 ⟨1, 2⟩ 0 o e
    let reissued (c : Instr) : Bool := runs c (s .placed 3#8) fun t =>
      ticketOf t 1 == some { ticket .offering none with gen := 3, live := 2#8 }
        && (tabIn t 0).map (fun tb => (tb.gross, tb.lines.map TabLine.state))
          == some (101, [.void, .sent])
        && t.line.waiting.map (fun x => x.frame.dest) == [65]
        && t.notices.map (fun x => x.body) == [.reissued ⟨1, 3⟩ 14337 (some 21) .holdsNothing]
    CanSend (s .placed 3#8) 1
      ∧ (reissued (reply .unknown false) && reissued (reply .removed true)) = true
      ∧ ([reply .removed false, reply .removed true, reply .unknown false].all fun c =>
          runs c (s .ready 1#8) fun t => t.tickets == [] && t.notices == []
            && (tabIn t 0).map Tab.gross == some 101) = true
      ∧ runs (reply .unknown false) (s .ready 3#8) (fun t =>
          ticketOf t 1 == some { ticket .ready by21 with live := 2#8 }) = true
      ∧ ([TicketState.placing, .placed].all fun st => runs (reply .fired false) (s st 3#8) fun t =>
          (ticketOf t 1).map Ticket.state == some .fired
            && (tabIn t 0).map (fun tb => tb.lines.map TabLine.state) == some [.fired, .fired]
            && t.notices.map (fun x => x.body) == [.withdrawRefused ⟨1, 2⟩ 14337 0]) = true := by decide

/-- A settlement of a share index beyond the count, of a code of the wrong issue; returns of no share, of an
unknown code and of a CLOSED tab. -/
theorem witness_HomeRecordsSettlements_noShare :
    let s := twoShares (.heldRemote 22 4) .opened
    let closed := oneShare .closed .served .served (.paid ⟨.card, 726, 0, 22, none, 7#32⟩)
    let returns (s : State) (code i : Nat) : Bool := runs (.shareReturn 14 22 code i) s fun t =>
      t.tabs == s.tabs && t.notices == []
        && t.line.waiting == [newItem s 22 (.shareClose code i .returnRecorded) false]
    let conflicts (code i : Nat) : Bool := runs (.shareSettle 14 22 code i .card 376 0) s fun t =>
      t.tabs == s.tabs && t.notices.length == 1
        && t.line.waiting == [newItem s 22 (.shareClose code i .conflict) false]
    (conflicts 14337 2 && conflicts 14338 0) = true
      ∧ (returns s 14337 2 && returns s 14338 0 && returns s 14337 1 && returns closed 14337 0) = true := by
  decide

/-- A grant of no entry at all and one from a station that is not the home; answers that match an entry in
another state, or none, are ignored. -/
theorem witness_BorrowerTakesAnswers_unmatched :
    let a : Amounts := ⟨300, 0, 300, 0, 0, 0, 0, 0, 300⟩
    let s := borrowing (lent .borrowed .none) till
    let only (c : Instr) (body : FrameBody) (s : State) : Bool := runs c s fun t =>
      t == arrived ⟨14, 22, body⟩ s
    CanSend till 1 ∧ TillDelivers till ⟨14, 22, .shareGrant 22529 0 a⟩ ∧ borrowedOf till 22529 0 = none
      ∧ runs (.shareGrant 14 22 22529 0 a) till (fun t =>
          t.line.waiting == [newItem till 22 (.shareReturn 22529 0) false]) = true
      ∧ runs (.shareGrant 14 21 22529 0 a) (borrowing (lent .asking .none) till) (fun t =>
          t.borrowed == [lent .asking .none]
            && t.line.waiting == [newItem till 21 (.shareReturn 22529 0) false]) = true
      ∧ (only (.shareGrant 14 22 22529 0 a) (.shareGrant 22529 0 a) s
        && only (.shareDeny 14 22 22529 0 .held) (.shareDeny 22529 0 .held) s
        && only (.shareDeny 14 22 22529 0 .held) (.shareDeny 22529 0 .held) till
        && only (.shareClose 14 22 22529 0 .paidRecorded) (.shareClose 22529 0 .paidRecorded) s
        && only (.shareClose 14 22 22529 0 .returnRecorded) (.shareClose 22529 0 .returnRecorded) till)
        = true := by decide

/-- An older entry without a bid, replaced from a lapsed item of the ticket, and refused without one; an
award outside ON-LINE. -/
theorem witness_AwardsAreAnswered_lapsedBeside :
    let l : Lapsed := ⟨14, 7, 1, 3, .rush, [⟨⟨1, [0x55#8], []⟩, true⟩], 99000#32⟩
    let s (st : EntryState) (ls : List Lapsed) : State := entries (entry st none
      :: ((List.range 3).map fun i => { entry .fired none with number := 100 + i }))
        { kit with kitchen := { kit.kitchen with lapsed := ls } }
    let takes (st : EntryState) (k : KitchenState) (p : Entry → Bool) : Bool :=
      runs (.award 65 14 ⟨1, 3⟩ 21 1#8) (s st [l]) fun t => (entryOf t 14 1).any (fun e =>
          p e && e.gen == 3 && e.priority == .rush && e.lines == l.lines) && t.kitchen.lapsed == []
        && t.line.waiting == [newItem kit 14 (.progress ⟨1, 3⟩ k 1#8) false]
    let refused (m : Byte) (ls : List Lapsed) : Bool :=
      runs (.award 65 14 ⟨1, 3⟩ 21 m) (s .fired ls) fun t => t.kitchen == (s .fired ls).kitchen
        && t.notices.map (fun x => x.body) == [.ticketRefused 14 ⟨1, 3⟩]
    lapsedAt (s .queued [l]) 14 ⟨1, 3⟩ = some l
      ∧ takes .queued .queued (fun e => e.state == .queued && e.band == .rush && e.seq == 1) = true
      ∧ takes .fired .fired (fun e => e.state == .fired && e.band == .normal) = true
      ∧ takes .revokedFired .fired (fun e => e.state == .fired) = true
      ∧ (refused 2#8 [l] && refused 1#8 []) = true := by decide

theorem witness_AwardsAreAnswered_offline :
    let s := entries [entry .tentative (some (bidIn .queued))]
      { kit with join := { kit.join with state := .joining, windowFrom := some 0#32 } }
    Delivers s ⟨65, 14, .award ⟨1, 2⟩ 21 3#8⟩ ∧ s.join.state ≠ .onLine
      ∧ runs (.award 65 14 ⟨1, 2⟩ 21 3#8) s (fun t =>
          t == arrived ⟨65, 14, .award ⟨1, 2⟩ 21 3#8⟩ s) = true := by decide

/-- A FIRED entry with a replacement bid under a WITHDRAW of its own generation; other generations of an
entry, a bid and a pass entry. -/
theorem witness_WithdrawRevokeCollect_generations :
    let s := entries [entry .fired (some { bidIn .queued with gen := 3 })] kit
    let p := onPass 0#32 1 (entries [{ entry .queued none with gen := 3 }] kit)
    let replies (s : State) (ref : Ref) (o : WithdrawOutcome) : Bool :=
      runs (.withdraw 21 14 ref 0) s fun t => t.kitchen == s.kitchen && t.notices == []
        && t.line.waiting == [newItem kit 14 (.withdrawReply ref 0 o false) false]
    (replies s ⟨1, 2⟩ .fired && replies s ⟨1, 4⟩ .unknown && replies s ⟨1, 3⟩ .unknown
        && replies p ⟨1, 2⟩ .fired) = true
      ∧ stays (.revoke 21 14 ⟨1, 4⟩) s = true := by decide

/-- A REVOKE and a COLLECT that name an entry, a pass entry and a lapsed-bid item together. -/
theorem witness_WithdrawRevokeCollect_together :
    let s (st : EntryState) : State := entries [entry st none] (onPass 0#32 1 { kit with
      kitchen := { kit.kitchen with lapsed := [⟨14, 7, 1, 2, .normal, [], 99000#32⟩] } })
    passAt (s .fired) 14 ⟨1, 2⟩ ≠ none ∧ lapsedAt (s .fired) 14 ⟨1, 2⟩ ≠ none
      ∧ runs (.revoke 21 14 ⟨1, 2⟩) (s .fired) (fun t =>
          t.kitchen.entries == [entry .revokedFired none] && t.kitchen.pass == []
            && t.kitchen.lapsed == []
            && t.notices.map (fun x => x.body) == [.revokedWhileFired 14 ⟨1, 2⟩ .revoke]) = true
      ∧ runs (.revoke 21 14 ⟨1, 2⟩) (s .queued) (fun t =>
          (t.kitchen.entries, t.kitchen.pass, t.kitchen.lapsed) == ([], [], [])) = true
      ∧ runs (.collectFrame 21 14 ⟨1, 2⟩) (s .fired) (fun t =>
          t.kitchen.entries == [] && t.kitchen.pass == [] && t.kitchen.lapsed.length == 1
            && t.notices.map (fun x => x.body) == [.ticketCollected 14 ⟨1, 2⟩]) = true := by decide

/-- Twelve others on the pass: the oldest is dropped. -/
theorem witness_BumpMovesToThePass_dropped :
    let others : List PassEntry :=
      (List.range 12).map fun i => ⟨14, 7, 100 + i, 2, 3#8, 0#32, 1, false⟩
    let s := entries [entry .fired none]
      { kit with kitchen := { kit.kitchen with pass := others } }
    KitchenSlot s 0 (operator 1001 0) ∧ CanSend s 1 ∧ others.length = 12
      ∧ runs (.bump 0 14 1) s (fun t => t.kitchen.pass
            == others.tail ++ [⟨14, 7, 1, 2, 3#8, 100000#32, 1, false⟩]
          && t.notices.map (fun x => x.body) == [.passDropped 14 ⟨100, 2⟩]
          && t.link.reply == some ⟨.done, [0#8]⟩) = true := by decide

/-- Both lanes and the list given up in the order of log 53: one ticket's entry has left the queue, as has
an item's. A wait that a released BUSY has ended accepts the byte instead. -/
theorem witness_PrinterFaultsTakeTheirResponse_lanes :
    let e (n : Nat) (p : PrintState) : Entry := { entry .fired none with number := n, print := p }
    let s := entries [e 1 .printing, e 3 .waiting, e 5 .printed]
      (port (fun p => { p with left := some (lane 1), list := [⟨14, 3, false⟩, ⟨14, 4, false⟩]
                               right := some { lane 0 with ref := ⟨2, 0⟩, held := false } })
        (faulting .skip))
    let waits (st : Stage) : State := port (fun p => { p with
      state := .sending, job := twoBytes, stage := st }) kit
    runs .handshakeLimitExpiry s (fun t => t.port.state == .down && t.port.left == none
        && t.port.right == none && t.port.list == []
        && t.kitchen.entries == [e 1 .unprinted, e 3 .unprinted, e 5 .printed]
        && t.notices.map (fun x => x.body) == [.printerFault .noResponse .skip,
          .ticketUnprinted 14 ⟨1, 2⟩, .ticketUnprinted 14 ⟨2, 0⟩, .ticketUnprinted 14 ⟨3, 2⟩]) = true
      ∧ runs .handshakeLimitExpiry (waits (.releaseWait 5#32)) (fun t => t.port.pd == 0x42#8
          && t.port.stage == .strobe && t.notices == [] && t.clock == kit.clock) = true
      ∧ runs .handshakeLimitExpiry (waits (.readyWait 5#32)) (fun t => t.port.pd == 0x41#8
          && t.port.stage == .strobe && t.notices == []) = true := by decide

/-- The end of a recovery with no ticket: IDLE, or the cut that is owed; with one in each lane. -/
theorem witness_RecoveryRestartsTheTickets_ends :
    let s (lanes owed : Bool) : State :=
      { port (fun p => { p with
          state := .sending, job := .recovery, stage := .readyWait 5#32, cutOwed := owed
          left := if lanes then some (lane 2) else none
          right := if lanes then some { lane 1 with ref := ⟨2, 0⟩, reprint := true } else none
          faultKind := some .noResponse }) kit with straps := ⟨2, 5, 1, 1⟩ }
    let each (lanes owed : Bool) (p : State → Bool) : Bool :=
      [.recoveryEnd, .busyReleased, .handshakeLimitExpiry].all fun c => runs c (s lanes owed) fun t =>
        t.notices.map (fun x => x.body) == [.printerResumed] && t.port.faultKind == none && p t
    dualLane (s false false) = true
      ∧ each false false (fun t => t.port.state == .idle && t.port.job == .none
          && t.port.stage == .rest) = true
      ∧ each false true (fun t => t.port.state == .sending && t.port.job == .cut && t.port.cutOwed
          && t.port.pd == 0x0C#8) = true
      ∧ each true true (fun t =>
          t.port.job == .line (0x48#8 :: (List.replicate 21 0x20#8 ++ [0x48#8, 0x0D#8, 0x0A#8]))
            && t.port.left.map (fun k => (k.next, k.reprint, k.image.length)) == some (0, true, 4)
            && t.port.right.map (fun k => (k.next, k.reprint, k.image.length)) == some (0, true, 3))
        = true
      ∧ stays .busyReleased (port (fun p => { p with primeLeft := 3 }) (s true false)) = true := by decide

/-- The flags and the band of a QUEUED entry that a REVOKE makes TENTATIVE (logs 51 and 52). -/
theorem witness_WithdrawRevokeCollect_flags :
    let b : Bid := ⟨3, .rush, [⟨⟨1, [0x55#8], []⟩, true⟩], .queued, 1⟩
    let s := entries [{ entry .queued (some b) with warn := true, late := true }] kit
    runs (.revoke 21 14 ⟨1, 2⟩) s (fun t =>
      t.kitchen.entries.map (fun e => (e.state, e.band, e.warn, e.late, e.arrival))
        == [(.tentative, .rush, false, false, none)]) = true := by decide

/-- The ordinary AWARD at a kitchen with room and nothing QUEUED: the entry is accepted and fires. -/
theorem witness_AwardsAreAnswered_fires :
    let s := port (fun p => { p with state := .sending }) (entries
      [entry .tentative (some (bidIn (.awaiting 99999#32))), { entry .fired none with number := 2 }] kit)
    KitchenDelivers s ⟨65, 14, .award ⟨1, 2⟩ 21 2#8⟩ ∧ CanSend s 2 ∧ passAt s 14 ⟨1, 2⟩ = none
      ∧ cookingCount s < s.join.figures.fire ∧ (∀ x ∈ s.kitchen.entries, x.state ≠ .queued)
      ∧ (s.kitchen.entries.map fun x => (x.origin, x.number)).Nodup
      ∧ runs (.award 65 14 ⟨1, 2⟩ 21 2#8) s (fun t =>
          (entryOf t 14 1).map (fun e => (e.state, e.seq, e.firedSeq, e.print, e.bid))
            == some (.fired, 1, 1, .waiting, none)
          && t.line.waiting == [newItem s 14 (.progress ⟨1, 2⟩ .queued 2#8) false,
            newItem s 14 (.progress ⟨1, 2⟩ .fired 2#8) false]
          && t.port.list == [⟨14, 1, false⟩]
          && t.notices.map (fun x => x.body)
            == [.ticketAccepted 14 ⟨1, 2⟩ .normal 1, .ticketFired 14 ⟨1, 2⟩]) = true := by decide

/-- Auto-fire after the removal of a QUEUED entry by each frame that removes one: the other one fires. -/
theorem witness_WithdrawRevokeCollect_fires :
    let q : Entry := { entry .queued none with number := 2 }
    let s := entries [{ entry .queued none with lines := [⟨⟨2, [0x53#8], []⟩, true⟩] }, q]
      (port (fun p => { p with state := .sending }) kit)
    let fires (c : Instr) (frames : List FrameBody) (told : NoticeBody) : Bool :=
      runs c s fun t =>
        t.kitchen.entries == [{ q with state := .fired, firedSeq := 1, print := .waiting }]
          && t.line.waiting == frames.map (fun b => newItem kit 14 b false)
          && t.notices.map (fun x => x.body) == [told, .ticketFired 14 ⟨2, 2⟩]
    CanSend s 1 ∧ (fires (.withdraw 21 14 ⟨1, 2⟩ 0)
        [.progress ⟨2, 2⟩ .fired 3#8, .withdrawReply ⟨1, 2⟩ 0 .removed true] (.lineWithdrawn 14 ⟨1, 2⟩ 0)
      && fires (.revoke 21 14 ⟨1, 2⟩) [.progress ⟨2, 2⟩ .fired 3#8] (.revoked 14 ⟨1, 2⟩ .revoke)
      && fires (.collectFrame 21 14 ⟨1, 2⟩) [.progress ⟨2, 2⟩ .fired 3#8]
        (.ticketCollected 14 ⟨1, 2⟩)) = true := by decide

/-- Auto-fire after a promotion and after a restart of an origin. -/
theorem witness_EntryTimersAndPassRepeats_fires :
    let s := entries [{ entry .queued none with arrival := some 0#32 }]
      (port (fun p => { p with state := .sending })
        { kit with clock := { kit.clock with time := 480000#32 } })
    let restarted := entries [entry .queued none, { entry .queued none with origin := 15 }]
      (port (fun p => { p with state := .sending }) kit)
    runs (.lateTimerExpiry 14 1) s (fun t =>
        (entryOf t 14 1).map (fun e => (e.late, e.band, e.state)) == some (true, .rush, .fired)
          && t.line.waiting == [newItem kit 14 (.progress ⟨1, 2⟩ .late 3#8) false,
            newItem kit 14 (.progress ⟨1, 2⟩ .fired 3#8) false]) = true
      ∧ (raiseEvent 14 (.restarted 8) restarted).kitchen.entries.map (fun e => (e.origin, e.state))
        = [(15, .fired)] := by decide

/-- The last record of a CLOSED tab is collected: the tab is freed, unless a line is unfinished or another
record is on it. -/
theorem witness_RetryAndCollectTickets_closed :
    let s (b : TabLineState) (more : List Ticket) : State :=
      tickets (ticket .ready by21 :: more) (oneShare .closed .ready b .empty)
    let served : TabLineState → Option (TabState × List TabLineState) := fun b =>
      some (.closed, [.served, b])
    let stays (b : TabLineState) (more : List Ticket) : Bool := runs (.collect 0 1) (s b more) fun t =>
      (tabIn t 0).map (fun tb => (tb.state, tb.lines.map TabLine.state)) == served b && t.notices == []
    TillSlot (s .served []) 0 3 (operator 1001 0) ∧ CanSend (s .served []) 1
      ∧ runs (.collect 0 1) (s .served []) (fun t => t.tabs[0]? == some ⟨1, none⟩ && t.tickets == []
          && t.notices.map (fun x => x.body) == [.tabFreed 14337]) = true
      ∧ (stays .entered [] && stays .served [{ ticket .offering none with number := 2 }]) = true := by
  decide

/-- The last position of a CLOSED tab's last record is removed, by its WITHDRAW-REPLY and by a REFUSED. -/
theorem witness_ProgressAndWithdrawReplies_closed :
    let s := tickets [{ ticket .placed by21 with live := 1#8, withdrawals := [⟨0, 1, none⟩] }]
      (oneShare .closed .withdrawing .served .empty)
    let frees (c : Instr) (frames : List TxItem) : Bool := runs c s fun t =>
      t.tabs[0]? == some ⟨1, none⟩ && t.tickets == [] && t.line.waiting == frames
        && t.notices.map (fun x => x.body) == [.tabFreed 14337]
    CanSend s 1 ∧ (frees (.withdrawReply 14 21 ⟨1, 2⟩ 0 .removed true) []
      && frees (.progress 14 21 ⟨1, 2⟩ .refused 0#8) [newItem s 21 (.revoke ⟨1, 2⟩) false]) = true := by
  decide

/-- A SHARE-ASK in transmission when its grant is delivered collides and waits again: it is cancelled when
the entry is freed. So is the SHARE-SETTLE of an entry that a restart of its home made ORPHANED. -/
theorem witness_BorrowerTakesAnswers_collided :
    let a : Amounts := ⟨300, 0, 300, 0, 0, 0, 0, 0, 300⟩
    let collides (s : State) : State :=
      match exec .jamEnd { s with line := { s.line with state := some .jamming, txPos := 64 } } with
      | .next t => t
      | _ => s
    let ask := newItem till 22 (.shareAsk 22529 0) true
    let settle := newItem till 22 (.shareSettle 22529 0 .card 300 0) true
    let asking := sending ask (borrowing (lent .asking .none) till)
    let confirming := sending settle (borrowing (lent .confirming .none) till)
    runs (.shareGrant 14 22 22529 0 a)
        { asking with line := { asking.line with inbound := [⟨14, 22, .shareGrant 22529 0 a⟩] } }
        (fun t => t.line.sending == some ask && (collides t).line.waiting.map TxItem.n == [1]
          && (collides t).borrowed.map Borrowed.state == [.borrowed]
          && (raiseEvent 22 (.restarted 5) (collides t)).borrowed == []
          && (raiseEvent 22 (.restarted 5) (collides t)).line.waiting == []) = true
      ∧ (let t := borrowedEvent (.restarted 5) confirming (lent .confirming .none)
         (t.line.sending == some settle && t.borrowed.map Borrowed.state == [.orphaned]
           && (collides t).line.waiting.map TxItem.n == [1]
           && runs (.clearOrphan 0 22529 0) (collides t) (fun u =>
             u.borrowed == [] && u.line.waiting == [])) = true) := by decide

/-- The lapsed item of a replacement bid takes the entry's origin mark (log 55). -/
theorem witness_BidsRunOut_mark :
    let b : Bid := ⟨3, .rush, [⟨⟨1, [0x55#8], []⟩, true⟩], .awaiting 99600#32, 1⟩
    runs (.tentativeExpiry 14 1)
      (hears 14 (heardAs .till 0 8 0#32) (entries [entry .fired (some b)] kit)) (fun t =>
        t.kitchen.lapsed == [⟨14, 7, 1, 3, .rush, b.lines, 100000#32⟩]) = true := by decide

end Sys2Proof.Tests
end

section
/-! The destinations a station accepts (R9, Table 1-4): its own code is in 1-62 by its straps (R23), and a
kitchen's class group is one of the eight codes from 64, but not the one of all tills. -/

namespace Sys2Proof.Machine

/-! ## Identity within its range -/

theorem stationNumber_iff {n : Nat} : stationNumber n = true ↔ 1 ≤ n ∧ n ≤ 62 := by
  simp [stationNumber]

/-- Valid straps form a station number of Table 1-3's range (R23). -/
theorem stationNumber_station {s : State} (h : Straps.invalid s.straps = false) :
    stationNumber (station s) = true := by
  simp only [Straps.invalid, Bool.or_eq_false_iff, beq_eq_false_iff_ne] at h
  obtain ⟨⟨hzero, hfull⟩, -⟩ := h
  rw [stationNumber_iff, station]
  omega

/-- A ROLE level other than 0 is the kitchen's class, so class 0 is no kitchen's (R23). -/
theorem ownClass_pos_of_kitchen {s : State} (h : role s = .kitchen) : 0 < ownClass s := by
  unfold role at h
  split at h
  · cases h
  · exact Nat.pos_of_ne_zero ‹_›

theorem ownClass_le (s : State) : ownClass s ≤ 7 := by
  unfold ownClass
  omega

/-! ## Acceptance by role -/

theorem acceptsDest_till_iff {s : State} (h : role s = .till) (d : Nat) :
    acceptsDest s d = true ↔ d = station s ∨ d = 127 ∨ (64 ≤ d ∧ d ≤ 71) := by
  simp [acceptsDest, h, or_assoc]

theorem acceptsDest_kitchen_iff {s : State} (h : role s = .kitchen) (d : Nat) :
    acceptsDest s d = true ↔ d = station s ∨ d = 127 ∨ d = 64 + ownClass s := by
  simp [acceptsDest, h, classGroup, or_assoc]

theorem acceptsDest_join (s : State) (j : Join) (d : Nat) :
    acceptsDest { s with join := j } d = acceptsDest s d := rfl

/-- At either role a code that is accepted is the station's own, 127, or one of the eight group codes. -/
theorem acceptsDest_range {s : State} {d : Nat} (h : acceptsDest s d = true) :
    d = station s ∨ d = 127 ∨ (64 ≤ d ∧ d ≤ 71) := by
  cases hrole : role s with
  | till => exact (acceptsDest_till_iff hrole d).mp h
  | kitchen =>
    have hclass := ownClass_le s
    have hcode := (acceptsDest_kitchen_iff hrole d).mp h
    omega

/-- Codes outside Table 1-4 are not accepted: a station's own number is none of them. -/
theorem acceptsDest_unassigned {s : State} (hs : stationNumber (station s) = true) {d : Nat}
    (hd : d = 0 ∨ d = 63 ∨ (72 ≤ d ∧ d ≤ 126) ∨ 128 ≤ d) : acceptsDest s d = false := by
  have hown := stationNumber_iff.mp hs
  refine Bool.eq_false_iff.mpr fun h => ?_
  have hcode := acceptsDest_range h
  omega

/-- The code of all tills is no kitchen's own number and no kitchen's class group. -/
theorem acceptsDest_kitchen_allTills {s : State} (hs : stationNumber (station s) = true)
    (hrole : role s = .kitchen) : acceptsDest s 64 = false := by
  have hown := stationNumber_iff.mp hs
  have hclass := ownClass_pos_of_kitchen hrole
  refine Bool.eq_false_iff.mpr fun h => ?_
  have hcode := (acceptsDest_kitchen_iff hrole 64).mp h
  omega

/-- Settles O18: each role's codes are read off its branch of `acceptsDest`, and valid straps keep the
station's own number off the codes that no station answers to. -/
theorem stationAcceptsItsDestinations : Obligations.StationAcceptsItsDestinations := by
  intro s d
  refine ⟨fun hrole => ?till, fun hrole => ?kitchen, fun j => acceptsDest_join s j d, fun hstraps => ?none⟩
  case till =>
    rw [acceptsDest_till_iff hrole]
    omega
  case kitchen =>
    rw [acceptsDest_kitchen_iff hrole]
    omega
  case none =>
    have hs := stationNumber_station hstraps
    exact ⟨acceptsDest_unassigned hs, acceptsDest_kitchen_allTills hs⟩

end Sys2Proof.Machine
end

section
/-! ATTN and the notice queue (R172): the pin follows the queue and the overflow flag, and a reset leaves
neither standing (Table 10-9). -/

namespace Sys2Proof.Machine

theorem attn_iff (s : State) : attn s = true ↔ s.notices ≠ [] ∨ s.overflow.isSome = true := by
  simp only [attn, Bool.or_eq_true, Bool.not_eq_true', List.isEmpty_eq_false_iff]

theorem attn_released {s : State} (hnotices : s.notices = []) (hoverflow : s.overflow = none) :
    attn s = false := by
  simp [Bool.eq_false_iff, attn_iff, hnotices, hoverflow]

/-! ## After a reset -/

@[simp] theorem resetTo_notices (p : Straps) (s : State) : (resetTo p s).notices = [] := rfl

@[simp] theorem resetTo_overflow (p : Straps) (s : State) : (resetTo p s).overflow = none := rfl

/-- RESET is never refused: its outcome is the state after reset. -/
theorem exec_reset (p : Straps) (s : State) : exec (.reset p) s = .next (resetTo p s) := rfl

theorem attn_resetTo (p : Straps) (s : State) : attn (resetTo p s) = false :=
  attn_released (resetTo_notices p s) (resetTo_overflow p s)

/-- Settles O59: `attn` reads the notice queue and the overflow flag only, and RESET's one outcome has
an empty queue and a clear flag. -/
theorem attnFollowsTheNotices : Obligations.AttnFollowsTheNotices := by
  refine ⟨attn_iff, fun p s t hreset => ?_⟩
  rw [exec_reset, Host.Outcome.next.injEq] at hreset
  subst hreset
  exact attn_resetTo p s

end Sys2Proof.Machine
end

section
-- One proof at a time: side by side, their threads' stacks outgrow the check's memory.
set_option Elab.async false
/-! What every command keeps, said once. -/

namespace Sys2Proof.Machine

/-! ## The relation -/

/-- What a command other than RESET keeps between the state before it and the state after it, but for what
the kitchen queue and the printer port hold: the straps and the waiting commands, STRAP-FAULT and
DUPLICATE, and each invariant on its own. A change of some blocks names the fields that speak of them; the
others carry over as they stand. -/
structure KeepsCore (s t : State) : Prop where
  straps : t.straps = s.straps := by rfl
  pending : t.pending = s.pending := by rfl
  strapFault : s.join.state = .strapFault → t.join.state = .strapFault := by exact id
  duplicate : s.join.state = .duplicate → t.join.state = .duplicate := by exact id
  queues : s.QueuesSound → t.QueuesSound := by exact id
  kitchen : s.KitchenKeepsNoTabs → t.KitchenKeepsNoTabs := by exact id
  line : s.LineFollowsJoin → t.LineFollowsJoin := by exact id
  clock : s.ClockSound → t.ClockSound := by exact id
  own : s.OwnEntryAbsent → t.OwnEntryAbsent := by exact id
  names : s.NamesUnique → t.NamesUnique := by exact id
  tabs : s.TabsSound → t.TabsSound := by exact id

/-- The same with the fire capacity and the names of the entries, but for a till's kitchen blocks. -/
structure KeepsApart (s t : State) : Prop extends KeepsCore s t where
  entries : s.WithinFireCapacity → t.WithinFireCapacity := by exact id

/-- Everything a command other than RESET keeps. -/
structure Keeps (s t : State) : Prop extends KeepsApart s t where
  till : s.TillPrintsNothing → t.TillPrintsNothing := by exact id

theorem KeepsCore.trans {s t u : State} (h : KeepsCore s t) (k : KeepsCore t u) : KeepsCore s u where
  straps := k.straps.trans h.straps
  pending := k.pending.trans h.pending
  strapFault := k.strapFault ∘ h.strapFault
  duplicate := k.duplicate ∘ h.duplicate
  queues := k.queues ∘ h.queues
  kitchen := k.kitchen ∘ h.kitchen
  line := k.line ∘ h.line
  clock := k.clock ∘ h.clock
  own := k.own ∘ h.own
  names := k.names ∘ h.names
  tabs := k.tabs ∘ h.tabs

theorem KeepsApart.trans {s t u : State} (h : KeepsApart s t) (k : KeepsApart t u) : KeepsApart s u where
  toKeepsCore := h.toKeepsCore.trans k.toKeepsCore
  entries := k.entries ∘ h.entries

theorem KeepsApart.refl (s : State) : KeepsApart s s := {}

theorem Keeps.refl (s : State) : Keeps s s := {}

theorem Keeps.trans {s t u : State} (h : Keeps s t) (k : Keeps t u) : Keeps s u where
  toKeepsApart := h.toKeepsApart.trans k.toKeepsApart
  till := k.till ∘ h.till

theorem role_congr {s t : State} (h : t.straps = s.straps) : role t = role s := by
  simp [role, h]

/-- What is no till at rest keeps a till at rest. -/
theorem KeepsApart.keeps {s t : State} (h : KeepsApart s t)
    (hr : role s = .till → ¬s.TillPrintsNothing) : Keeps s t where
  toKeepsApart := h
  till := fun ht hrt => absurd ht (hr (role_congr h.straps ▸ hrt))

theorem KeepsApart.keeps_of_kitchen {s t : State} (h : KeepsApart s t) (hr : role s = .kitchen) :
    Keeps s t := h.keeps fun ht => by simp [hr] at ht

/-- Steps that each keep, taken over a list, keep. -/
theorem keeps_foldl {α : Type} {f : State → α → State} (h : ∀ s a, Keeps s (f s a)) (xs : List α)
    (s : State) : Keeps s (xs.foldl f s) := by
  induction xs generalizing s with
  | nil => exact .refl s
  | cons x xs ih => exact (h s x).trans (ih (f s x))

/-! ## Blocks that no invariant speaks of -/

/-- The link, the operator slots, the closed shifts, last call, the overflow flag and the free counter stand
in no invariant. -/
theorem keeps_of_unwatched {s t : State} (h : t = { s with
    lastCall := t.lastCall, slots := t.slots, closed := t.closed, link := t.link,
    overflow := t.overflow, free := t.free }) : Keeps s t := by
  rw [h]
  exact {}

theorem keeps_updLink (f : Link → Link) (s : State) : Keeps s (updLink f s) := {}

theorem keeps_addTotals (slot : Nat) (f : Totals → Totals) (s : State) :
    Keeps s (addTotals slot f s) := by
  unfold addTotals
  split
  · exact {}
  · exact .refl s

theorem keeps_notify (b : NoticeBody) (s : State) : Keeps s (notify b s) := by
  unfold notify
  split
  case isTrue hroom =>
    exact { queues := fun ⟨h1, h2, _, h⟩ => ⟨h1, h2, by simp [noticeCapacity] at hroom ⊢; omega, h⟩ }
  case isFalse => exact {}

/-! ## Time -/

theorem pass_frame (l : LineCtl) (h : Nat) : (LineCtl.pass l h).waiting = l.waiting
    ∧ (LineCtl.pass l h).sending = l.sending ∧ (LineCtl.pass l h).inbound = l.inbound := by
  unfold LineCtl.pass
  split <;> exact ⟨rfl, rfl, rfl⟩

theorem goIdle_off (r : Receiver) : (Receiver.goIdle r).state = .off ↔ r.state = .off := by
  unfold Receiver.goIdle
  split <;> simp_all [Receiver.fresh]
  split <;> simp_all

theorem countSound_fresh (st : RxState) : Receiver.CountSound (Receiver.fresh st) := by
  simp [Receiver.fresh]

theorem countSound_goIdle {r : Receiver} (h : Receiver.CountSound r) :
    Receiver.CountSound (Receiver.goIdle r) := by
  unfold Receiver.goIdle
  split
  · exact h
  · exact h
  · exact countSound_fresh _
  · split
    · exact countSound_fresh _
    · exact h

theorem keeps_advance (n : Nat) (s : State) : Keeps s (advance n s) where
  queues := by
    obtain ⟨hw, hs, hi⟩ := pass_frame s.line n
    simp [State.QueuesSound, txCount, advance, hw, hs, hi]
  clock := fun _ => clockSound_advance n s
  line := by
    obtain ⟨hw, hs, hi⟩ := pass_frame s.line n
    rintro ⟨h1, h2, h3, h4, h5, h6⟩
    refine ⟨by simpa [advance, hw, hs] using h1, ?_, ?_, ?_, ?_, h6⟩
    · simp only [driving, advance, hs] at h2 ⊢
      rw [← h2]
      unfold LineCtl.pass
      split <;> simp_all
      split <;> simp_all
    · refine Iff.trans ?_ h3
      simp only [advance]
      unfold LineCtl.pass
      split <;> simp
      split <;> simp [goIdle_off]
    · simp only [advance]
      unfold LineCtl.pass
      split
      · exact h4
      · exact h4
      · exact h4
      · dsimp only
        split
        · exact h4
        · exact countSound_goIdle h4
    · refine Iff.trans ?_ h5
      simp only [advance]
      unfold LineCtl.pass
      split <;> simp_all

theorem keeps_advanceUntil (start : Time) (limit : Nat) (s : State) :
    Keeps s (advanceUntil start limit s) := by
  unfold advanceUntil
  split
  · exact keeps_advance _ s
  · exact .refl s

/-! ## The transmit queue -/

/-- The transmit queue loses frames or lets some go, keeping its order. -/
theorem keeps_queue {w : List TxItem} {x : Option TxItem} (s : State) 
    (hw : (w.map TxItem.cls).Sublist (s.line.waiting.map TxItem.cls))
    (hx : x.isSome = s.line.sending.isSome) :
    Keeps s { s with line := { s.line with waiting := w, sending := x } } where
  queues := by
    rintro ⟨h1, h2, h3, h4, h5, h6, h7, h8, h9⟩
    refine ⟨h1, ?_, h3, h4, h5, h6, h7, h8, ?_⟩
    · have hlen := hw.length_le
      have hxs : x.toList.length = s.line.sending.toList.length := by
        cases x <;> cases hs : s.line.sending <;> simp_all
      simp only [List.length_map] at hlen
      simp only [txCount] at h2 ⊢
      omega
    · have := List.Pairwise.sublist hw (List.pairwise_map.2 h9)
      exact List.pairwise_map.1 this
  line := by
    rintro ⟨h1, h2, h3⟩
    refine ⟨fun hj => ?_, by rw [hx]; exact h2, h3⟩
    obtain ⟨e1, e2⟩ := h1 hj
    rw [e1] at hw
    rw [e2] at hx
    exact ⟨by simpa using hw, by simpa using hx⟩

theorem disown_cls (p : TxItem → Bool) (x : TxItem) : (TxItem.disown p x).cls = x.cls := by
  unfold TxItem.disown
  split <;> rfl

theorem keeps_cancelWaiting (p : TxItem → Bool) (s : State) : Keeps s (cancelWaiting p s) :=
  keeps_queue s (List.filter_sublist.map _) rfl

theorem keeps_cancelFrames (p : TxItem → Bool) (s : State) : Keeps s (cancelFrames p s) :=
  keeps_queue s (List.filter_sublist.map _) (by simp)

theorem keeps_disownFrames (p : TxItem → Bool) (s : State) : Keeps s (disownFrames p s) :=
  keeps_queue s (by simp [Function.comp_def, disown_cls]) (by simp)

/-! ## Records by name -/

theorem map_named_eq {α β : Type} (name : α → β) (c : α → Prop) [DecidablePred c] {f : α → α}
    (h : ∀ x, c x → name (f x) = name x) (xs : List α) :
    (xs.map fun x => if c x then f x else x).map name = xs.map name := by
  rw [List.map_map]
  refine List.map_congr_left fun x _ => ?_
  simp only [Function.comp_apply]
  split
  · exact h x ‹_›
  · rfl

theorem keeps_updTicket {number : Nat} {f : Ticket → Ticket} (hf : ∀ t, (f t).number = t.number)
    (s : State) : Keeps s (updTicket number f s) where
  queues := by simp [State.QueuesSound, updTicket, txCount]
  kitchen := fun h hr => by
    obtain ⟨h1, h2, h3⟩ := h hr
    exact ⟨h1, by simp [updTicket, h2], h3⟩
  names := by
    rintro ⟨h1, h2, h3, h4⟩
    have hmap := map_named_eq Ticket.number (fun t => t.number = number) (fun t _ => hf t) s.tickets
    refine ⟨by simpa only [updTicket, hmap] using h1, by simpa [updTicket] using h2, fun t ht => ?_, h4⟩
    have hn : t.number ∈ s.tickets.map Ticket.number := hmap ▸ List.mem_map_of_mem ht
    obtain ⟨u, hu, he⟩ := List.mem_map.1 hn
    exact he ▸ h3 u hu

theorem keeps_updBorrowed {code share : Nat} {f : Borrowed → Borrowed}
    (hf : ∀ b, (f b).code = b.code ∧ (f b).share = b.share) (s : State) :
    Keeps s (updBorrowed code share f s) where
  queues := by simp [State.QueuesSound, updBorrowed, txCount]
  kitchen := fun h hr => by
    obtain ⟨h1, h2, h3⟩ := h hr
    exact ⟨h1, h2, by simp [updBorrowed, h3]⟩
  names := by
    rintro ⟨h1, h2, h3, h4, h5, h6, h7⟩
    refine ⟨h1, h2, h3, h4, h5, ?_, h7⟩
    have hmap := map_named_eq (f := f) (fun b : Borrowed => (b.code, b.share))
      (fun b => b.code = code ∧ b.share = share) (fun b _ => by simp [hf b]) s.borrowed
    simpa only [updBorrowed, hmap] using h6

theorem keeps_dropBorrowed (code share : Nat) (s : State) : Keeps s (dropBorrowed code share s) where
  queues := by
    rintro ⟨h1, h2, h3, h4, h5, h6, h7, h8, h9⟩
    exact ⟨h1, h2, h3, h4, h5, h6, h7, (List.length_filter_le _ _).trans h8, h9⟩
  kitchen := fun h hr => by
    obtain ⟨h1, h2, h3⟩ := h hr
    exact ⟨h1, h2, by simp [dropBorrowed, h3]⟩
  names := by
    rintro ⟨h1, h2, h3, h4, h5, h6, h7⟩
    exact ⟨h1, h2, h3, h4, h5, h6.sublist (List.filter_sublist.map _), h7⟩

/-! ### Queue entries -/

theorem cooking_le_of_map {f : Entry → Entry}
    {es : List Entry} (h : ∀ e ∈ es, Entry.cooking (f e) = true → Entry.cooking e = true) :
    ((es.map f).filter Entry.cooking).length ≤ (es.filter Entry.cooking).length := by
  rw [← List.countP_eq_length_filter, ← List.countP_eq_length_filter, List.countP_map]
  exact List.countP_mono_left h

/-- Entries change in place: they keep their names, and none starts to cook. -/
theorem keeps_entries_map {f : Entry → Entry} (s : State)
    (hname : ∀ e ∈ s.kitchen.entries, (f e).origin = e.origin ∧ (f e).number = e.number)
    (hcook : ∀ e ∈ s.kitchen.entries, Entry.cooking (f e) = true → Entry.cooking e = true) :
    Keeps s { s with kitchen := { s.kitchen with entries := s.kitchen.entries.map f } } where
  queues := by simp [State.QueuesSound, txCount]
  till := fun h hr => by
    obtain ⟨h1, h2⟩ := h hr
    exact ⟨by simp [h1], h2⟩
  entries := by
    rintro ⟨h1, h2, h3⟩
    refine ⟨(cooking_le_of_map hcook).trans h1, fun hj => by simp [h2 hj], ?_⟩
    rw [List.map_map, List.map_congr_left (g := fun e => (e.origin, e.number))]
    · exact h3
    · intro e he
      simp [hname e he]

/-- Entries leave the queue. -/
theorem keeps_entries_sublist {es : List Entry} (s : State) (h : es.Sublist s.kitchen.entries) :
    Keeps s { s with kitchen := { s.kitchen with entries := es } } where
  queues := by
    rintro ⟨h1, h2, h3, h4, h5, h6⟩
    exact ⟨h1, h2, h3, h4, h.length_le.trans h5, h6⟩
  till := fun ht hr => by
    obtain ⟨h1, h2⟩ := ht hr
    rw [h1] at h
    exact ⟨by simpa using h, h2⟩
  entries := by
    rintro ⟨h1, h2, h3⟩
    refine ⟨(h.filter _).length_le.trans h1, fun hj => ?_, h3.sublist (h.map _)⟩
    rw [h2 hj] at h
    simpa using h

theorem keeps_updEntry {o n : Nat} {f : Entry → Entry}
    (hf : ∀ e, e.origin = o → e.number = n → (f e).origin = e.origin ∧ (f e).number = e.number
      ∧ (Entry.cooking (f e) = true → Entry.cooking e = true)) (s : State) :
    Keeps s (updEntry o n f s) := by
  refine keeps_entries_map s (fun e _ => ?_) (fun e _ => ?_)
  · split
    case isTrue hn => exact ⟨(hf e hn.1 hn.2).1, (hf e hn.1 hn.2).2.1⟩
    case isFalse => exact ⟨rfl, rfl⟩
  · split
    case isTrue hn => exact (hf e hn.1 hn.2).2.2
    case isFalse => exact id

theorem keeps_setPrint (o n : Nat) (p : PrintState) (s : State) : Keeps s (setPrint o n p s) :=
  keeps_updEntry (by exact fun _ _ _ => ⟨rfl, rfl, id⟩) s

theorem keeps_dropEntry (o n : Nat) (s : State) : Keeps s (dropEntry o n s) :=
  keeps_entries_sublist s List.filter_sublist

/-- The stamps of the kitchen queue stand in no invariant. -/
theorem keeps_stamps (a b c : Nat) (s : State) :
    Keeps s { s with kitchen := { s.kitchen with arrivalSeq := a, bidSeq := b, fireSeq := c } } := {}

/-! ## Frames offered and ended -/

theorem keeps_frameEnded (x : TxItem) (s : State) : Keeps s (frameEnded x s) := by
  unfold frameEnded
  split
  · exact .refl s
  · split
    · exact keeps_updTicket (fun t => by split <;> rfl) s
    · exact keeps_updTicket (fun t => by split <;> rfl) s
    · exact keeps_updTicket (fun t => by split <;> rfl) s
    · exact keeps_updEntry (by exact fun _ _ _ => ⟨rfl, rfl, id⟩) s
    · exact keeps_updBorrowed (fun b => by split <;> exact ⟨rfl, rfl⟩) s
    · exact keeps_updBorrowed (fun b => by split <;> exact ⟨rfl, rfl⟩) s
    · exact keeps_updBorrowed (fun b => by split <;> exact ⟨rfl, rfl⟩) s
    · exact .refl s

theorem keeps_offerFrame (dest : Nat) (body : FrameBody) (wait : Bool) (s : State) :
    Keeps s (offerFrame dest body wait s) := by
  by_cases h : s.join.state = .onLine ∧ 1 ≤ freeTx s
  · rw [offerFrame_of_free h.1 h.2]
    exact {
      queues := by
        have hfree := h.2
        simp only [freeTx, txCapacity, txCount] at hfree
        rintro ⟨h1, h2, h3, h4, h5, h6, h7, h8, h9⟩
        refine ⟨h1, ?_, h3, h4, h5, h6, h7, h8, joinQueue_sorted h9⟩
        simp only [txCount, joinQueue_length] at h2 ⊢
        omega
      line := fun ⟨_, hl⟩ => ⟨fun hj => absurd h.1 hj, hl⟩ }
  · rw [offerFrame_of_dropped (by rw [not_and_or] at h; simpa using h)]
    exact keeps_frameEnded _ s

end Sys2Proof.Machine
end

section
-- One proof at a time: side by side, their threads' stacks outgrow the check's memory.
set_option Elab.async false
/-! Tabs: which changes keep a tab sound. -/

namespace Sys2Proof.Machine

/-! ## Sound tabs -/

/-- The goods gross of a list of lines (R48). -/
def goodsGross (lines : List TabLine) : Nat := ((lines.filter TabLine.counted).map TabLine.gross).sum

/-- What a line adds to the goods gross. -/
def TabLine.share (l : TabLine) : Nat := if TabLine.counted l then TabLine.gross l else 0

theorem goodsGross_cons (l : TabLine) (ls : List TabLine) :
    goodsGross (l :: ls) = TabLine.share l + goodsGross ls := by
  unfold goodsGross TabLine.share
  cases h : TabLine.counted l <;> simp [h]

theorem goodsGross_append (ls : List TabLine) (l : TabLine) :
    goodsGross (ls ++ [l]) = goodsGross ls + TabLine.share l := by
  unfold goodsGross TabLine.share
  cases h : TabLine.counted l <;> simp [h]

/-- A line that is replaced takes its gross along. -/
theorem goodsGross_set {ls : List TabLine} {i : Nat} {old : TabLine} (h : ls[i]? = some old)
    (new : TabLine) :
    goodsGross (ls.set i new) + TabLine.share old = goodsGross ls + TabLine.share new := by
  induction ls generalizing i with
  | nil => simp at h
  | cons x xs ih =>
    cases i with
    | zero =>
      simp only [List.getElem?_cons_zero, Option.some.injEq] at h
      subst h
      simp only [List.set_cons_zero, goodsGross_cons]
      omega
    | succ i =>
      have := ih (by simpa using h)
      simp only [List.set_cons_succ, goodsGross_cons]
      omega

theorem goodsGross_map {f : TabLine → TabLine} (ls : List TabLine)
    (h : ∀ l, TabLine.counted (f l) = TabLine.counted l ∧ TabLine.gross (f l) = TabLine.gross l) :
    goodsGross (ls.map f) = goodsGross ls := by
  induction ls with
  | nil => rfl
  | cons x xs ih =>
    rw [List.map_cons, goodsGross_cons, goodsGross_cons, ih]
    simp [TabLine.share, h x]

/-- A change of a tab that keeps it sound wherever it stands. -/
def KeepsTab (t u : Tab) : Prop :=
  ∀ home slot issue : Nat, Tab.Sound home slot issue t → Tab.Sound home slot issue u

theorem KeepsTab.trans {t u v : Tab} (h : KeepsTab t u) (k : KeepsTab u v) : KeepsTab t v :=
  fun a b c => k a b c ∘ h a b c

/-- The shares as the split unit computes them are OPEN or EMPTY (R133). -/
theorem compute_unlocked (f : Figures) (t : Tab) (h : Tab.locked t = false) :
    Tab.locked (Tab.compute f t) = false := by
  simp only [Tab.compute, h, Bool.false_eq_true, if_false]
  simp only [Tab.locked, List.any_eq_false, List.mem_map]
  rintro _ ⟨p, _, rfl⟩
  unfold computeShare
  dsimp only
  split <;> simp [ShareState.locks]

theorem compute_locked (f : Figures) (t : Tab) (h : Tab.locked t = true) : Tab.compute f t = t := by
  simp [Tab.compute, h]

theorem keepsTab_compute (f : Figures) (t : Tab) : KeepsTab t (Tab.compute f t) := by
  cases hl : Tab.locked t with
  | true => rw [compute_locked f t hl]; exact fun _ _ _ => id
  | false =>
    rintro home slot issue ⟨h1, h2, h3, h4, h5, h6, _⟩
    have hu := compute_unlocked f t hl
    refine ⟨?_, ?_, ?_, ?_, ?_, ?_, fun _ => hu⟩ <;>
      simpa [Tab.compute, hl] using by assumption

/-- A line takes a new state and stays in the bill. -/
theorem keepsTab_setLine {t : Tab} {i : Nat} {old new : TabLine} (h : t.lines[i]? = some old)
    (hs : TabLine.share new = TabLine.share old) :
    KeepsTab t { t with lines := t.lines.set i new } := by
  rintro home slot issue ⟨h1, h2, h3, h4, h5, h6, h7⟩
  refine ⟨h1, by simpa using h2, h3, h4, ?_, h6, h7⟩
  have := goodsGross_set h new
  change t.gross = goodsGross t.lines at h5
  show t.gross = goodsGross (t.lines.set i new)
  omega

/-- A counted line leaves the bill (R48). -/
theorem keepsTab_uncount (f : Figures) {t : Tab} {i : Nat} {old new : TabLine}
    (h : t.lines[i]? = some old) (hc : TabLine.counted old = true) (hn : TabLine.counted new = false)
    (hg : TabLine.gross new = TabLine.gross old) : KeepsTab t (Tab.uncount f i new t) := by
  refine KeepsTab.trans (fun home slot issue => ?_) (keepsTab_compute f _)
  rintro ⟨h1, h2, h3, h4, h5, h6, h7⟩
  have hset := goodsGross_set h new
  simp only [TabLine.share, hc, hn, if_true, Bool.false_eq_true, if_false] at hset
  refine ⟨h1, by simpa using h2, h3, h4, ?_, ?_, h7⟩
  · change t.gross = goodsGross t.lines at h5
    show t.gross - TabLine.gross new = goodsGross (t.lines.set i new)
    omega
  · show t.gross - TabLine.gross new ≤ 500000
    omega

/-- A share changes its state, and the tab follows it (R53). -/
theorem keepsTab_restate {t : Tab} {i : Nat} {sh : Share} :
    KeepsTab t (Tab.restate { t with shares := t.shares.set i sh }) := by
  rintro home slot issue ⟨h1, h2, h3, h4, h5, h6, h7⟩
  unfold Tab.restate
  split
  case isTrue hc =>
    exact ⟨h1, h2, by simpa using h3, by simpa using h4, h5, h6, fun ho => nomatch hc.symm.trans ho⟩
  case isFalse =>
    split
    · exact ⟨h1, h2, by simpa using h3, by simpa using h4, h5, h6, by simp⟩
    · split
      · exact ⟨h1, h2, by simpa using h3, by simpa using h4, h5, h6, by simp⟩
      · next hl =>
        exact ⟨h1, h2, by simpa using h3, by simpa using h4, h5, h6,
          fun _ => Bool.eq_false_iff.2 hl⟩

theorem keepsTab_close (t : Tab) : KeepsTab t { t with state := .closed } :=
  fun _ _ _ ⟨h1, h2, h3, h4, h5, h6, _⟩ => ⟨h1, h2, h3, h4, h5, h6, by simp⟩

/-! ## Tab slots -/

theorem getElem?_tabs_putTab {s : State} {slot i : Nat} {t : Option Tab} {e : TabSlot}
    (h : (putTab slot t s).tabs[i]? = some e) :
    s.tabs[i]? = some e ∨ i = slot ∧ e.tab = t ∧ ∃ d, s.tabs[slot]? = some d ∧ d.issue = e.issue := by
  by_cases hi : i = slot
  · subst hi
    cases hd : s.tabs[i]? with
    | none => simp [putTab, hd] at h
    | some d =>
      have hlt : i < 32 := by
        by_contra hc
        simp [Nat.le_of_not_lt hc] at hd
      simp only [putTab, hd, Vector.getElem?_setIfInBounds_self_of_lt hlt, Option.some.injEq] at h
      subst h
      exact .inr ⟨rfl, rfl, d, rfl, rfl⟩
  · exact .inl (tabs_putTab_ne t hi ▸ h)

theorem keeps_freeSlot (slot : Nat) (s : State) : Keeps s (putTab slot none s) := by
  have hf := putTab_frame slot none s
  have hT : s.TabsSound → (putTab slot none s).TabsSound := by
    intro h i e he
    rw [show station (putTab slot none s) = station s by rw [hf]; rfl]
    rcases getElem?_tabs_putTab he with he | ⟨rfl, ht, d, hd, hi⟩
    · exact h i e he
    · exact ⟨hi ▸ (h i d hd).1, by simp [ht]⟩
  have hK : s.KitchenKeepsNoTabs → (putTab slot none s).KitchenKeepsNoTabs := by
    intro h hr
    rw [hf] at hr
    obtain ⟨h1, h2, h3⟩ := h hr
    refine ⟨fun e he => ?_, by simpa using h2, by simpa using h3⟩
    obtain ⟨i, hi⟩ := List.mem_iff_getElem?.1 he
    rcases getElem?_tabs_putTab (i := i) (e := e) (by simpa using hi) with he | ⟨_, ht, _⟩
    · exact h1 e (List.mem_iff_getElem?.2 ⟨i, by simpa using he⟩)
    · exact ht
  rw [hf] at hT hK ⊢
  exact { kitchen := hK, tabs := hT }

/-- A tab is replaced by one that is sound where it was. -/
theorem keeps_putTab {slot : Nat} {t u : Tab} {s : State} (ht : tabIn s slot = some t)
    (hu : KeepsTab t u) : Keeps s (putTab slot (some u) s) := by
  have hf := putTab_frame slot (some u) s
  obtain ⟨d, hd, hdt⟩ : ∃ d, s.tabs[slot]? = some d ∧ d.tab = some t := by
    simpa [tabIn, Option.bind_eq_some_iff] using ht
  have hT : s.TabsSound → (putTab slot (some u) s).TabsSound := by
    intro h i e he
    rw [show station (putTab slot (some u) s) = station s by rw [hf]; rfl]
    rcases getElem?_tabs_putTab he with he | ⟨rfl, hte, d', hd', hi⟩
    · exact h i e he
    · obtain rfl : d = d' := Option.some.inj (hd.symm.trans hd')
      obtain ⟨h1, h2⟩ := h i d hd
      refine ⟨hi ▸ h1, fun v hv => ?_⟩
      obtain rfl : u = v := by simpa [hte] using hv
      exact hi ▸ hu _ _ _ (h2 t hdt)
  have hK : s.KitchenKeepsNoTabs → (putTab slot (some u) s).KitchenKeepsNoTabs := by
    intro h hr
    rw [hf] at hr
    have := (h hr).1 d (List.mem_iff_getElem?.2 ⟨slot, by simpa using hd⟩)
    simp [hdt] at this
  rw [hf] at hT hK ⊢
  exact { kitchen := hK, tabs := hT }

theorem keeps_updTab {slot : Nat} {t : Tab} {f : Tab → Tab} {s : State} (ht : tabIn s slot = some t)
    (hf : KeepsTab t (f t)) : Keeps s (updTab slot f s) := by
  simp only [updTab, ht]
  exact keeps_putTab ht hf

theorem keeps_checkFree (slot : Nat) (s : State) : Keeps s (checkFree slot s) := by
  unfold checkFree
  split
  · split
    · exact (keeps_freeSlot slot s).trans (keeps_notify _ _)
    · exact .refl s
  · exact .refl s

theorem keeps_setShare (slot i : Nat) (st : ShareState) (s : State) :
    Keeps s (setShare slot i st s) := by
  unfold setShare
  split
  case h_2 => exact .refl s
  case h_1 t ht =>
    split
    case h_2 => exact .refl s
    case h_1 sh _ =>
      have hput := keeps_putTab ht (keepsTab_restate (i := i) (sh := { sh with state := st }))
      dsimp only
      split
      · exact hput.trans (keeps_checkFree _ _)
      · exact hput

/-! ## Line reports -/

/-- A report that is applied is applied to a counted line, and takes it off the bill exactly when it makes
it VOID (Table 3-5). -/
theorem applyReport_some {r : Report} {l m : TabLine} (h : applyReport r l = some m) :
    TabLine.counted l = true ∧ TabLine.gross m = TabLine.gross l
      ∧ (TabLine.counted m = true ↔ m.state ≠ .void) := by
  unfold applyReport at h
  split at h <;> (try split at h) <;> cases h <;> simp_all [TabLine.counted, TabLine.gross]

theorem keeps_lineReport (slot i : Nat) (r : Report) (s : State) :
    Keeps s (lineReport slot i r s) := by
  unfold lineReport
  split
  case h_2 => exact .refl s
  case h_1 t ht =>
    split
    case h_2 => exact .refl s
    case h_1 m hm =>
      obtain ⟨l, hl, hr⟩ := Option.bind_eq_some_iff.1 hm
      obtain ⟨hc, hg, hv⟩ := applyReport_some hr
      refine (keeps_putTab ht ?_).trans (keeps_checkFree _ _)
      split
      case isTrue hvoid =>
        exact keepsTab_uncount _ hl hc (by simpa [hvoid] using hv) hg
      case isFalse hvoid =>
        exact keepsTab_setLine hl (by simp [TabLine.share, hc, hv.2 hvoid, hg])

theorem keeps_ticketReport (t : Ticket) (ps : List Nat) (r : Report) (s : State) :
    Keeps s (ticketReport t ps r s) := by
  refine keeps_foldl (fun s p => ?_) ps s
  split
  · exact keeps_lineReport _ _ _ s
  · exact .refl s

end Sys2Proof.Machine
end

section
-- One proof at a time: side by side, their threads' stacks outgrow the check's memory.
set_option Elab.async false
/-! The ticket table and the requests of a till: what they keep. -/

namespace Sys2Proof.Machine

/-! ## Requests -/

/-- A request that is not refused keeps. -/
def ResultKeeps (s : State) (r : RequestResult) : Prop :=
  ∀ (c : ReplyCode) (b : List Byte) (t : State), r = .ok (c, b, t) → Keeps s t

theorem resultKeeps_error (s : State) (c : ReplyCode) : ResultKeeps s (.error c) :=
  fun _ _ _ h => Except.noConfusion rfl rfl (heq_of_eq h)

theorem resultKeeps_taken {s t : State} (b : List Byte) (h : Keeps s t) :
    ResultKeeps s (taken b t) := by
  rintro _ _ _ ⟨⟩
  exact h

theorem resultKeeps_accepted {s t : State} (h : Keeps s t) : ResultKeeps s (accepted t) := by
  rintro _ _ _ ⟨⟩
  exact h

theorem resultKeeps_need {s : State} {p : Prop} [Decidable p] (c : ReplyCode) {k : RequestResult}
    (h : p → ResultKeeps s k) : ResultKeeps s (need p c k) := by
  unfold need
  split
  · exact h ‹_›
  · exact resultKeeps_error s c

theorem resultKeeps_withSlot {s u : State} (slot : Nat) {k : SlotRecord → RequestResult}
    (h : ∀ r, ResultKeeps s (k r)) : ResultKeeps s (withSlot u slot k) := by
  unfold withSlot
  split
  · exact h _
  · exact resultKeeps_error s _

theorem resultKeeps_withTab {s : State} {code : Nat} {k : Tab → RequestResult}
    (h : ∀ t, tabOf s code = some t → ResultKeeps s (k t)) : ResultKeeps s (withTab s code k) := by
  unfold withTab
  split
  · exact h _ ‹_›
  · exact resultKeeps_error s _

theorem resultKeeps_tabRequest {s : State} {slot code level : Nat}
    {k : SlotRecord → Tab → RequestResult}
    (h : ∀ r t, role s = .till → tabOf s code = some t → ResultKeeps s (k r t)) :
    ResultKeeps s (tabRequest s slot code level k) :=
  resultKeeps_need _ fun hr => resultKeeps_withSlot _ fun r => resultKeeps_withTab fun t ht =>
    resultKeeps_need _ fun _ => h r t hr ht

theorem resultKeeps_needFrames {s u : State} (n : Nat) {k : RequestResult} (h : ResultKeeps s k) :
    ResultKeeps s (needFrames u n k) := by
  unfold needFrames
  split
  · exact h
  · exact resultKeeps_need _ fun _ => resultKeeps_need _ fun _ => h

theorem resultKeeps_unlessStrapFault {s : State} {k : RequestResult} (h : ResultKeeps s k) :
    ResultKeeps s (unlessStrapFault s k) := resultKeeps_need _ fun _ => h

/-- Whatever a request comes to, its answer keeps. -/
theorem keeps_answer {i : Instr} {r : RequestResult} {s : State} (h : ResultKeeps s r) :
    Keeps s (answer i r s) := by
  match r, h with
  | .error c, _ => exact {}
  | .ok (c, b, t), h => exact (h c b t rfl).trans {}

theorem keeps_answer_fault {i : Instr} {r : RequestResult} {s : State} (h : ResultKeeps s r) :
    Keeps s (answer i (unlessStrapFault s r) s) := keeps_answer (resultKeeps_unlessStrapFault h)

/-! ## Tickets -/

theorem keeps_sendOffer (n : Nat) (s : State) : Keeps s (sendOffer n s) := by
  unfold sendOffer
  split
  · exact keeps_offerFrame _ _ _ s
  · exact .refl s

theorem keeps_sendAward (n dest : Nat) (wait : Bool) (s : State) : Keeps s (sendAward n dest wait s) := by
  unfold sendAward
  split
  · split
    · exact keeps_offerFrame _ _ _ s
    · exact .refl s
  · exact .refl s

theorem keeps_sendRevoke (dest : Nat) (ref : Ref) (s : State) : Keeps s (sendRevoke dest ref s) :=
  keeps_offerFrame _ _ _ s

theorem keeps_sendWithdraw (n p : Nat) (s : State) : Keeps s (sendWithdraw n p s) := by
  unfold sendWithdraw
  split
  · split
    · exact keeps_offerFrame _ _ _ s
    · exact .refl s
  · exact .refl s

theorem keeps_tickets_sublist {ts : List Ticket} (s : State) (h : ts.Sublist s.tickets) :
    Keeps s { s with tickets := ts } where
  queues := by
    rintro ⟨h1, h2, h3, h4, h5⟩
    exact ⟨h1, h2, h3, h.length_le.trans h4, h5⟩
  kitchen := fun hk hr => by
    obtain ⟨h1, h2, h3⟩ := hk hr
    rw [h2] at h
    exact ⟨h1, by simpa using h, h3⟩
  names := by
    rintro ⟨h1, h2, h3, h4⟩
    exact ⟨h1.sublist (h.map _), h.length_le.trans h2, fun t ht => h3 t (h.subset ht), h4⟩

theorem keeps_freeTicket (n : Nat) (s : State) : Keeps s (freeTicket n s) := by
  unfold freeTicket
  split
  · exact ((keeps_cancelFrames _ s).trans (keeps_tickets_sublist _ List.filter_sublist)).trans
      (keeps_checkFree _ _)
  · exact .refl s

theorem foldl_dropPosition_number (ps : List Nat) (t : Ticket) :
    (ps.foldl (fun t p => Ticket.dropPosition p t) t).number = t.number := by
  induction ps generalizing t with
  | nil => rfl
  | cons p ps ih => exact ih (Ticket.dropPosition p t)

theorem keeps_endWithdrawals (n : Nat) (s : State) : Keeps s (endWithdrawals n s) := by
  unfold endWithdrawals
  split
  · exact (keeps_ticketReport _ _ _ s).trans (keeps_updTicket (foldl_dropPosition_number _) _)
  · exact .refl s

/-- Step 2 of R77, where the cause calls for it: a REVOKE to the old awardee. -/
def revokeAwardee (revoke : Bool) (t : Ticket) (s : State) : State :=
  match revoke, t.awardee with
  | true, some a => sendRevoke a.station (Ticket.ref t) s
  | _, _ => s

/-- Step 3 of R77, where the cause calls for it: the stale holder. -/
def setStale (n : Nat) (stale : Option (Nat × Nat)) (s : State) : State :=
  match stale with
  | some (st, mark) => updTicket n (fun t => { t with stale := some ⟨st, mark, t.gen⟩ }) s
  | none => s

/-- Steps 1 to 4 of R77: the state in which a reissue finds its ticket without withdrawals. -/
def reissueBegun (n : Nat) (revoke : Bool) (stale : Option (Nat × Nat)) (t : Ticket) (s : State) :
    State :=
  endWithdrawals n (setStale n stale (revokeAwardee revoke t (cancelFrames (ofTicket n) s)))

/-- Steps 5 to 8 of R77: the ticket, `t` as it was and `u` as it is now, is freed when no position of it is
live, and offered afresh otherwise. -/
def reissueDone (n : Nat) (cause : ReissueCause) (t u : Ticket) (s : State) : State :=
  if u.live = 0#8 then freeTicket n s
  else sendOffer n (notify (.reissued (Ticket.ref (Ticket.renewed u)) (ticketCode s u)
    (t.awardee.map Awardee.station) cause) (updTicket n Ticket.renewed s))

theorem reissue_of_none {n : Nat} {s : State} (h : ticketOf s n = none) (revoke : Bool)
    (stale : Option (Nat × Nat)) (cause : ReissueCause) : reissue n revoke stale cause s = s := by
  unfold reissue
  rw [h]

/-- A reissue takes its steps on the record it finds (R77). -/
theorem reissue_of_some {n : Nat} {s : State} {t : Ticket} (h : ticketOf s n = some t) (revoke : Bool)
    (stale : Option (Nat × Nat)) (cause : ReissueCause) :
    reissue n revoke stale cause s
      = match ticketOf (reissueBegun n revoke stale t s) n with
        | none => reissueBegun n revoke stale t s
        | some u => reissueDone n cause t u (reissueBegun n revoke stale t s) := by
  unfold reissue
  rw [h]
  rfl

theorem keeps_revokeAwardee (revoke : Bool) (t : Ticket) (s : State) :
    Keeps s (revokeAwardee revoke t s) := by
  unfold revokeAwardee
  split
  · exact keeps_sendRevoke _ _ s
  · exact .refl s

theorem keeps_setStale (n : Nat) (stale : Option (Nat × Nat)) (s : State) :
    Keeps s (setStale n stale s) := by
  unfold setStale
  split
  · exact keeps_updTicket (by exact fun _ => rfl) s
  · exact .refl s

theorem keeps_reissueBegun (n : Nat) (revoke : Bool) (stale : Option (Nat × Nat)) (t : Ticket)
    (s : State) : Keeps s (reissueBegun n revoke stale t s) :=
  (((keeps_cancelFrames _ s).trans (keeps_revokeAwardee _ _ _)).trans (keeps_setStale _ _ _)).trans
    (keeps_endWithdrawals _ _)

theorem keeps_reissueDone (n : Nat) (cause : ReissueCause) (t u : Ticket) (s : State) :
    Keeps s (reissueDone n cause t u s) := by
  unfold reissueDone
  split
  · exact keeps_freeTicket n s
  · exact ((keeps_updTicket (by exact fun _ => rfl) s).trans (keeps_notify _ _)).trans
      (keeps_sendOffer _ _)

theorem keeps_reissue (n : Nat) (revoke : Bool) (stale : Option (Nat × Nat)) (cause : ReissueCause)
    (s : State) : Keeps s (reissue n revoke stale cause s) := by
  cases h : ticketOf s n with
  | none => rw [reissue_of_none h]; exact .refl s
  | some t =>
    rw [reissue_of_some h]
    have hbegun := keeps_reissueBegun n revoke stale t s
    split
    · exact hbegun
    · exact hbegun.trans (keeps_reissueDone _ _ _ _ _)

end Sys2Proof.Machine
end

section
-- One proof at a time: side by side, their threads' stacks outgrow the check's memory.
set_option Elab.async false
/-! What the till's commands keep: tabs, tickets, split, settlement, operators. -/

namespace Sys2Proof.Machine

/-! ## SEND -/

/-- The number that a new ticket takes is held by no record, while the table has room (R61). -/
theorem takeNumber_fresh {s : State} (h : s.tickets.length ≤ 32) :
    (∀ t ∈ s.tickets, t.number ≠ takeNumber s) ∧ 1 ≤ takeNumber s ∧ takeNumber s ≤ 4095 := by
  set candidates := (List.range (ticketCapacity + 1)).map fun i => (s.nextTicket - 1 + i) % 4095 + 1
    with hcand
  obtain ⟨n, hn⟩ : ∃ n, candidates.find? (fun n => (ticketOf s n).isNone) = some n := by
    by_contra hnone
    have hall : ∀ n ∈ candidates, n ∈ s.tickets.map Ticket.number := by
      intro n hn
      have hno : candidates.find? (fun n => (ticketOf s n).isNone) = none :=
        Option.eq_none_iff_forall_ne_some.2 fun a ha => hnone ⟨a, ha⟩
      have := List.find?_eq_none.1 hno n hn
      obtain ⟨t, ht⟩ := Option.ne_none_iff_exists'.1 (by simpa using this)
      exact ticketOf_number ht ▸ List.mem_map_of_mem (List.mem_of_find?_eq_some ht)
    have hnodup : candidates.Nodup := by
      rw [hcand]
      refine List.Nodup.map_on (fun i hi j hj hij => ?_) List.nodup_range
      simp only [ticketCapacity, List.mem_range] at hi hj
      omega
    have := (hnodup.subperm hall).length_le
    simp [hcand, ticketCapacity] at this
    omega
  have htake : takeNumber s = n := by simp [takeNumber, ← hcand, hn]
  rw [htake]
  have hmem := List.mem_of_find?_eq_some hn
  have hfree := List.find?_some hn
  refine ⟨fun t ht he => ?_, ?_⟩
  · have := List.find?_eq_none.1 (Option.isNone_iff_eq_none.1 hfree) t ht
    simp [he] at this
  · rw [hcand] at hmem
    simp only [List.mem_map] at hmem
    obtain ⟨i, _, rfl⟩ := hmem
    omega

theorem lineReport_tickets (slot i : Nat) (r : Report) (s : State) :
    (lineReport slot i r s).tickets = s.tickets ∧ (lineReport slot i r s).straps = s.straps := by
  rw [lineReport_frame]
  exact ⟨rfl, rfl⟩

theorem foldl_lineReport_tickets {α : Type} (slot : Nat) (i : α → Nat) (r : α → Report) (xs : List α)
    (s : State) :
    (xs.foldl (fun s x => lineReport slot (i x) (r x) s) s).tickets = s.tickets
      ∧ (xs.foldl (fun s x => lineReport slot (i x) (r x) s) s).straps = s.straps := by
  induction xs generalizing s with
  | nil => exact ⟨rfl, rfl⟩
  | cons x xs ih =>
    have h := lineReport_tickets slot (i x) (r x) s
    have k := ih (lineReport slot (i x) (r x) s)
    exact ⟨k.1.trans h.1, k.2.trans h.2⟩

/-- A till with room for one more record creates it (R61, R64). -/
theorem keeps_newTicket {s : State} (k : Ticket) (hk : k.number = takeNumber s) (hr : role s = .till)
    (hroom : s.tickets.length < 32) :
    Keeps s { s with tickets := s.tickets ++ [k], nextTicket := k.number % 4095 + 1 } where
  queues := by
    rintro ⟨h1, h2, h3, h4, h5⟩
    exact ⟨h1, h2, h3, by simpa using hroom, h5⟩
  kitchen := fun _ (hk : role s = .kitchen) => by simp [hr] at hk
  names := by
    rintro ⟨h1, h2, h3, h4, h5, h6⟩
    obtain ⟨hfresh, hlo, hhi⟩ := takeNumber_fresh h2
    rw [← hk] at hfresh hlo hhi
    refine ⟨?_, by simpa using hroom, ?_, by simp, ?_, h6⟩
    · simpa [List.nodup_append, h1] using hfresh
    · intro t ht
      rcases List.mem_append.1 ht with ht | ht
      · exact h3 t ht
      · rw [List.mem_singleton.1 ht]
        exact ⟨hlo, hhi⟩
    · show k.number % 4095 + 1 ≤ 4095
      omega

theorem createTicket_tickets (t : Tab) (p : Band) (acc : List Nat × State) (g : Nat × List Nat) :
    (createTicket t p acc g).2.tickets.length = acc.2.tickets.length + 1
      ∧ (createTicket t p acc g).2.straps = acc.2.straps := by
  unfold createTicket
  dsimp only
  obtain ⟨h1, h2⟩ := foldl_lineReport_tickets (newTicket acc.2 t p g.1 g.2).slot Prod.fst
    (fun q : Nat × Nat => Report.sent (newTicket acc.2 t p g.1 g.2).number q.2) g.2.zipIdx
    { acc.2 with tickets := acc.2.tickets ++ [newTicket acc.2 t p g.1 g.2]
                 nextTicket := (newTicket acc.2 t p g.1 g.2).number % 4095 + 1 }
  exact ⟨by rw [h1]; simp, h2⟩

theorem keeps_createTickets (t : Tab) (p : Band) (gs : List (Nat × List Nat))
    (acc : List Nat × State) (hr : role acc.2 = .till) (hroom : acc.2.tickets.length + gs.length ≤ 32) :
    Keeps acc.2 (gs.foldl (createTicket t p) acc).2 := by
  induction gs generalizing acc with
  | nil => exact .refl _
  | cons g gs ih =>
    simp only [List.length_cons] at hroom
    obtain ⟨hlen, hstraps⟩ := createTicket_tickets t p acc g
    refine Keeps.trans ?_ (ih (createTicket t p acc g) (by rwa [role_congr hstraps]) (by omega))
    exact (keeps_newTicket (newTicket acc.2 t p g.1 g.2) rfl hr (by omega)).trans
      (keeps_foldl (fun s q => keeps_lineReport _ _ _ s) _ _)

theorem keeps_sendEffect (t : Tab) (p : Band) (s : State) (hr : role s = .till)
    (hroom : (ticketsNeeded t).length ≤ 32 - s.tickets.length) : Keeps s (sendEffect t p s).2 := by
  unfold sendEffect
  dsimp only
  set u := (enteredOf t 0).foldl (fun s i => lineReport (codeSlot t.code) i .counterServed s) s
    with hu
  have hserved : Keeps s u := keeps_foldl (fun s i => keeps_lineReport _ _ _ s) _ _
  obtain ⟨htickets, hstraps⟩ := foldl_lineReport_tickets (codeSlot t.code) (fun i => i)
    (fun _ => .counterServed) (enteredOf t 0) s
  rw [← hu] at htickets hstraps
  refine Keeps.trans (hserved.trans ?_) (keeps_foldl (fun s n => keeps_sendOffer n s) _ _)
  by_cases hnil : ticketsNeeded t = []
  · rw [hnil]
    exact .refl u
  · have hpos := List.length_pos_iff.2 hnil
    exact keeps_createTickets t p _ ([], u) (by rwa [role_congr hstraps]) (by
      show u.tickets.length + _ ≤ 32
      rw [htickets]
      omega)

/-! ## Commands that answer -/

/-- A command completes, and keeps. -/
def Completes (o : Host.Outcome State Fault Refusal) (s : State) : Prop :=
  ∃ t : State, o = .next t ∧ Keeps s t

theorem completes_next {s t : State} (h : Keeps s t) : Completes (.next t) s := ⟨t, rfl, h⟩

theorem completes_request {i : Instr} {r : RequestResult} {s : State} (h : ResultKeeps s r) :
    Completes (.next (answer i (unlessStrapFault s r) s)) s := completes_next (keeps_answer_fault h)

theorem completes_execSend (slot code priority : Nat) (s : State) :
    Completes (execSend slot code priority s) s := by
  refine completes_request (resultKeeps_tabRequest fun r t hr _ => resultKeeps_need _ fun _ => ?_)
  split
  · exact resultKeeps_error s _
  · exact resultKeeps_need _ fun hroom => resultKeeps_needFrames _ <|
      resultKeeps_taken _ (keeps_sendEffect t _ s hr hroom)

/-! ## The tab table -/

theorem keepsTab_append (f : Figures) {t : Tab} {l : TabLine} (hl : TabLine.counted l = true)
    (hg : t.gross + TabLine.gross l ≤ 500000) (hn : t.lines.length < 24) :
    KeepsTab t (Tab.append f l t) := by
  refine KeepsTab.trans (fun home slot issue => ?_) (keepsTab_compute f _)
  rintro ⟨h1, h2, h3, h4, h5, h6, h7⟩
  refine ⟨h1, by simpa using hn, h3, h4, ?_, hg, h7⟩
  change t.gross = goodsGross t.lines at h5
  show t.gross + TabLine.gross l = goodsGross (t.lines ++ [l])
  simp [goodsGross_append, TabLine.share, hl, h5]

theorem completes_execAddLine (slot code : Nat) (line : LineFields) (s : State) :
    Completes (execAddLine slot code line s) s := by
  refine completes_request (resultKeeps_tabRequest fun r t _ ht => ?_)
  obtain ⟨-, hin, -⟩ := tabIn_of_tabOf ht
  exact resultKeeps_need _ fun _ => resultKeeps_need _ fun _ => resultKeeps_need _ fun _ =>
    resultKeeps_need _ fun _ => resultKeeps_need _ fun _ => resultKeeps_need _ fun hg =>
    resultKeeps_need _ fun hn => resultKeeps_taken _ (keeps_putTab hin (keepsTab_append _ rfl hg hn))

theorem freeTabSlot_some {s : State} {i : Nat} (h : freeTabSlot s = some i) :
    i < 32 ∧ ∃ e, s.tabs[i]? = some e ∧ e.tab = none := by
  have hp := List.find?_some h
  have hi := List.mem_range.1 (List.mem_of_find?_eq_some h)
  refine ⟨hi, s.tabs[i], by simp [hi], ?_⟩
  simpa [hi] using hp

theorem newTab_sound (s : State) (slot issue operator : Nat) :
    Tab.Sound (station s) slot issue (newTab s (tabCode (station s) slot issue) operator) :=
  keepsTab_compute _ _ _ _ _ ⟨rfl, by simp, by simp, by simp, by simp, by simp,
    fun _ => by simp [Tab.locked, Share.new, ShareState.locks]⟩

theorem completes_execOpenTab (slot : Nat) (s : State) : Completes (execOpenTab slot s) s := by
  refine completes_request (resultKeeps_need _ fun hr => resultKeeps_withSlot _ fun r =>
    resultKeeps_need _ fun _ => ?_)
  split
  · exact resultKeeps_error s _
  · next i hi =>
    obtain ⟨hlt, e, he, -⟩ := freeTabSlot_some hi
    refine resultKeeps_taken _ { kitchen := fun _ (hk : role s = .kitchen) => by simp [hr] at hk, tabs := ?_ }
    intro hs j d hd
    by_cases hj : j = i
    · subst hj
      simp only [Vector.getElem?_setIfInBounds_self_of_lt hlt, Option.some.injEq] at hd
      subst hd
      refine ⟨Nat.mod_lt _ (by decide), fun t ht => ?_⟩
      obtain rfl := Option.some.inj ht
      exact newTab_sound s _ _ _
    · rw [Vector.getElem?_setIfInBounds_ne (by exact fun h => hj h.symm)] at hd
      exact hs j d hd

theorem completes_execCloseTab (slot code : Nat) (s : State) :
    Completes (execCloseTab slot code s) s := by
  refine completes_request (resultKeeps_tabRequest fun r t _ ht => ?_)
  obtain ⟨-, hin, -⟩ := tabIn_of_tabOf ht
  exact resultKeeps_need _ fun _ => resultKeeps_need _ fun _ => resultKeeps_need _ fun _ =>
    resultKeeps_taken _ ((keeps_putTab hin (keepsTab_close t)).trans (keeps_checkFree _ _))

theorem completes_execLastCall (slot : Nat) (s : State) : Completes (execLastCall slot s) s := by
  refine completes_request (resultKeeps_need _ fun _ => resultKeeps_withSlot _ fun r =>
    resultKeeps_need _ fun _ => ?_)
  split
  · exact resultKeeps_taken _ (.refl s)
  · have hflag : Keeps s { s with lastCall := true } := {}
    exact resultKeeps_needFrames _ (resultKeeps_taken _
      ((hflag.trans (keeps_offerFrame _ _ _ _)).trans (keeps_notify _ _)))

theorem keeps_adoptLastCall (src : Nat) (s : State) : Keeps s (adoptLastCall src s) := by
  unfold adoptLastCall
  split
  · exact .refl s
  · have hflag : Keeps s { s with lastCall := true } := {}
    exact hflag.trans (keeps_notify _ _)

/-! ## The split unit -/

theorem keepsTab_resplit {n : Nat} (h1 : 1 ≤ n) (h8 : n ≤ 8) {t : Tab} (hl : Tab.locked t = false) :
    KeepsTab t (Tab.resplit n t) := by
  rintro home slot issue ⟨k1, k2, -, -, k5, k6, -⟩
  refine ⟨k1, by simpa [Tab.resplit] using k2, by simpa [Tab.resplit] using h1,
    by simpa [Tab.resplit] using h8, ?_, k6, fun _ => ?_⟩
  · have hsame := goodsGross_map (f := fun l => { l with alloc := if 1 < n then .allEqual else .one 0 })
      t.lines fun _ => ⟨rfl, rfl⟩
    exact k5.trans hsame.symm
  · simp only [Tab.locked, List.any_eq_false] at hl ⊢
    simp only [Tab.resplit, List.mem_map]
    rintro _ ⟨_, ⟨i, _, rfl⟩, rfl⟩
    rw [List.getD_eq_getElem?_getD]
    cases hi : t.shares[i]? with
    | none => simp [Share.new, ShareState.locks]
    | some sh => exact hl sh (List.mem_of_getElem? hi)

theorem resultKeeps_splitRequest {s : State} {slot code : Nat} {k : Tab → RequestResult}
    (h : ∀ t, tabIn s (codeSlot code) = some t → Tab.locked t = false → ResultKeeps s (k t)) :
    ResultKeeps s (splitRequest s slot code k) :=
  resultKeeps_tabRequest fun _ t _ ht => resultKeeps_need _ fun hl => resultKeeps_need _ fun _ =>
    h t (tabIn_of_tabOf ht).2.1 hl

theorem completes_execSplit (slot code count : Nat) (s : State) :
    Completes (execSplit slot code count s) s := by
  refine completes_request (resultKeeps_splitRequest fun t hin hl => resultKeeps_need _ fun hn =>
    resultKeeps_taken _ (keeps_putTab hin ((keepsTab_resplit ?_ ?_ hl).trans (keepsTab_compute _ _))))
  · simp only [clampTop]
    omega
  · simp only [clampTop]
    omega

theorem completes_execAssign (slot code line kind share : Nat) (weights : List Nat) (s : State) :
    Completes (execAssign slot code line kind share weights s) s := by
  refine completes_request (resultKeeps_splitRequest fun t hin _ => ?_)
  split
  · exact resultKeeps_error s _
  · next l hl =>
    refine resultKeeps_need _ fun _ => ?_
    split
    · exact resultKeeps_error s _
    · exact resultKeeps_taken _
        (keeps_putTab hin ((keepsTab_setLine hl (by rfl)).trans (keepsTab_compute _ _)))

theorem keepsTab_setDiscount {t : Tab} {i : Nat} {sh : Share} (h : t.shares[i]? = some sh) (p : Nat) :
    KeepsTab t { t with shares := t.shares.set i { sh with discount := p } } := by
  rintro home slot issue ⟨h1, h2, h3, h4, h5, h6, h7⟩
  refine ⟨h1, h2, by simpa using h3, by simpa using h4, h5, h6, fun ho => ?_⟩
  have hu := h7 ho
  simp only [Tab.locked, List.any_eq_false] at hu ⊢
  intro x hx
  rcases List.mem_or_eq_of_mem_set hx with hx | rfl
  · exact hu x hx
  · exact hu sh (List.mem_of_getElem? h)

theorem completes_execDiscount (slot code share percent : Nat) (s : State) :
    Completes (execDiscount slot code share percent s) s := by
  refine completes_request (resultKeeps_splitRequest fun t hin _ => ?_)
  split
  · exact resultKeeps_error s _
  · next sh hsh =>
    exact resultKeeps_taken _
      (keeps_putTab hin ((keepsTab_setDiscount hsh _).trans (keepsTab_compute _ _)))

/-! ## The ticket table's requests -/

theorem resultKeeps_ticketRequest {s : State} {slot n : Nat} {k : SlotRecord → Ticket → RequestResult}
    (h : ∀ r t, ResultKeeps s (k r t)) : ResultKeeps s (ticketRequest s slot n k) := by
  refine resultKeeps_need _ fun _ => resultKeeps_withSlot _ fun r => ?_
  split
  · exact h r _
  · exact resultKeeps_error s _

theorem keeps_retryReissue (n : Nat) (t : Ticket) (s : State) : Keeps s (retryReissue n t s) := by
  unfold retryReissue
  split
  · exact keeps_reissue _ _ _ _ s
  · exact keeps_reissue _ _ _ _ s

theorem completes_execRetryTicket (slot n : Nat) (s : State) :
    Completes (execRetryTicket slot n s) s := by
  refine completes_request (resultKeeps_ticketRequest fun r t => ?_)
  split
  · exact resultKeeps_need _ fun _ => resultKeeps_needFrames _ <| resultKeeps_taken _
      ((keeps_updTicket (by exact fun _ => rfl) s).trans (keeps_sendOffer _ _))
  · exact resultKeeps_need _ fun _ => resultKeeps_needFrames _ <| resultKeeps_taken _
      (keeps_retryReissue n t s)
  · exact resultKeeps_need _ fun _ => resultKeeps_needFrames _ <| resultKeeps_taken _
      (keeps_retryReissue n t s)
  · exact resultKeeps_error s _

theorem keeps_collectEffect (t : Ticket) (s : State) : Keeps s (collectEffect t s) := by
  unfold collectEffect
  dsimp only
  have hreport := keeps_ticketReport t (Ticket.livePositions t) .collected s
  refine Keeps.trans ?_ (keeps_freeTicket _ _)
  split
  · exact hreport.trans (keeps_offerFrame _ _ _ _)
  · exact hreport

theorem completes_execCollect (slot n : Nat) (s : State) : Completes (execCollect slot n s) s :=
  completes_request (resultKeeps_ticketRequest fun _ t => resultKeeps_need _ fun _ =>
    resultKeeps_need _ fun _ => resultKeeps_needFrames _ <| resultKeeps_taken _ (keeps_collectEffect t s))

theorem keeps_voidLineIn {slot i : Nat} {t : Tab} {l : TabLine} {s : State}
    (ht : tabIn s slot = some t) (hl : t.lines[i]? = some l) (hc : TabLine.counted l = true) :
    Keeps s (voidLineIn slot i l s) :=
  keeps_updTab ht (keepsTab_uncount _ hl hc rfl rfl)

theorem keeps_removeFromTicket (n p : Nat) (s : State) : Keeps s (removeFromTicket n p s) := by
  unfold removeFromTicket
  dsimp only
  have hdrop : Keeps s (updTicket n (Ticket.dropPosition p) s) := keeps_updTicket (by exact fun _ => rfl) s
  split
  · split
    · exact hdrop.trans (keeps_freeTicket _ _)
    · exact hdrop
  · exact hdrop

theorem keeps_beginWithdrawal {slot i n p : Nat} {t : Tab} {l : TabLine} {s : State}
    (ht : tabIn s slot = some t) (hl : t.lines[i]? = some l) (hc : TabLine.counted l = true) :
    Keeps s (beginWithdrawal slot i n p l s) := by
  have hline : KeepsTab t { t with lines := t.lines.set i { l with state := .withdrawing } } := by
    refine keepsTab_setLine hl ?_
    rw [TabLine.share, TabLine.share, hc]
    rfl
  exact ((keeps_updTab ht hline).trans (keeps_updTicket (by exact fun _ => rfl) _)).trans
    (keeps_sendWithdraw _ _ _)

theorem resultKeeps_lineRequest {s : State} {t : Tab} {line : Nat} {k : TabLine → RequestResult}
    (h : ∀ l, t.lines[line]? = some l → ResultKeeps s (k l)) :
    ResultKeeps s (lineRequest t line k) := by
  refine resultKeeps_need _ fun _ => resultKeeps_need _ fun _ => ?_
  split
  · exact h _ ‹_›
  · exact resultKeeps_error s _

theorem resultKeeps_voidSent {slot level code line n p : Nat} {t : Tab} {l : TabLine} {s : State}
    (ht : tabIn s (codeSlot code) = some t) (hl : t.lines[line]? = some l)
    (hc : TabLine.counted l = true) : ResultKeeps s (voidSent slot level code line n p l s) := by
  have hvoid := (keeps_voidLineIn ht hl hc).trans (keeps_removeFromTicket n p _)
  unfold voidSent
  split
  · exact resultKeeps_need _ fun _ => resultKeeps_taken _ (hvoid.trans (keeps_addTotals _ _ _))
  · exact resultKeeps_need _ fun _ => resultKeeps_taken _ (hvoid.trans (keeps_addTotals _ _ _))
  · exact resultKeeps_need _ fun _ => resultKeeps_needFrames _ <| resultKeeps_accepted
      ((keeps_beginWithdrawal ht hl hc).trans (keeps_addTotals _ _ _))
  · exact resultKeeps_need _ fun _ => resultKeeps_needFrames _ <| resultKeeps_accepted
      ((keeps_beginWithdrawal ht hl hc).trans (keeps_addTotals _ _ _))
  · exact resultKeeps_error s _

theorem completes_execVoidLine (slot code line : Nat) (s : State) :
    Completes (execVoidLine slot code line s) s := by
  refine completes_request (resultKeeps_need _ fun _ => resultKeeps_withSlot _ fun r =>
    resultKeeps_withTab fun t ht => resultKeeps_lineRequest fun l hl => ?_)
  have hin := (tabIn_of_tabOf ht).2.1
  split
  · next hst =>
    exact resultKeeps_need _ fun _ => resultKeeps_taken _
      ((keeps_voidLineIn hin hl (by simp [TabLine.counted, hst])).trans (keeps_addTotals _ _ _))
  · next hst _ => exact resultKeeps_voidSent hin hl (by simp [TabLine.counted, hst])
  · exact resultKeeps_error s _
  · exact resultKeeps_error s _

theorem completes_execWasteLine (slot code line : Nat) (s : State) :
    Completes (execWasteLine slot code line s) s := by
  refine completes_request (resultKeeps_tabRequest fun r t _ ht => resultKeeps_lineRequest fun l hl =>
    resultKeeps_need _ fun hst => resultKeeps_taken _ ?_)
  have hc : TabLine.counted l = true := by rcases hst with h | h <;> simp [TabLine.counted, h]
  have hwaste : KeepsTab t (Tab.uncount s.join.figures line { l with state := .waste } t) :=
    keepsTab_uncount _ hl hc rfl rfl
  exact ((keeps_updTab (tabIn_of_tabOf ht).2.1 hwaste).trans (keeps_addTotals _ _ _)).trans
    (keeps_checkFree _ _)

end Sys2Proof.Machine
end

section
-- One proof at a time: side by side, their threads' stacks outgrow the check's memory.
set_option Elab.async false
/-! What the till's timers, frames and events keep. -/

namespace Sys2Proof.Machine

/-! ## The ticket table's waits -/

theorem keeps_offerWindowOut (n : Nat) (s : State) : Keeps s (offerWindowOut n s) := by
  unfold offerWindowOut
  split
  · split
    · exact (keeps_updTicket (by exact fun _ => rfl) s).trans (keeps_sendOffer _ _)
    · exact (keeps_updTicket (by exact fun _ => rfl) s).trans (keeps_notify _ _)
  · exact .refl s

theorem completes_execOfferWindowExpiry (n : Nat) (s : State) :
    Completes (execOfferWindowExpiry n s) s := by
  unfold execOfferWindowExpiry
  split
  · split
    · exact completes_next ((keeps_advanceUntil _ _ s).trans (keeps_offerWindowOut _ _))
    · exact completes_next (.refl s)
  · exact completes_next (.refl s)

theorem keeps_awardWaitOut (n : Nat) (s : State) : Keeps s (awardWaitOut n s) := by
  unfold awardWaitOut
  split
  · split
    · exact (keeps_updTicket (by exact fun _ => rfl) s).trans (keeps_sendAward _ _ _ _)
    · exact keeps_reissue _ _ _ _ s
  · exact .refl s

theorem completes_execAwardWaitExpiry (n : Nat) (s : State) :
    Completes (execAwardWaitExpiry n s) s := by
  unfold execAwardWaitExpiry
  split
  · split
    · exact completes_next ((keeps_advanceUntil _ _ s).trans (keeps_awardWaitOut _ _))
    · exact completes_next (.refl s)
  · exact completes_next (.refl s)

theorem keeps_replyWaitOut (n p a : Nat) (s : State) : Keeps s (replyWaitOut n p a s) := by
  unfold replyWaitOut
  split
  · split
    · exact (keeps_updTicket (by exact fun _ => rfl) s).trans (keeps_sendWithdraw _ _ _)
    · exact ((keeps_updTicket (by exact fun _ => rfl) s).trans (keeps_ticketReport _ _ _ _)).trans
        (keeps_notify _ _)
  · exact .refl s

theorem completes_execWithdrawReplyWaitExpiry (n p : Nat) (s : State) :
    Completes (execWithdrawReplyWaitExpiry n p s) s := by
  unfold execWithdrawReplyWaitExpiry
  split
  · split
    · exact completes_next ((keeps_advanceUntil _ _ s).trans (keeps_replyWaitOut _ _ _ _))
    · exact completes_next (.refl s)
  · exact completes_next (.refl s)

/-! ## Frames from kitchens -/

theorem keeps_placeTicket (t : Ticket) (src d : Nat) (s : State) : Keeps s (placeTicket t src d s) :=
  ((keeps_cancelFrames _ s).trans (keeps_updTicket (by exact fun _ => rfl) _)).trans
    (keeps_sendAward _ _ _ _)

theorem keeps_ticketBid (src origin : Nat) (ref : Ref) (d : Nat) (s : State) :
    Keeps s (ticketBid src origin ref d s) := by
  unfold ticketBid
  split
  · split
    · split
      · split
        · exact keeps_placeTicket _ _ _ s
        · exact keeps_sendAward _ _ _ s
      · exact .refl s
    · exact .refl s
  · exact .refl s

theorem keeps_answerStale (src : Nat) (ref : Ref) (s : State) : Keeps s (answerStale src ref s) :=
  (keeps_sendRevoke src ref s).trans (keeps_updTicket (fun t => by split <;> rfl) _)

theorem keeps_placedNotice (t : Ticket) (s : State) : Keeps s (placedNotice t s) := by
  unfold placedNotice
  split
  · exact keeps_notify _ s
  · exact .refl s

theorem keeps_readyNotice (t : Ticket) (s : State) : Keeps s (readyNotice t s) := by
  unfold readyNotice
  split
  · exact keeps_notify _ s
  · exact .refl s

theorem keeps_setLate (t : Ticket) (s : State) : Keeps s (setLate t s) := by
  have hflag : Keeps s (updTicket t.number (fun t => { t with late := true }) s) :=
    keeps_updTicket (by exact fun _ => rfl) s
  unfold setLate
  dsimp only
  split
  · split
    · exact hflag
    · exact hflag.trans (keeps_notify _ _)
  · exact hflag

theorem keeps_becomePlaced (t : Ticket) (s : State) : Keeps s (becomePlaced t s) :=
  (keeps_updTicket (by exact fun _ => rfl) s).trans (keeps_placedNotice t _)

theorem keeps_becomeFired (t : Ticket) (p : Option Time) (s : State) : Keeps s (becomeFired t p s) :=
  (keeps_updTicket (by exact fun _ => rfl) s).trans (keeps_ticketReport _ _ _ _)

theorem keeps_becomeReady (t : Ticket) (p : Option Time) (s : State) : Keeps s (becomeReady t p s) :=
  ((keeps_updTicket (by exact fun _ => rfl) s).trans (keeps_ticketReport _ _ _ _)).trans
    (keeps_readyNotice t _)

theorem keeps_takeProgress (t : Ticket) (k : KitchenState) (s : State) :
    Keeps s (takeProgress t k s) := by
  unfold takeProgress
  split
  · exact keeps_becomePlaced t s
  · exact keeps_becomeFired t _ s
  · exact keeps_becomeFired t _ s
  · exact keeps_becomeReady t _ s
  · exact keeps_becomeReady t _ s
  · exact keeps_becomeReady t _ s
  · exact (keeps_becomePlaced t s).trans (keeps_setLate t _)
  · exact keeps_setLate t s
  · exact keeps_setLate t s
  · exact keeps_setLate t s
  · exact keeps_reissue _ _ _ _ s
  · exact keeps_reissue _ _ _ _ s
  · exact .refl s

theorem keeps_ticketProgress (src : Nat) (ref : Ref) (k : KitchenState) (m : Byte) (s : State) :
    Keeps s (ticketProgress src ref k m s) := by
  unfold ticketProgress
  split
  · exact .refl s
  · split
    · exact (keeps_updTicket (by exact fun _ => rfl) s).trans (keeps_takeProgress _ _ _)
    · exact keeps_answerStale _ _ s

theorem keeps_withdrawnLine (t : Ticket) (p : Nat) (nothing : Bool) (s : State) :
    Keeps s (withdrawnLine t p nothing s) := by
  have hdrop : Keeps s (updTicket t.number (Ticket.dropPosition p) (ticketReport t [p] .removed s)) :=
    (keeps_ticketReport _ _ _ s).trans (keeps_updTicket (by exact fun _ => rfl) _)
  unfold withdrawnLine
  dsimp only
  split
  · exact hdrop.trans (keeps_freeTicket _ _)
  · split
    · exact hdrop.trans (keeps_reissue _ _ _ _ _)
    · exact hdrop

theorem keeps_withdrawRefused (t : Ticket) (p : Nat) (s : State) : Keeps s (withdrawRefused t p s) := by
  unfold withdrawRefused
  dsimp only
  refine Keeps.trans ?_ (keeps_notify _ _)
  have hend : Keeps s (ticketReport t [p] .withdrawRefused (updTicket t.number (fun t =>
      { t with withdrawals := t.withdrawals.filter fun w => w.position != p }) s)) :=
    (keeps_updTicket (by exact fun _ => rfl) s).trans (keeps_ticketReport _ _ _ _)
  split
  · exact hend.trans ((keeps_updTicket (by exact fun _ => rfl) _).trans (keeps_ticketReport _ _ _ _))
  · exact hend

theorem keeps_ticketWithdrawReply (src : Nat) (ref : Ref) (p : Nat) (o : WithdrawOutcome) (e : Bool)
    (s : State) : Keeps s (ticketWithdrawReply src ref p o e s) := by
  unfold ticketWithdrawReply
  split
  · exact .refl s
  · split
    · split
      · split
        · exact keeps_withdrawnLine _ _ _ s
        · exact keeps_withdrawnLine _ _ _ s
        · exact keeps_withdrawRefused _ _ s
      · exact .refl s
    · exact keeps_answerStale _ _ s

/-! ## Station events at the ticket table -/

theorem keeps_kitchenLost (t : Ticket) (st : Nat) (l : Lost) (s : State) :
    Keeps s (kitchenLost t st l s) := keeps_notify _ s

theorem keeps_awardeeEvent (t : Ticket) (a : Awardee) (e : StationEvent) (s : State) :
    Keeps s (awardeeEvent t a e s) := by
  unfold awardeeEvent
  split
  · split
    · exact keeps_reissue _ _ _ _ s
    · exact keeps_reissue _ _ _ _ s
    · exact .refl s
  · split
    · exact keeps_reissue _ _ _ _ s
    · exact keeps_reissue _ _ _ _ s
    · exact .refl s
  · split
    · exact (keeps_updTicket (by exact fun _ => rfl) s).trans (keeps_kitchenLost _ _ _ _)
    · exact (keeps_updTicket (by exact fun _ => rfl) s).trans (keeps_kitchenLost _ _ _ _)
    · exact (keeps_updTicket (by exact fun _ => rfl) s).trans (keeps_kitchenLost _ _ _ _)
    · split
      · exact keeps_updTicket (by exact fun _ => rfl) s
      · exact .refl s
    · exact .refl s
  · split
    · exact (keeps_updTicket (by exact fun _ => rfl) s).trans (keeps_kitchenLost _ _ _ _)
    · exact (keeps_updTicket (by exact fun _ => rfl) s).trans (keeps_kitchenLost _ _ _ _)
    · exact (keeps_updTicket (by exact fun _ => rfl) s).trans (keeps_kitchenLost _ _ _ _)
    · split
      · exact keeps_updTicket (by exact fun _ => rfl) s
      · exact .refl s
    · exact .refl s
  · exact .refl s
  · exact .refl s

theorem keeps_staleEvent (t : Ticket) (h : StaleHolder) (e : StationEvent) (s : State) :
    Keeps s (staleEvent t h e s) := by
  have hclear : Keeps s (updTicket t.number (fun t => { t with stale := none }) s) :=
    keeps_updTicket (by exact fun _ => rfl) s
  unfold staleEvent
  split
  · exact hclear
  · dsimp only
    split
    · exact hclear.trans (keeps_sendRevoke _ _ _)
    · exact hclear
  · exact .refl s

theorem keeps_ticketEvent (st : Nat) (e : StationEvent) (s : State) (n : Nat) :
    Keeps s (ticketEvent st e s n) := by
  unfold ticketEvent
  split
  case h_1 => exact .refl s
  case h_2 t _ =>
    have hawardee : Keeps s (match t.awardee with
        | some a => if a.station = st then awardeeEvent t a e s else s
        | none => s) := by
      split
      · split
        · exact keeps_awardeeEvent _ _ _ s
        · exact .refl s
      · exact .refl s
    dsimp only
    split
    · split
      · exact hawardee.trans (keeps_staleEvent _ _ _ _)
      · exact hawardee
    · exact hawardee

theorem keeps_ticketEvents (st : Nat) (e : StationEvent) (s : State) :
    Keeps s (ticketEvents st e s) := keeps_foldl (keeps_ticketEvent st e) _ s

/-! ## The settlement unit -/

theorem resultKeeps_shareRequest {s : State} {slot code share level : Nat}
    {k : SlotRecord → Tab → Share → RequestResult} (h : ∀ r t sh, ResultKeeps s (k r t sh)) :
    ResultKeeps s (shareRequest s slot code share level k) := by
  refine resultKeeps_tabRequest fun r t _ _ => ?_
  split
  · exact h r t _
  · exact resultKeeps_error s _

theorem resultKeeps_borrowedRequest {s : State} {slot code share level : Nat}
    {k : SlotRecord → Borrowed → RequestResult} (h : ∀ r b, ResultKeeps s (k r b)) :
    ResultKeeps s (borrowedRequest s slot code share level k) := by
  refine resultKeeps_need _ fun _ => resultKeeps_withSlot _ fun r => ?_
  split
  · exact resultKeeps_need _ fun _ => h r _
  · exact resultKeeps_error s _

theorem resultKeeps_withPayment {s : State} {p : Except ReplyCode (Tender × Nat × Int × Nat)}
    {k : Tender → Nat → Int → Nat → RequestResult} (h : ∀ a b c d, ResultKeeps s (k a b c d)) :
    ResultKeeps s (withPayment p k) := by
  unfold withPayment
  split
  · exact resultKeeps_error s _
  · exact h _ _ _ _

theorem completes_execTake (slot code share : Nat) (s : State) :
    Completes (execTake slot code share s) s :=
  completes_request (resultKeeps_shareRequest fun _ _ _ => resultKeeps_need _ fun _ =>
    resultKeeps_need _ fun _ => resultKeeps_taken _ (keeps_setShare _ _ _ s))

theorem keeps_sendHome (b : Borrowed) (body : FrameBody) (s : State) : Keeps s (sendHome b body s) :=
  keeps_offerFrame _ _ _ s

theorem completes_execPay (slot code share tender tendered : Nat) (s : State) :
    Completes (execPay slot code share tender tendered s) s := by
  refine completes_request ?_
  unfold payResult
  split
  · exact resultKeeps_shareRequest fun _ _ _ => resultKeeps_need _ fun _ =>
      resultKeeps_withPayment fun _ _ _ _ => resultKeeps_taken _
        ((keeps_addTotals _ _ s).trans (keeps_setShare _ _ _ _))
  · exact resultKeeps_borrowedRequest fun _ _ => resultKeeps_need _ fun _ =>
      resultKeeps_withPayment fun _ _ _ _ => resultKeeps_needFrames _ <| resultKeeps_taken _
        (((keeps_addTotals _ _ s).trans (keeps_updBorrowed (by exact fun _ => ⟨rfl, rfl⟩) _)).trans
          (keeps_sendHome _ _ _))

theorem keeps_returnBorrowed (b : Borrowed) (s : State) : Keeps s (returnBorrowed b s) :=
  (keeps_updBorrowed (by exact fun _ => ⟨rfl, rfl⟩) s).trans (keeps_sendHome _ _ _)

theorem completes_execGiveBack (slot code share : Nat) (s : State) :
    Completes (execGiveBack slot code share s) s := by
  refine completes_request ?_
  unfold giveBackResult
  split
  · exact resultKeeps_shareRequest fun _ _ _ => resultKeeps_need _ fun _ =>
      resultKeeps_taken _ (keeps_setShare _ _ _ s)
  · exact resultKeeps_borrowedRequest fun _ _ => resultKeeps_need _ fun _ =>
      resultKeeps_needFrames _ <| resultKeeps_taken _ (keeps_returnBorrowed _ s)

theorem completes_execForceRelease (slot code share : Nat) (s : State) :
    Completes (execForceRelease slot code share s) s := by
  refine completes_request (resultKeeps_shareRequest fun _ _ _ => ?_)
  split
  · exact resultKeeps_taken _ ((keeps_notify _ s).trans (keeps_setShare _ _ _ _))
  · exact resultKeeps_error s _

theorem keeps_grantShare (src code share : Nat) (sh : Share) (s : State) :
    Keeps s (grantShare src code share sh s) := by
  unfold grantShare
  dsimp only
  split
  · exact keeps_setShare _ _ _ s
  · exact (keeps_setShare _ _ _ s).trans (keeps_notify _ _)
  · exact .refl s

theorem keeps_settleAsk (src code share : Nat) (s : State) : Keeps s (settleAsk src code share s) := by
  unfold settleAsk
  split
  · exact keeps_offerFrame _ _ _ s
  · split
    · exact (keeps_grantShare _ _ _ _ s).trans (keeps_offerFrame _ _ _ _)
    · exact .refl s

theorem keeps_conflictState (s : State) (code share : Nat) : Keeps s (conflictState s code share).2 := by
  unfold conflictState
  split
  · exact .refl s
  · exact {}

theorem keeps_settleConflicts (src code share : Nat) (tender : Tender) (settled : Nat) (s : State) :
    Keeps s (settleConflicts src code share tender settled s) :=
  ((keeps_conflictState s code share).trans (keeps_notify _ _)).trans (keeps_offerFrame _ _ _ _)

theorem keeps_settleSettle (src code share : Nat) (tender : Tender) (settled : Nat) (adj : Int)
    (s : State) : Keeps s (settleSettle src code share tender settled adj s) := by
  unfold settleSettle
  split
  · split
    · exact ((keeps_setShare _ _ _ s).trans (keeps_notify _ _)).trans (keeps_offerFrame _ _ _ _)
    · split
      · exact keeps_offerFrame _ _ _ s
      · exact keeps_settleConflicts _ _ _ _ _ s
  · exact keeps_settleConflicts _ _ _ _ _ s

theorem keeps_settleReturn (src code share : Nat) (s : State) :
    Keeps s (settleReturn src code share s) := by
  unfold settleReturn
  dsimp only
  refine Keeps.trans ?_ (keeps_offerFrame _ _ _ _)
  split
  · split
    · exact (keeps_setShare _ _ _ s).trans (keeps_notify _ _)
    · exact .refl s
  · exact .refl s

theorem keeps_homeShareEvent (st : Nat) (e : StationEvent) (slot code share : Nat) (sh : Share)
    (s : State) : Keeps s (homeShareEvent st e slot code share sh s) := by
  have hset : ∀ state, Keeps s (setShare slot share state s) := fun state => keeps_setShare _ _ _ s
  have htold : ∀ state b, Keeps s (notify b (setShare slot share state s)) :=
    fun state b => (hset state).trans (keeps_notify _ _)
  unfold homeShareEvent
  dsimp only
  split
  · split
    · exact .refl s
    · split
      · split
        · exact hset _
        · exact .refl s
      · split
        · exact .refl s
        · exact htold _ _
      · split
        · exact .refl s
        · exact htold _ _
  · split
    · exact .refl s
    · split
      · split
        · exact htold _ _
        · exact .refl s
      · split
        · exact .refl s
        · exact htold _ _
      · exact .refl s
  · exact .refl s

theorem keeps_homeTabEvent (st : Nat) (e : StationEvent) (s : State) (slot : Nat) :
    Keeps s (homeTabEvent st e s slot) := by
  unfold homeTabEvent
  split
  · exact keeps_foldl (fun s p => keeps_homeShareEvent _ _ _ _ _ _ s) _ s
  · exact .refl s

theorem keeps_homeEvent (st : Nat) (e : StationEvent) (s : State) : Keeps s (homeEvent st e s) :=
  keeps_foldl (keeps_homeTabEvent st e) _ s

/-! ## The borrowing till -/

theorem keeps_newBorrowed {s : State} {b : Borrowed} (hr : role s = .till)
    (hnew : borrowedOf s b.code b.share = none) (hroom : s.borrowed.length < 8) :
    Keeps s { s with borrowed := s.borrowed ++ [b] } where
  queues := by
    rintro ⟨h1, h2, h3, h4, h5, h6, h7, h8, h9⟩
    exact ⟨h1, h2, h3, h4, h5, h6, h7, by simpa using hroom, h9⟩
  kitchen := fun _ (hk : role s = .kitchen) => by simp [hr] at hk
  names := by
    rintro ⟨h1, h2, h3, h4, h5, h6, h7⟩
    refine ⟨h1, h2, h3, h4, h5, ?_, h7⟩
    have hfresh : ∀ x ∈ s.borrowed, x.code = b.code → ¬x.share = b.share := by
      simpa [borrowedOf] using hnew
    simpa [List.nodup_append, h6] using hfresh

theorem completes_execTakeRemote (slot code share : Nat) (s : State) :
    Completes (execTakeRemote slot code share s) s :=
  completes_request (resultKeeps_need _ fun hr => resultKeeps_withSlot _ fun _ =>
    resultKeeps_need _ fun _ => resultKeeps_need _ fun _ => resultKeeps_need _ fun _ =>
    resultKeeps_need _ fun hnew => resultKeeps_need _ fun hroom => resultKeeps_needFrames _ <|
    resultKeeps_accepted ((keeps_newBorrowed (b := newBorrowed s slot code share) hr hnew hroom).trans
      (keeps_sendHome _ _ _)))

theorem keeps_freeBorrowed (code share : Nat) (s : State) : Keeps s (freeBorrowed code share s) :=
  (keeps_cancelFrames _ s).trans (keeps_dropBorrowed _ _ _)

theorem completes_execClearOrphan (slot code share : Nat) (s : State) :
    Completes (execClearOrphan slot code share s) s := by
  refine completes_request (resultKeeps_borrowedRequest fun _ _ => resultKeeps_need _ fun _ => ?_)
  split
  · exact resultKeeps_taken _ (keeps_freeBorrowed _ _ s)
  · exact resultKeeps_taken _ (keeps_freeBorrowed _ _ s)

theorem keeps_askWaitOut (b : Borrowed) (s : State) : Keeps s (askWaitOut b s) := by
  unfold askWaitOut
  split
  · exact (keeps_updBorrowed (by exact fun _ => ⟨rfl, rfl⟩) s).trans (keeps_sendHome _ _ _)
  · exact (keeps_freeBorrowed _ _ s).trans (keeps_notify _ _)

theorem completes_execAskWaitExpiry (code share : Nat) (s : State) :
    Completes (execAskWaitExpiry code share s) s := by
  unfold execAskWaitExpiry
  split
  · split
    · exact completes_next ((keeps_advanceUntil _ _ s).trans (keeps_askWaitOut _ _))
    · exact completes_next (.refl s)
  · exact completes_next (.refl s)

theorem completes_execHoldLimitExpiry (code share : Nat) (s : State) :
    Completes (execHoldLimitExpiry code share s) s := by
  unfold execHoldLimitExpiry
  split
  · split
    · exact completes_next (((keeps_advanceUntil _ _ s).trans (keeps_notify _ _)).trans
        (keeps_returnBorrowed _ _))
    · exact completes_next (.refl s)
  · exact completes_next (.refl s)

theorem keeps_sendRepeat (b : Borrowed) (s : State) : Keeps s (sendRepeat b s) :=
  (keeps_updBorrowed (by exact fun _ => ⟨rfl, rfl⟩) s).trans (keeps_sendHome _ _ _)

theorem keeps_repeatWaitOut (b : Borrowed) (s : State) : Keeps s (repeatWaitOut b s) := by
  unfold repeatWaitOut
  split
  · exact keeps_updBorrowed (by exact fun _ => ⟨rfl, rfl⟩) s
  · split
    · exact keeps_updBorrowed (by exact fun _ => ⟨rfl, rfl⟩) s
    · exact keeps_sendRepeat b s

theorem completes_execRepeatWaitExpiry (code share : Nat) (s : State) :
    Completes (execRepeatWaitExpiry code share s) s := by
  unfold execRepeatWaitExpiry
  split
  · split
    · exact completes_next ((keeps_advanceUntil _ _ s).trans (keeps_repeatWaitOut _ _))
    · exact completes_next ((keeps_advanceUntil _ _ s).trans (keeps_repeatWaitOut _ _))
    · exact completes_next (.refl s)
  · exact completes_next (.refl s)

theorem keeps_settleGrant (src code share : Nat) (a : Amounts) (s : State) :
    Keeps s (settleGrant src code share a s) := by
  unfold settleGrant
  split
  · exact keeps_offerFrame _ _ _ s
  · split
    · exact ((keeps_cancelWaiting _ s).trans (keeps_updBorrowed (by exact fun _ => ⟨rfl, rfl⟩) _)).trans
        (keeps_notify _ _)
    · exact .refl s

theorem keeps_settleDeny (src code share : Nat) (r : DenyReason) (s : State) :
    Keeps s (settleDeny src code share r s) := by
  unfold settleDeny
  split
  · split
    · exact (keeps_freeBorrowed _ _ s).trans (keeps_notify _ _)
    · exact .refl s
  · exact .refl s

theorem keeps_settleClose (src code share : Nat) (o : CloseOutcome) (s : State) :
    Keeps s (settleClose src code share o s) := by
  unfold settleClose
  split
  · exact .refl s
  · dsimp only
    split
    · exact (keeps_freeBorrowed _ _ s).trans (keeps_notify _ _)
    · exact (keeps_freeBorrowed _ _ s).trans (keeps_notify _ _)
    · exact (keeps_updBorrowed (by exact fun _ => ⟨rfl, rfl⟩) s).trans (keeps_notify _ _)
    · exact .refl s

theorem keeps_homeBack (b : Borrowed) (m : Nat) (s : State) : Keeps s (homeBack b m s) := by
  have hflag : Keeps s (updBorrowed b.code b.share (fun b =>
      { b with homeMark := m, homeSilent := false }) s) :=
    keeps_updBorrowed (by exact fun _ => ⟨rfl, rfl⟩) s
  unfold homeBack
  dsimp only
  split
  · exact hflag.trans (keeps_sendRepeat _ _)
  · exact hflag

theorem keeps_homeRestarted (b : Borrowed) (s : State) : Keeps s (homeRestarted b s) := by
  unfold homeRestarted
  split
  case h_4 =>
    exact ((keeps_cancelWaiting _ s).trans (keeps_updBorrowed (by exact fun _ => ⟨rfl, rfl⟩) _)).trans
      (keeps_notify _ _)
  case h_5 => exact .refl s
  all_goals exact (keeps_freeBorrowed _ _ s).trans (keeps_notify _ _)

theorem keeps_borrowedEvent (e : StationEvent) (s : State) (b : Borrowed) :
    Keeps s (borrowedEvent e s b) := by
  unfold borrowedEvent
  split
  · exact keeps_updBorrowed (by exact fun _ => ⟨rfl, rfl⟩) s
  · split
    · exact keeps_homeBack _ _ s
    · exact .refl s
  · split
    · exact keeps_homeRestarted _ s
    · exact .refl s

theorem keeps_settlementEvent (st : Nat) (e : StationEvent) (s : State) :
    Keeps s (settlementEvent st e s) :=
  (keeps_homeEvent st e s).trans (keeps_foldl (keeps_borrowedEvent e) _ _)

/-! ## Operators -/

theorem completes_execSignOn (operator level : Nat) (s : State) :
    Completes (execSignOn operator level s) s := by
  refine completes_request (resultKeeps_need _ fun _ => resultKeeps_need _ fun _ => ?_)
  split
  · exact resultKeeps_error s _
  · exact resultKeeps_taken _ {}

theorem completes_execSignOff (slot : Nat) (s : State) : Completes (execSignOff slot s) s :=
  completes_request (resultKeeps_withSlot _ fun r => resultKeeps_need _ fun _ =>
    resultKeeps_taken _ ((keeps_notify (.shiftReport slot r.operator r.level r.since (now s) r.totals) s).trans
      (keeps_of_unwatched rfl)))

end Sys2Proof.Machine
end

section
-- One proof at a time: side by side, their threads' stacks outgrow the check's memory.
set_option Elab.async false
/-! What the printer port and the kitchen queue keep. -/

namespace Sys2Proof.Machine

/-! ## The printer port -/

theorem apart_updPort (f : Port → Port) (s : State) : KeepsApart s (updPort f s) := {}

theorem apart_setPrint (o n : Nat) (p : PrintState) (s : State) : KeepsApart s (setPrint o n p s) :=
  (keeps_setPrint o n p s).toKeepsApart

theorem apart_notify (b : NoticeBody) (s : State) : KeepsApart s (notify b s) :=
  (keeps_notify b s).toKeepsApart

theorem apart_startByte (s : State) : KeepsApart s (startByte s) := by
  unfold startByte
  split
  · split
    · exact apart_updPort _ s
    · exact apart_updPort _ s
  · exact .refl s

theorem apart_sendJob (j : Job) (s : State) : KeepsApart s (sendJob j s) :=
  (apart_updPort _ s).trans (apart_startByte _)

theorem apart_portIdle (s : State) : KeepsApart s (portIdle s) := apart_updPort _ s

theorem apart_takeItem (put : LaneTicket → Port → Port) (s : State) :
    KeepsApart s (takeItem put s) := by
  unfold takeItem
  split
  · exact .refl s
  · dsimp only
    split
    · exact ((apart_updPort _ s).trans (apart_setPrint _ _ _ _)).trans (apart_updPort _ _)
    · exact apart_updPort _ s

theorem apart_fillLeft (s : State) : KeepsApart s (fillLeft s) := by
  unfold fillLeft
  split
  · exact apart_takeItem _ s
  · exact .refl s

theorem apart_fillRight (s : State) : KeepsApart s (fillRight s) := by
  unfold fillRight
  split
  · exact apart_takeItem _ s
  · exact .refl s

theorem apart_startLine (s : State) : KeepsApart s (startLine s) := by
  have hl := apart_fillLeft s
  unfold startLine
  dsimp only
  split
  · have hr := hl.trans (apart_fillRight _)
    split
    · split
      · exact hr.trans (apart_sendJob _ _)
      · exact hr.trans (apart_portIdle _)
    · exact hr.trans (apart_sendJob _ _)
  · split
    · exact hl.trans (apart_sendJob _ _)
    · exact hl.trans (apart_portIdle _)

theorem apart_completeTicket (t : LaneTicket) (s : State) : KeepsApart s (completeTicket t s) := by
  unfold completeTicket
  split
  · exact apart_setPrint _ _ _ s
  · exact .refl s

theorem apart_laneAccepted (lane : Option LaneTicket) (put : Option LaneTicket → Port → Port)
    (s : State) : KeepsApart s (laneAccepted lane put s) := by
  unfold laneAccepted
  split
  · exact .refl s
  · split
    · exact apart_updPort _ s
    · exact (apart_updPort _ s).trans (apart_completeTicket _ _)

theorem apart_lineAccepted (s : State) : KeepsApart s (lineAccepted s) := by
  unfold lineAccepted
  split
  · exact ((apart_laneAccepted _ _ s).trans (apart_laneAccepted _ _ _)).trans (apart_startLine _)
  · split
    · dsimp only
      split
      · exact (apart_updPort _ s).trans (apart_startLine _)
      · exact (apart_updPort _ s).trans (apart_sendJob _ _)
    · exact apart_startLine s

theorem apart_cutAccepted (s : State) : KeepsApart s (cutAccepted s) := by
  unfold cutAccepted
  split
  · exact (apart_updPort _ s).trans (apart_startLine _)
  · split
    · exact ((apart_updPort _ s).trans (apart_completeTicket _ _)).trans (apart_startLine _)
    · exact apart_startLine s

theorem apart_byteAccepted (s : State) : KeepsApart s (byteAccepted s) := by
  unfold byteAccepted
  split
  · exact (apart_updPort _ s).trans (apart_startByte _)
  · exact apart_lineAccepted s
  · exact apart_cutAccepted s
  · exact .refl s
  · exact .refl s

theorem apart_unprinted (o : Nat) (ref : Ref) (s : State) : KeepsApart s (unprinted o ref s) :=
  (apart_setPrint _ _ _ s).trans (apart_notify _ _)

theorem apart_joinPrintList (o : Nat) (ref : Ref) (reprint : Bool) (s : State) :
    KeepsApart s (joinPrintList o ref reprint s) := by
  unfold joinPrintList
  split
  · exact apart_unprinted _ _ s
  · have hjoin := (apart_updPort (fun p => { p with list := p.list ++ [⟨o, ref.number, reprint⟩] }) s).trans
      (apart_setPrint o ref.number .waiting _)
    dsimp only
    split
    · exact hjoin.trans (apart_startLine _)
    · exact hjoin

theorem apart_entryLeft (o n : Nat) (s : State) : KeepsApart s (entryLeft o n s) := apart_updPort _ s

theorem apart_beginRecovery (s : State) : KeepsApart s (beginRecovery s) := by
  unfold beginRecovery
  exact apart_updPort _ s

theorem apart_recoveryEnds (s : State) : KeepsApart s (recoveryEnds s) :=
  (((apart_updPort _ s).trans (apart_notify _ _)).trans (apart_updPort _ _)).trans (apart_startLine _)

theorem apart_downExit (s : State) : KeepsApart s (downExit s) := by
  unfold downExit
  split
  · exact apart_beginRecovery s
  · exact .refl s

theorem apart_giveUpLane (lane : Option LaneTicket) (s : State) : KeepsApart s (giveUpLane lane s) := by
  unfold giveUpLane
  split
  · exact .refl s
  · refine KeepsApart.trans ?_ (apart_notify _ _)
    split
    · exact apart_setPrint _ _ _ s
    · exact .refl s

theorem apart_foldl {α : Type} {f : State → α → State} (h : ∀ s a, KeepsApart s (f s a)) (xs : List α)
    (s : State) : KeepsApart s (xs.foldl f s) := by
  induction xs generalizing s with
  | nil => exact .refl s
  | cons x xs ih => exact (h s x).trans (ih (f s x))

theorem apart_giveUpItem (s : State) (it : PrintItem) : KeepsApart s (giveUpItem s it) := by
  unfold giveUpItem
  split
  · exact apart_unprinted _ _ s
  · exact .refl s

theorem apart_goDown (s : State) : KeepsApart s (goDown s) :=
  ((((apart_updPort _ s).trans (apart_giveUpLane _ _)).trans (apart_giveUpLane _ _)).trans
    (apart_foldl apart_giveUpItem _ _)).trans (apart_downExit _)

theorem apart_raiseFault (k : FaultKind) (s : State) : KeepsApart s (raiseFault k s) := by
  have hfault := (apart_updPort (fun p => { p with job := .none, stage := .rest, faultKind := some k }) s).trans
    (apart_notify (.printerFault k (responseTo s k)) _)
  unfold raiseFault
  split
  case h_1 =>
    dsimp only
    split
    · exact hfault.trans (apart_updPort _ _)
    · exact hfault.trans (apart_updPort _ _)
    · exact hfault.trans (apart_goDown _)
  case h_2 =>
    dsimp only
    split
    · exact hfault.trans (apart_updPort _ _)
    · exact hfault.trans (apart_updPort _ _)
    · exact hfault.trans (apart_goDown _)
  all_goals exact .refl s

/-- A till at rest is not under way with the port. -/
theorem atRest_of_till {s : State} (h : s.TillPrintsNothing) (hr : role s = .till) :
    s.kitchen.entries = [] ∧ s.port.state = .idle ∧ s.port.job = .none ∧ s.port.stage = .rest
      ∧ s.port.deglitch = .off := by
  obtain ⟨h1, -, -, h4, -, -, -, h8, h9, h10, -⟩ := h hr
  exact ⟨h1, h4, h8, h9, h10⟩

theorem completes_apart {s t : State} (h : KeepsApart s t)
    (hr : role s = .till → ¬s.TillPrintsNothing) : Completes (.next t) s :=
  completes_next (h.keeps hr)

theorem completes_execPrinterLineAccepted (s : State) : Completes (execPrinterLineAccepted s) s := by
  unfold execPrinterLineAccepted
  split
  · next hj =>
    refine completes_apart ((apart_updPort _ s).trans (apart_lineAccepted _)) fun hr ht => ?_
    simp [atRest_of_till ht hr] at hj
  · exact completes_next (.refl s)

theorem completes_execCutAccepted (s : State) : Completes (execCutAccepted s) s := by
  unfold execCutAccepted
  split
  · next hj =>
    refine completes_apart ((apart_updPort _ s).trans (apart_cutAccepted _)) fun hr ht => ?_
    simp [atRest_of_till ht hr] at hj
  · exact completes_next (.refl s)

theorem completes_execFaultAsserted (s : State) : Completes (execFaultAsserted s) s := by
  unfold execFaultAsserted
  split
  · exact completes_next (.refl s)
  · refine completes_next { toKeepsApart := apart_updPort _ s, till := fun ht (hr : role s = .till) => ?_ }
    obtain ⟨h1, h2, h3, h4, h5, h6, h7, h8, h9, h10, h11⟩ := ht hr
    exact ⟨h1, h2, h3, h4, h5, h6, h7, h8, h9, by simp [updPort, portWatches, hr, h10], h11⟩

theorem keeps_downExit (s : State) : Keeps s (downExit s) := by
  unfold downExit
  split
  · next hd =>
    refine (apart_beginRecovery s).keeps fun hr ht => ?_
    simp [atRest_of_till ht hr] at hd
  · exact .refl s

theorem completes_execFaultReleased (s : State) : Completes (execFaultReleased s) s := by
  refine completes_next (Keeps.trans (t := updPort (fun p => { p with faultPin := false, deglitch := .off }) s)
    ⟨apart_updPort _ s, fun ht hr => ?_⟩ (keeps_downExit _))
  obtain ⟨h1, h2, h3, h4, h5, h6, h7, h8, h9, -, h11⟩ := ht hr
  exact ⟨h1, h2, h3, h4, h5, h6, h7, h8, h9, rfl, h11⟩

theorem apart_advanceUntil (start : Time) (limit : Nat) (s : State) :
    KeepsApart s (advanceUntil start limit s) := (keeps_advanceUntil start limit s).toKeepsApart

theorem completes_execDeglitchTimerExpiry (s : State) : Completes (execDeglitchTimerExpiry s) s := by
  unfold execDeglitchTimerExpiry
  split
  · next hd =>
    refine completes_apart (((apart_advanceUntil _ _ s).trans (apart_updPort _ _)).trans
      (apart_raiseFault _ _)) fun hr ht => ?_
    simp [atRest_of_till ht hr] at hd
  · exact completes_next (.refl s)

theorem apart_retryCheckOut (s : State) : KeepsApart s (retryCheckOut s) := by
  unfold retryCheckOut
  split
  · exact apart_updPort _ s
  · exact apart_beginRecovery s

theorem completes_execRetryCheck (s : State) : Completes (execRetryCheck s) s := by
  unfold execRetryCheck
  split
  · next hst _ =>
    refine completes_apart ((apart_advanceUntil _ _ s).trans (apart_retryCheckOut _)) fun hr ht => ?_
    simp [atRest_of_till ht hr] at hst
  · exact completes_next (.refl s)

theorem completes_execRecoveryEnd (s : State) : Completes (execRecoveryEnd s) s := by
  unfold execRecoveryEnd
  split
  · next hj =>
    refine completes_apart (((keeps_advance _ s).toKeepsApart.trans (apart_updPort _ _)).trans
      (apart_recoveryEnds _)) fun hr ht => ?_
    simp [atRest_of_till ht hr] at hj
  · exact completes_next (.refl s)

theorem completes_execStrobeReleased (s : State) : Completes (execStrobeReleased s) s := by
  unfold execStrobeReleased
  split
  · next hst =>
    refine completes_apart (apart_updPort _ s) fun hr ht => ?_
    simp [atRest_of_till ht hr] at hst
  · exact completes_next (.refl s)

theorem completes_execBusyAsserted (s : State) : Completes (execBusyAsserted s) s := by
  refine completes_next { toKeepsApart := apart_updPort _ s, till := fun ht hr => ?_ }
  obtain ⟨h1, h2, h3, h4, h5, h6, h7, h8, h9, h10, h11⟩ := ht hr
  exact ⟨h1, h2, h3, h4, h5, h6, h7, h8, by simp [updPort, h9], h10, h11⟩

theorem keeps_busyReleased (s : State) : Keeps s (busyReleased s) := by
  have hbusy : ∀ {t : State}, KeepsApart s t → s.port.stage ≠ .rest → Keeps s t :=
    fun h hst => h.keeps fun hr ht => hst (atRest_of_till ht hr).2.2.2.1
  unfold busyReleased
  split
  · next hst _ =>
    split
    · exact hbusy (apart_recoveryEnds s) (by simp [hst])
    · exact .refl s
  · next hst _ => exact hbusy (apart_startByte s) (by simp [hst])
  · next hst => exact hbusy (apart_byteAccepted s) (by simp [hst])
  · exact keeps_downExit s

theorem completes_execBusyReleased (s : State) : Completes (execBusyReleased s) s :=
  completes_next (Keeps.trans (t := updPort (fun p => { p with busyPin := false }) s)
    ⟨apart_updPort _ s, id⟩ (keeps_busyReleased _))

theorem keeps_pulseEnds (s : State) : Keeps s (pulseEnds s) := by
  unfold pulseEnds
  split
  · exact keeps_advance _ s
  all_goals exact .refl s

theorem completes_execHandshakeLimitExpiry (s : State) : Completes (execHandshakeLimitExpiry s) s := by
  unfold execHandshakeLimitExpiry
  split
  · next hst _ =>
    split
    · exact completes_next ((keeps_pulseEnds s).trans (keeps_busyReleased _))
    · refine completes_apart (((keeps_pulseEnds s).toKeepsApart.trans (apart_advanceUntil _ _ _)).trans
        (apart_raiseFault _ _)) fun hr ht => ?_
      simp [atRest_of_till ht hr] at hst
  · exact completes_next (.refl s)

theorem resultKeeps_kitchenRequest {s : State} {slot o n : Nat} {k : Entry → RequestResult}
    (h : ∀ e, role s = .kitchen → ResultKeeps s (k e)) :
    ResultKeeps s (kitchenRequest s slot o n k) := by
  refine resultKeeps_need _ fun hr => resultKeeps_withSlot _ fun r => ?_
  split
  · exact resultKeeps_need _ fun _ => h _ hr
  · exact resultKeeps_error s _

theorem completes_execReprint (slot o n : Nat) (s : State) : Completes (execReprint slot o n s) s :=
  completes_request (resultKeeps_kitchenRequest fun _ hr => resultKeeps_need _ fun _ =>
    resultKeeps_need _ fun _ => resultKeeps_need _ fun _ => resultKeeps_taken _
      ((apart_joinPrintList _ _ _ s).keeps_of_kitchen hr))

theorem completes_execClearPrinter (slot : Nat) (s : State) : Completes (execClearPrinter slot s) s :=
  completes_request (resultKeeps_need _ fun hr => resultKeeps_withSlot _ fun _ =>
    resultKeeps_need _ fun _ => resultKeeps_need _ fun _ => resultKeeps_need _ fun _ =>
    resultKeeps_taken _ ((apart_beginRecovery s).keeps_of_kitchen hr))

/-! ## Firing -/

/-- With unique names one entry at most starts to cook. -/
theorem cooking_le_succ {o n : Nat} {f : Entry → Entry} {es : List Entry}
    (h : (es.map fun e => (e.origin, e.number)).Nodup) :
    ((es.map fun e => if e.origin = o ∧ e.number = n then f e else e).filter Entry.cooking).length
      ≤ (es.filter Entry.cooking).length + 1 := by
  induction es with
  | nil => simp
  | cons x xs ih =>
    obtain ⟨hx, hxs⟩ := List.nodup_cons.1 h
    by_cases hn : x.origin = o ∧ x.number = n
    · have hrest : (xs.map fun e => if e.origin = o ∧ e.number = n then f e else e) = xs := by
        refine (List.map_congr_left fun e he => if_neg fun hen => hx ?_).trans (List.map_id xs)
        exact List.mem_map.2 ⟨e, he, by simp [hen, hn]⟩
      rw [List.map_cons, hrest, if_pos hn]
      have h1 : ((f x :: xs).filter Entry.cooking).length ≤ (xs.filter Entry.cooking).length + 1 := by
        rw [List.filter_cons]
        split <;> simp
      have h2 : (xs.filter Entry.cooking).length ≤ ((x :: xs).filter Entry.cooking).length :=
        ((List.sublist_cons_self x xs).filter _).length_le
      omega
    · rw [List.map_cons, if_neg hn, List.filter_cons, List.filter_cons]
      have := ih hxs
      split <;> simp <;> omega

/-- An entry fires while the fire capacity has room (R96). -/
theorem apart_fires {o n : Nat} {f : Entry → Entry}
    (hf : ∀ e, (f e).origin = e.origin ∧ (f e).number = e.number) {s : State}
    (hroom : cookingCount s < s.join.figures.fire) : KeepsApart s (updEntry o n f s) where
  queues := by simp [State.QueuesSound, txCount, updEntry]
  entries := by
    rintro ⟨h1, h2, h3⟩
    refine ⟨(cooking_le_succ h3).trans hroom, fun hj => ?_, ?_⟩
    · simp [updEntry, h2 hj]
    · have := map_named_eq (f := f) (fun e : Entry => (e.origin, e.number))
        (fun e => e.origin = o ∧ e.number = n) (fun e _ => by simp [hf e]) s.kitchen.entries
      simpa only [updEntry, this] using h3

theorem apart_offerFrame (dest : Nat) (body : FrameBody) (wait : Bool) (s : State) :
    KeepsApart s (offerFrame dest body wait s) := (keeps_offerFrame dest body wait s).toKeepsApart

theorem apart_sendProgress (o : Nat) (ref : Ref) (k : KitchenState) (m : Byte) (s : State) :
    KeepsApart s (sendProgress o ref k m s) := apart_offerFrame _ _ _ s

theorem apart_fireEntry {e : Entry} {s : State} (hroom : cookingCount s < s.join.figures.fire) :
    KeepsApart s (fireEntry e s) := by
  have hstamp : KeepsApart s (updKitchen (fun k => { k with fireSeq := s.kitchen.fireSeq + 1 }) s) := {}
  exact (((hstamp.trans (apart_fires (by exact fun _ => ⟨rfl, rfl⟩) hroom)).trans
    (apart_joinPrintList _ _ _ _)).trans (apart_sendProgress _ _ _ _ _)).trans (apart_notify _ _)

theorem apart_fireUpTo (n : Nat) (fired : List Entry) (s : State) :
    KeepsApart s (fireUpTo n fired s).2 := by
  induction n generalizing fired s with
  | zero => exact .refl s
  | succ n ih =>
    unfold fireUpTo
    split
    · next hroom =>
      split
      · exact (apart_fireEntry hroom).trans (ih _ _)
      · exact .refl s
    · exact .refl s

theorem apart_autoFire (s : State) : KeepsApart s (autoFire s) := apart_fireUpTo _ _ s

/-! ## Changes of the kitchen queue -/

theorem apart_updEntry {o n : Nat} {f : Entry → Entry}
    (hf : ∀ e, e.origin = o → e.number = n → (f e).origin = e.origin ∧ (f e).number = e.number
      ∧ (Entry.cooking (f e) = true → Entry.cooking e = true)) (s : State) :
    KeepsApart s (updEntry o n f s) := (keeps_updEntry hf s).toKeepsApart

theorem core_updEntry (o n : Nat) (f : Entry → Entry) (s : State) : KeepsCore s (updEntry o n f s) where
  queues := by simp [State.QueuesSound, txCount, updEntry]

/-- With unique names the entry found by its name is the only one of it. -/
theorem entryOf_unique {s : State} {o n : Nat} {e x : Entry} (he : entryOf s o n = some e)
    (h : (s.kitchen.entries.map fun e => (e.origin, e.number)).Nodup) (hx : x ∈ s.kitchen.entries)
    (hn : x.origin = o ∧ x.number = n) : x = e := by
  have hname := entryOf_name he
  exact List.inj_on_of_nodup_map h hx (List.mem_of_find?_eq_some he) (by simp [hn, hname])

/-- The entry that is found is changed: it does not start to cook. -/
theorem apart_updFound {o n : Nat} {f : Entry → Entry} {e : Entry} {s : State}
    (he : entryOf s o n = some e)
    (hf : ∀ x, x.origin = o → x.number = n → (f x).origin = o ∧ (f x).number = n)
    (hc : Entry.cooking (f e) = true → Entry.cooking e = true) : KeepsApart s (updEntry o n f s) where
  toKeepsCore := core_updEntry o n f s
  entries := fun h => by
    refine (keeps_entries_map s (fun x _ => ?_) (fun x hx => ?_)).entries h
    · split
      · next hn =>
        obtain ⟨h1, h2⟩ := hf x hn.1 hn.2
        exact ⟨h1.trans hn.1.symm, h2.trans hn.2.symm⟩
      · exact ⟨rfl, rfl⟩
    · split
      · next hn =>
        rw [entryOf_unique he h.2.2 hx hn]
        exact hc
      · exact id

theorem apart_dropEntry (o n : Nat) (s : State) : KeepsApart s (dropEntry o n s) :=
  (keeps_dropEntry o n s).toKeepsApart

theorem apart_cancelBidOf (e : Entry) (s : State) : KeepsApart s (cancelBidOf e s) := by
  unfold cancelBidOf
  split
  · exact (keeps_cancelFrames _ s).toKeepsApart
  · exact .refl s

/-- The stamps, the lapsed items and the pass entries of the kitchen change within their room, their names
unique. -/
theorem apart_kitchenLists {a b c : Nat} {l : List Lapsed} {p : List PassEntry} {s : State}
    (hl : s.kitchen.lapsed.length ≤ 4 → l.length ≤ 4) (hp : s.kitchen.pass.length ≤ 12 → p.length ≤ 12)
    (hln : (s.kitchen.lapsed.map fun l => (l.origin, l.number)).Nodup →
      (l.map fun l => (l.origin, l.number)).Nodup)
    (hpn : (s.kitchen.pass.map fun p => (p.origin, p.number)).Nodup →
      (p.map fun p => (p.origin, p.number)).Nodup) :
    KeepsApart s { s with kitchen := { s.kitchen with
      arrivalSeq := a, bidSeq := b, fireSeq := c, lapsed := l, pass := p } } where
  queues := by
    rintro ⟨h1, h2, h3, h4, h5, h6, h7, h8⟩
    exact ⟨h1, h2, h3, h4, h5, hl h6, hp h7, h8⟩
  names := by
    rintro ⟨h1, h2, h3, h4, h5, h6, h7, h8⟩
    exact ⟨h1, h2, h3, h4, h5, h6, hpn h7, hln h8⟩

theorem apart_arrivalSeq (n : Nat) (s : State) :
    KeepsApart s (updKitchen (fun k => { k with arrivalSeq := n }) s) := {}

theorem apart_dropLapsed (o n : Nat) (s : State) : KeepsApart s (dropLapsed o n s) :=
  apart_kitchenLists (fun h => (List.length_filter_le _ _).trans h) id
    (fun h => h.sublist (List.filter_sublist.map _)) id

theorem apart_dropPass (o n : Nat) (s : State) : KeepsApart s (dropPass o n s) :=
  apart_kitchenLists id (fun h => (List.length_filter_le _ _).trans h) id
    (fun h => h.sublist (List.filter_sublist.map _))

theorem apart_updPass {o n : Nat} {f : PassEntry → PassEntry}
    (hf : ∀ p, (f p).origin = p.origin ∧ (f p).number = p.number) (s : State) :
    KeepsApart s (updPass o n f s) := by
  refine apart_kitchenLists id (by simp) id fun h => ?_
  have := map_named_eq (f := f) (fun p : PassEntry => (p.origin, p.number))
    (fun p => p.origin = o ∧ p.number = n) (fun p _ => by simp [hf p]) s.kitchen.pass
  rwa [this]

/-- What joins a bounded list in the place of an older one of its name keeps the names unique. -/
theorem nodup_joined {α β : Type} [DecidableEq β] {name : α → β} {xs : List α} (x : α) (k : Nat)
    {p : α → Bool} (hp : ∀ y, p y = true → name y ≠ name x) (h : (xs.map name).Nodup) :
    (((xs.filter p).drop k ++ [x]).map name).Nodup := by
  have hrest : (((xs.filter p).drop k).map name).Nodup :=
    h.sublist (((List.drop_sublist k _).trans List.filter_sublist).map name)
  simp only [List.map_append, List.map_cons, List.map_nil, List.nodup_append, hrest, true_and]
  refine ⟨by simp, fun a ha b hb => ?_⟩
  obtain ⟨y, hy, rfl⟩ := List.mem_map.1 ha
  obtain rfl : b = name x := by simpa using hb
  exact hp y (List.mem_filter.1 (List.mem_of_mem_drop hy)).2

theorem apart_addLapsed (l : Lapsed) (s : State) : KeepsApart s (addLapsed l s) := by
  refine apart_kitchenLists (fun _ => ?_) id (fun h => ?_) id
  · simp only [lapsedCapacity, List.length_append, List.length_drop, List.length_singleton]
    omega
  · exact nodup_joined (name := fun l : Lapsed => (l.origin, l.number)) l _ (by simp; tauto) h

theorem apart_addPass (p : PassEntry) (s : State) : KeepsApart s (addPass p s) := by
  have hlist : ∀ u : State, u.kitchen.pass = s.kitchen.pass →
      KeepsApart u (updKitchen (fun k =>
        let rest := s.kitchen.pass.filter fun x => !(x.origin == p.origin && x.number == p.number)
        { k with pass := rest.drop (rest.length + 1 - passCapacity) ++ [p] }) u) := by
    intro u hu
    refine apart_kitchenLists id (fun _ => ?_) id (fun h => ?_)
    · simp only [passCapacity, List.length_append, List.length_drop, List.length_singleton]
      omega
    · rw [hu] at h
      exact nodup_joined (name := fun p : PassEntry => (p.origin, p.number)) p _ (by simp; tauto) h
  unfold addPass
  dsimp only
  split
  · exact hlist s rfl
  · split
    · exact (apart_notify _ s).trans (hlist _ (by simp))
    · exact hlist s rfl

/-! ## Bids -/

/-- A new entry joins a queue with room, at a station that is joined. -/
theorem apart_newEntry {s : State} {e : Entry} (hnew : entryOf s e.origin e.number = none)
    (hroom : s.kitchen.entries.length < 24) (hj : joined s = true) (hc : Entry.cooking e = false) :
    KeepsApart s { s with kitchen := { s.kitchen with entries := s.kitchen.entries ++ [e] } } where
  queues := by
    rintro ⟨h1, h2, h3, h4, h5, h6⟩
    exact ⟨h1, h2, h3, h4, by simpa using hroom, h6⟩
  entries := by
    rintro ⟨h1, h2, h3⟩
    refine ⟨by simpa [cookingCount, hc] using h1, fun (hn : joined s = false) => by simp [hj] at hn, ?_⟩
    have hfresh : ∀ x ∈ s.kitchen.entries, x.origin = e.origin → ¬x.number = e.number := by
      simpa [entryOf] using hnew
    simpa [List.nodup_append, h3] using hfresh

theorem joined_of_onLine {s : State} (h : s.join.state = .onLine) : joined s = true := by
  simp [joined, h]

theorem apart_placeBid {src : Nat} {o : OfferFields} {s : State} (hj : joined s = true)
    (hroom : s.kitchen.entries.length < 24) : KeepsApart s (placeBid src o s) := by
  unfold placeBid
  dsimp only
  generalize hown : (Bid.mk _ _ _ _ _) = own
  set u := updKitchen (fun k => { k with bidSeq := s.kitchen.bidSeq + 1, lapsed := k.lapsed.filter fun l =>
    !(l.origin == src && l.number == o.ref.number) }) s with hu
  have hstart : KeepsApart s u := apart_kitchenLists (fun h => (List.length_filter_le _ _).trans h) id
    (fun h => h.sublist (List.filter_sublist.map _)) id
  refine hstart.trans ?_
  split
  · next hnone => exact apart_newEntry (e := tentative u src o own) hnone hroom hj rfl
  · split
    · exact (apart_cancelBidOf _ u).trans
        (apart_updEntry (by exact fun e h1 h2 => ⟨h1.symm, h2.symm, nofun⟩) _)
    all_goals exact apart_updEntry (by exact fun _ _ _ => ⟨rfl, rfl, id⟩) u

theorem apart_kitchenOffer (src : Nat) (o : OfferFields) (s : State) :
    KeepsApart s (kitchenOffer src o s) := by
  unfold kitchenOffer
  split
  · next h =>
    obtain ⟨hon, -, hfree, -⟩ := h
    simp only [freeSlots, depth, queueCapacity] at hfree
    exact (apart_placeBid (joined_of_onLine hon) (by omega)).trans
      (keeps_disownFrames _ _).toKeepsApart
  · exact .refl s

theorem apart_bidDelayOut (o n : Nat) (b : Bid) (s : State) : KeepsApart s (bidDelayOut o n b s) :=
  (apart_updEntry (by exact fun _ _ _ => ⟨rfl, rfl, id⟩) s).trans (apart_offerFrame _ _ _ _)

/-- A till at rest holds no entry. -/
theorem not_atRest_of_entry {s : State} {o n : Nat} {e : Entry} (he : entryOf s o n = some e)
    (hr : role s = .till) : ¬s.TillPrintsNothing := fun ht => by
  simp [entryOf, (atRest_of_till ht hr).1] at he

theorem completes_execBidDelayExpiry (o n : Nat) (s : State) :
    Completes (execBidDelayExpiry o n s) s := by
  unfold execBidDelayExpiry
  split
  · next b hb =>
    obtain ⟨e, he, -⟩ := Option.bind_eq_some_iff.1 hb
    split
    · exact completes_apart ((apart_advanceUntil _ _ s).trans (apart_bidDelayOut _ _ _ _))
        (not_atRest_of_entry he)
    · exact completes_next (.refl s)
    · exact completes_next (.refl s)
  · exact completes_next (.refl s)

theorem apart_removeBid (e : Entry) (s : State) : KeepsApart s (removeBid e s) := by
  unfold removeBid
  split
  · exact apart_dropEntry _ _ s
  · exact apart_updEntry (by exact fun _ _ _ => ⟨rfl, rfl, id⟩) s

theorem apart_lapse (e : Entry) (b : Bid) (s : State) : KeepsApart s (lapse e b s) :=
  (apart_removeBid e s).trans (apart_addLapsed _ _)

theorem completes_execTentativeExpiry (o n : Nat) (s : State) :
    Completes (execTentativeExpiry o n s) s := by
  unfold execTentativeExpiry
  split
  · next e he =>
    split
    · split
      · exact completes_apart ((apart_advanceUntil _ _ s).trans (apart_lapse _ _ _))
          (not_atRest_of_entry he)
      · exact completes_next (.refl s)
      · exact completes_next (.refl s)
    · exact completes_next (.refl s)
  · exact completes_next (.refl s)

theorem completes_execLapsedItemExpiry (o n : Nat) (s : State) :
    Completes (execLapsedItemExpiry o n s) s := by
  unfold execLapsedItemExpiry
  split
  · next l hl =>
    refine completes_apart ((apart_advanceUntil _ _ s).trans (apart_dropLapsed o n _)) fun hr ht => ?_
    obtain ⟨-, h2, -⟩ := ht hr
    simp [h2] at hl
  · exact completes_next (.refl s)

theorem apart_kitchenBid (o : Nat) (ref : Ref) (s : State) : KeepsApart s (kitchenBid o ref s) := by
  unfold kitchenBid
  split
  · split
    · exact (apart_cancelBidOf _ s).trans (apart_removeBid _ _)
    · exact (apart_cancelBidOf _ s).trans (apart_removeBid _ _)
    · exact .refl s
  · exact .refl s

theorem keeps_removeBids (s : State) : Keeps s (removeBids s) :=
  Keeps.trans (keeps_entries_sublist s List.filter_sublist)
    (keeps_entries_map { s with kitchen := { s.kitchen with
      entries := s.kitchen.entries.filter fun e => e.state != .tentative } }
      (by exact fun _ _ => ⟨rfl, rfl⟩) (by exact fun _ _ => id))

/-! ## Awards -/

theorem apart_refuseAward (src : Nat) (ref : Ref) (s : State) : KeepsApart s (refuseAward src ref s) :=
  (apart_sendProgress _ _ _ _ s).trans (apart_notify _ _)

theorem apart_ticketAccepted (src : Nat) (ref : Ref) (band : Band) (ls : List KitchenLine) (s : State) :
    KeepsApart s (ticketAccepted src ref band ls s) := apart_notify _ s

theorem apart_afterAcceptance (src : Nat) (ref : Ref) (band : Band) (ls : List KitchenLine) (s : State) :
    KeepsApart s (afterAcceptance src ref band ls s) :=
  ((apart_sendProgress _ _ _ _ s).trans (apart_ticketAccepted _ _ _ _ _)).trans (apart_autoFire _)

theorem apart_acceptTentative (src : Nat) (ref : Ref) (m : Byte) (e : Entry) (s : State) :
    KeepsApart s (acceptTentative src ref m e s) := by
  unfold acceptTentative
  dsimp only
  split
  · exact ((((apart_cancelBidOf e s).trans
      (apart_updEntry (by exact fun _ _ _ => ⟨rfl, rfl, nofun⟩) _)).trans (apart_arrivalSeq _ _)).trans
      (apart_dropLapsed _ _ _)).trans (apart_afterAcceptance _ _ _ _ _)
  · exact (apart_dropEntry _ _ s).trans (apart_refuseAward _ _ _)

theorem lapsedAt_name {s : State} {o : Nat} {ref : Ref} {l : Lapsed} (h : lapsedAt s o ref = some l) :
    l.origin = o ∧ l.number = ref.number ∧ l.gen = ref.gen := by
  have := List.find?_some h
  simp only [Bool.and_eq_true, beq_iff_eq] at this
  exact ⟨this.1.1, this.1.2, this.2⟩

theorem apart_acceptLapsed {src : Nat} {ref : Ref} {l : Lapsed} {s : State} (m : Byte)
    (hl : lapsedAt s src ref = some l) (hnew : entryOf s src ref.number = none)
    (hj : joined s = true) : KeepsApart s (acceptLapsed src ref m l s) := by
  obtain ⟨hlo, hln, -⟩ := lapsedAt_name hl
  unfold acceptLapsed
  dsimp only
  split
  · next h =>
    have hfree := h.1
    simp only [freeSlots, depth, queueCapacity] at hfree
    refine KeepsApart.trans ?_ ((apart_dropLapsed _ _ _).trans (apart_afterAcceptance _ _ _ _ _))
    exact (apart_newEntry (by rwa [hlo, hln]) (by omega) hj rfl).trans (apart_arrivalSeq _ _)
  · exact apart_refuseAward _ _ s

theorem apart_replaceEntry {src : Nat} {ref : Ref} {e : Entry} {s : State} (m : Byte) (p : Band)
    (ls : List KitchenLine) (he : entryOf s src ref.number = some e) :
    KeepsApart s (replaceEntry src ref m e p ls s) := by
  obtain ⟨ho, hn⟩ := entryOf_name he
  have hclear : KeepsApart s (dropLapsed src ref.number (cancelBidOf e s)) :=
    (apart_cancelBidOf e s).trans (apart_dropLapsed _ _ _)
  have he' : entryOf (dropLapsed src ref.number (cancelBidOf e s)) src ref.number = some e := by
    unfold cancelBidOf
    split <;> exact he
  unfold replaceEntry
  dsimp only
  split
  · split
    · next hst =>
      exact ((hclear.trans (apart_updFound he' (by exact fun _ _ _ => ⟨ho, hn⟩)
        (fun _ => by simp [Entry.cooking, hst]))).trans (apart_sendProgress _ _ _ _ _)).trans
        (apart_ticketAccepted _ _ _ _ _)
    · next hst =>
      exact ((hclear.trans (apart_updFound he' (by exact fun _ _ _ => ⟨ho, hn⟩)
        (fun _ => by simp [Entry.cooking, hst]))).trans (apart_sendProgress _ _ _ _ _)).trans
        (apart_ticketAccepted _ _ _ _ _)
    all_goals
      exact ((hclear.trans (apart_updFound he' (by exact fun _ _ _ => ⟨ho, hn⟩) (by exact nofun))).trans
        (apart_arrivalSeq _ _)).trans (apart_afterAcceptance _ _ _ _ _)
  · exact (apart_updEntry (by exact fun _ _ _ => ⟨rfl, rfl, id⟩) s).trans (apart_refuseAward _ _ _)

theorem apart_repeatAnswer (src : Nat) (ref : Ref) (e : Entry) (s : State) :
    KeepsApart s (repeatAnswer src ref e s) := by
  unfold repeatAnswer
  split
  · exact apart_sendProgress _ _ _ _ s
  · exact apart_sendProgress _ _ _ _ s
  all_goals exact .refl s

theorem apart_unheldAward {src : Nat} {ref : Ref} {s : State} (m : Byte) (hj : joined s = true) :
    KeepsApart s (unheldAward src ref m s) := by
  unfold unheldAward
  split
  · next e he =>
    split
    · exact apart_acceptTentative _ _ _ _ s
    · split
      · exact .refl s
      · split
        · exact apart_replaceEntry _ _ _ he
        · split
          · exact apart_replaceEntry _ _ _ he
          · exact apart_refuseAward _ _ s
  · next hnone =>
    split
    · next l hl => exact apart_acceptLapsed _ hl hnone hj
    · exact apart_refuseAward _ _ s

theorem apart_awardHere {src : Nat} {ref : Ref} {s : State} (m : Byte) (hj : joined s = true) :
    KeepsApart s (awardHere src ref m s) := by
  unfold awardHere
  split
  · split
    · exact apart_repeatAnswer _ _ _ s
    · split
      · exact apart_sendProgress _ _ _ _ s
      · exact apart_unheldAward _ hj
  · exact apart_sendProgress _ _ _ _ s
  · exact apart_unheldAward _ hj

theorem apart_awardElsewhere (src : Nat) (ref : Ref) (s : State) :
    KeepsApart s (awardElsewhere src ref s) := by
  have hbid : KeepsApart s (match bidAt s src ref with
      | some (e, b) =>
          match b.stage with
          | .delay .. | .queued => removeBid e (cancelBidOf e s)
          | .awaiting _ => removeBid e s
      | none => s) := by
    split
    · split
      · exact (apart_cancelBidOf _ s).trans (apart_removeBid _ _)
      · exact (apart_cancelBidOf _ s).trans (apart_removeBid _ _)
      · exact apart_removeBid _ s
    · exact .refl s
  unfold awardElsewhere
  dsimp only
  split
  · exact hbid.trans (apart_dropLapsed _ _ _)
  · exact hbid

theorem apart_kitchenAward (src : Nat) (ref : Ref) (a : Nat) (m : Byte) (s : State) :
    KeepsApart s (kitchenAward src ref a m s) := by
  unfold kitchenAward
  split
  · split
    · next hon => exact apart_awardHere _ (joined_of_onLine hon)
    · exact .refl s
  · exact apart_awardElsewhere _ _ s

/-! ## Timers of entries, BUMP, the pass -/

theorem completes_execWarnTimerExpiry (o n : Nat) (s : State) :
    Completes (execWarnTimerExpiry o n s) s := by
  unfold execWarnTimerExpiry
  split
  · next e he =>
    split
    · split
      · exact completes_apart (((apart_advanceUntil _ _ s).trans
          (apart_updEntry (by exact fun _ _ _ => ⟨rfl, rfl, id⟩) _)).trans (apart_notify _ _))
          (not_atRest_of_entry he)
      · exact completes_next (.refl s)
    · exact completes_next (.refl s)
  · exact completes_next (.refl s)

theorem apart_lateOut (e : Entry) (s : State) : KeepsApart s (lateOut e s) := by
  have hlate := (apart_updEntry (o := e.origin) (n := e.number) (f := fun e => { e with late := true })
    (by exact fun _ _ _ => ⟨rfl, rfl, id⟩) s).trans
    (apart_sendProgress e.origin (Entry.ref e) .late (liveMask e.lines) _)
  unfold lateOut
  dsimp only
  split
  · exact (hlate.trans (apart_updEntry (by exact fun _ _ _ => ⟨rfl, rfl, id⟩) _)).trans (apart_autoFire _)
  · exact hlate

theorem completes_execLateTimerExpiry (o n : Nat) (s : State) :
    Completes (execLateTimerExpiry o n s) s := by
  unfold execLateTimerExpiry
  split
  · next e he =>
    split
    · split
      · exact completes_apart ((apart_advanceUntil _ _ s).trans (apart_lateOut _ _))
          (not_atRest_of_entry he)
      · exact completes_next (.refl s)
    · exact completes_next (.refl s)
  · exact completes_next (.refl s)

theorem apart_leaveQueue (o n : Nat) (s : State) : KeepsApart s (leaveQueue o n s) :=
  (apart_dropEntry _ _ s).trans (apart_entryLeft _ _ _)

theorem apart_bumpReady (e : Entry) (s : State) : KeepsApart s (bumpReady e s) :=
  (apart_addPass _ s).trans (apart_sendProgress _ _ _ _ _)

theorem completes_execBump (slot o n : Nat) (s : State) : Completes (execBump slot o n s) s := by
  refine completes_request (resultKeeps_kitchenRequest fun e hr => ?_)
  split
  · exact resultKeeps_needFrames _ <| resultKeeps_taken _ (KeepsApart.keeps_of_kitchen
      (((apart_leaveQueue _ _ s).trans (apart_bumpReady _ _)).trans (apart_autoFire _)) hr)
  · exact resultKeeps_needFrames _ <| resultKeeps_taken _ (KeepsApart.keeps_of_kitchen
      ((apart_leaveQueue _ _ s).trans (apart_autoFire _)) hr)
  all_goals exact resultKeeps_error s _

/-- A till at rest holds no pass entry. -/
theorem not_atRest_of_pass {s : State} {o n : Nat} {p : PassEntry} (hp : passOf s o n = some p)
    (hr : role s = .till) : ¬s.TillPrintsNothing := fun ht => by
  obtain ⟨-, -, h3, -⟩ := ht hr
  simp [passOf, h3] at hp

theorem completes_execPassReadyRepeat (o n : Nat) (s : State) :
    Completes (execPassReadyRepeat o n s) s := by
  unfold execPassReadyRepeat
  split
  · next p hp =>
    split
    · exact completes_apart (((apart_advanceUntil _ _ s).trans
        (apart_updPass (by exact fun _ => ⟨rfl, rfl⟩) _)).trans (apart_sendProgress _ _ _ _ _))
        (not_atRest_of_pass hp)
    · exact completes_next (.refl s)
  · exact completes_next (.refl s)

theorem completes_execPassExpiry (o n : Nat) (s : State) : Completes (execPassExpiry o n s) s := by
  unfold execPassExpiry
  split
  · next p hp =>
    exact completes_apart (((apart_advanceUntil _ _ s).trans (apart_dropPass _ _ _)).trans
      (apart_notify _ _)) (not_atRest_of_pass hp)
  · exact completes_next (.refl s)

/-! ## Answers to the till -/

theorem apart_withdrawFromEntry {e : Entry} (ref : Ref) (p : Nat) (s : State) :
    KeepsApart s (withdrawFromEntry e ref p s).1 := by
  have htold : KeepsApart s
      (if ((e.lines[p]?).map KitchenLine.live).getD false then
        notify (.lineWithdrawn e.origin ref p) s else s) := by
    split
    · exact apart_notify _ s
    · exact .refl s
  unfold withdrawFromEntry
  dsimp only
  split
  · exact htold.trans (apart_updEntry (by exact fun _ _ _ => ⟨rfl, rfl, id⟩) _)
  · exact (htold.trans (apart_dropEntry _ _ _)).trans (apart_autoFire _)

theorem apart_withdrawFromBid (e : Entry) (b : Bid) (p : Nat) (s : State) :
    KeepsApart s (withdrawFromBid e b p s).1 := by
  unfold withdrawFromBid
  dsimp only
  split
  · exact apart_updEntry (by exact fun _ _ _ => ⟨rfl, rfl, id⟩) s
  · exact apart_updEntry (by exact fun _ _ _ => ⟨rfl, rfl, id⟩) s

theorem apart_replyWithdraw (src : Nat) (ref : Ref) (p : Nat) (o : WithdrawOutcome) (e : Bool)
    (s : State) : KeepsApart s (replyWithdraw src ref p o e s) := apart_offerFrame _ _ _ s

theorem apart_kitchenWithdraw (src : Nat) (ref : Ref) (p : Nat) (s : State) :
    KeepsApart s (kitchenWithdraw src ref p s) := by
  have hother : ∀ fired : Bool, KeepsApart s (if fired then replyWithdraw src ref p .fired false s
      else replyWithdraw src ref p .unknown false s) := by
    intro fired
    split
    · exact apart_replyWithdraw _ _ _ _ _ s
    · exact apart_replyWithdraw _ _ _ _ _ s
  unfold kitchenWithdraw
  dsimp only
  split
  · split
    · exact (apart_withdrawFromEntry _ _ s).trans (apart_replyWithdraw _ _ _ _ _ _)
    · split
      · split
        · exact (apart_withdrawFromBid _ _ _ s).trans (apart_replyWithdraw _ _ _ _ _ _)
        · exact hother _
      · exact hother _
  · exact hother _

theorem apart_revokeEntry {e : Entry} {o n : Nat} {s : State} (ref : Ref)
    (he : entryOf s o n = some e) : KeepsApart s (revokeEntry e ref s) := by
  obtain ⟨rfl, rfl⟩ := entryOf_name he
  unfold revokeEntry
  split
  · exact ((apart_cancelBidOf e s).trans (apart_dropEntry _ _ _)).trans (apart_notify _ _)
  · dsimp only
    split
    · exact ((apart_updEntry (by exact fun _ _ _ => ⟨rfl, rfl, nofun⟩) s).trans (apart_notify _ _)).trans
        (apart_autoFire _)
    · exact ((apart_dropEntry _ _ s).trans (apart_notify _ _)).trans (apart_autoFire _)
  · next hst =>
    exact (apart_updFound he (by exact fun _ h1 h2 => ⟨h1, h2⟩)
      (fun _ => by simp [Entry.cooking, hst])).trans (apart_notify _ _)
  · exact .refl s

theorem apart_revokeQueue (src : Nat) (ref : Ref) (s : State) :
    KeepsApart s (revokeQueue src ref s) := by
  unfold revokeQueue
  split
  · next e he =>
    split
    · exact apart_revokeEntry ref he
    · split
      · exact (apart_cancelBidOf _ s).trans (apart_removeBid _ _)
      · exact .refl s
  · exact .refl s

theorem apart_kitchenRevoke (src : Nat) (ref : Ref) (s : State) :
    KeepsApart s (kitchenRevoke src ref s) := by
  have hpass : KeepsApart s (if (passAt (revokeQueue src ref s) src ref).isSome then
      dropPass src ref.number (revokeQueue src ref s) else revokeQueue src ref s) := by
    refine (apart_revokeQueue src ref s).trans ?_
    split
    · exact apart_dropPass _ _ _
    · exact .refl _
  have hlapsed : ∀ u : State, KeepsApart u
      (if (lapsedAt u src ref).isSome then dropLapsed src ref.number u else u) := by
    intro u
    split
    · exact apart_dropLapsed _ _ u
    · exact .refl u
  exact hpass.trans (hlapsed _)

theorem apart_collectEntry (e : Entry) (s : State) : KeepsApart s (collectEntry e s) := by
  unfold collectEntry
  split
  · exact (apart_cancelBidOf e s).trans (apart_dropEntry _ _ _)
  · exact apart_leaveQueue _ _ s

theorem apart_kitchenCollect (src : Nat) (ref : Ref) (s : State) :
    KeepsApart s (kitchenCollect src ref s) := by
  have hpass : KeepsApart s (if (passAt s src ref).isSome then dropPass src ref.number s else s) := by
    split
    · exact apart_dropPass _ _ s
    · exact .refl s
  have hdone : ∀ u : State, KeepsApart u (autoFire (notify (.ticketCollected src ref) u)) :=
    fun u => (apart_notify _ u).trans (apart_autoFire _)
  unfold kitchenCollect
  dsimp only
  split
  · split
    · exact (hpass.trans (apart_collectEntry _ _)).trans (hdone _)
    · split
      · exact (apart_dropPass _ _ s).trans (hdone _)
      · exact .refl s
  · split
    · exact (apart_dropPass _ _ s).trans (hdone _)
    · exact .refl s

/-! ## Station events at the kitchen -/

theorem apart_kitchenPresent (st m : Nat) (s : State) : KeepsApart s (kitchenPresent st m s) := by
  refine (keeps_entries_map s (f := fun e => if e.origin = st ∧ e.mark = 0 then { e with mark := m } else e)
    (fun e _ => ?_) (fun e _ => ?_)).toKeepsApart.trans (apart_kitchenLists id (by simp) id fun h => ?_)
  · split <;> exact ⟨rfl, rfl⟩
  · split <;> exact id
  · have := map_named_eq (f := fun p => { p with mark := m }) (fun p : PassEntry => (p.origin, p.number))
      (fun p => p.origin = st ∧ p.mark = 0) (fun _ _ => rfl) s.kitchen.pass
    rwa [this]

/-- The entries that a restart meets still stand as they did, but for those it has met. -/
def StillHeld (es : List Entry) (s : State) : Prop :=
  (∀ e ∈ es, e ∈ s.kitchen.entries) ∧ (es.map fun e => (e.origin, e.number)).Nodup

theorem core_restartEntry (s : State) (e : Entry) : KeepsCore s (restartEntry s e) := by
  unfold restartEntry
  split
  · exact (((apart_cancelBidOf e s).trans (apart_dropEntry _ _ _)).trans (apart_notify _ _)).toKeepsCore
  · exact ((apart_dropEntry _ _ s).trans (apart_notify _ _)).toKeepsCore
  · exact (core_updEntry _ _ _ s).trans (apart_notify _ _).toKeepsCore
  · exact core_updEntry _ _ _ s

theorem entries_restartEntry {s : State} {e : Entry} (he : e ∈ s.kitchen.entries)
    (h : s.WithinFireCapacity) : (restartEntry s e).WithinFireCapacity := by
  have hfound : entryOf s e.origin e.number = some e := by
    obtain ⟨x, hx⟩ : ∃ x, entryOf s e.origin e.number = some x := by
      rw [← Option.isSome_iff_exists, entryOf, List.find?_isSome]
      exact ⟨e, he, by simp⟩
    rw [hx, entryOf_unique hx h.2.2 he ⟨rfl, rfl⟩]
  unfold restartEntry
  split
  · exact (((apart_cancelBidOf e s).trans (apart_dropEntry _ _ _)).trans (apart_notify _ _)).entries h
  · exact ((apart_dropEntry _ _ s).trans (apart_notify _ _)).entries h
  · next hst =>
    exact ((apart_updFound hfound (by exact fun _ h1 h2 => ⟨h1, h2⟩)
      (fun _ => by simp [Entry.cooking, hst])).trans (apart_notify _ _)).entries h
  · exact (apart_updEntry (by exact fun _ _ _ => ⟨rfl, rfl, id⟩) s).entries h

/-- A restart met by one entry changes no entry of another name. -/
theorem mem_restartEntry {s : State} {e x : Entry} (hx : x ∈ s.kitchen.entries)
    (hne : (x.origin, x.number) ≠ (e.origin, e.number)) :
    x ∈ (restartEntry s e).kitchen.entries := by
  have hname : ¬(x.origin = e.origin ∧ x.number = e.number) := fun h => hne (by simp [h])
  have hmap : ∀ f : Entry → Entry, x ∈ (updEntry e.origin e.number f s).kitchen.entries := fun f =>
    List.mem_map.2 ⟨x, hx, if_neg hname⟩
  have hdrop : ∀ u : State, u.kitchen.entries = s.kitchen.entries →
      x ∈ (dropEntry e.origin e.number u).kitchen.entries := fun u hu => by
    simp only [dropEntry, hu, List.mem_filter, hx, true_and, Bool.not_eq_true', Bool.and_eq_false_imp,
      beq_iff_eq, beq_eq_false_iff_ne]
    exact fun h1 h2 => hname ⟨h1, h2⟩
  unfold restartEntry
  split
  · rw [notify_kitchen]
    exact hdrop _ (by unfold cancelBidOf; split <;> rfl)
  · rw [notify_kitchen]
    exact hdrop s rfl
  · rw [notify_kitchen]
    exact hmap _
  · exact hmap _

theorem entries_restartEntries {es : List Entry} {s : State} (hes : StillHeld es s)
    (h : s.WithinFireCapacity) : (es.foldl restartEntry s).WithinFireCapacity := by
  induction es generalizing s with
  | nil => exact h
  | cons e es ih =>
    obtain ⟨hmem, hnodup⟩ := hes
    obtain ⟨hne, hrest⟩ := List.nodup_cons.1 hnodup
    refine ih ⟨fun x hx => ?_, hrest⟩ (entries_restartEntry (hmem e (by simp)) h)
    exact mem_restartEntry (hmem x (by simp [hx])) fun heq => hne (List.mem_map.2 ⟨x, hx, heq⟩)

theorem core_foldl {α : Type} {f : State → α → State} (h : ∀ s a, KeepsCore s (f s a)) (xs : List α)
    (s : State) : KeepsCore s (xs.foldl f s) := by
  induction xs generalizing s with
  | nil => exact {}
  | cons x xs ih => exact (h s x).trans (ih (f s x))

theorem apart_kitchenRestarted (st m : Nat) (s : State) : KeepsApart s (kitchenRestarted st m s) := by
  have hmet : KeepsApart s ((s.kitchen.entries.filter fun e => e.origin == st && (e.mark == 0 || e.mark != m)).foldl
      restartEntry s) := {
    toKeepsCore := core_foldl core_restartEntry _ s
    entries := fun h => entries_restartEntries
      ⟨fun e he => (List.mem_filter.1 he).1, h.2.2.sublist (List.filter_sublist.map _)⟩ h }
  refine (hmet.trans (apart_kitchenLists (fun h => (List.length_filter_le _ _).trans h) (by simp)
    (fun h => h.sublist (List.filter_sublist.map _)) fun h => ?_)).trans (apart_autoFire _)
  have := map_named_eq (f := fun p => { p with stopped := true }) (fun p : PassEntry => (p.origin, p.number))
    (fun p => p.origin = st) (fun _ _ => rfl)
  rwa [this]

theorem apart_kitchenEvent (st : Nat) (e : StationEvent) (s : State) :
    KeepsApart s (kitchenEvent st e s) := by
  unfold kitchenEvent
  split
  · exact apart_kitchenPresent _ _ s
  · exact apart_kitchenRestarted _ _ s
  · exact .refl s

end Sys2Proof.Machine
end

section
-- One proof at a time: side by side, their threads' stacks outgrow the check's memory.
set_option Elab.async false
/-! What every command and every step keeps: the line, the station table, the link, and the invariants. -/

namespace Sys2Proof.Machine

/-! ## The station table -/

theorem station_congr {s t : State} (h : t.straps = s.straps) : station t = station s := by
  simp [station, h]

/-- The table writes an entry that is not the station's own, or one that is held already. -/
theorem keeps_setHeard {n : Nat} {s : State} (e : Heard) (h : n = station s → heard s n ≠ none) :
    Keeps s (setHeard n e s) := by
  have hown : s.OwnEntryAbsent → heard (setHeard n e s) (station s) = none := by
    intro ho
    by_cases hn : n = station s
    · exact absurd (hn ▸ ho) (h hn)
    · rw [heard_setHeard_ne e fun h => hn h.symm]
      exact ho
  unfold setHeard at hown ⊢
  split
  · next hs =>
    rw [if_pos hs] at hown
    exact { own := hown }
  · exact .refl s

theorem keeps_raiseEvent (st : Nat) (e : StationEvent) (s : State) : Keeps s (raiseEvent st e s) := by
  unfold raiseEvent
  split
  · exact (keeps_ticketEvents st e s).trans (keeps_settlementEvent st e _)
  · next hr => exact (apart_kitchenEvent st e s).keeps_of_kitchen hr

theorem completes_execSilenceTimerExpiry (st : Nat) (s : State) :
    Completes (execSilenceTimerExpiry st s) s := by
  unfold execSilenceTimerExpiry
  split
  · next h hh =>
    split
    · exact completes_next (.refl s)
    · have hheld : heard (advanceUntil h.lastHeard silenceLimit s) st = heard s st := by
        simp [heard]
      exact completes_next ((((keeps_advanceUntil _ _ s).trans
        (keeps_setHeard _ fun _ => by simp [hheld, hh])).trans (keeps_raiseEvent _ _ _)).trans
        (keeps_notify _ _))
  · exact completes_next (.refl s)

theorem keeps_noteRestart (src : Nat) (p : PresenceFields) (old : Option Heard) (s : State) :
    Keeps s (noteRestart src p old s) := by
  unfold noteRestart
  split
  · split
    · exact (keeps_raiseEvent _ _ s).trans (keeps_notify _ _)
    · exact .refl s
  · exact .refl s

theorem keeps_notePresent {src : Nat} {s : State} (p : PresenceFields) (old : Option Heard)
    (h : src ≠ station s) : Keeps s (notePresent src p old s) := by
  have hset := keeps_setHeard (heardFrom s p false) fun he => absurd he h
  unfold notePresent
  dsimp only
  split
  · exact (hset.trans (keeps_raiseEvent _ _ _)).trans (keeps_notify _ _)
  · exact hset

theorem keeps_takePresence {src : Nat} {s : State} (p : PresenceFields) (h : src ≠ station s) :
    Keeps s (takePresence src p s) := by
  have hrestart := keeps_noteRestart src p (heard s src) s
  have hpresent := hrestart.trans (keeps_notePresent p (heard s src)
    (by rwa [station_congr hrestart.straps]))
  unfold takePresence
  dsimp only
  split
  · exact hpresent.trans (keeps_adoptLastCall _ _)
  · exact hpresent

theorem keeps_refresh (src : Nat) (s : State) : Keeps s (refresh src s) := by
  unfold refresh
  split
  · next h hh => exact keeps_setHeard _ fun _ => by simp [hh]
  · exact .refl s

/-! ## The join machine -/

theorem completes_execConfigure (fields : ConfigureFields) (s : State) :
    Completes (execConfigure fields s) s := by
  refine completes_request (resultKeeps_need _ fun hc => ?_)
  have hfigures : ∀ f : Figures, Keeps s (recomputeTabs f { s with join := { s.join with figures := f } }) := by
    refine fun f => {
      kitchen := fun h hr => ?_
      entries := fun ⟨_, h2, h3⟩ => ⟨?_, h2, h3⟩
      tabs := fun h slot e he => ?_ }
    · obtain ⟨h1, h2⟩ := h hr
      refine ⟨fun e he => ?_, h2⟩
      simp only [recomputeTabs, Vector.toList_map, List.mem_map] at he
      obtain ⟨d, hd, rfl⟩ := he
      simp [h1 d hd]
    · simp only [recomputeTabs, Vector.getElem?_map, Option.map_eq_some_iff] at he
      obtain ⟨d, hd, rfl⟩ := he
      obtain ⟨h1, h2⟩ := h slot d hd
      refine ⟨h1, fun t ht => ?_⟩
      obtain ⟨u, hu, rfl⟩ := Option.map_eq_some_iff.1 ht
      exact keepsTab_compute f u _ _ _ (h2 u hu)
    · have hnone : s.kitchen.entries = [] := h2 (by simp [joined, hc])
      show ((s.kitchen.entries.filter Entry.cooking).length) ≤ _
      simp [hnone]
  exact resultKeeps_taken _ (hfigures _)

theorem keeps_startEffect {s : State} (hc : s.join.state = .config) : Keeps s (startEffect s) := by
  have hstart : Keeps s { s with
      join := { s.join with state := .joining, windowFrom := some (now s) }
      line := { s.line with rx := Receiver.fresh .hunt, inbound := [] } } := {
    strapFault := fun h => by simp [hc] at h
    duplicate := fun h => by simp [hc] at h
    queues := fun ⟨_, h⟩ => ⟨by simp, h⟩
    line := fun ⟨h1, h2, _, _, h5, h6⟩ => by
      refine ⟨fun _ => h1 (by simp [hc]), h2, by simp [joined, Receiver.fresh], countSound_fresh _, ?_, ?_⟩
      · simpa [hc] using h5
      · simpa [hc] using h6
    entries := fun ⟨h1, _, h3⟩ => ⟨h1, fun h => by simp [joined] at h, h3⟩ }
  unfold startEffect
  dsimp only
  split
  · next hk => exact hstart.trans ((apart_updPort _ _).keeps_of_kitchen hk.1)
  · exact hstart

theorem completes_execStart (s : State) : Completes (execStart s) s :=
  completes_request (resultKeeps_need _ fun hc => resultKeeps_taken _ (keeps_startEffect hc))

theorem keeps_composePresence (s : State) : Keeps s (composePresence s) := by
  unfold composePresence
  dsimp only
  split
  · refine keeps_queue s ?_ rfl
    have hcls : ∀ b x, (TxItem.resample b x).cls = x.cls := by
      intro b x
      unfold TxItem.resample
      split <;> rfl
    simp [Function.comp_def, hcls]
  · exact keeps_offerFrame _ _ _ s

theorem keeps_joinWindowOut {s : State} (hj : s.join.state = .joining) : Keeps s (joinWindowOut s) := by
  refine Keeps.trans (t := { s with join := { s.join with
      state := .onLine, startMark := captureMark s, windowFrom := none,
      presenceFrom := some (now s) } }) {
    strapFault := fun h => by simp [hj] at h
    duplicate := fun h => by simp [hj] at h
    line := fun ⟨_, h2, h3, h4, h5, h6⟩ => by
      refine ⟨fun h => absurd rfl h, h2, ?_, h4, ?_, ?_⟩
      · simpa [joined, hj] using h3
      · simpa [hj] using h5
      · simpa [hj] using h6
    entries := fun ⟨h1, _, h3⟩ => ⟨h1, fun h => by simp [joined] at h, h3⟩ } (keeps_composePresence _)

theorem completes_execJoinWindowEnd (s : State) : Completes (execJoinWindowEnd s) s := by
  unfold execJoinWindowEnd
  split
  · next hj _ =>
    exact completes_next ((keeps_advanceUntil _ _ s).trans (keeps_joinWindowOut (by simpa using hj)))
  · exact completes_next (.refl s)

theorem completes_execPresenceTimerExpiry (s : State) : Completes (execPresenceTimerExpiry s) s := by
  unfold execPresenceTimerExpiry
  split
  · next start _ _ =>
    have hfrom : ∀ u : State, Keeps u { u with join := { u.join with
        presenceFrom := some (start + BitVec.ofNat 32 presenceInterval) } } := fun u => {}
    exact completes_next (((keeps_advanceUntil _ _ s).trans (hfrom _)).trans (keeps_composePresence _))
  · exact completes_next (.refl s)

/-! ## DUPLICATE and delivery -/

/-- The queue as DUPLICATE leaves it, before its owners hear of it (R22, R30). -/
theorem keeps_leaveLine {s : State} (h : s.join.state = .joining ∨ s.join.state = .onLine) :
    let j := { s with join := { s.join with
      state := .duplicate, windowFrom := none, presenceFrom := none } }
    let u := if s.line.sending.isSome then stopDriving j else j
    Keeps s { u with line := { u.line with waiting := [] } } := by
  dsimp only
  have hfault : s.join.state ≠ .strapFault := by rcases h with h | h <;> simp [h]
  have hjoined : joined s = true := by rcases h with h | h <;> simp [joined, h]
  have hdup : s.join.state ≠ .duplicate := by rcases h with h | h <;> simp [h]
  split
  · next hs =>
    exact {
      strapFault := fun h => absurd h hfault
      duplicate := fun h => absurd h hdup
      queues := fun ⟨h1, _, h⟩ => by
        obtain ⟨h3, h4, h5, h6, h7, h8, -⟩ := h
        exact ⟨h1, by simp [txCount, stopDriving], h3, h4, h5, h6, h7, h8, by simp⟩
      line := fun ⟨_, _, _, _, h5, h6⟩ => by
        refine ⟨fun _ => by simp [stopDriving], ?_, by simp [stopDriving, joined, Receiver.fresh],
          countSound_fresh _, by simp [stopDriving], ?_⟩
        · simp only [driving, stopDriving]
          split <;> simp
        · simpa [stopDriving, hfault] using h6
      entries := fun ⟨h1, _, h3⟩ => ⟨h1, fun h => by simp [joined] at h, h3⟩ }
  · next hs =>
    have hnone : s.line.sending = none := by simpa using hs
    exact {
      strapFault := fun h => absurd h hfault
      duplicate := fun h => absurd h hdup
      queues := fun ⟨h1, _, h⟩ => by
        obtain ⟨h3, h4, h5, h6, h7, h8, -⟩ := h
        exact ⟨h1, by simp [txCount, hnone], h3, h4, h5, h6, h7, h8, by simp⟩
      line := fun ⟨_, h2, h3, h4, h5, h6⟩ => by
        refine ⟨fun _ => ⟨rfl, hnone⟩, h2, ?_, h4, ?_, ?_⟩
        · rw [hjoined] at h3
          simpa [joined] using h3
        · simpa [hfault] using h5
        · simpa [hfault] using h6
      entries := fun ⟨h1, _, h3⟩ => ⟨h1, fun h => by simp [joined] at h, h3⟩ }

theorem keeps_enterDuplicate (s : State) : Keeps s (enterDuplicate s) := by
  unfold enterDuplicate
  split
  · next h =>
    exact (((keeps_leaveLine h).trans (keeps_foldl (fun s x => keeps_frameEnded x s) _ _)).trans
      (keeps_removeBids _)).trans (keeps_notify _ _)
  · exact .refl s

theorem keeps_deliver {f : Frame} {table owner : State → State} {s : State}
    (ht : ∀ u, f.src ≠ station u → Keeps u (table u)) (ho : ∀ u, Keeps u (owner u)) :
    Keeps s (deliver f table owner s) := by
  have hto : ∀ u, Keeps u (deliverTo f.src table owner u) := by
    intro u
    unfold deliverTo
    split
    · exact keeps_enterDuplicate u
    · next h => exact (ht u h).trans (ho _)
  unfold deliver
  split
  · split
    · split
      · exact .refl s
      · exact hto s
    · next g rest hin =>
      split
      · refine Keeps.trans (t := { s with line := { s.line with inbound := rest } }) {
          queues := fun ⟨h1, h⟩ => ⟨?_, h⟩ } (hto _)
        rw [hin] at h1
        exact (Nat.le_succ _).trans h1
      · exact .refl s
  · exact .refl s

theorem keeps_atTill {f : State → State} (h : ∀ u, Keeps u (f u)) (s : State) : Keeps s (atTill f s) := by
  unfold atTill
  split
  · exact h s
  · exact .refl s

theorem keeps_atKitchen {f : State → State} (h : ∀ u, KeepsApart u (f u)) (s : State) :
    Keeps s (atKitchen f s) := by
  unfold atKitchen
  split
  · next hr => exact (h s).keeps_of_kitchen hr
  · exact .refl s

theorem keeps_deliverFrame {f : Frame} {owner : State → State} (h : ∀ u, Keeps u (owner u)) (s : State) :
    Keeps s (deliverFrame f owner s) := keeps_deliver (fun u _ => keeps_refresh f.src u) h

theorem completes_execPresence (dest src : Nat) (p : PresenceFields) (s : State) :
    Completes (execPresence dest src p s) s :=
  completes_next (keeps_deliver (fun _ h => keeps_takePresence p h) .refl)

theorem completes_atTill {f : Frame} {owner : State → State} (h : ∀ u, Keeps u (owner u)) (s : State) :
    Completes (.next (deliverFrame f (atTill owner) s)) s :=
  completes_next (keeps_deliverFrame (keeps_atTill h) s)

theorem completes_atKitchen {f : Frame} {owner : State → State} (h : ∀ u, KeepsApart u (owner u))
    (s : State) : Completes (.next (deliverFrame f (atKitchen owner) s)) s :=
  completes_next (keeps_deliverFrame (keeps_atKitchen h) s)

theorem completes_execOffer (dest src : Nat) (o : OfferFields) (s : State) :
    Completes (execOffer dest src o s) s := completes_atKitchen (apart_kitchenOffer src o) s

theorem completes_execBid (dest src origin : Nat) (ref : Ref) (depth : Nat) (s : State) :
    Completes (execBid dest src origin ref depth s) s :=
  completes_next (keeps_atTill (keeps_deliverFrame (keeps_ticketBid src origin ref depth)) s)

theorem keeps_kitchenBid (origin : Nat) (ref : Ref) (s : State) : Keeps s (kitchenBid origin ref s) := by
  cases he : entryOf s origin ref.number with
  | none =>
    rw [show kitchenBid origin ref s = s by simp [kitchenBid, bidAt, he]]
    exact .refl s
  | some e => exact (apart_kitchenBid origin ref s).keeps (not_atRest_of_entry he)

theorem completes_execBidHeardAtKitchen (dest src origin : Nat) (ref : Ref) (depth : Nat) (s : State) :
    Completes (execBidHeardAtKitchen dest src origin ref depth s) s :=
  completes_next (keeps_atKitchen
    (fun u => (keeps_deliverFrame (keeps_kitchenBid origin ref) u).toKeepsApart) s)

theorem completes_execAward (dest src : Nat) (ref : Ref) (a : Nat) (m : Byte) (s : State) :
    Completes (execAward dest src ref a m s) s := completes_atKitchen (apart_kitchenAward src ref a m) s

theorem completes_execProgress (dest src : Nat) (ref : Ref) (k : KitchenState) (m : Byte) (s : State) :
    Completes (execProgress dest src ref k m s) s := completes_atTill (keeps_ticketProgress src ref k m) s

theorem completes_execWithdraw (dest src : Nat) (ref : Ref) (p : Nat) (s : State) :
    Completes (execWithdraw dest src ref p s) s := completes_atKitchen (apart_kitchenWithdraw src ref p) s

theorem completes_execWithdrawReply (dest src : Nat) (ref : Ref) (p : Nat) (o : WithdrawOutcome)
    (e : Bool) (s : State) : Completes (execWithdrawReply dest src ref p o e s) s :=
  completes_atTill (keeps_ticketWithdrawReply src ref p o e) s

theorem completes_execRevoke (dest src : Nat) (ref : Ref) (s : State) :
    Completes (execRevoke dest src ref s) s := completes_atKitchen (apart_kitchenRevoke src ref) s

theorem completes_execCollectFrame (dest src : Nat) (ref : Ref) (s : State) :
    Completes (execCollectFrame dest src ref s) s := completes_atKitchen (apart_kitchenCollect src ref) s

theorem completes_execLastCallFrame (dest src : Nat) (s : State) :
    Completes (execLastCallFrame dest src s) s :=
  completes_next (keeps_deliverFrame (keeps_adoptLastCall src) s)

theorem completes_execShareAsk (dest src code share : Nat) (s : State) :
    Completes (execShareAsk dest src code share s) s := completes_atTill (keeps_settleAsk src code share) s

theorem completes_execShareGrant (dest src code share : Nat) (a : Amounts) (s : State) :
    Completes (execShareGrant dest src code share a s) s :=
  completes_atTill (keeps_settleGrant src code share a) s

theorem completes_execShareDeny (dest src code share : Nat) (r : DenyReason) (s : State) :
    Completes (execShareDeny dest src code share r s) s :=
  completes_atTill (keeps_settleDeny src code share r) s

theorem completes_execShareSettle (dest src code share : Nat) (tender : Tender) (settled : Nat)
    (adj : Int) (s : State) : Completes (execShareSettle dest src code share tender settled adj s) s :=
  completes_atTill (keeps_settleSettle src code share tender settled adj) s

theorem completes_execShareReturn (dest src code share : Nat) (s : State) :
    Completes (execShareReturn dest src code share s) s :=
  completes_atTill (keeps_settleReturn src code share) s

theorem completes_execShareClose (dest src code share : Nat) (o : CloseOutcome) (s : State) :
    Completes (execShareClose dest src code share o s) s :=
  completes_atTill (keeps_settleClose src code share o) s

/-! ## The receiver -/

/-- The receiver changes, but is not switched on or off. -/
theorem keeps_updRx {f : Receiver → Receiver} {s : State}
    (hoff : (f s.line.rx).state = .off ↔ s.line.rx.state = .off)
    (hcount : Receiver.CountSound s.line.rx → Receiver.CountSound (f s.line.rx)) : Keeps s (updRx f s) where
  line := fun ⟨h1, h2, h3, h4, h5⟩ => ⟨h1, h2, hoff.trans h3, hcount h4, h5⟩

theorem address_on (accepts : Nat → Bool) (r : Receiver) :
    (Receiver.address accepts r).state ≠ .off ∧ Receiver.CountSound (Receiver.address accepts r) := by
  unfold Receiver.address
  split
  · split <;> simp [Receiver.fresh, Receiver.toHunt]
  · simp [Receiver.fresh, Receiver.toHunt]

theorem keeps_judgeAddress {s : State} (h : s.line.rx.state = .address) :
    Keeps s (updRx (Receiver.address (acceptsDest s)) s) := by
  obtain ⟨hoff, hcount⟩ := address_on (acceptsDest s) s.line.rx
  exact keeps_updRx (by simp [hoff, h]) fun _ => hcount

theorem keeps_settleAddress (s : State) : Keeps s (settleAddress s) := by
  unfold settleAddress
  split
  · next h => exact keeps_judgeAddress h.1
  · exact .refl s

theorem enqueue_frame (f : Option Frame) (l : LineCtl) :
    LineCtl.enqueue f l = { l with inbound := (LineCtl.enqueue f l).inbound } := by
  unfold LineCtl.enqueue
  split
  · split <;> rfl
  · rfl

theorem enqueue_inbound_le (f : Option Frame) {l : LineCtl} (h : l.inbound.length ≤ 8) :
    (LineCtl.enqueue f l).inbound.length ≤ 8 := by
  unfold LineCtl.enqueue inboundCapacity
  split
  · split
    · simpa using ‹_›
    · exact h
  · exact h

theorem keeps_endReception {s : State} (h : s.line.rx.state = .take) : Keeps s (endReception s) := by
  unfold endReception
  dsimp only
  generalize (if Receiver.overrun s.line.rx then none else Receiver.frame s.line.rx) = f
  have hin := enqueue_inbound_le f (l := s.line)
  rw [enqueue_frame f s.line]
  exact {
    queues := fun ⟨h1, hq⟩ => ⟨hin h1, hq⟩
    line := fun ⟨h1, h2, h3, _, h5⟩ =>
      ⟨h1, h2, ⟨nofun, fun hj => nomatch h ▸ h3.2 hj⟩, countSound_fresh _, h5⟩ }

theorem keeps_settleReception (s : State) : Keeps s (settleReception s) := by
  unfold settleReception
  split
  · exact .refl s
  · split
    · next h => exact (keeps_settleAddress s).trans (keeps_endReception h)
    · exact keeps_settleAddress s

theorem advance_rx_take {s : State} (n : Nat) (h : s.line.rx.state = .take) :
    (advance n s).line.rx.state = .take := by
  simp only [advance]
  unfold LineCtl.pass
  split
  · exact h
  · exact h
  · exact h
  · dsimp only
    split
    · exact h
    · simp [Receiver.goIdle, h]

theorem completes_execReceptionEnd (s : State) : Completes (execReceptionEnd s) s := by
  unfold execReceptionEnd
  split
  · next h =>
    exact completes_next (((keeps_settleAddress s).trans (keeps_advance _ _)).trans
      (keeps_endReception (advance_rx_take _ h.1)))
  · exact completes_next (.refl s)

theorem completes_execSyncPatternMatch (s : State) : Completes (execSyncPatternMatch s) s := by
  unfold execSyncPatternMatch
  split
  · next h =>
    exact completes_next (keeps_updRx (by simp [Receiver.toAddress, Receiver.fresh, h.1])
      fun _ => by simp [Receiver.toAddress, Receiver.fresh])
  · exact completes_next (.refl s)

theorem completes_execDestinationCharacter (s : State) : Completes (execDestinationCharacter s) s := by
  unfold execDestinationCharacter
  split
  · next h => exact completes_next (keeps_judgeAddress h.1)
  · exact completes_next (.refl s)

theorem completes_execFrameAbandoned (s : State) : Completes (execFrameAbandoned s) s := by
  unfold execFrameAbandoned
  split
  · next h =>
    exact completes_next (keeps_updRx (by simp [Receiver.toHunt, Receiver.fresh, h.1])
      fun _ => by simp [Receiver.toHunt, Receiver.fresh])
  · exact completes_next (.refl s)

/-- A receiver that runs goes on running, its violations counted as R10 has it. -/
def Receiver.Running (r : Receiver) : Prop := r.state ≠ .off ∧ Receiver.CountSound r

theorem running_toHunt (r : Receiver) : Receiver.Running (Receiver.toHunt r) := by
  simp [Receiver.Running, Receiver.toHunt, Receiver.fresh]

theorem running_settle (accepts : Nat → Bool) {r : Receiver} (h : Receiver.Running r) :
    Receiver.Running (Receiver.settle accepts r) := by
  unfold Receiver.settle
  split
  · split
    · simp [Receiver.Running, Receiver.toAddress, Receiver.fresh]
    · exact h
  · split
    · exact address_on accepts r
    · exact h
  · split
    · exact running_toHunt r
    · exact h
  · exact h

theorem running_push (accepts : Nat → Bool) {r : Receiver} (c : Cell × Nat) (h : Receiver.Running r) :
    Receiver.Running (Receiver.push accepts r c) := by
  have hs := running_settle accepts h
  unfold Receiver.push
  dsimp only
  generalize Receiver.settle accepts r = q at hs ⊢
  obtain ⟨hoff, hcount⟩ := hs
  split
  · exact ⟨hoff, hcount⟩
  · next hst => exact ⟨by simp [hst], fun hv => absurd (hcount hv).1 (by simp [hst])⟩
  · next hst =>
    split
    · exact running_toHunt q
    · exact ⟨by simp [hst], fun hv => absurd (hcount hv).1 (by simp [hst])⟩
  · next hst =>
    refine ⟨by simp [hst], fun hv => ⟨hst, ?_⟩⟩
    by_cases hc : c.1 = .violation
    · simp [hc]
    · simp [hc] at hv

theorem running_foldl_push (accepts : Nat → Bool) (cs : List (Cell × Nat)) {r : Receiver}
    (h : Receiver.Running r) : Receiver.Running (cs.foldl (Receiver.push accepts) r) := by
  induction cs generalizing r with
  | nil => exact h
  | cons c cs ih => exact ih (running_push accepts c h)

theorem interval_off {accepts : Nat → Bool} {h : Nat} {r : Receiver} (hr : r.state = .off) :
    Receiver.interval accepts h r = r := by
  simp [Receiver.interval, hr]

theorem running_interval (accepts : Nat → Bool) (n : Nat) {r : Receiver} (h : Receiver.Running r) :
    Receiver.Running (Receiver.interval accepts n r) := by
  have hfold := running_foldl_push accepts (decodeInterval r.openHalf n).1 h
  unfold Receiver.interval
  dsimp only
  split
  · exact h
  all_goals exact hfold

theorem keeps_transition {s : State} (hstate : s.line.state ≠ none) (hd : driving s = false) :
    Keeps s (transition s) where
  line := fun ⟨h1, h2, h3, h4, h5, h6⟩ => by
    have hoff : (Receiver.interval (acceptsDest s) s.line.since s.line.rx).state = .off
          ↔ s.line.rx.state = .off := by
      by_cases hr : s.line.rx.state = .off
      · simp [interval_off hr]
      · simp [hr, (running_interval (acceptsDest s) s.line.since ⟨hr, h4⟩).1]
    have hcount : Receiver.CountSound (Receiver.interval (acceptsDest s) s.line.since s.line.rx) := by
      by_cases hr : s.line.rx.state = .off
      · rwa [interval_off hr]
      · exact (running_interval (acceptsDest s) s.line.since ⟨hr, h4⟩).2
    refine ⟨h1, ?_, hoff.trans h3, hcount, ?_, h6⟩
    · rw [hd] at h2
      simpa [driving, transition] using h2
    · simpa [transition, hstate] using h5

/-- Time makes no line state and takes none away, and stops no transmission. -/
theorem pass_state (l : LineCtl) (n : Nat) : ((LineCtl.pass l n).state = none ↔ l.state = none)
    ∧ ((LineCtl.pass l n).state = some .sending ↔ l.state = some .sending)
    ∧ ((LineCtl.pass l n).state = some .jamming ↔ l.state = some .jamming) := by
  unfold LineCtl.pass
  split
  · simp
  · simp
  · simp
  · next hsending hjamming hst =>
    simp only [hst]
    split <;> simp_all

/-- While time passes the line keeps its state none or its station driving. -/
theorem advance_line_state (n : Nat) (s : State) :
    ((advance n s).line.state = none ↔ s.line.state = none) ∧ driving (advance n s) = driving s := by
  obtain ⟨h1, h2, h3⟩ := pass_state s.line n
  refine ⟨h1, ?_⟩
  rw [Bool.eq_iff_iff]
  simp only [driving, advance, Bool.or_eq_true, beq_iff_eq, h2, h3]

theorem settleAddress_line (s : State) :
    (settleAddress s).line = { s.line with rx := (settleAddress s).line.rx } := by
  unfold settleAddress
  split <;> rfl

theorem endReception_line (s : State) : (endReception s).line = { s.line with
    rx := (endReception s).line.rx, inbound := (endReception s).line.inbound } := by
  unfold endReception
  dsimp only
  rw [enqueue_frame]

theorem settleReception_line (s : State) : (settleReception s).line = { s.line with
    rx := (settleReception s).line.rx, inbound := (settleReception s).line.inbound } := by
  unfold settleReception
  split
  · rfl
  · split
    · rw [endReception_line, settleAddress_line]
    · rw [settleAddress_line]

theorem completes_execLineTransition (halves : Nat) (s : State) :
    Completes (execLineTransition halves s) s := by
  unfold execLineTransition
  split
  · exact completes_next (.refl s)
  · next hstate =>
    split
    · refine completes_next {}
    · next hd =>
      obtain ⟨hn, hdr⟩ := advance_line_state (halves - s.line.since) s
      refine completes_next (((keeps_advance _ s).trans (keeps_settleReception _)).trans
        (keeps_transition ?_ ?_))
      · rw [settleReception_line]
        exact fun h => hstate (hn.1 h)
      · rw [driving, settleReception_line]
        exact hdr.trans (Bool.eq_false_iff.2 hd)

/-! ## Transmission -/

theorem keeps_startSending {head : TxItem} {rest : List TxItem} {s : State}
    (hw : s.line.waiting = head :: rest) (hs : s.line.sending = none) (ho : s.join.state = .onLine) :
    Keeps s (startSending head rest s) where
  queues := by
    rintro ⟨h1, h2, h3, h4, h5, h6, h7, h8, h9⟩
    rw [hw] at h9
    refine ⟨h1, ?_, h3, h4, h5, h6, h7, h8, (List.pairwise_cons.1 h9).2⟩
    simpa [txCount, hw, hs, startSending] using h2
  line := fun ⟨_, _, h3, _, h5, h6⟩ => by
    refine ⟨fun h => absurd ho h, by simp [driving, startSending],
      by simp [startSending, Receiver.fresh, ho, joined], countSound_fresh _,
      by simp [startSending, ho], h6⟩

theorem completes_execTransmissionStart (s : State) : Completes (execTransmissionStart s) s := by
  unfold execTransmissionStart
  split
  · next head rest hw hs =>
    split
    · next ho =>
      obtain ⟨hpw, hps, -⟩ := pass_frame s.line (TxItem.deferral head - s.line.since)
      have hkept := (keeps_advance (TxItem.deferral head - s.line.since) s).trans (keeps_settleReception _)
      refine completes_next (hkept.trans (keeps_startSending ?_ ?_ ?_))
      · rw [settleReception_line]
        exact hpw.trans hw
      · rw [settleReception_line]
        exact hps.trans hs
      · have hj : ∀ u : State, (settleReception u).join = u.join := by
          intro u
          unfold settleReception settleAddress endReception updRx
          split
          · rfl
          · split <;> split <;> rfl
        rw [hj]
        exact ho
    · exact completes_next (.refl s)
  · exact completes_next (.refl s)

/-- A station that drives the pair with a frame stops (R18, R19). -/
theorem keeps_stopDriving {s : State} (hs : s.line.sending.isSome = true) : Keeps s (stopDriving s) where
  queues := by
    rintro ⟨h1, h2, h⟩
    refine ⟨h1, ?_, h⟩
    simp only [txCount, stopDriving] at h2 ⊢
    simp
    omega
  line := fun ⟨h1, _, h3, _, h5, h6⟩ => by
    have ho : s.join.state = .onLine := by
      by_contra hn
      simp [(h1 hn).2] at hs
    refine ⟨fun hn => absurd ho hn, ?_, by simp [stopDriving, Receiver.fresh, joined, ho], countSound_fresh _,
      by simp [stopDriving, ho], h6⟩
    simp only [driving, stopDriving]
    split <;> simp

theorem advance_sending (n : Nat) (s : State) : (advance n s).line.sending = s.line.sending :=
  (pass_frame s.line n).2.1

theorem completes_execTransmissionComplete (s : State) : Completes (execTransmissionComplete s) s := by
  unfold execTransmissionComplete
  split
  · next x _ hs =>
    exact completes_next (((keeps_advance _ s).trans
      (keeps_stopDriving (by rw [advance_sending, hs]; rfl))).trans (keeps_frameEnded x _))
  · exact completes_next (.refl s)

theorem completes_execCollision (c : Cell) (s : State) : Completes (execCollision c s) s := by
  unfold execCollision
  split
  · next hst hs =>
    split
    · split
      · exact completes_next (.refl s)
      · exact completes_next { line := fun ⟨h1, h2, h3, h4, h5, h6⟩ =>
          ⟨h1, by simp [driving, hs], h3, h4, by simpa [hst] using h5, h6⟩ }
    · exact completes_next (.refl s)
  · exact completes_next (.refl s)

/-- The jam has ended, and the collided frame waits again (R20). -/
theorem keeps_returned {x : TxItem} {s : State} (hs : s.line.sending.isSome = true) :
    Keeps s { stopDriving s with line := { (stopDriving s).line with
      waiting := returnToQueue x s.line.waiting } } where
  queues := by
    rintro ⟨h1, h2, h3, h4, h5, h6, h7, h8, h9⟩
    refine ⟨h1, ?_, h3, h4, h5, h6, h7, h8, returnToQueue_sorted h9⟩
    obtain ⟨y, hy⟩ := Option.isSome_iff_exists.1 hs
    simp only [txCount, hy, Option.toList_some, List.length_singleton] at h2
    simpa [txCount, returnToQueue_length, stopDriving] using h2
  line := fun h => by
    have ho : s.join.state = .onLine := by
      by_contra hn
      simp [(h.1 hn).2] at hs
    obtain ⟨-, h2⟩ := (keeps_stopDriving hs).line h
    exact ⟨fun hn => absurd ho hn, h2⟩

theorem completes_execJamEnd (s : State) : Completes (execJamEnd s) s := by
  unfold execJamEnd
  split
  · next x _ hs =>
    refine completes_next ((keeps_advance (jamHalves - s.line.txPos) s).trans ?_)
    have hsome : (advance (jamHalves - s.line.txPos) s).line.sending.isSome = true := by
      rw [advance_sending, hs]
      rfl
    unfold jamEnds
    dsimp only
    split
    · exact (keeps_stopDriving hsome).trans (keeps_frameEnded x _)
    · unfold returnCollided
      split
      · exact keeps_stopDriving hsome
      · exact keeps_returned hsome
  · exact completes_next (.refl s)

/-! ## Queries and the terminal link -/

theorem completes_execTransactionBegin (s : State) : Completes (execTransactionBegin s) s := by
  unfold execTransactionBegin
  split
  · exact completes_next {}
  · exact completes_next (.refl s)

theorem completes_execSelRise (s : State) : Completes (execSelRise s) s := completes_next {}

theorem completes_execIgnoredTransaction (kind : Byte) (body : List Byte) (s : State) :
    Completes (execIgnoredTransaction kind body s) s := by
  unfold execIgnoredTransaction
  split
  · exact completes_next {}
  · exact completes_next (.refl s)

theorem completes_execFetch (s : State) : Completes (execFetch s) s := completes_next {}

theorem keeps_replyEnds (s : State) : Keeps s (replyEnds s) := by
  unfold replyEnds fetchDone
  dsimp only
  split
  · split
    · exact {}
    · exact { queues := fun ⟨h1, h2, h3, h⟩ => ⟨h1, h2, by simp; omega, h⟩ }
    · exact {}
  · exact {}

theorem completes_execFetchReplyEnd (s : State) : Completes (execFetchReplyEnd s) s := by
  unfold execFetchReplyEnd
  split
  · exact completes_next ((keeps_updLink _ s).trans (keeps_replyEnds _))
  · exact completes_next (.refl s)

theorem completes_query {i : Instr} {r : RequestResult} {s : State} (h : ResultKeeps s r) :
    Completes (.next (answer i r s)) s := completes_next (keeps_answer h)

theorem completes_execQueryState (s : State) : Completes (execQueryState s) s := by
  refine completes_query (resultKeeps_taken _ ?_)
  split
  · exact {}
  · exact .refl s

theorem completes_execQueryStation (n : Nat) (s : State) : Completes (execQueryStation n s) s :=
  completes_query (resultKeeps_need _ fun _ => resultKeeps_taken _ (.refl s))

theorem completes_execQueryTab (code first : Nat) (s : State) :
    Completes (execQueryTab code first s) s :=
  completes_query (resultKeeps_withTab fun _ _ => resultKeeps_taken _ (.refl s))

theorem completes_execQueryShare (code share : Nat) (s : State) :
    Completes (execQueryShare code share s) s := by
  refine completes_query (resultKeeps_withTab fun _ _ => ?_)
  split
  · exact resultKeeps_taken _ (.refl s)
  · exact resultKeeps_error s _

theorem completes_execQueryTicket (n : Nat) (s : State) : Completes (execQueryTicket n s) s := by
  refine completes_query ?_
  unfold queryTicketResult
  split
  · exact resultKeeps_taken _ (.refl s)
  · exact resultKeeps_error s _

theorem completes_execQueryQueue (part first : Nat) (s : State) :
    Completes (execQueryQueue part first s) s := by
  refine completes_query ?_
  unfold queryQueueResult
  split
  case h_4 =>
    refine resultKeeps_taken _ ?_
    split
    · exact .refl s
    · exact {}
  case h_5 => exact resultKeeps_error s _
  all_goals exact resultKeeps_taken _ (.refl s)

theorem completes_execQueryBorrowed (n : Nat) (s : State) : Completes (execQueryBorrowed n s) s := by
  refine completes_query (resultKeeps_need _ fun _ => ?_)
  split
  · refine resultKeeps_taken _ ?_
    split
    · exact .refl s
    · exact {}
  · exact resultKeeps_taken _ (.refl s)

theorem completes_execQueryTotals (slot : Nat) (s : State) : Completes (execQueryTotals slot s) s :=
  completes_query (resultKeeps_need _ fun _ => resultKeeps_taken _ (.refl s))

theorem completes_takeRequest (i : Instr) (s : State) : Completes (takeRequest i s) s := by
  unfold takeRequest
  split
  · exact completes_execConfigure _ s
  · exact completes_execStart s
  · exact completes_execSignOn _ _ s
  · exact completes_execSignOff _ s
  · exact completes_execOpenTab _ s
  · exact completes_execAddLine _ _ _ s
  · exact completes_execVoidLine _ _ _ s
  · exact completes_execWasteLine _ _ _ s
  · exact completes_execCloseTab _ _ s
  · exact completes_execLastCall _ s
  · exact completes_execSplit _ _ _ s
  · exact completes_execAssign _ _ _ _ _ _ s
  · exact completes_execDiscount _ _ _ _ s
  · exact completes_execSend _ _ _ s
  · exact completes_execRetryTicket _ _ s
  · exact completes_execCollect _ _ s
  · exact completes_execTake _ _ _ s
  · exact completes_execPay _ _ _ _ _ s
  · exact completes_execGiveBack _ _ _ s
  · exact completes_execTakeRemote _ _ _ s
  · exact completes_execForceRelease _ _ _ s
  · exact completes_execClearOrphan _ _ _ s
  · exact completes_execBump _ _ _ s
  · exact completes_execReprint _ _ _ s
  · exact completes_execClearPrinter _ s
  · exact completes_execFetch s
  · exact completes_execQueryState s
  · exact completes_execQueryStation _ s
  · exact completes_execQueryTab _ _ s
  · exact completes_execQueryShare _ _ s
  · exact completes_execQueryTicket _ s
  · exact completes_execQueryQueue _ _ s
  · exact completes_execQueryBorrowed _ s
  · exact completes_execQueryTotals _ s
  · exact completes_next (.refl s)

theorem Completes.after {o : Host.Outcome State Fault Refusal} {s t : State} (h : Completes o t)
    (k : Keeps s t) : Completes o s := by
  obtain ⟨u, hu, ht⟩ := h
  exact ⟨u, hu, k.trans ht⟩

theorem completes_byteComplete (sdi : Byte) (s : State) : Completes (byteComplete sdi s) s := by
  unfold byteComplete
  split
  case h_7 =>
    split
    · exact completes_takeRequest _ s
    · exact completes_next {}
  case h_8 =>
    split
    · exact completes_next (keeps_updLink _ s)
    · exact completes_next (keeps_replyEnds s)
  case h_4 => exact completes_next (keeps_updLink _ s)
  case h_5 => exact completes_next (keeps_updLink _ s)
  case h_6 => exact completes_next (keeps_updLink _ s)
  all_goals exact completes_next (.refl s)

theorem completes_clockEdge (e : ClockEdge) (s : State) : Completes (clockEdge e s) s := by
  rcases clockEdge_cases e s with ⟨sdi, -, -, -, h⟩ | ⟨-, -, -, h⟩ | h
  · rw [h]
    unfold clockRise
    dsimp only
    split
    · exact completes_next (keeps_updLink _ s)
    · exact (completes_byteComplete _ _).after (keeps_updLink _ s)
  · rw [h]
    exact completes_next (keeps_updLink _ s)
  · rw [h]
    exact completes_next (.refl s)

theorem completes_execLinkByteComplete (edges : List ClockEdge) (s : State) :
    Completes (execLinkByteComplete edges s) s := by
  induction edges generalizing s with
  | nil => exact completes_next (.refl s)
  | cons e es ih =>
    obtain ⟨t, ht, hk⟩ := completes_clockEdge e s
    rw [execLinkByteComplete_cons e es s t ht]
    exact (ih t).after hk

/-! ## Every command -/

/-- Every command but RESET completes, and keeps the straps, the waiting commands and every invariant. -/
theorem completes_exec (c : Instr) (s : State) (hc : ∀ p : Straps, c ≠ .reset p) :
    Completes (exec c s) s := by
  cases c with
  | reset p => exact absurd rfl (hc p)
  | transactionBegin => exact completes_execTransactionBegin s
  | selRise => exact completes_execSelRise s
  | ignoredTransaction kind body => exact completes_execIgnoredTransaction kind body s
  | configure fields => exact completes_execConfigure fields s
  | start => exact completes_execStart s
  | signOn operator level => exact completes_execSignOn operator level s
  | signOff slot => exact completes_execSignOff slot s
  | openTab slot => exact completes_execOpenTab slot s
  | addLine slot code line => exact completes_execAddLine slot code line s
  | voidLine slot code line => exact completes_execVoidLine slot code line s
  | wasteLine slot code line => exact completes_execWasteLine slot code line s
  | closeTab slot code => exact completes_execCloseTab slot code s
  | lastCall slot => exact completes_execLastCall slot s
  | split slot code count => exact completes_execSplit slot code count s
  | assign slot code line kind share weights => exact completes_execAssign slot code line kind share weights s
  | discount slot code share percent => exact completes_execDiscount slot code share percent s
  | send slot code priority => exact completes_execSend slot code priority s
  | retryTicket slot number => exact completes_execRetryTicket slot number s
  | collect slot number => exact completes_execCollect slot number s
  | take slot code share => exact completes_execTake slot code share s
  | pay slot code share tender tendered => exact completes_execPay slot code share tender tendered s
  | giveBack slot code share => exact completes_execGiveBack slot code share s
  | takeRemote slot code share => exact completes_execTakeRemote slot code share s
  | forceRelease slot code share => exact completes_execForceRelease slot code share s
  | clearOrphan slot code share => exact completes_execClearOrphan slot code share s
  | bump slot origin number => exact completes_execBump slot origin number s
  | reprint slot origin number => exact completes_execReprint slot origin number s
  | clearPrinter slot => exact completes_execClearPrinter slot s
  | fetch => exact completes_execFetch s
  | fetchReplyEnd => exact completes_execFetchReplyEnd s
  | queryState => exact completes_execQueryState s
  | queryStation station => exact completes_execQueryStation station s
  | queryTab code first => exact completes_execQueryTab code first s
  | queryShare code share => exact completes_execQueryShare code share s
  | queryTicket number => exact completes_execQueryTicket number s
  | queryQueue part first => exact completes_execQueryQueue part first s
  | queryBorrowed position => exact completes_execQueryBorrowed position s
  | queryTotals slot => exact completes_execQueryTotals slot s
  | receptionEnd => exact completes_execReceptionEnd s
  | transmissionStart => exact completes_execTransmissionStart s
  | transmissionComplete => exact completes_execTransmissionComplete s
  | collision heard => exact completes_execCollision heard s
  | jamEnd => exact completes_execJamEnd s
  | joinWindowEnd => exact completes_execJoinWindowEnd s
  | presenceTimerExpiry => exact completes_execPresenceTimerExpiry s
  | silenceTimerExpiry station => exact completes_execSilenceTimerExpiry station s
  | presence dest src p => exact completes_execPresence dest src p s
  | offer dest src o => exact completes_execOffer dest src o s
  | bid dest src origin ref depth => exact completes_execBid dest src origin ref depth s
  | bidHeardAtKitchen dest src origin ref depth => exact completes_execBidHeardAtKitchen dest src origin ref depth s
  | award dest src ref awardee mask => exact completes_execAward dest src ref awardee mask s
  | progress dest src ref kstate mask => exact completes_execProgress dest src ref kstate mask s
  | withdraw dest src ref position => exact completes_execWithdraw dest src ref position s
  | withdrawReply dest src ref position outcome nowEmpty =>
    exact completes_execWithdrawReply dest src ref position outcome nowEmpty s
  | revoke dest src ref => exact completes_execRevoke dest src ref s
  | collectFrame dest src ref => exact completes_execCollectFrame dest src ref s
  | lastCallFrame dest src => exact completes_execLastCallFrame dest src s
  | shareAsk dest src code share => exact completes_execShareAsk dest src code share s
  | shareGrant dest src code share amounts => exact completes_execShareGrant dest src code share amounts s
  | shareDeny dest src code share reason => exact completes_execShareDeny dest src code share reason s
  | shareSettle dest src code share tender settled adjustment =>
    exact completes_execShareSettle dest src code share tender settled adjustment s
  | shareReturn dest src code share => exact completes_execShareReturn dest src code share s
  | shareClose dest src code share outcome => exact completes_execShareClose dest src code share outcome s
  | offerWindowExpiry number => exact completes_execOfferWindowExpiry number s
  | awardWaitExpiry number => exact completes_execAwardWaitExpiry number s
  | withdrawReplyWaitExpiry number position => exact completes_execWithdrawReplyWaitExpiry number position s
  | bidDelayExpiry origin number => exact completes_execBidDelayExpiry origin number s
  | tentativeExpiry origin number => exact completes_execTentativeExpiry origin number s
  | lapsedItemExpiry origin number => exact completes_execLapsedItemExpiry origin number s
  | warnTimerExpiry origin number => exact completes_execWarnTimerExpiry origin number s
  | lateTimerExpiry origin number => exact completes_execLateTimerExpiry origin number s
  | passReadyRepeat origin number => exact completes_execPassReadyRepeat origin number s
  | passExpiry origin number => exact completes_execPassExpiry origin number s
  | askWaitExpiry code share => exact completes_execAskWaitExpiry code share s
  | holdLimitExpiry code share => exact completes_execHoldLimitExpiry code share s
  | repeatWaitExpiry code share => exact completes_execRepeatWaitExpiry code share s
  | printerLineAccepted => exact completes_execPrinterLineAccepted s
  | cutAccepted => exact completes_execCutAccepted s
  | handshakeLimitExpiry => exact completes_execHandshakeLimitExpiry s
  | faultAsserted => exact completes_execFaultAsserted s
  | faultReleased => exact completes_execFaultReleased s
  | deglitchTimerExpiry => exact completes_execDeglitchTimerExpiry s
  | retryCheck => exact completes_execRetryCheck s
  | recoveryEnd => exact completes_execRecoveryEnd s
  | lineTransition halves => exact completes_execLineTransition halves s
  | syncPatternMatch => exact completes_execSyncPatternMatch s
  | destinationCharacter => exact completes_execDestinationCharacter s
  | frameAbandoned => exact completes_execFrameAbandoned s
  | linkByteComplete edges => exact completes_execLinkByteComplete edges s
  | strobeReleased => exact completes_execStrobeReleased s
  | busyAsserted => exact completes_execBusyAsserted s
  | busyReleased => exact completes_execBusyReleased s

/-- Settles O3: RESET completes by definition, every other command by what it keeps. -/
theorem everyCommandCompletes : Obligations.EveryCommandCompletes := by
  intro c s
  by_cases hc : ∀ p : Straps, c ≠ .reset p
  · obtain ⟨t, ht, -⟩ := completes_exec c s hc
    exact ⟨t, ht⟩
  · simp only [ne_eq, not_forall, not_not] at hc
    obtain ⟨p, rfl⟩ := hc
    exact ⟨_, exec_reset p s⟩

/-- Settles O4: the straps, the waiting commands and the two states that only RESET leaves are part of what
every other command keeps. -/
theorem onlyResetReadsTheStraps : Obligations.OnlyResetReadsTheStraps := by
  intro c s t hc ht
  obtain ⟨u, hu, hk⟩ := completes_exec c s hc
  obtain rfl : u = t := by simpa [hu] using ht
  exact ⟨hk.straps, hk.pending, hk.strapFault, hk.duplicate⟩

/-! ## After a reset -/

theorem heard_resetTo (p : Straps) (s : State) (n : Nat) : heard (resetTo p s) n = none := by
  unfold heard
  split
  · cases h : (resetTo p s).stations[n - 1]? with
    | none => rfl
    | some e =>
      obtain ⟨hlt, he⟩ := Vector.getElem?_eq_some_iff.1 h
      simp [resetTo, State.afterReset] at he
      simp [← he]
  · rfl

theorem tabs_resetTo {p : Straps} {s : State} {i : Nat} {e : TabSlot}
    (h : (resetTo p s).tabs[i]? = some e) : e = ⟨0, none⟩ := by
  obtain ⟨hlt, he⟩ := Vector.getElem?_eq_some_iff.1 h
  simp [resetTo, State.afterReset] at he
  exact he.symm

/-- Every invariant that a step must keep. -/
structure State.AllInvariants (s : State) : Prop where
  queues : s.QueuesSound
  till : s.TillPrintsNothing
  kitchen : s.KitchenKeepsNoTabs
  line : s.LineFollowsJoin
  clock : s.ClockSound
  own : s.OwnEntryAbsent
  entries : s.WithinFireCapacity
  names : s.NamesUnique
  tabs : s.TabsSound

/-- The state after a reset meets every invariant, whatever the straps and the state before it. -/
theorem resetTo_invariants (p : Straps) (s : State) : (resetTo p s).AllInvariants where
  queues := by simp [State.QueuesSound, resetTo, State.afterReset, txCount]
  till := fun _ => by simp [resetTo, State.afterReset]
  kitchen := fun _ => by
    refine ⟨fun e he => ?_, rfl, rfl⟩
    obtain ⟨i, hi⟩ := List.mem_iff_getElem?.1 he
    simp [tabs_resetTo (p := p) (s := s) (i := i) (e := e) (by simpa using hi)]
  line := by
    refine ⟨fun _ => ⟨rfl, rfl⟩, ?_, ?_, countSound_fresh _, ?_, ?_⟩ <;>
      cases h : Straps.invalid p <;>
      simp [resetTo, State.afterReset, driving, joined, h, Receiver.fresh]
  clock := halvesPerMs_pos p
  own := heard_resetTo p s _
  entries := by simp [State.WithinFireCapacity, resetTo, State.afterReset, cookingCount]
  names := by simp [State.NamesUnique, resetTo, State.afterReset]
  tabs := fun i e he => by
    rw [tabs_resetTo he]
    exact ⟨by decide, nofun⟩

/-- A step keeps, but for the command that it takes off the queue, or it is a RESET. -/
theorem step_cases {s t : State} (h : step s = .next t) :
    (∃ rest : List Instr, Keeps { s with pending := rest } t) ∨ t.AllInvariants := by
  unfold step at h
  split at h
  · obtain rfl := Host.Outcome.next.inj h
    exact .inl ⟨s.pending, keeps_advance 1 s⟩
  · next c rest _ =>
    by_cases hc : ∀ p : Straps, c ≠ .reset p
    · obtain ⟨u, hu, hk⟩ := completes_exec c { s with pending := rest } hc
      obtain rfl : u = t := by simpa [hu] using h
      exact .inl ⟨rest, hk⟩
    · simp only [ne_eq, not_forall, not_not] at hc
      obtain ⟨p, rfl⟩ := hc
      rw [exec_reset, Host.Outcome.next.injEq] at h
      exact .inr (h ▸ resetTo_invariants p _)

/-! ## The invariants -/

/-- Settles O8: it is one of the invariants that every command keeps and a reset reaches. -/
theorem stepKeepsQueuesSound : Obligations.StepKeepsQueuesSound := by
  intro s t hs ht
  rcases step_cases ht with ⟨_, hk⟩ | ha
  · exact hk.queues hs
  · exact ha.queues

/-- Settles O9: the role's invariants and those of the join state are each kept on their own. -/
theorem stepKeepsRoleAndJoin : Obligations.StepKeepsRoleAndJoin := by
  refine ⟨fun s t ⟨htill, hkitchen⟩ ht => ?_, fun s t ⟨hline, hclock, hown⟩ ht => ?_⟩
  · rcases step_cases ht with ⟨_, hk⟩ | ha
    · exact ⟨hk.till htill, hk.kitchen hkitchen⟩
    · exact ⟨ha.till, ha.kitchen⟩
  · rcases step_cases ht with ⟨_, hk⟩ | ha
    · exact ⟨hk.line hline, hk.clock hclock, hk.own hown⟩
    · exact ⟨ha.line, ha.clock, ha.own⟩

/-- Settles O10: the fire capacity and the names are each kept on their own. -/
theorem stepKeepsEntriesAndNames : Obligations.StepKeepsEntriesAndNames := by
  refine ⟨fun s t hs ht => ?_, fun s t hs ht => ?_⟩
  · rcases step_cases ht with ⟨_, hk⟩ | ha
    · exact hk.entries hs
    · exact ha.entries
  · rcases step_cases ht with ⟨_, hk⟩ | ha
    · exact hk.names hs
    · exact ha.names

/-- Settles O11: every change of a tab that a command makes keeps it sound where it stands. -/
theorem stepKeepsTabsSound : Obligations.StepKeepsTabsSound := by
  intro s t hs ht
  rcases step_cases ht with ⟨_, hk⟩ | ha
  · exact hk.tabs hs
  · exact ha.tabs

/-- Settles O7: the state after power-on is one that a RESET reaches. -/
theorem resetMeetsTheInvariants : Obligations.ResetMeetsTheInvariants := by
  intro p
  have h : (State.afterReset p).AllInvariants :=
    (show resetTo p (State.afterReset p) = State.afterReset p by rfl) ▸ resetTo_invariants p _
  exact ⟨h.queues, h.till, h.kitchen, h.line, h.clock, h.own, h.entries, h.names, h.tabs⟩

/-- Settles O6: field by field, RESET writes the values after reset and keeps the queue, the free counter
and the input pins. -/
theorem resetReturnsEveryBlock : Obligations.ResetReturnsEveryBlock := by
  intro p s
  refine ⟨resetTo p s, exec_reset p s, rfl, rfl, rfl, rfl, rfl, rfl, rfl, rfl, rfl, heard_resetTo p s,
    fun i hi => ?_, rfl, rfl, rfl, rfl, rfl, rfl, rfl, rfl, rfl, rfl, rfl, rfl, rfl, rfl, rfl,
    fun hr => ?_, rfl, fun i => ?_, rfl, rfl, rfl, rfl, rfl, rfl, rfl, rfl⟩
  · simp [resetTo, State.afterReset, hi]
  · have hrole : p.role.val ≠ 0 := by
      intro h0
      simp [role, resetTo, State.afterReset, h0] at hr
    simp only [resetTo, State.afterReset, hrole, if_false]
    unfold Straps.halvesPerMs
    split <;> rfl
  · unfold slotOf
    cases h : (resetTo p s).slots[i]? with
    | none => rfl
    | some r =>
      obtain ⟨hlt, hr⟩ := Vector.getElem?_eq_some_iff.1 h
      simp [resetTo, State.afterReset] at hr
      simp [← hr]

/-- Settles O1: a step with a command in front runs it, by definition. -/
theorem stepRunsFrontCommand : Obligations.StepRunsFrontCommand := by
  intro c rest s h
  simp [step, h]

end Sys2Proof.Machine
end

section
-- One proof at a time: side by side, their threads' stacks outgrow the check's memory.
set_option Elab.async false
/-! Time, and the transmission of frames. -/

namespace Sys2Proof.Machine

/-! ## Time -/

/-- Up to its limit a timer runs as many milliseconds as it still has. -/
theorem elapsed_advance {s : State} (start : Time) {d : Nat} (hs : s.ClockSound) (hd : 0 < d) :
    elapsed (advance (d * Straps.halvesPerMs s.straps - s.clock.msPhase) s) start
      = (elapsed s start + d) % 2 ^ 32 := by
  have hp := halvesPerMs_pos s.straps
  have hsum : s.clock.msPhase + (d * Straps.halvesPerMs s.straps - s.clock.msPhase)
      = d * Straps.halvesPerMs s.straps := by
    have hle : Straps.halvesPerMs s.straps ≤ d * Straps.halvesPerMs s.straps :=
      Nat.le_mul_of_pos_left _ hd
    have hph : s.clock.msPhase < Straps.halvesPerMs s.straps := hs
    omega
  simp only [elapsed, Time.since, now, advance, hsum, Nat.mul_div_cancel _ hp]
  bv_omega

theorem elapsed_advanceUntil {s : State} {start : Time} {limit : Nat} (hs : s.ClockSound)
    (hl : limit < 2 ^ 32) (h : elapsed s start < limit) :
    elapsed (advanceUntil start limit s) start = limit := by
  rw [advanceUntil, if_pos h, elapsed_advance start hs (by omega)]
  omega

/-- Settles O2. -/
theorem idleStepLetsTimePass : Obligations.IdleStepLetsTimePass := by
  refine ⟨fun s hp => ⟨advance 1 s, ?_, rfl, rfl, ?_, ?_, ?_, ?_, ?_, ?_, ?_⟩,
    fun s start limit hs hl => ⟨elapsed_advanceUntil hs hl, fun h => advanceUntil_of_due h⟩⟩
  · simp [step, hp]
  · simp only [advance]
    split <;> rfl
  · intro h
    simp [advance, Nat.div_eq_of_lt h, Nat.mod_eq_of_lt h]
  · intro h
    have hpos := halvesPerMs_pos s.straps
    simp [advance, h, Nat.div_self hpos]
  · intro h
    simp [advance, LineCtl.pass, h]
  · rintro (h | h) <;> simp [advance, LineCtl.pass, h, sinceCeiling]
  · intro h
    simp [advance, LineCtl.pass, h]
  · intro h
    have hmin : min (s.line.since + 1) 131071 < 4 ↔ s.line.since + 1 < 4 := by omega
    simp only [advance, LineCtl.pass, h, sinceCeiling, idleHalves, hmin, true_and]
    split <;> rfl

/-! ## The transmit queue -/

/-- A first character judged as the line becomes idle leaves no characters for the reception's end. -/
theorem frame_of_fresh_take {r : Receiver} (h : r.cells = []) : Receiver.frame r = none := by
  have hone : ∀ c : Cell, readChars 1 [c] = none := by
    intro c
    cases c <;> rfl
  simp [Receiver.frame, Receiver.closed, h, hone]

theorem address_cells (accepts : Nat → Bool) (r : Receiver) :
    (Receiver.address accepts r).cells = [] := by
  unfold Receiver.address
  split
  · split <;> rfl
  · rfl

/-- Outside TAKE the end of a reception brings no frame. -/
theorem settleReception_inbound {s : State} (h : s.line.rx.state ≠ .take) :
    settleReception s
      = { s with line := { s.line with rx := (settleReception s).line.rx } } := by
  have hset : settleAddress s = { s with line := { s.line with rx := (settleAddress s).line.rx } } := by
    unfold settleAddress
    split <;> rfl
  unfold settleReception
  split
  · rfl
  · split
    case isFalse => exact hset
    case isTrue ht =>
      have hcells : (settleAddress s).line.rx.cells = [] := by
        unfold settleAddress at ht ⊢
        split at ht
        · next hc =>
          rw [if_pos hc]
          exact address_cells _ _
        · exact absurd ht h
      unfold endReception
      dsimp only
      rw [frame_of_fresh_take hcells, ite_self]
      conv_lhs => rw [hset]
      rfl

theorem advance_rx_ne_take {s : State} (n : Nat) (h : s.line.rx.state ≠ .take) :
    (advance n s).line.rx.state ≠ .take := by
  have hidle : (Receiver.goIdle s.line.rx).state ≠ .take := by
    unfold Receiver.goIdle
    split
    · exact h
    · exact h
    · simp [Receiver.fresh]
    · split
      · simp [Receiver.fresh]
      · exact h
  show (LineCtl.pass s.line n).rx.state ≠ .take
  unfold LineCtl.pass
  split
  · exact h
  · exact h
  · exact h
  · dsimp only
    split
    · exact h
    · exact hidle

/-- Settles O15. -/
theorem framesWaitTheirTurn : Obligations.FramesWaitTheirTurn := by
  refine ⟨fun s dest body wait => ⟨fun ho hf => ?_, fun h => ?_⟩, ?_⟩
  · rw [offerFrame_of_free ho hf]
    exact ⟨rfl, joinQueue_split⟩
  · rw [offerFrame_of_dropped h, frameEnded_frame]
  · intro s head rest ho hw hs hrx
    have hrx' := advance_rx_ne_take (TxItem.deferral head - s.line.since) hrx
    have hline : ∀ n, (LineCtl.pass s.line n).inbound = s.line.inbound := fun n =>
      (pass_frame s.line n).2.2
    refine ⟨_, by simp only [exec, execTransmissionStart, hw, hs, ho, if_true]; rfl, ?_⟩
    rw [settleReception_inbound hrx']
    refine ⟨?_, rfl, rfl, ?_⟩
    · simp [startSending, advance, hline]
    · simp [startSending, advance, ho, TxItem.deferral]

/-! ## The end of a frame -/

theorem ticketOf_frameEnded_other {x : TxItem} {n : Nat} (h : ofTicket n x = false) (s : State) :
    ticketOf (frameEnded x s) n = ticketOf s n := by
  unfold frameEnded
  split
  · rfl
  · split
    case h_1 hb =>
      refine ticketOf_updTicket_ne (fun t => by split <;> rfl) fun he => ?_
      simp [ofTicket, hb, he] at h
    case h_2 hb =>
      refine ticketOf_updTicket_ne (fun t => by split <;> rfl) fun he => ?_
      simp [ofTicket, hb, he] at h
    case h_3 hb =>
      refine ticketOf_updTicket_ne (fun t => by split <;> rfl) fun he => ?_
      simp [ofTicket, hb, he] at h
    all_goals rfl

theorem entryOf_frameEnded_other {x : TxItem} {o n : Nat} (h : bidOf o n x = false) (s : State) :
    entryOf (frameEnded x s) o n = entryOf s o n := by
  unfold frameEnded
  split
  · rfl
  · split
    case h_4 hb =>
      refine entryOf_updEntry_ne (by exact fun _ ho hn => ⟨ho, hn⟩) ?_
      simp only [bidOf, hb, Bool.and_eq_false_imp, beq_iff_eq, beq_eq_false_iff_ne] at h
      omega
    all_goals rfl

theorem borrowedOf_frameEnded_other {x : TxItem} {c i : Nat} (h : ofBorrowed c i x = false)
    (s : State) : borrowedOf (frameEnded x s) c i = borrowedOf s c i := by
  have hne : ∀ {c' i' : Nat}, ¬(c' = c ∧ i' = i) → c ≠ c' ∨ i ≠ i' := by omega
  unfold frameEnded
  split
  · rfl
  · next hw =>
    have hw : x.wait = true := by simpa using hw
    split
    case h_5 hb =>
      refine borrowedOf_updBorrowed_ne (fun b => by split <;> exact ⟨rfl, rfl⟩) (hne ?_)
      simpa [ofBorrowed, hb, hw] using h
    case h_6 hb =>
      refine borrowedOf_updBorrowed_ne (fun b => by split <;> exact ⟨rfl, rfl⟩) (hne ?_)
      simpa [ofBorrowed, hb, hw] using h
    case h_7 hb =>
      refine borrowedOf_updBorrowed_ne (fun b => by split <;> exact ⟨rfl, rfl⟩) (hne ?_)
      simpa [ofBorrowed, hb, hw] using h
    all_goals rfl

/-- The end of a frame starts the wait of the record it names, and touches nothing else (R65, R86, R148,
R151). -/
theorem ownerHears_frameEnded (x : TxItem) (s : State) : OwnerHears x s (frameEnded x s) := by
  refine ⟨fun hw => ?_, fun n h => ticketOf_frameEnded_other h s,
    fun o n h => entryOf_frameEnded_other h s, fun c i h => borrowedOf_frameEnded_other h s,
    fun hw => ⟨?_, ?_, ?_, ?_, ?_, ?_, ?_⟩⟩
  · simp [frameEnded_of_no_wait hw]
  · intro o k hb hk h1 h2 h3
    rw [frameEnded, hw, hb]
    refine (ticketOf_updTicket_self fun t => by split <;> rfl).trans ?_
    simp [hk, h1, h2, h3, now, updTicket]
  · intro ref aw mask k a hb hk h1 h2 h3 h4
    rw [frameEnded, hw, hb]
    refine (ticketOf_updTicket_self fun t => by split <;> rfl).trans ?_
    simp [hk, h1, h2, h3, h4, now, updTicket]
  · intro ref p k hb hk h1
    rw [frameEnded, hw, hb]
    refine (ticketOf_updTicket_self fun t => by split <;> rfl).trans ?_
    simp [hk, h1, now, updTicket]
  · intro o d ref e b hb he h1 h2 h3
    rw [frameEnded, hw, hb]
    refine (entryOf_updEntry_self (by exact fun e ho hn => ⟨ho, hn⟩)).trans ?_
    simp [he, h1, h2, h3, now, updEntry]
  · intro code i b hb hk h1
    rw [frameEnded, hw, hb]
    refine (borrowedOf_updBorrowed_self fun b => by split <;> exact ⟨rfl, rfl⟩).trans ?_
    simp [hk, h1, now, updBorrowed]
  · intro code i settled tender adj b hb hk h1
    rw [frameEnded, hw, hb]
    refine (borrowedOf_updBorrowed_self fun b => by split <;> exact ⟨rfl, rfl⟩).trans ?_
    simp [hk, h1, now, updBorrowed]
  · intro code i b hb hk h1
    rw [frameEnded, hw, hb]
    refine (borrowedOf_updBorrowed_self fun b => by split <;> exact ⟨rfl, rfl⟩).trans ?_
    simp [hk, h1, now, updBorrowed]

/-- What the owner hears depends on its records as they were. -/
theorem OwnerHears.congr {x : TxItem} {s u t : State} (h : OwnerHears x u t)
    (ht : u.tickets = s.tickets) (hk : u.kitchen = s.kitchen) (hb : u.borrowed = s.borrowed) :
    OwnerHears x s t := by
  simpa only [OwnerHears, ticketOf, entryOf, borrowedOf, ht, hk, hb] using h

theorem frameEnded_kitchen (x : TxItem) (s : State) : (frameEnded x s).kitchen
    = { s.kitchen with entries := (frameEnded x s).kitchen.entries } := by
  unfold frameEnded
  split
  · rfl
  · split <;> rfl

/-! ## The signal on the pair -/

theorem charCells_length (m : Bool) (b : Byte) : (charCells m b).length = 9 := rfl

theorem flatMap_charCells_length (bs : List Byte) :
    (bs.flatMap (charCells false)).length = 9 * bs.length := by
  induction bs with
  | nil => rfl
  | cons b bs ih => simp [ih, charCells_length]; omega

theorem charsCells_length (bs : List Byte) : (charsCells bs).length = 9 * bs.length := by
  cases bs with
  | nil => rfl
  | cons b bs => simp [charsCells, charCells_length]; omega

theorem frame_bytes_length (f : Frame) :
    (Frame.bytes f).length = 6 + (FrameBody.bytes f.body).length := by
  simp [Frame.bytes, Frame.payload, be16]
  omega

theorem frame_cells_length (f : Frame) :
    (Frame.cells f).length = 16 + 9 * (6 + (FrameBody.bytes f.body).length) := by
  simp [Frame.cells, charsCells_length, frame_bytes_length, syncPattern]
  omega

/-- A frame lasts a bit time for each of its cells (R4). -/
theorem bitTimes_eq_length (f : Frame) : Frame.bitTimes f = (Frame.cells f).length :=
  (frame_cells_length f).symm

theorem biphase_length (cells : List Bool) : (biphase cells).length = 2 * cells.length := by
  simp [biphase, mul_comm]

theorem biphase_getElem? (cells : List Bool) (i : Nat) (bit : Bool) (h : cells[i]? = some bit) :
    (biphase cells)[2 * i]? = some true ∧ (biphase cells)[2 * i + 1]? = some bit := by
  induction cells generalizing i with
  | nil => simp at h
  | cons c cs ih =>
    cases i with
    | zero =>
      have : c = bit := by simpa using h
      subst this
      exact ⟨rfl, rfl⟩
    | succ i => exact ih i (by simpa using h)

/-- The last transition of biphase cells: the middle of the last one when it carries a 1, else its
beginning (R2). -/
theorem lastTransition_biphase {cells : List Bool} {q : Nat} (hne : cells ≠ [])
    (hq : 2 * cells.length ≤ q) : lastTransition (biphase cells) q
      = 2 * cells.length - (if cells.getLast? = some true then 1 else 2) := by
  obtain ⟨init, bit, rfl⟩ : ∃ init bit, cells = init ++ [bit] :=
    ⟨_, _, (List.dropLast_concat_getLast hne).symm⟩
  have htake : (biphase (init ++ [bit])).take (q + 1) = biphase init ++ [true, bit] := by
    rw [List.take_of_length_le (by rw [biphase_length]; omega)]
    simp [biphase]
  simp only [lastTransition, htake]
  cases bit <;> simp [biphase_length] <;> omega

theorem lastTransition_jam : lastTransition jamSignal 64 = 63 := by decide

/-- While this station sends and when it jams, half bit times pass at its position in the signal. -/
theorem pass_driving {l : LineCtl} (h : l.state = some .sending ∨ l.state = some .jamming) (n : Nat) :
    LineCtl.pass l n = { l with txPos := l.txPos + n, since := LineCtl.drivenSince l n } := by
  rcases h with h | h <;> simp [LineCtl.pass, h]

theorem advance_port (n : Nat) (s : State) :
    (advance n s).port = { s.port with primeLeft := (advance n s).port.primeLeft } := rfl

/-- The transmitter stops: the frame is gone and the line follows the pair. -/
theorem drivenSince_sending {l : LineCtl} {x : TxItem} (h : l.state = some .sending)
    (hx : l.sending = some x) (hq : l.txPos ≤ 2 * Frame.bitTimes x.frame) :
    let last := 2 * Frame.bitTimes x.frame
      - (if (Frame.cells x.frame).getLast? = some true then 1 else 2)
    LineCtl.drivenSince l (2 * Frame.bitTimes x.frame - l.txPos)
      = if l.txPos < last then 2 * Frame.bitTimes x.frame - last
        else min (l.since + (2 * Frame.bitTimes x.frame - l.txPos)) 131071 := by
  have hne : Frame.cells x.frame ≠ [] := by
    intro he
    have hlen := frame_cells_length x.frame
    rw [he] at hlen
    simp only [List.length_nil] at hlen
    omega
  have hsum : l.txPos + (2 * Frame.bitTimes x.frame - l.txPos) = 2 * Frame.bitTimes x.frame := by
    omega
  simp only [LineCtl.drivenSince, LineCtl.signal, h, hx, hsum]
  rw [lastTransition_biphase hne (by rw [bitTimes_eq_length]), ← bitTimes_eq_length]
  have hpos : 16 ≤ Frame.bitTimes x.frame := by simp [Frame.bitTimes]
  simp only [sinceCeiling]
  split <;> split <;> omega

theorem drivenSince_jamming {l : LineCtl} {x : TxItem} (h : l.state = some .jamming)
    (hx : l.sending = some x) (hq : l.txPos ≤ 64) :
    LineCtl.drivenSince l (64 - l.txPos)
      = if l.txPos < 63 then 1 else min (l.since + (64 - l.txPos)) 131071 := by
  have hsum : l.txPos + (64 - l.txPos) = 64 := by omega
  simp only [LineCtl.drivenSince, LineCtl.signal, h, hx, hsum, lastTransition_jam, sinceCeiling]
  split <;> omega

theorem stopDriving_line (s : State) : (stopDriving s).line = { s.line with
    sending := none, txPos := 0, rx := Receiver.fresh .hunt
    state := if s.line.since < 4 then some .busy else some .idle } := by
  unfold stopDriving idleHalves
  split <;> rfl

/-- Settles O16. -/
theorem frameEndsReachTheirOwners : Obligations.FrameEndsReachTheirOwners := by
  intro s x hst hx
  refine ⟨_, by simp only [exec, execTransmissionComplete, hst, hx]; rfl, ?_, ?_, ?_, fun hq hj => ⟨?_, ?_⟩⟩
  · rw [transmissionDone, frameEnded_frame, frameEnded_kitchen]
    rfl
  · rw [transmissionDone, frameEnded_frame]
    rfl
  · exact (ownerHears_frameEnded x _).congr rfl rfl rfl
  · simp [transmissionDone, advance, hj]
  · have hline := pass_driving (.inl hst) (2 * Frame.bitTimes x.frame - s.line.txPos)
    simp only [transmissionDone, frameEnded_line, stopDriving_line, advance, hline,
      drivenSince_sending hst hx hq]

/-! ## Collisions -/

theorem signal_sending {l : LineCtl} {x : TxItem} (h : l.state = some .sending)
    (hx : l.sending = some x) : LineCtl.signal l = biphase (Frame.cells x.frame) := by
  simp [LineCtl.signal, h, hx]

theorem signal_jamming {l : LineCtl} {x : TxItem} (h : l.state = some .jamming)
    (hx : l.sending = some x) : LineCtl.signal l = jamSignal := by
  simp [LineCtl.signal, h, hx]

theorem jamSignal_getElem? {i : Nat} (h : i < 64) :
    jamSignal[i]? = some (decide (i % 3 = 0)) := by
  have hi : i < jamHalves := h
  simp only [jamSignal, List.getElem?_map, List.getElem?_range hi, Option.map_some]
  rfl

/-- Each transition of the signal changes the level of the pair (R2, R18, R19). -/
theorem pairLevel_succ {s : State} {flip level : Bool} (hd : driving s = true)
    (hf : (LineCtl.signal s.line)[s.line.txPos + 1]? = some flip) (hl : pairLevel s = some level) :
    pairLevel { s with line := { s.line with txPos := s.line.txPos + 1 } } = some (level != flip) := by
  have hd' : driving { s with line := { s.line with txPos := s.line.txPos + 1 } } = true := hd
  have hs : LineCtl.signal { s.line with txPos := s.line.txPos + 1 } = LineCtl.signal s.line := rfl
  obtain ⟨hlt, hget⟩ := List.getElem?_eq_some_iff.1 hf
  simp only [pairLevel, hd, if_true, Option.some.injEq] at hl
  simp only [pairLevel, hd', if_true, hs, Option.some.injEq]
  rw [List.take_succ_eq_append_getElem hlt, List.countP_append, hget, ← hl]
  have hpar := Nat.mod_two_eq_zero_or_one
    (((LineCtl.signal s.line).take (s.line.txPos + 1)).countP fun t => t)
  cases flip <;> rcases hpar with h | h <;> simp [h, Nat.add_mod]

/-- A cell heard otherwise than sent begins the jam (R19). -/
theorem exec_collision {s : State} {x : TxItem} {sent : Bool} (h : Cell)
    (hst : s.line.state = some .sending) (hx : s.line.sending = some x)
    (hc : (Frame.cells x.frame)[s.line.txPos / 2]? = some sent) :
    exec (.collision h) s
      = .next (if h = Cell.ofBool sent then s
          else { s with line := { s.line with state := some .jamming, txPos := 0, since := 0 } }) := by
  simp only [exec, execCollision, hst, hx, hc]
  split <;> rfl

/-- The end of a jam reaches the line, and by a sixteenth collision the frame's owner. -/
theorem jamEnds_frame (x : TxItem) (s : State) : jamEnds x s = { s with
    line := (jamEnds x s).line, tickets := (jamEnds x s).tickets
    kitchen := { s.kitchen with entries := (jamEnds x s).kitchen.entries }
    borrowed := (jamEnds x s).borrowed } := by
  unfold jamEnds
  dsimp only
  split
  · rw [frameEnded_frame, frameEnded_kitchen]
    rfl
  · unfold returnCollided
    split <;> rfl

theorem jamEnds_line (x : TxItem) (s : State) :
    (jamEnds x s).line = { (stopDriving s).line with waiting := (jamEnds x s).line.waiting } := by
  unfold jamEnds
  dsimp only
  split
  · rw [frameEnded_line]
  · unfold returnCollided
    split <;> rfl

theorem jamEnds_of_limit {x : TxItem} (h : 16 ≤ x.n + 1) (s : State) :
    jamEnds x s = frameEnded x (stopDriving s) := if_pos h

theorem jamEnds_of_below {x : TxItem} (h : x.n + 1 < 16) (s : State) :
    jamEnds x s = returnCollided x (x.n + 1) (stopDriving s) := if_neg (Nat.not_le.2 h)

theorem returnCollided_frame (x : TxItem) (n : Nat) (s : State) : returnCollided x n s
    = { s with line := { s.line with waiting := (returnCollided x n s).line.waiting } } := by
  unfold returnCollided
  split <;> rfl

/-- A collided frame stands first of its class again, but for a PRESENCE beside a newer one (R20, R32). -/
theorem returnCollided_waiting (x : TxItem) (n : Nat) (s : State) :
    (returnCollided x n s).line.waiting
      = if FrameBody.isPresence x.frame.body = true
            ∧ (s.line.waiting.any fun y => FrameBody.isPresence y.frame.body) = true then
          s.line.waiting
        else
          (s.line.waiting.takeWhile fun y => y.cls < x.cls)
            ++ [{ x with n := n, k := (5 * station s + 11 * n) % 2 ^ min n 6 }]
            ++ (s.line.waiting.dropWhile fun y => y.cls < x.cls) := by
  unfold returnCollided
  simp only [Bool.and_eq_true]
  split
  · rfl
  · exact returnToQueue_split _ _

/-- Settles O17. -/
theorem collisionJamsAndBacksOff : Obligations.CollisionJamsAndBacksOff := by
  refine ⟨fun s x sent h hst hx hc => exec_collision h hst hx hc,
    fun s x i bit hx => ⟨fun hst hc => ?_, fun hst hi => ?_, fun hst flip hf level hl => ?_⟩,
    fun s h1 h2 => ?_, fun s x hst hx hq => ?_⟩
  · rw [signal_sending hst hx]
    exact biphase_getElem? _ i bit hc
  · rw [signal_jamming hst hx]
    exact jamSignal_getElem? hi
  · exact pairLevel_succ (by rcases hst with h | h <;> simp [driving, h]) hf hl
  · simp [pairLevel, driving, h1, h2]
  · have hpass := pass_driving (.inr hst) (64 - s.line.txPos)
    have hsince := drivenSince_jamming hst hx hq
    have hstop : (stopDriving (advance (64 - s.line.txPos) s)).line = { s.line with
        sending := none, txPos := 0, rx := Receiver.fresh .hunt
        since := LineCtl.drivenSince s.line (64 - s.line.txPos)
        state := if LineCtl.drivenSince s.line (64 - s.line.txPos) < 4 then some .busy
          else some .idle } := by
      rw [stopDriving_line]
      simp only [advance, hpass]
    refine ⟨jamEnds x (advance (64 - s.line.txPos) s), ?_, ?_, ?_, ?_⟩
    · simp only [exec, execJamEnd, hst, hx, jamHalves]
    · rw [jamEnds_frame]
      rfl
    · rw [jamEnds_frame]
      rfl
    · rw [jamEnds_line, hstop]
      refine ⟨rfl, rfl, rfl, rfl, hsince, rfl, fun hn => ?_, fun hn => ?_⟩
      · rw [jamEnds_of_limit hn]
        refine ⟨(ownerHears_frameEnded x _).congr rfl rfl rfl, ?_⟩
        rw [frameEnded_line, hstop]
      · rw [jamEnds_of_below hn]
        refine ⟨?_, ?_, ?_, ?_⟩
        · rw [returnCollided_frame]; rfl
        · rw [returnCollided_frame]; rfl
        · rw [returnCollided_frame]; rfl
        · rw [returnCollided_waiting, hstop]
          rfl

end Sys2Proof.Machine
end

section
-- One proof at a time: side by side, their threads' stacks outgrow the check's memory.
set_option Elab.async false
/-! Refusals: every request that is taken replies DONE or ACCEPTED, so that any other code is a refusal. -/

namespace Sys2Proof.Machine

/-! ## The checks -/

/-- A request that is taken replies DONE or ACCEPTED; every other code is a refusal (R169). -/
def Settled (q : RequestResult) : Prop :=
  ∀ (c : ReplyCode) (b : List Byte) (t : State), q = .ok (c, b, t) → c = .done ∨ c = .accepted

theorem settled_error (c : ReplyCode) : Settled (.error c) := fun _ _ _ h => by cases h

theorem settled_taken (b : List Byte) (t : State) : Settled (taken b t) := fun _ _ _ h => by
  cases h
  exact .inl rfl

theorem settled_accepted (t : State) : Settled (accepted t) := fun _ _ _ h => by
  cases h
  exact .inr rfl

theorem settled_need {p : Prop} [Decidable p] (c : ReplyCode) {k : RequestResult} (h : Settled k) :
    Settled (need p c k) := by
  unfold need
  split
  · exact h
  · exact settled_error c

theorem settled_withSlot {s : State} {slot : Nat} {k : SlotRecord → RequestResult}
    (h : ∀ r, Settled (k r)) : Settled (withSlot s slot k) := by
  unfold withSlot
  split
  · exact h _
  · exact settled_error _

theorem settled_withTab {s : State} {code : Nat} {k : Tab → RequestResult} (h : ∀ t, Settled (k t)) :
    Settled (withTab s code k) := by
  unfold withTab
  split
  · exact h _
  · exact settled_error _

theorem settled_needFrames {s : State} (n : Nat) {k : RequestResult} (h : Settled k) :
    Settled (needFrames s n k) := by
  unfold needFrames
  split
  · exact h
  · exact settled_need _ (settled_need _ h)

theorem settled_tabRequest {s : State} {slot code level : Nat} {k : SlotRecord → Tab → RequestResult}
    (h : ∀ r t, Settled (k r t)) : Settled (tabRequest s slot code level k) :=
  settled_need _ (settled_withSlot fun r => settled_withTab fun t => settled_need _ (h r t))

theorem settled_splitRequest {s : State} {slot code : Nat} {k : Tab → RequestResult}
    (h : ∀ t, Settled (k t)) : Settled (splitRequest s slot code k) :=
  settled_tabRequest fun _ t => settled_need _ (settled_need _ (h t))

theorem settled_lineRequest {t : Tab} {line : Nat} {k : TabLine → RequestResult}
    (h : ∀ l, Settled (k l)) : Settled (lineRequest t line k) :=
  settled_need _ (settled_need _ (by
    split
    · exact h _
    · exact settled_error _))

theorem settled_shareRequest {s : State} {slot code share level : Nat}
    {k : SlotRecord → Tab → Share → RequestResult} (h : ∀ r t sh, Settled (k r t sh)) :
    Settled (shareRequest s slot code share level k) :=
  settled_tabRequest fun r t => by
    split
    · exact h r t _
    · exact settled_error _

theorem settled_ticketRequest {s : State} {slot number : Nat}
    {k : SlotRecord → Ticket → RequestResult} (h : ∀ r t, Settled (k r t)) :
    Settled (ticketRequest s slot number k) :=
  settled_need _ (settled_withSlot fun r => by
    split
    · exact h r _
    · exact settled_error _)

theorem settled_borrowedRequest {s : State} {slot code share level : Nat}
    {k : SlotRecord → Borrowed → RequestResult} (h : ∀ r b, Settled (k r b)) :
    Settled (borrowedRequest s slot code share level k) :=
  settled_need _ (settled_withSlot fun r => by
    split
    · exact settled_need _ (h r _)
    · exact settled_error _)

theorem settled_kitchenRequest {s : State} {slot origin number : Nat} {k : Entry → RequestResult}
    (h : ∀ e, Settled (k e)) : Settled (kitchenRequest s slot origin number k) :=
  settled_need _ (settled_withSlot fun _ => by
    split
    · exact settled_need _ (h _)
    · exact settled_error _)

theorem settled_withPayment {p : Except ReplyCode (Tender × Nat × Int × Nat)}
    {k : Tender → Nat → Int → Nat → RequestResult}
    (h : ∀ t n a c, Settled (k t n a c)) : Settled (withPayment p k) := by
  unfold withPayment
  split
  · exact settled_error _
  · exact h _ _ _ _

theorem settled_voidSent (slot level code line number position : Nat) (l : TabLine) (s : State) :
    Settled (voidSent slot level code line number position l s) := by
  unfold voidSent
  split
  · exact settled_need _ (settled_taken _ _)
  · exact settled_need _ (settled_taken _ _)
  · exact settled_need _ (settled_needFrames _ (settled_accepted _))
  · exact settled_need _ (settled_needFrames _ (settled_accepted _))
  · exact settled_error _

/-! ## The requests -/

theorem settled_configureResult (fields : ConfigureFields) (s : State) :
    Settled (configureResult fields s) :=
  settled_need _ (settled_taken _ _)

theorem settled_startResult (s : State) : Settled (startResult s) :=
  settled_need _ (settled_taken _ _)

theorem settled_signOnResult (operator level : Nat) (s : State) :
    Settled (signOnResult operator level s) :=
  settled_need _ (settled_need _ (by
    split
    · exact settled_error _
    · exact settled_taken _ _))

theorem settled_signOffResult (slot : Nat) (s : State) : Settled (signOffResult slot s) :=
  settled_withSlot fun _ => settled_need _ (settled_taken _ _)

theorem settled_openTabResult (slot : Nat) (s : State) : Settled (openTabResult slot s) :=
  settled_need _ (settled_withSlot fun _ => settled_need _ (by
    split
    · exact settled_error _
    · exact settled_taken _ _))

theorem settled_addLineResult (slot code : Nat) (fields : LineFields) (s : State) :
    Settled (addLineResult slot code fields s) :=
  settled_tabRequest fun _ _ =>
    settled_need _ (settled_need _ (settled_need _ (settled_need _ (settled_need _ (settled_need _
      (settled_need _ (settled_taken _ _)))))))

theorem settled_voidLineResult (slot code line : Nat) (s : State) :
    Settled (voidLineResult slot code line s) :=
  settled_need _ (settled_withSlot fun _ => settled_withTab fun _ => settled_lineRequest fun _ => by
    split
    · exact settled_need _ (settled_taken _ _)
    · exact settled_voidSent _ _ _ _ _ _ _ _
    · exact settled_error _
    · exact settled_error _)

theorem settled_wasteLineResult (slot code line : Nat) (s : State) :
    Settled (wasteLineResult slot code line s) :=
  settled_tabRequest fun _ _ => settled_lineRequest fun _ => settled_need _ (settled_taken _ _)

theorem settled_closeTabResult (slot code : Nat) (s : State) :
    Settled (closeTabResult slot code s) :=
  settled_tabRequest fun _ _ =>
    settled_need _ (settled_need _ (settled_need _ (settled_taken _ _)))

theorem settled_lastCallResult (slot : Nat) (s : State) : Settled (lastCallResult slot s) :=
  settled_need _ (settled_withSlot fun _ => settled_need _ (by
    split
    · exact settled_taken _ _
    · exact settled_needFrames _ (settled_taken _ _)))

theorem settled_splitResult (slot code count : Nat) (s : State) :
    Settled (splitResult slot code count s) :=
  settled_splitRequest fun _ => settled_need _ (settled_taken _ _)

theorem settled_assignResult (slot code line kind share : Nat) (weights : List Nat) (s : State) :
    Settled (assignResult slot code line kind share weights s) :=
  settled_splitRequest fun _ => by
    split
    · exact settled_error _
    · refine settled_need _ ?_
      split
      · exact settled_error _
      · exact settled_taken _ _

theorem settled_discountResult (slot code share percent : Nat) (s : State) :
    Settled (discountResult slot code share percent s) :=
  settled_splitRequest fun _ => by
    split
    · exact settled_error _
    · exact settled_taken _ _

theorem settled_sendResult (slot code priority : Nat) (s : State) :
    Settled (sendResult slot code priority s) :=
  settled_tabRequest fun _ _ => settled_need _ (by
    split
    · exact settled_error _
    · exact settled_need _ (settled_needFrames _ (settled_taken _ _)))

theorem settled_retryTicketResult (slot number : Nat) (s : State) :
    Settled (retryTicketResult slot number s) :=
  settled_ticketRequest fun _ _ => by
    split
    · exact settled_need _ (settled_needFrames _ (settled_taken _ _))
    · exact settled_need _ (settled_needFrames _ (settled_taken _ _))
    · exact settled_need _ (settled_needFrames _ (settled_taken _ _))
    · exact settled_error _

theorem settled_collectResult (slot number : Nat) (s : State) :
    Settled (collectResult slot number s) :=
  settled_ticketRequest fun _ _ =>
    settled_need _ (settled_need _ (settled_needFrames _ (settled_taken _ _)))

theorem settled_takeResult (slot code share : Nat) (s : State) :
    Settled (takeResult slot code share s) :=
  settled_shareRequest fun _ _ _ => settled_need _ (settled_need _ (settled_taken _ _))

theorem settled_payResult (slot code share tender tendered : Nat) (s : State) :
    Settled (payResult slot code share tender tendered s) := by
  unfold payResult
  split
  · exact settled_shareRequest fun _ _ _ => settled_need _ (settled_withPayment fun _ _ _ _ =>
      settled_taken _ _)
  · exact settled_borrowedRequest fun _ _ => settled_need _ (settled_withPayment fun _ _ _ _ =>
      settled_needFrames _ (settled_taken _ _))

theorem settled_giveBackResult (slot code share : Nat) (s : State) :
    Settled (giveBackResult slot code share s) := by
  unfold giveBackResult
  split
  · exact settled_shareRequest fun _ _ _ => settled_need _ (settled_taken _ _)
  · exact settled_borrowedRequest fun _ _ => settled_need _ (settled_needFrames _ (settled_taken _ _))

theorem settled_takeRemoteResult (slot code share : Nat) (s : State) :
    Settled (takeRemoteResult slot code share s) :=
  settled_need _ (settled_withSlot fun _ => settled_need _ (settled_need _ (settled_need _
    (settled_need _ (settled_need _ (settled_needFrames _ (settled_accepted _)))))))

theorem settled_forceReleaseResult (slot code share : Nat) (s : State) :
    Settled (forceReleaseResult slot code share s) :=
  settled_shareRequest fun _ _ _ => by
    split
    · exact settled_taken _ _
    · exact settled_error _

theorem settled_clearOrphanResult (slot code share : Nat) (s : State) :
    Settled (clearOrphanResult slot code share s) :=
  settled_borrowedRequest fun _ _ => settled_need _ (by
    split
    · exact settled_taken _ _
    · exact settled_taken _ _)

theorem settled_bumpResult (slot origin number : Nat) (s : State) :
    Settled (bumpResult slot origin number s) :=
  settled_kitchenRequest fun _ => by
    split
    · exact settled_needFrames _ (settled_taken _ _)
    · exact settled_needFrames _ (settled_taken _ _)
    · exact settled_error _
    · exact settled_error _

theorem settled_reprintResult (slot origin number : Nat) (s : State) :
    Settled (reprintResult slot origin number s) :=
  settled_kitchenRequest fun _ =>
    settled_need _ (settled_need _ (settled_need _ (settled_taken _ _)))

theorem settled_clearPrinterResult (slot : Nat) (s : State) : Settled (clearPrinterResult slot s) :=
  settled_need _ (settled_withSlot fun _ =>
    settled_need _ (settled_need _ (settled_need _ (settled_taken _ _))))

theorem settled_queryStateResult (s : State) : Settled (queryStateResult s) :=
  settled_taken _ _

theorem settled_queryStationResult (n : Nat) (s : State) : Settled (queryStationResult n s) :=
  settled_need _ (settled_taken _ _)

theorem settled_queryTabResult (code first : Nat) (s : State) :
    Settled (queryTabResult code first s) :=
  settled_withTab fun _ => settled_taken _ _

theorem settled_queryShareResult (code share : Nat) (s : State) :
    Settled (queryShareResult code share s) :=
  settled_withTab fun _ => by
    split
    · exact settled_taken _ _
    · exact settled_error _

theorem settled_queryTicketResult (number : Nat) (s : State) :
    Settled (queryTicketResult number s) := by
  unfold queryTicketResult
  split
  · exact settled_taken _ _
  · exact settled_error _

theorem settled_queryQueueResult (part first : Nat) (s : State) :
    Settled (queryQueueResult part first s) := by
  unfold queryQueueResult
  split
  · exact settled_taken _ _
  · exact settled_taken _ _
  · exact settled_taken _ _
  · exact settled_taken _ _
  · exact settled_error _

theorem settled_queryBorrowedResult (position : Nat) (s : State) :
    Settled (queryBorrowedResult position s) :=
  settled_need _ (by
    split
    · exact settled_taken _ _
    · exact settled_taken _ _)

theorem settled_queryTotalsResult (slot : Nat) (s : State) : Settled (queryTotalsResult slot s) :=
  settled_need _ (settled_taken _ _)

/-! ## Every request -/

/-- A refused request changes the link alone, and its reply has no body (R169). -/
theorem refused_of_settled {i : Instr} {q : RequestResult} {s t : State} {r : Reply} (hq : Settled q)
    (h : answer i q s = t)
    (hr : t.link.reply = some r) (h1 : r.code ≠ .done) (h2 : r.code ≠ .accepted) :
    OnlyLink s t ∧ r.body = [] := by
  subst h
  match q, hq with
  | .error c, _ =>
      have hr : some _ = some r := hr
      cases hr
      exact ⟨rfl, rfl⟩
  | .ok (c, b, u), hq =>
      have hr : some _ = some r := hr
      cases hr
      exact absurd (hq c b u rfl) (not_or.2 ⟨h1, h2⟩)

/-- A request other than a query in STRAP-FAULT is refused with CONFIG (R24). -/
theorem strapFault_refuses (i : Instr) (q : RequestResult) {s : State}
    (h : s.join.state = .strapFault) :
    OnlyLink s (answer i (unlessStrapFault s q) s)
      ∧ Replied (answer i (unlessStrapFault s q) s) .config [] := by
  rw [unlessStrapFault_of_fault h, answer_error]
  exact ⟨rfl, rfl, rfl, rfl, rfl⟩

/-- What a request comes to: a taken one settles, and below kind 40H STRAP-FAULT refuses it. -/
structure RefusesSoundly (c : Instr) (s : State) : Prop where
  refused : ∀ (t : State) (r : Reply), exec c s = .next t → t.link.reply = some r →
    r.code ≠ .done → r.code ≠ .accepted → OnlyLink s t ∧ r.body = []
  strapFault : ∀ k : Nat, requestKind c = some k → k < 0x40 → s.join.state = .strapFault →
    ∃ t : State, exec c s = .next t ∧ OnlyLink s t ∧ Replied t .config []

theorem refusesSoundly_request {c : Instr} {q : RequestResult} {s : State} (hq : Settled q)
    (h : exec c s = .next (answer c (unlessStrapFault s q) s)) : RefusesSoundly c s where
  refused _ _ ht := refused_of_settled (settled_need _ hq) (Host.Outcome.next.inj (h ▸ ht))
  strapFault _ _ _ hj := ⟨_, h, strapFault_refuses c q hj⟩

theorem refusesSoundly_query {c : Instr} {q : RequestResult} {s : State} (hq : Settled q)
    (h : exec c s = .next (answer c q s)) (hk : ∀ k, requestKind c = some k → 0x40 ≤ k) :
    RefusesSoundly c s where
  refused _ _ ht := refused_of_settled hq (Host.Outcome.next.inj (h ▸ ht))
  strapFault k hc hlt := absurd hlt (Nat.not_lt.2 (hk k hc))

theorem refusesSoundly_fetch (s : State) : RefusesSoundly .fetch s where
  refused t r ht hr h1 _ := by
    cases ht
    cases hr
    exact absurd rfl h1
  strapFault k hk hlt := by
    cases hk
    exact absurd hlt (by decide)

theorem refusesSoundly_of_request {c : Instr} {k : Nat} (hk : requestKind c = some k) (s : State) :
    RefusesSoundly c s := by
  cases c with
  | configure fields =>
      exact refusesSoundly_request (settled_configureResult fields s) rfl
  | start =>
      exact refusesSoundly_request (settled_startResult s) rfl
  | signOn operator level =>
      exact refusesSoundly_request (settled_signOnResult operator level s) rfl
  | signOff slot =>
      exact refusesSoundly_request (settled_signOffResult slot s) rfl
  | openTab slot =>
      exact refusesSoundly_request (settled_openTabResult slot s) rfl
  | addLine slot code line =>
      exact refusesSoundly_request (settled_addLineResult slot code line s) rfl
  | voidLine slot code line =>
      exact refusesSoundly_request (settled_voidLineResult slot code line s) rfl
  | wasteLine slot code line =>
      exact refusesSoundly_request (settled_wasteLineResult slot code line s) rfl
  | closeTab slot code =>
      exact refusesSoundly_request (settled_closeTabResult slot code s) rfl
  | lastCall slot =>
      exact refusesSoundly_request (settled_lastCallResult slot s) rfl
  | split slot code count =>
      exact refusesSoundly_request (settled_splitResult slot code count s) rfl
  | assign slot code line kind share weights =>
      exact refusesSoundly_request (settled_assignResult slot code line kind share weights s) rfl
  | discount slot code share percent =>
      exact refusesSoundly_request (settled_discountResult slot code share percent s) rfl
  | send slot code priority =>
      exact refusesSoundly_request (settled_sendResult slot code priority s) rfl
  | retryTicket slot number =>
      exact refusesSoundly_request (settled_retryTicketResult slot number s) rfl
  | collect slot number =>
      exact refusesSoundly_request (settled_collectResult slot number s) rfl
  | take slot code share =>
      exact refusesSoundly_request (settled_takeResult slot code share s) rfl
  | pay slot code share tender tendered =>
      exact refusesSoundly_request (settled_payResult slot code share tender tendered s) rfl
  | giveBack slot code share =>
      exact refusesSoundly_request (settled_giveBackResult slot code share s) rfl
  | takeRemote slot code share =>
      exact refusesSoundly_request (settled_takeRemoteResult slot code share s) rfl
  | forceRelease slot code share =>
      exact refusesSoundly_request (settled_forceReleaseResult slot code share s) rfl
  | clearOrphan slot code share =>
      exact refusesSoundly_request (settled_clearOrphanResult slot code share s) rfl
  | bump slot origin number =>
      exact refusesSoundly_request (settled_bumpResult slot origin number s) rfl
  | reprint slot origin number =>
      exact refusesSoundly_request (settled_reprintResult slot origin number s) rfl
  | clearPrinter slot =>
      exact refusesSoundly_request (settled_clearPrinterResult slot s) rfl
  | fetch => exact refusesSoundly_fetch s
  | queryState =>
      exact refusesSoundly_query (settled_queryStateResult s) rfl fun k hk => by cases hk; simp
  | queryStation station =>
      exact refusesSoundly_query (settled_queryStationResult station s) rfl fun k hk => by cases hk; simp
  | queryTab code first =>
      exact refusesSoundly_query (settled_queryTabResult code first s) rfl fun k hk => by cases hk; simp
  | queryShare code share =>
      exact refusesSoundly_query (settled_queryShareResult code share s) rfl fun k hk => by cases hk; simp
  | queryTicket number =>
      exact refusesSoundly_query (settled_queryTicketResult number s) rfl fun k hk => by cases hk; simp
  | queryQueue part first =>
      exact refusesSoundly_query (settled_queryQueueResult part first s) rfl fun k hk => by cases hk; simp
  | queryBorrowed position =>
      exact refusesSoundly_query (settled_queryBorrowedResult position s) rfl fun k hk => by cases hk; simp
  | queryTotals slot =>
      exact refusesSoundly_query (settled_queryTotalsResult slot s) rfl fun k hk => by cases hk; simp
  | _ => cases hk

/-- Settles O5. -/
theorem refusalsChangeNothing : Obligations.RefusalsChangeNothing := fun _ k s hk =>
  have h := refusesSoundly_of_request hk s
  ⟨h.refused, h.strapFault k hk⟩

end Sys2Proof.Machine
end

section
-- One proof at a time: side by side, their threads' stacks outgrow the check's memory.
set_option Elab.async false
/-! Bytes and the requests they spell. -/

namespace Sys2Proof.Machine

/-! ## What each reader takes off the front -/

theorem byte_toNat {n : Nat} (h : n < 256) : (byte n).toNat = n := Nat.mod_eq_of_lt h

theorem byte_toNat_self (b : Byte) : byte b.toNat = b := by
  simp [byte]

theorem byte_congr {m n : Nat} (h : m % 256 = n % 256) : byte m = byte n := by
  apply BitVec.eq_of_toNat_eq
  simpa [byte] using h

theorem rd8_iff {bs r : List Byte} {n : Nat} :
    rd8 bs = some (n, r) ↔ n < 256 ∧ bs = byte n :: r := by
  cases bs with
  | nil => simp [rd8]
  | cons a as =>
    simp only [rd8, Option.some.injEq, Prod.mk.injEq, List.cons.injEq]
    constructor
    · rintro ⟨rfl, rfl⟩
      exact ⟨a.isLt, (byte_toNat_self a).symm, rfl⟩
    · rintro ⟨hn, rfl, rfl⟩
      exact ⟨byte_toNat hn, rfl⟩

theorem rd16_iff {bs r : List Byte} {n : Nat} :
    rd16 bs = some (n, r) ↔ n < 65536 ∧ bs = byte (n / 256) :: byte n :: r := by
  match bs with
  | [] => simp [rd16]
  | [a] => simp [rd16]
  | a :: b :: as =>
    have ha := a.isLt
    have hb := b.isLt
    simp only [rd16, Option.some.injEq, Prod.mk.injEq, List.cons.injEq]
    constructor
    · rintro ⟨rfl, rfl⟩
      refine ⟨by omega, ?_, ?_, rfl⟩
      · rw [← byte_toNat_self a]
        exact byte_congr (by simp only [byte_toNat_self]; omega)
      · rw [← byte_toNat_self b]
        exact byte_congr (by simp only [byte_toNat_self]; omega)
    · rintro ⟨hn, rfl, rfl, rfl⟩
      refine ⟨?_, rfl⟩
      simp only [byte, BitVec.toNat_ofNat]
      omega

theorem rd32_iff {bs r : List Byte} {n : Nat} :
    rd32 bs = some (n, r) ↔ n < 4294967296
      ∧ bs = byte (n / 16777216) :: byte (n / 65536) :: byte (n / 256) :: byte n :: r := by
  match bs with
  | [] => simp [rd32]
  | [a] => simp [rd32]
  | [a, b] => simp [rd32]
  | [a, b, c] => simp [rd32]
  | a :: b :: c :: d :: as =>
    have ha := a.isLt
    have hb := b.isLt
    have hc := c.isLt
    have hd := d.isLt
    simp only [rd32, Option.some.injEq, Prod.mk.injEq, List.cons.injEq]
    constructor
    · rintro ⟨rfl, rfl⟩
      refine ⟨by omega, ?_, ?_, ?_, ?_, rfl⟩
      · rw [← byte_toNat_self a]
        exact byte_congr (by simp only [byte_toNat_self]; omega)
      · rw [← byte_toNat_self b]
        exact byte_congr (by simp only [byte_toNat_self]; omega)
      · rw [← byte_toNat_self c]
        exact byte_congr (by simp only [byte_toNat_self]; omega)
      · rw [← byte_toNat_self d]
        exact byte_congr (by simp only [byte_toNat_self]; omega)
    · rintro ⟨hn, rfl, rfl, rfl, rfl, rfl⟩
      refine ⟨?_, rfl⟩
      simp only [byte, BitVec.toNat_ofNat]
      omega

theorem rdCounted_iff {bs r xs : List Byte} :
    rdCounted bs = some (xs, r) ↔ xs.length < 256 ∧ bs = byte xs.length :: (xs ++ r) := by
  cases bs with
  | nil => simp [rdCounted]
  | cons a as =>
    have ha := a.isLt
    simp only [rdCounted, Option.ite_none_right_eq_some, Option.some.injEq, Prod.mk.injEq,
      List.cons.injEq]
    constructor
    · rintro ⟨hle, rfl, rfl⟩
      have hlen : (as.take a.toNat).length = a.toNat := by simpa using hle
      refine ⟨by omega, ?_, by simp⟩
      rw [hlen, byte_toNat_self]
    · rintro ⟨hn, rfl, rfl⟩
      simp [byte_toNat hn]

theorem whole_iff {i j : Instr} {r : List Byte} : whole i r = some j ↔ r = [] ∧ i = j := by
  simp [whole]

theorem rdSlotCode_iff {bs r : List Byte} {slot code : Nat} :
    rdSlotCode bs = some (slot, code, r)
      ↔ slot < 256 ∧ code < 65536 ∧ bs = byte slot :: byte (code / 256) :: byte code :: r := by
  simp only [rdSlotCode, Option.bind_eq_bind, Option.bind_eq_some_iff, Prod.exists, rd8_iff, rd16_iff,
    Option.some.injEq, Prod.mk.injEq]
  constructor
  · rintro ⟨_, _, ⟨h1, rfl⟩, _, _, ⟨h2, rfl⟩, rfl, rfl, rfl⟩
    exact ⟨h1, h2, rfl⟩
  · rintro ⟨h1, h2, rfl⟩
    exact ⟨_, _, ⟨h1, rfl⟩, _, _, ⟨h2, rfl⟩, rfl, rfl, rfl⟩

theorem slotCodeByte_iff {f : Nat → Nat → Nat → Instr} {bs : List Byte} {i : Instr} :
    slotCodeByte f bs = some i ↔ ∃ slot code x, slot < 256 ∧ code < 65536 ∧ x < 256
      ∧ bs = [byte slot, byte (code / 256), byte code, byte x] ∧ i = f slot code x := by
  simp only [slotCodeByte, Option.bind_eq_bind, Option.bind_eq_some_iff, Prod.exists, rd8_iff,
    rdSlotCode_iff, whole_iff]
  constructor
  · rintro ⟨_, _, _, ⟨h1, h2, rfl⟩, _, _, ⟨h3, rfl⟩, rfl, rfl⟩
    exact ⟨_, _, _, h1, h2, h3, rfl, rfl⟩
  · rintro ⟨_, _, _, h1, h2, h3, rfl, rfl⟩
    exact ⟨_, _, _, ⟨h1, h2, rfl⟩, _, _, ⟨h3, rfl⟩, rfl, rfl⟩

/-! ## Requests -/

theorem map_byte_toNat (r : List Byte) : (r.map BitVec.toNat).map byte = r := by
  simp [Function.comp_def, byte_toNat_self]

theorem map_toNat_byte {ws : List Nat} (h : ws.all fits8 = true) :
    (ws.map byte).map BitVec.toNat = ws := by
  rw [List.map_map]
  conv_rhs => rw [← List.map_id ws]
  refine List.map_congr_left fun n hn => ?_
  exact byte_toNat (by simpa [fits8] using List.all_eq_true.1 h n hn)

@[simp] theorem fits8_iff (n : Nat) : fits8 n = true ↔ n < 256 := by simp [fits8]

@[simp] theorem fits16_iff (n : Nat) : fits16 n = true ↔ n < 65536 := by simp [fits16]

@[simp] theorem fits32_iff (n : Nat) : fits32 n = true ↔ n < 4294967296 := by simp [fits32]

@[simp] theorem fitsSlotCode_iff (slot code : Nat) :
    fitsSlotCode slot code = true ↔ slot < 256 ∧ code < 65536 := by simp [fitsSlotCode]

theorem rd8_byte {n : Nat} (h : n < 256) (r : List Byte) : rd8 (byte n :: r) = some (n, r) :=
  rd8_iff.2 ⟨h, rfl⟩

theorem rd16_bytes {n : Nat} (h : n < 65536) (r : List Byte) :
    rd16 (byte (n / 256) :: byte n :: r) = some (n, r) := rd16_iff.2 ⟨h, rfl⟩

theorem rd32_bytes {n : Nat} (h : n < 4294967296) (r : List Byte) :
    rd32 (byte (n / 16777216) :: byte (n / 65536) :: byte (n / 256) :: byte n :: r) = some (n, r) :=
  rd32_iff.2 ⟨h, rfl⟩

theorem rdCounted_bytes {bs : List Byte} (h : bs.length < 256) (r : List Byte) :
    rdCounted (byte bs.length :: (bs ++ r)) = some (bs, r) := rdCounted_iff.2 ⟨h, rfl⟩

theorem rdSlotCode_bytes {slot code : Nat} (h : slot < 256) (hc : code < 65536) (r : List Byte) :
    rdSlotCode (byte slot :: byte (code / 256) :: byte code :: r) = some (slot, code, r) :=
  rdSlotCode_iff.2 ⟨h, hc, rfl⟩

/-- A well-formed request is read back from its kind and body (R168). -/
theorem decode_of_encode {i : Instr} {k : Byte} {b : List Byte} (hw : i.wf = true)
    (he : encodeRequest i = some (k, b)) : decodeRequest k b = some i := by
  cases i with
  | addLine slot code l =>
    cases he
    simp only [Instr.wf, LineFields.wf, fitsSlotCode, fits8, fits16, Bool.and_eq_true,
      decide_eq_true_eq] at hw
    have hlabel : l.label.length < 256 := by omega
    have hnote : l.note.length < 256 := by omega
    simp [decodeRequest, whole, rdSlotCode_bytes, rdCounted_bytes, rd8_byte, rd16_bytes, be16,
      slotCodeBytes, counted, hw, hlabel, hnote]
  | assign slot code line kind share weights =>
    cases he
    simp only [Instr.wf, fitsSlotCode, fits8, fits16, Bool.and_eq_true, decide_eq_true_eq,
      beq_iff_eq] at hw
    obtain ⟨⟨⟨⟨⟨⟨hs, hc⟩, hl⟩, hk⟩, hsh⟩, hlen⟩, hall⟩ := hw
    have hback := map_toNat_byte hall
    simp only [List.map_map] at hback
    simp [decodeRequest, rdSlotCode_bytes, rd8_byte, be16, slotCodeBytes, hs, hc, hl, hk, hsh, hlen,
      hback]
  | configure fields | start | signOn operator level | signOff slot | openTab slot
  | voidLine slot code line | wasteLine slot code line | closeTab slot code | lastCall slot
  | split slot code count | discount slot code share percent | send slot code priority
  | retryTicket slot number | collect slot number | take slot code share
  | pay slot code share tender tendered | giveBack slot code share | takeRemote slot code share
  | forceRelease slot code share | clearOrphan slot code share | bump slot origin number
  | reprint slot origin number | clearPrinter slot | fetch | queryState | queryStation station
  | queryTab code first | queryShare code share | queryTicket number | queryQueue part first
  | queryBorrowed position | queryTotals slot =>
    cases he
    simp only [Instr.wf, ConfigureFields.wf, fitsSlotCode, fits8, fits16, fits32, Bool.and_eq_true,
      decide_eq_true_eq] at hw
    simp [decodeRequest, slotCodeByte, whole, rdSlotCode_bytes, rd8_byte, rd16_bytes, rd32_bytes, be16,
      be32, slotCodeBytes, hw]
  | _ => cases he

/-- A kind and body that spell a command spell only the one whose bytes they are. -/
theorem encode_of_decode {i : Instr} {k : Byte} {b : List Byte} (hb : b.length ≤ 255)
    (hd : decodeRequest k b = some i) : encodeRequest i = some (k, b) ∧ i.wf = true := by
  have hk : ∀ n : Nat, k.toNat = n → k = byte n := fun n h => h ▸ (byte_toNat_self k).symm
  unfold decodeRequest at hd
  simp only [Option.bind_eq_bind] at hd
  split at hd
  case h_1 h =>
    simp only [Option.bind_eq_some_iff, Prod.exists, rd16_iff, rd8_iff, whole_iff] at hd
    obtain ⟨_, _, ⟨h1, rfl⟩, _, _, ⟨h2, rfl⟩, _, _, ⟨h3, rfl⟩, _, _, ⟨h4, rfl⟩, _, _, ⟨h5, rfl⟩,
      _, _, ⟨h6, rfl⟩, _, _, ⟨h7, rfl⟩, _, _, ⟨h8, rfl⟩, _, _, ⟨h9, rfl⟩, _, _, ⟨h10, rfl⟩, rfl, rfl⟩ := hd
    exact ⟨congrArg (fun k => some (k, _)) (hk _ h).symm, by
      simp [Instr.wf, ConfigureFields.wf, h1, h2, h3, h4, h5, h6, h7, h8, h9, h10]⟩
  case h_2 h =>
    obtain ⟨rfl, rfl⟩ := whole_iff.1 hd
    exact ⟨congrArg (fun k => some (k, _)) (hk _ h).symm, by
      simp [Instr.wf]⟩
  case h_3 h =>
    simp only [Option.bind_eq_some_iff, Prod.exists, rd16_iff, rd8_iff, whole_iff] at hd
    obtain ⟨_, _, ⟨h1, rfl⟩, _, _, ⟨h2, rfl⟩, rfl, rfl⟩ := hd
    exact ⟨congrArg (fun k => some (k, _)) (hk _ h).symm, by
      simp [Instr.wf, h1, h2]⟩
  case h_4 h =>
    simp only [Option.bind_eq_some_iff, Prod.exists, rd8_iff, whole_iff] at hd
    obtain ⟨_, _, ⟨h1, rfl⟩, rfl, rfl⟩ := hd
    exact ⟨congrArg (fun k => some (k, _)) (hk _ h).symm, by
      simp [Instr.wf, h1]⟩
  case h_5 h =>
    simp only [Option.bind_eq_some_iff, Prod.exists, rd8_iff, whole_iff] at hd
    obtain ⟨_, _, ⟨h1, rfl⟩, rfl, rfl⟩ := hd
    exact ⟨congrArg (fun k => some (k, _)) (hk _ h).symm, by
      simp [Instr.wf, h1]⟩
  case h_6 h =>
    simp only [Option.bind_eq_some_iff, Prod.exists, rd16_iff, rd8_iff, rdCounted_iff, rdSlotCode_iff, whole_iff] at hd
    obtain ⟨_, _, _, ⟨h1, h2, rfl⟩, _, _, ⟨h3, rfl⟩, _, _, ⟨h4, rfl⟩, _, _, ⟨h5, rfl⟩,
      _, _, ⟨h6, rfl⟩, _, _, ⟨h7, rfl⟩, _, _, ⟨h8, rfl⟩, _, _, ⟨h9, rfl⟩, _, _, ⟨h10, rfl⟩, rfl, rfl⟩ := hd
    refine ⟨?_, ?_⟩
    · simp [encodeRequest, slotCodeBytes, be16, counted, hk _ h]
      rfl
    · simp only [List.length_cons, List.length_append, List.length_nil] at hb
      simp only [Instr.wf, LineFields.wf, fitsSlotCode, fits8, fits16, Bool.and_eq_true, decide_eq_true_eq]
      omega
  case h_7 h =>
    obtain ⟨_, _, _, h1, h2, h3, rfl, rfl⟩ := slotCodeByte_iff.1 hd
    exact ⟨congrArg (fun k => some (k, _)) (hk _ h).symm, by
      simp [Instr.wf, h1, h2, h3]⟩
  case h_8 h =>
    obtain ⟨_, _, _, h1, h2, h3, rfl, rfl⟩ := slotCodeByte_iff.1 hd
    exact ⟨congrArg (fun k => some (k, _)) (hk _ h).symm, by
      simp [Instr.wf, h1, h2, h3]⟩
  case h_9 h =>
    simp only [Option.bind_eq_some_iff, Prod.exists, rdSlotCode_iff, whole_iff] at hd
    obtain ⟨_, _, _, ⟨h1, h2, rfl⟩, rfl, rfl⟩ := hd
    exact ⟨congrArg (fun k => some (k, _)) (hk _ h).symm, by
      simp [Instr.wf, h1, h2]⟩
  case h_10 h =>
    simp only [Option.bind_eq_some_iff, Prod.exists, rd8_iff, whole_iff] at hd
    obtain ⟨_, _, ⟨h1, rfl⟩, rfl, rfl⟩ := hd
    exact ⟨congrArg (fun k => some (k, _)) (hk _ h).symm, by
      simp [Instr.wf, h1]⟩
  case h_11 h =>
    obtain ⟨_, _, _, h1, h2, h3, rfl, rfl⟩ := slotCodeByte_iff.1 hd
    exact ⟨congrArg (fun k => some (k, _)) (hk _ h).symm, by
      simp [Instr.wf, h1, h2, h3]⟩
  case h_12 h =>
    simp only [Option.bind_eq_some_iff, Prod.exists, rd8_iff, rdSlotCode_iff, Option.ite_none_right_eq_some,
      Option.some.injEq] at hd
    obtain ⟨_, _, _, ⟨h1, h2, rfl⟩, _, _, ⟨h3, rfl⟩, _, _, ⟨h4, rfl⟩, _, _, ⟨h5, rfl⟩, hlen, rfl⟩ := hd
    refine ⟨?_, ?_⟩
    · simp only [encodeRequest, map_byte_toNat, hk _ h]
      rfl
    · simp [Instr.wf, hlen, h1, h2, h3, h4, h5]
      exact fun x _ => x.isLt
  case h_13 h =>
    simp only [Option.bind_eq_some_iff, Prod.exists, rd8_iff, rdSlotCode_iff, whole_iff] at hd
    obtain ⟨_, _, _, ⟨h1, h2, rfl⟩, _, _, ⟨h3, rfl⟩, _, _, ⟨h4, rfl⟩, rfl, rfl⟩ := hd
    exact ⟨congrArg (fun k => some (k, _)) (hk _ h).symm, by
      simp [Instr.wf, h1, h2, h3, h4]⟩
  case h_14 h =>
    obtain ⟨_, _, _, h1, h2, h3, rfl, rfl⟩ := slotCodeByte_iff.1 hd
    exact ⟨congrArg (fun k => some (k, _)) (hk _ h).symm, by
      simp [Instr.wf, h1, h2, h3]⟩
  case h_15 h =>
    simp only [Option.bind_eq_some_iff, Prod.exists, rdSlotCode_iff, whole_iff] at hd
    obtain ⟨_, _, _, ⟨h1, h2, rfl⟩, rfl, rfl⟩ := hd
    exact ⟨congrArg (fun k => some (k, _)) (hk _ h).symm, by
      simp [Instr.wf, h1, h2]⟩
  case h_16 h =>
    simp only [Option.bind_eq_some_iff, Prod.exists, rdSlotCode_iff, whole_iff] at hd
    obtain ⟨_, _, _, ⟨h1, h2, rfl⟩, rfl, rfl⟩ := hd
    exact ⟨congrArg (fun k => some (k, _)) (hk _ h).symm, by
      simp [Instr.wf, h1, h2]⟩
  case h_17 h =>
    obtain ⟨_, _, _, h1, h2, h3, rfl, rfl⟩ := slotCodeByte_iff.1 hd
    exact ⟨congrArg (fun k => some (k, _)) (hk _ h).symm, by
      simp [Instr.wf, h1, h2, h3]⟩
  case h_18 h =>
    simp only [Option.bind_eq_some_iff, Prod.exists, rd32_iff, rd8_iff, rdSlotCode_iff, whole_iff] at hd
    obtain ⟨_, _, _, ⟨h1, h2, rfl⟩, _, _, ⟨h3, rfl⟩,
      _, _, ⟨h4, rfl⟩, _, _, ⟨h5, rfl⟩, rfl, rfl⟩ := hd
    exact ⟨congrArg (fun k => some (k, _)) (hk _ h).symm, by
      simp [Instr.wf, h1, h2, h3, h4, h5]⟩
  case h_19 h =>
    obtain ⟨_, _, _, h1, h2, h3, rfl, rfl⟩ := slotCodeByte_iff.1 hd
    exact ⟨congrArg (fun k => some (k, _)) (hk _ h).symm, by
      simp [Instr.wf, h1, h2, h3]⟩
  case h_20 h =>
    obtain ⟨_, _, _, h1, h2, h3, rfl, rfl⟩ := slotCodeByte_iff.1 hd
    exact ⟨congrArg (fun k => some (k, _)) (hk _ h).symm, by
      simp [Instr.wf, h1, h2, h3]⟩
  case h_21 h =>
    obtain ⟨_, _, _, h1, h2, h3, rfl, rfl⟩ := slotCodeByte_iff.1 hd
    exact ⟨congrArg (fun k => some (k, _)) (hk _ h).symm, by
      simp [Instr.wf, h1, h2, h3]⟩
  case h_22 h =>
    obtain ⟨_, _, _, h1, h2, h3, rfl, rfl⟩ := slotCodeByte_iff.1 hd
    exact ⟨congrArg (fun k => some (k, _)) (hk _ h).symm, by
      simp [Instr.wf, h1, h2, h3]⟩
  case h_23 h =>
    simp only [Option.bind_eq_some_iff, Prod.exists, rd16_iff, rd8_iff, whole_iff] at hd
    obtain ⟨_, _, ⟨h1, rfl⟩, _, _, ⟨h2, rfl⟩, _, _, ⟨h3, rfl⟩, rfl, rfl⟩ := hd
    exact ⟨congrArg (fun k => some (k, _)) (hk _ h).symm, by
      simp [Instr.wf, h1, h2, h3]⟩
  case h_24 h =>
    simp only [Option.bind_eq_some_iff, Prod.exists, rd16_iff, rd8_iff, whole_iff] at hd
    obtain ⟨_, _, ⟨h1, rfl⟩, _, _, ⟨h2, rfl⟩, _, _, ⟨h3, rfl⟩, rfl, rfl⟩ := hd
    exact ⟨congrArg (fun k => some (k, _)) (hk _ h).symm, by
      simp [Instr.wf, h1, h2, h3]⟩
  case h_25 h =>
    simp only [Option.bind_eq_some_iff, Prod.exists, rd8_iff, whole_iff] at hd
    obtain ⟨_, _, ⟨h1, rfl⟩, rfl, rfl⟩ := hd
    exact ⟨congrArg (fun k => some (k, _)) (hk _ h).symm, by
      simp [Instr.wf, h1]⟩
  case h_26 h =>
    obtain ⟨rfl, rfl⟩ := whole_iff.1 hd
    exact ⟨congrArg (fun k => some (k, _)) (hk _ h).symm, by
      simp [Instr.wf]⟩
  case h_27 h =>
    obtain ⟨rfl, rfl⟩ := whole_iff.1 hd
    exact ⟨congrArg (fun k => some (k, _)) (hk _ h).symm, by
      simp [Instr.wf]⟩
  case h_28 h =>
    simp only [Option.bind_eq_some_iff, Prod.exists, rd8_iff, whole_iff] at hd
    obtain ⟨_, _, ⟨h1, rfl⟩, rfl, rfl⟩ := hd
    exact ⟨congrArg (fun k => some (k, _)) (hk _ h).symm, by
      simp [Instr.wf, h1]⟩
  case h_29 h =>
    simp only [Option.bind_eq_some_iff, Prod.exists, rd16_iff, rd8_iff, whole_iff] at hd
    obtain ⟨_, _, ⟨h1, rfl⟩, _, _, ⟨h2, rfl⟩, rfl, rfl⟩ := hd
    exact ⟨congrArg (fun k => some (k, _)) (hk _ h).symm, by
      simp [Instr.wf, h1, h2]⟩
  case h_30 h =>
    simp only [Option.bind_eq_some_iff, Prod.exists, rd16_iff, rd8_iff, whole_iff] at hd
    obtain ⟨_, _, ⟨h1, rfl⟩, _, _, ⟨h2, rfl⟩, rfl, rfl⟩ := hd
    exact ⟨congrArg (fun k => some (k, _)) (hk _ h).symm, by
      simp [Instr.wf, h1, h2]⟩
  case h_31 h =>
    simp only [Option.bind_eq_some_iff, Prod.exists, rd16_iff, whole_iff] at hd
    obtain ⟨_, _, ⟨h1, rfl⟩, rfl, rfl⟩ := hd
    exact ⟨congrArg (fun k => some (k, _)) (hk _ h).symm, by
      simp [Instr.wf, h1]⟩
  case h_32 h =>
    simp only [Option.bind_eq_some_iff, Prod.exists, rd8_iff, whole_iff] at hd
    obtain ⟨_, _, ⟨h1, rfl⟩, _, _, ⟨h2, rfl⟩, rfl, rfl⟩ := hd
    exact ⟨congrArg (fun k => some (k, _)) (hk _ h).symm, by
      simp [Instr.wf, h1, h2]⟩
  case h_33 h =>
    simp only [Option.bind_eq_some_iff, Prod.exists, rd8_iff, whole_iff] at hd
    obtain ⟨_, _, ⟨h1, rfl⟩, rfl, rfl⟩ := hd
    exact ⟨congrArg (fun k => some (k, _)) (hk _ h).symm, by
      simp [Instr.wf, h1]⟩
  case h_34 h =>
    simp only [Option.bind_eq_some_iff, Prod.exists, rd8_iff, whole_iff] at hd
    obtain ⟨_, _, ⟨h1, rfl⟩, rfl, rfl⟩ := hd
    exact ⟨congrArg (fun k => some (k, _)) (hk _ h).symm, by
      simp [Instr.wf, h1]⟩
  case h_35 => cases hd

theorem encodeRequest_length {i : Instr} {k : Byte} {b : List Byte} (hw : i.wf = true)
    (he : encodeRequest i = some (k, b)) : b.length ≤ 255 := by
  cases i with
  | addLine slot code l =>
    cases he
    simp only [Instr.wf, LineFields.wf, fitsSlotCode, fits8, fits16, Bool.and_eq_true,
      decide_eq_true_eq] at hw
    simp [slotCodeBytes, be16, counted]
    omega
  | assign slot code line kind share weights =>
    cases he
    simp only [Instr.wf, Bool.and_eq_true, beq_iff_eq] at hw
    simp [slotCodeBytes, be16, hw]
  | configure fields | start | signOn operator level | signOff slot | openTab slot
  | voidLine slot code line | wasteLine slot code line | closeTab slot code | lastCall slot
  | split slot code count | discount slot code share percent | send slot code priority
  | retryTicket slot number | collect slot number | take slot code share
  | pay slot code share tender tendered | giveBack slot code share | takeRemote slot code share
  | forceRelease slot code share | clearOrphan slot code share | bump slot origin number
  | reprint slot origin number | clearPrinter slot | fetch | queryState | queryStation station
  | queryTab code first | queryShare code share | queryTicket number | queryQueue part first
  | queryBorrowed position | queryTotals slot =>
    cases he
    simp [slotCodeBytes, be16, be32]
  | _ => cases he

/-- Settles O12. -/
theorem requestBytesRoundTrip : Obligations.RequestBytesRoundTrip :=
  ⟨fun _ _ _ hw he => ⟨decode_of_encode hw he, encodeRequest_length hw he⟩,
    fun _ _ _ hb hd => encode_of_decode hb hd⟩

end Sys2Proof.Machine
end

section
-- One proof at a time: side by side, their threads' stacks outgrow the check's memory.
set_option Elab.async false
/-! Frames and the characters they are sent as. -/

namespace Sys2Proof.Machine

/-! ## The codes of a frame's values (Table 1-3) -/

theorem roleOfCode_iff {n : Nat} {r : Role} : Role.ofCode n = some r ↔ n = Role.code r := by
  match n with
  | 0 | 1 => cases r <;> decide
  | n + 2 => cases r <;> simp [Role.ofCode, Role.code]

theorem printerOfCode_iff {n : Nat} {p : PrinterState} :
    PrinterState.ofCode n = some p ↔ n = PrinterState.code p := by
  match n with
  | 0 | 1 | 2 | 3 => cases p <;> decide
  | n + 4 => cases p <;> simp [PrinterState.ofCode, PrinterState.code]

theorem bandOfCode_iff {n : Nat} {b : Band} : Band.ofCode n = some b ↔ n = Band.code b := by
  match n with
  | 0 | 1 => cases b <;> decide
  | n + 2 => cases b <;> simp [Band.ofCode, Band.code]

theorem kitchenStateOfCode_iff {n : Nat} {k : KitchenState} :
    KitchenState.ofCode n = some k ↔ n = KitchenState.code k := by
  match n with
  | 0 | 1 | 2 | 3 | 4 => cases k <;> decide
  | n + 5 => cases k <;> simp [KitchenState.ofCode, KitchenState.code]

theorem withdrawOutcomeOfCode_iff {n : Nat} {o : WithdrawOutcome} :
    WithdrawOutcome.ofCode n = some o ↔ n = WithdrawOutcome.code o := by
  match n with
  | 0 | 1 | 2 => cases o <;> decide
  | n + 3 => cases o <;> simp [WithdrawOutcome.ofCode, WithdrawOutcome.code]

theorem denyReasonOfCode_iff {n : Nat} {d : DenyReason} :
    DenyReason.ofCode n = some d ↔ n = DenyReason.code d := by
  match n with
  | 0 | 1 | 2 | 3 | 4 | 5 | 6 | 7 => cases d <;> decide
  | n + 8 => cases d <;> simp [DenyReason.ofCode, DenyReason.code]

theorem tenderOfCode_iff {n : Nat} {t : Tender} : Tender.ofCode n = some t ↔ n = Tender.code t := by
  match n with
  | 0 | 1 => cases t <;> decide
  | n + 2 => cases t <;> simp [Tender.ofCode, Tender.code]

theorem closeOutcomeOfCode_iff {n : Nat} {o : CloseOutcome} :
    CloseOutcome.ofCode n = some o ↔ n = CloseOutcome.code o := by
  match n with
  | 0 | 1 | 2 => cases o <;> decide
  | n + 3 => cases o <;> simp [CloseOutcome.ofCode, CloseOutcome.code]

theorem flagOfCode_iff {n : Nat} {b : Bool} : flagOfCode n = some b ↔ n = b.toNat := by
  match n with
  | 0 | 1 => cases b <;> decide
  | n + 2 => cases b <;> simp [flagOfCode]

theorem flagByte_eq (b : Bool) : flagByte b = byte b.toNat := by cases b <;> rfl

/-! The code of a value is read back as that value. -/

theorem roleOfCode_code (r : Role) : Role.ofCode (Role.code r) = some r := roleOfCode_iff.2 rfl
theorem printerOfCode_code (p : PrinterState) : PrinterState.ofCode (PrinterState.code p) = some p :=
  printerOfCode_iff.2 rfl
theorem bandOfCode_code (b : Band) : Band.ofCode (Band.code b) = some b := bandOfCode_iff.2 rfl
theorem kitchenStateOfCode_code (k : KitchenState) : KitchenState.ofCode (KitchenState.code k) = some k :=
  kitchenStateOfCode_iff.2 rfl
theorem withdrawOutcomeOfCode_code (o : WithdrawOutcome) : WithdrawOutcome.ofCode (WithdrawOutcome.code o) = some o :=
  withdrawOutcomeOfCode_iff.2 rfl
theorem denyReasonOfCode_code (d : DenyReason) : DenyReason.ofCode (DenyReason.code d) = some d :=
  denyReasonOfCode_iff.2 rfl
theorem tenderOfCode_code (t : Tender) : Tender.ofCode (Tender.code t) = some t :=
  tenderOfCode_iff.2 rfl
theorem closeOutcomeOfCode_code (o : CloseOutcome) : CloseOutcome.ofCode (CloseOutcome.code o) = some o :=
  closeOutcomeOfCode_iff.2 rfl
theorem flagOfCode_toNat (b : Bool) : flagOfCode b.toNat = some b := flagOfCode_iff.2 rfl

/-! Every coded value fits its byte. -/

theorem roleCode_lt (r : Role) : Role.code r < 256 := by cases r <;> decide
theorem printerCode_lt (p : PrinterState) : PrinterState.code p < 256 := by cases p <;> decide
theorem bandCode_lt (b : Band) : Band.code b < 256 := by cases b <;> decide
theorem kitchenStateCode_lt (k : KitchenState) : KitchenState.code k < 256 := by cases k <;> decide
theorem withdrawOutcomeCode_lt (o : WithdrawOutcome) : WithdrawOutcome.code o < 256 := by
  cases o <;> decide
theorem denyReasonCode_lt (d : DenyReason) : DenyReason.code d < 256 := by cases d <;> decide
theorem tenderCode_lt (t : Tender) : Tender.code t < 256 := by cases t <;> decide
theorem closeOutcomeCode_lt (o : CloseOutcome) : CloseOutcome.code o < 256 := by cases o <;> decide
theorem flagCode_lt (b : Bool) : b.toNat < 256 := by cases b <;> decide

/-! ## Fields of a body -/

theorem rdRef_iff {bs r : List Byte} {ref : Ref} :
    rdRef bs = some (ref, r) ↔ ref.number < 65536 ∧ ref.gen < 256 ∧ bs = refBytes ref ++ r := by
  simp only [rdRef, Option.bind_eq_bind, Option.bind_eq_some_iff, Prod.exists, rd16_iff, rd8_iff,
    Option.some.injEq, Prod.mk.injEq]
  constructor
  · rintro ⟨_, _, ⟨h1, rfl⟩, _, _, ⟨h2, rfl⟩, rfl, rfl⟩
    exact ⟨h1, h2, rfl⟩
  · rintro ⟨h1, h2, rfl⟩
    exact ⟨_, _, ⟨h1, rfl⟩, _, _, ⟨h2, rfl⟩, rfl, rfl⟩

theorem rdRef_bytes {ref : Ref} (h : Ref.valid ref = true) (r : List Byte) :
    rdRef (refBytes ref ++ r) = some (ref, r) := by
  simp only [Ref.valid, Bool.and_eq_true, decide_eq_true_eq] at h
  exact rdRef_iff.2 ⟨by omega, by omega, rfl⟩

theorem rdAmounts_bytes {a : Amounts} (h : Amounts.valid a = true) (r : List Byte) :
    rdAmounts (amountsBytes a ++ r) = some (a, r) := by
  simp only [Amounts.valid, Bool.and_eq_true, decide_eq_true_eq] at h
  have hlt : ∀ {n m : Nat}, n ≤ m → m < 4294967296 → n < 4294967296 := fun h1 h2 => by omega
  obtain ⟨⟨⟨⟨⟨⟨⟨⟨h1, h2⟩, h3⟩, h4⟩, h5⟩, h6⟩, h7⟩, h8⟩, h9⟩ := h
  simp [rdAmounts, amountsBytes, be32, rd32_bytes, hlt h1, hlt h2, hlt h3, hlt h4, hlt h5, hlt h6,
    hlt h7, hlt h8, hlt h9]

theorem bytes_of_rdAmounts {bs r : List Byte} {a : Amounts} (h : rdAmounts bs = some (a, r)) :
    bs = amountsBytes a ++ r := by
  simp only [rdAmounts, Option.bind_eq_bind, Option.bind_eq_some_iff, Prod.exists, rd32_iff,
    Option.some.injEq, Prod.mk.injEq] at h
  obtain ⟨_, _, ⟨-, rfl⟩, _, _, ⟨-, rfl⟩, _, _, ⟨-, rfl⟩, _, _, ⟨-, rfl⟩, _, _, ⟨-, rfl⟩,
    _, _, ⟨-, rfl⟩, _, _, ⟨-, rfl⟩, _, _, ⟨-, rfl⟩, _, _, ⟨-, rfl⟩, rfl, rfl⟩ := h
  rfl

theorem rdItems_bytes {items : List OfferItem} (h : items.all OfferItem.valid = true) (r : List Byte) :
    rdItems items.length (items.flatMap itemBytes ++ r) = some (items, r) := by
  induction items with
  | nil => rfl
  | cons i is ih =>
    obtain ⟨hi, his⟩ := Bool.and_eq_true_iff.1 (List.all_cons ▸ h)
    simp only [OfferItem.valid, Bool.and_eq_true, decide_eq_true_eq] at hi
    obtain ⟨⟨⟨⟨⟨⟨h1, h2⟩, h3⟩, h4⟩, h5⟩, h6⟩, h7⟩ := hi
    have hq : i.qty < 256 := by omega
    have hl : i.label.length < 256 := by omega
    have hn : i.note.length < 256 := by omega
    simp [rdItems, itemBytes, counted, rd8_byte, rdCounted_bytes, hq, hl, hn, ih his]

theorem bytes_of_rdItems {n : Nat} {bs r : List Byte} {items : List OfferItem}
    (h : rdItems n bs = some (items, r)) : items.length = n ∧ bs = items.flatMap itemBytes ++ r := by
  induction n generalizing bs items with
  | zero =>
    cases h
    exact ⟨rfl, rfl⟩
  | succ n ih =>
    simp only [rdItems, Option.bind_eq_bind, Option.bind_eq_some_iff, Prod.exists, rd8_iff,
      rdCounted_iff, Option.some.injEq, Prod.mk.injEq] at h
    obtain ⟨_, _, ⟨-, rfl⟩, _, _, ⟨-, rfl⟩, _, _, ⟨-, rfl⟩, _, _, hitems, rfl, rfl⟩ := h
    obtain ⟨hlen, rfl⟩ := ih hitems
    exact ⟨by simp [hlen], by simp [itemBytes, counted]⟩

/-! ## Bodies -/

theorem flatMap_itemBytes_length {items : List OfferItem} (h : items.all OfferItem.valid = true) :
    (items.flatMap itemBytes).length ≤ 27 * items.length := by
  induction items with
  | nil => simp
  | cons i is ih =>
    obtain ⟨hi, his⟩ := Bool.and_eq_true_iff.1 (List.all_cons ▸ h)
    have hlen := ih his
    simp only [OfferItem.valid, Bool.and_eq_true, decide_eq_true_eq] at hi
    simp only [List.flatMap_cons, List.length_append, itemBytes, counted, List.length_cons]
    omega

/-- A body in range has at most 240 bytes (R5). -/
theorem body_bytes_length_le {b : FrameBody} (h : FrameBody.valid b = true) :
    (FrameBody.bytes b).length ≤ 240 := by
  cases b with
  | offer o =>
    simp only [FrameBody.valid, OfferFields.valid, Bool.and_eq_true, decide_eq_true_eq] at h
    have hlen := flatMap_itemBytes_length h.2
    simp only [FrameBody.bytes, refBytes, be16, List.length_append, List.length_cons, List.length_nil]
    omega
  | _ => simp [FrameBody.bytes, refBytes, amountsBytes, be16, be32]

theorem byte_adjustmentByte (i : Int) (h1 : -2 ≤ i) (h2 : i ≤ 2) :
    (byte (adjustmentByte i).toNat).toInt = i := by
  rw [byte_toNat_self, adjustmentByte, BitVec.toInt_ofInt]
  have : Int.bmod i (2 ^ 8) = i := by
    rw [Int.bmod_eq_of_le] <;> omega
  exact this

theorem adjustmentByte_toInt (n : Nat) : adjustmentByte (byte n).toInt = byte n := by
  rw [adjustmentByte, BitVec.ofInt_toInt]

theorem adjustmentByte_eq (i : Int) : adjustmentByte i = byte (adjustmentByte i).toNat :=
  (byte_toNat_self _).symm

/-- A body in range is read back from its bytes (R7). -/
theorem rdBody_bytes {b : FrameBody} (h : FrameBody.valid b = true) (r : List Byte) :
    rdBody (FrameBody.kind b) (FrameBody.bytes b ++ r) = some (b, r) := by
  cases b with
  | presence p =>
    simp only [FrameBody.valid, PresenceFields.valid, Bool.and_eq_true, decide_eq_true_eq] at h
    obtain ⟨⟨⟨⟨hc, h1⟩, h2⟩, h3⟩, h4⟩ := h
    have hcls : p.cls < 256 := by
      split at hc
      · have : p.cls = 0 := by simpa using hc
        omega
      · simp only [Bool.and_eq_true, decide_eq_true_eq] at hc
        omega
    have hmark : p.mark < 65536 := by omega
    have hdepth : p.depth < 256 := by omega
    have hfree : p.freeSlots < 256 := by omega
    simp [rdBody, FrameBody.kind, FrameBody.bytes, be16, rd8_byte, rd16_bytes, flagByte_eq,
      roleCode_lt, printerCode_lt, flagCode_lt, roleOfCode_code, printerOfCode_code,
      flagOfCode_toNat, hcls, hmark, hdepth, hfree]
  | offer o =>
    simp only [FrameBody.valid, OfferFields.valid, Bool.and_eq_true, decide_eq_true_eq] at h
    obtain ⟨⟨⟨⟨⟨⟨hr, h1⟩, h2⟩, h3⟩, h4⟩, h5⟩, h6⟩ := h
    have hcls : o.cls < 256 := by omega
    have hatt : o.attempt < 256 := by omega
    have hlen : o.items.length < 256 := by omega
    simp [rdBody, FrameBody.kind, FrameBody.bytes, rdRef_bytes hr, rd8_byte, bandCode_lt,
      bandOfCode_code, rdItems_bytes h6, hcls, hatt, hlen]
  | bid origin ref depth =>
    simp only [FrameBody.valid, stationNumber, Bool.and_eq_true, decide_eq_true_eq] at h
    obtain ⟨⟨⟨h1, h2⟩, hr⟩, h3⟩ := h
    have ho : origin < 256 := by omega
    have hd : depth < 256 := by omega
    simp [rdBody, FrameBody.kind, FrameBody.bytes, rdRef_bytes hr, rd8_byte, ho, hd]
  | award ref awardee mask =>
    simp only [FrameBody.valid, stationNumber, Bool.and_eq_true, decide_eq_true_eq] at h
    obtain ⟨⟨hr, h1, h2⟩, h3⟩ := h
    have ha : awardee < 256 := by omega
    simp [rdBody, FrameBody.kind, FrameBody.bytes, rdRef_bytes hr, rd8, byte_toNat ha,
      byte_toNat_self]
  | progress ref ks mask =>
    simp [rdBody, FrameBody.kind, FrameBody.bytes, rdRef_bytes h, rd8,
      byte_toNat (kitchenStateCode_lt ks), kitchenStateOfCode_code, byte_toNat_self]
  | withdraw ref pos =>
    simp only [FrameBody.valid, Bool.and_eq_true, decide_eq_true_eq] at h
    have hp : pos < 256 := by omega
    simp [rdBody, FrameBody.kind, FrameBody.bytes, rdRef_bytes h.1, rd8_byte, hp]
  | withdrawReply ref pos out e =>
    simp only [FrameBody.valid, Bool.and_eq_true, decide_eq_true_eq] at h
    have hp : pos < 256 := by omega
    simp [rdBody, FrameBody.kind, FrameBody.bytes, rdRef_bytes h.1, rd8_byte, hp, flagByte_eq,
      withdrawOutcomeCode_lt, withdrawOutcomeOfCode_code, flagCode_lt, flagOfCode_toNat]
  | revoke ref => simp [rdBody, FrameBody.kind, FrameBody.bytes, rdRef_bytes h]
  | collect ref => simp [rdBody, FrameBody.kind, FrameBody.bytes, rdRef_bytes h]
  | shareAsk code share | shareReturn code share =>
    simp only [FrameBody.valid, shareRefValid, Bool.and_eq_true, decide_eq_true_eq] at h
    have hc : code < 65536 := by omega
    have hs : share < 256 := by omega
    simp [rdBody, FrameBody.kind, FrameBody.bytes, be16, rd16_bytes, rd8_byte, hc, hs]
  | shareGrant code share a =>
    simp only [FrameBody.valid, shareRefValid, Bool.and_eq_true, decide_eq_true_eq] at h
    have hc : code < 65536 := by omega
    have hs : share < 256 := by omega
    simp [rdBody, FrameBody.kind, FrameBody.bytes, be16, rd16_bytes, rd8_byte, hc, hs,
      rdAmounts_bytes h.2]
  | shareDeny code share reason =>
    simp only [FrameBody.valid, shareRefValid, Bool.and_eq_true, decide_eq_true_eq] at h
    have hc : code < 65536 := by omega
    have hs : share < 256 := by omega
    simp [rdBody, FrameBody.kind, FrameBody.bytes, be16, rd16_bytes, rd8_byte, hc, hs,
      denyReasonCode_lt, denyReasonOfCode_code]
  | shareSettle code share tender settled adj =>
    simp only [FrameBody.valid, shareRefValid, Bool.and_eq_true, decide_eq_true_eq] at h
    obtain ⟨⟨⟨⟨h1, h2⟩, h3⟩, h4⟩, h5⟩ := h
    have hc : code < 65536 := by omega
    have hs : share < 256 := by omega
    have hn : settled < 4294967296 := by omega
    have hb : (adjustmentByte adj).toNat < 256 := (adjustmentByte adj).isLt
    rw [FrameBody.bytes, adjustmentByte_eq]
    simp [rdBody, FrameBody.kind, be16, be32, rd16_bytes, rd8_byte, rd32_bytes, hc, hs, hn, hb,
      tenderCode_lt, tenderOfCode_code, byte_adjustmentByte adj h4 h5]
  | shareClose code share out =>
    simp only [FrameBody.valid, shareRefValid, Bool.and_eq_true, decide_eq_true_eq] at h
    have hc : code < 65536 := by omega
    have hs : share < 256 := by omega
    simp [rdBody, FrameBody.kind, FrameBody.bytes, be16, rd16_bytes, rd8_byte, hc, hs,
      closeOutcomeCode_lt, closeOutcomeOfCode_code]
  | lastCall => rfl

/-- What is read as a body of a kind is that body's bytes. -/
theorem bytes_of_rdBody {kind : Nat} {bs r : List Byte} {b : FrameBody}
    (h : rdBody kind bs = some (b, r)) : kind = FrameBody.kind b ∧ bs = FrameBody.bytes b ++ r := by
  unfold rdBody at h
  simp only [Option.bind_eq_bind] at h
  split at h
  case h_1 =>
    simp only [Option.bind_eq_some_iff, Prod.exists, rd8_iff, rd16_iff, roleOfCode_iff,
      flagOfCode_iff, printerOfCode_iff, Option.some.injEq, Prod.mk.injEq] at h
    obtain ⟨_, _, ⟨-, rfl⟩, _, _, ⟨-, rfl⟩, _, _, ⟨-, rfl⟩, _, _, ⟨-, rfl⟩, _, _, ⟨-, rfl⟩,
      _, _, ⟨-, rfl⟩, _, _, ⟨-, rfl⟩, _, _, ⟨-, rfl⟩, _, rfl, _, rfl, _, rfl, _, rfl,
      rfl, rfl⟩ := h
    exact ⟨rfl, by simp [FrameBody.bytes, flagByte_eq, be16]⟩
  case h_2 =>
    simp only [Option.bind_eq_some_iff, Prod.exists, rdRef_iff, rd8_iff, bandOfCode_iff,
      Option.some.injEq, Prod.mk.injEq] at h
    obtain ⟨_, _, ⟨-, -, rfl⟩, _, _, ⟨-, rfl⟩, _, _, ⟨-, rfl⟩, _, _, ⟨-, rfl⟩, _, _, ⟨-, rfl⟩,
      _, _, hi, _, rfl, rfl, rfl⟩ := h
    obtain ⟨rfl, rfl⟩ := bytes_of_rdItems hi
    exact ⟨rfl, by simp [FrameBody.bytes]⟩
  case h_3 =>
    simp only [Option.bind_eq_some_iff, Prod.exists, rd8_iff, rdRef_iff, Option.some.injEq,
      Prod.mk.injEq] at h
    obtain ⟨_, _, ⟨-, rfl⟩, _, _, ⟨-, -, rfl⟩, _, _, ⟨-, rfl⟩, rfl, rfl⟩ := h
    exact ⟨rfl, by simp [FrameBody.bytes]⟩
  case h_4 =>
    simp only [Option.bind_eq_some_iff, Prod.exists, rdRef_iff, rd8_iff, Option.some.injEq,
      Prod.mk.injEq] at h
    obtain ⟨_, _, ⟨-, -, rfl⟩, _, _, ⟨-, rfl⟩, _, _, ⟨-, rfl⟩, rfl, rfl⟩ := h
    exact ⟨rfl, by simp [FrameBody.bytes]⟩
  case h_5 =>
    simp only [Option.bind_eq_some_iff, Prod.exists, rdRef_iff, rd8_iff, kitchenStateOfCode_iff,
      Option.some.injEq, Prod.mk.injEq] at h
    obtain ⟨_, _, ⟨-, -, rfl⟩, _, _, ⟨-, rfl⟩, _, _, ⟨-, rfl⟩, _, rfl, rfl, rfl⟩ := h
    exact ⟨rfl, by simp [FrameBody.bytes]⟩
  case h_6 =>
    simp only [Option.bind_eq_some_iff, Prod.exists, rdRef_iff, rd8_iff, Option.some.injEq,
      Prod.mk.injEq] at h
    obtain ⟨_, _, ⟨-, -, rfl⟩, _, _, ⟨-, rfl⟩, rfl, rfl⟩ := h
    exact ⟨rfl, by simp [FrameBody.bytes]⟩
  case h_7 =>
    simp only [Option.bind_eq_some_iff, Prod.exists, rdRef_iff, rd8_iff,
      withdrawOutcomeOfCode_iff, flagOfCode_iff, Option.some.injEq, Prod.mk.injEq] at h
    obtain ⟨_, _, ⟨-, -, rfl⟩, _, _, ⟨-, rfl⟩, _, _, ⟨-, rfl⟩, _, _, ⟨-, rfl⟩, _, rfl, _, rfl,
      rfl, rfl⟩ := h
    exact ⟨rfl, by simp [FrameBody.bytes, flagByte_eq]⟩
  case h_8 =>
    simp only [Option.bind_eq_some_iff, Prod.exists, rdRef_iff, Option.some.injEq, Prod.mk.injEq] at h
    obtain ⟨_, _, ⟨-, -, rfl⟩, rfl, rfl⟩ := h
    exact ⟨rfl, by simp [FrameBody.bytes]⟩
  case h_9 =>
    simp only [Option.bind_eq_some_iff, Prod.exists, rdRef_iff, Option.some.injEq, Prod.mk.injEq] at h
    obtain ⟨_, _, ⟨-, -, rfl⟩, rfl, rfl⟩ := h
    exact ⟨rfl, by simp [FrameBody.bytes]⟩
  case h_10 =>
    simp only [Option.bind_eq_some_iff, Prod.exists, rd16_iff, rd8_iff, Option.some.injEq,
      Prod.mk.injEq] at h
    obtain ⟨_, _, ⟨-, rfl⟩, _, _, ⟨-, rfl⟩, rfl, rfl⟩ := h
    exact ⟨rfl, by simp [FrameBody.bytes, be16]⟩
  case h_11 =>
    simp only [Option.bind_eq_some_iff, Prod.exists, rd16_iff, rd8_iff, Option.some.injEq,
      Prod.mk.injEq] at h
    obtain ⟨_, _, ⟨-, rfl⟩, _, _, ⟨-, rfl⟩, _, _, ha, rfl, rfl⟩ := h
    obtain rfl := bytes_of_rdAmounts ha
    exact ⟨rfl, by simp [FrameBody.bytes, be16]⟩
  case h_12 =>
    simp only [Option.bind_eq_some_iff, Prod.exists, rd16_iff, rd8_iff, denyReasonOfCode_iff,
      Option.some.injEq, Prod.mk.injEq] at h
    obtain ⟨_, _, ⟨-, rfl⟩, _, _, ⟨-, rfl⟩, _, _, ⟨-, rfl⟩, _, rfl, rfl, rfl⟩ := h
    exact ⟨rfl, by simp [FrameBody.bytes, be16]⟩
  case h_13 =>
    simp only [Option.bind_eq_some_iff, Prod.exists, rd16_iff, rd8_iff, rd32_iff,
      tenderOfCode_iff, Option.some.injEq, Prod.mk.injEq] at h
    obtain ⟨_, _, ⟨-, rfl⟩, _, _, ⟨-, rfl⟩, _, _, ⟨-, rfl⟩, _, _, ⟨-, rfl⟩, _, _, ⟨-, rfl⟩,
      _, rfl, rfl, rfl⟩ := h
    exact ⟨rfl, by simp [FrameBody.bytes, be16, be32, adjustmentByte_toInt]⟩
  case h_14 =>
    simp only [Option.bind_eq_some_iff, Prod.exists, rd16_iff, rd8_iff, Option.some.injEq,
      Prod.mk.injEq] at h
    obtain ⟨_, _, ⟨-, rfl⟩, _, _, ⟨-, rfl⟩, rfl, rfl⟩ := h
    exact ⟨rfl, by simp [FrameBody.bytes, be16]⟩
  case h_15 =>
    simp only [Option.bind_eq_some_iff, Prod.exists, rd16_iff, rd8_iff, closeOutcomeOfCode_iff,
      Option.some.injEq, Prod.mk.injEq] at h
    obtain ⟨_, _, ⟨-, rfl⟩, _, _, ⟨-, rfl⟩, _, _, ⟨-, rfl⟩, _, rfl, rfl, rfl⟩ := h
    exact ⟨rfl, by simp [FrameBody.bytes, be16]⟩
  case h_16 =>
    cases h
    exact ⟨rfl, rfl⟩
  case h_17 => cases h

/-! ## Frames -/

theorem frame_bytes_eq (f : Frame) : Frame.bytes f
    = byte f.dest :: byte f.src :: byte (FrameBody.kind f.body)
      :: byte (FrameBody.bytes f.body).length
      :: (FrameBody.bytes f.body ++ be16 (crc (Frame.payload f)).toNat) := rfl

theorem kind_lt (b : FrameBody) : FrameBody.kind b < 256 := by
  cases b <;> simp [FrameBody.kind]

theorem src_lt {f : Frame} (h : Frame.valid f = true) : f.dest < 256 ∧ f.src < 256 := by
  simp only [Frame.valid, stationNumber, Bool.and_eq_true, decide_eq_true_eq] at h
  omega

theorem body_valid {f : Frame} (h : Frame.valid f = true) : FrameBody.valid f.body = true := by
  simp only [Frame.valid, Bool.and_eq_true] at h
  exact h.2

/-- The characters of a frame with fields in range are read as that frame (R11). -/
theorem parseFrame_bytes {f : Frame} (h : Frame.valid f = true) :
    parseFrame (Frame.bytes f) = some f := by
  have hb := body_valid h
  have hle := body_bytes_length_le hb
  obtain ⟨hd, hs⟩ := src_lt h
  have hlen : (byte (FrameBody.bytes f.body).length).toNat = (FrameBody.bytes f.body).length :=
    byte_toNat (by omega)
  have hbody := rdBody_bytes hb []
  rw [List.append_nil] at hbody
  rw [frame_bytes_eq]
  simp only [parseFrame, hlen, List.take_left, List.drop_left, byte_toNat (kind_lt f.body), hbody]
  rw [if_pos ⟨by simp [be16], hle, rfl⟩]
  simp [byte_toNat hd, byte_toNat hs, h]

/-- Characters that are read as a frame are the characters of that frame (R11). -/
theorem bytes_of_parseFrame {bs : List Byte} {f : Frame} (h : parseFrame bs = some f) :
    bs = Frame.bytes f ∧ Frame.valid f = true := by
  unfold parseFrame at h
  split at h
  case h_2 => cases h
  case h_1 dest src kind len rest =>
    simp only [Option.ite_none_right_eq_some] at h
    obtain ⟨⟨hlen, hle, hcrc⟩, h⟩ := h
    split at h
    case h_2 => cases h
    case h_1 body hbody =>
      simp only [Option.ite_none_right_eq_some, Option.some.injEq] at h
      obtain ⟨hv, rfl⟩ := h
      obtain ⟨hk, htake⟩ := bytes_of_rdBody hbody
      rw [List.append_nil] at htake
      have htl : (FrameBody.bytes body).length = len.toNat := by
        rw [← htake, List.length_take]
        omega
      refine ⟨?_, hv⟩
      have hrest : rest = FrameBody.bytes body ++ rest.drop len.toNat := by
        rw [← htake, List.take_append_drop]
      have hpay : Frame.payload ⟨dest.toNat, src.toNat, body⟩
          = dest :: src :: kind :: len :: rest.take len.toNat := by
        simp [Frame.payload, byte_toNat_self, ← hk, htl, htake]
      rw [Frame.bytes, hpay, ← hcrc, htake]
      conv_lhs => rw [hrest]
      rfl

theorem syncPattern_eq : syncPattern = List.replicate 12 false ++ [true, true, false, true] := rfl

/-- Settles O13. -/
theorem frameBytesRoundTrip : Obligations.FrameBytesRoundTrip := by
  refine ⟨fun f h => ⟨parseFrame_bytes h, frame_bytes_length f, body_bytes_length_le (body_valid h)⟩,
    fun bs f h => bytes_of_parseFrame h,
    fun f => ⟨frame_cells_length f, rfl, ?_⟩, by decide +kernel⟩
  rw [Frame.cells, List.take_append_of_le_length (by decide)]
  rfl

end Sys2Proof.Machine
end

section
-- One proof at a time: side by side, their threads' stacks outgrow the check's memory.
set_option Elab.async false
/-! The reception of frames. -/

namespace Sys2Proof.Machine

/-! ## Characters and their cells -/

theorem value_ofBool (b : Bool) : Cell.value (Cell.ofBool b) = some b := by cases b <;> rfl

theorem ofBool_of_value {c : Cell} {b : Bool} (h : Cell.value c = some b) : c = Cell.ofBool b := by
  cases c <;> cases b <;> first | rfl | cases h

theorem mapM_value_ofBool (bits : List Bool) :
    (bits.map Cell.ofBool).mapM Cell.value = some bits := by
  induction bits with
  | nil => rfl
  | cons b bs ih => simp [value_ofBool, ih]

theorem map_ofBool_of_mapM {cs : List Cell} {bits : List Bool} (h : cs.mapM Cell.value = some bits) :
    cs = bits.map Cell.ofBool := by
  induction cs generalizing bits with
  | nil =>
    cases h
    rfl
  | cons c cs ih =>
    simp only [List.mapM_cons, Option.bind_eq_bind, Option.pure_def, Option.bind_eq_some_iff,
      Option.some.injEq] at h
    obtain ⟨b, hb, bs, hbs, rfl⟩ := h
    simp [ih hbs, ofBool_of_value hb]

/-- Eight data cells spell a byte, least significant first, and are the byte's bits. -/
theorem byteOfBits_getLsbD (b : Byte) :
    byteOfBits ((List.range 8).map fun i => b.getLsbD i) = b := by
  have h : ∀ n : Fin 256, byteOfBits ((List.range 8).map fun i => (BitVec.ofFin n : Byte).getLsbD i)
      = BitVec.ofFin n := by decide +kernel
  exact h b.toFin

theorem getLsbD_byteOfBits (b0 b1 b2 b3 b4 b5 b6 b7 : Bool) :
    (List.range 8).map (fun i => (byteOfBits [b0, b1, b2, b3, b4, b5, b6, b7]).getLsbD i)
      = [b0, b1, b2, b3, b4, b5, b6, b7] := by
  revert b0 b1 b2 b3 b4 b5 b6 b7
  decide +kernel

theorem charCells_byteOfBits (mark : Bool) {bits : List Bool} (h : bits.length = 8) :
    charCells mark (byteOfBits bits) = mark :: bits := by
  match bits, h with
  | [b0, b1, b2, b3, b4, b5, b6, b7], _ =>
      exact congrArg (List.cons mark) (getLsbD_byteOfBits b0 b1 b2 b3 b4 b5 b6 b7)

/-- The cells of characters with these mark bits. -/
def cellsOf (chars : List (Bool × Byte)) : List Cell :=
  (chars.flatMap fun c => charCells c.1 c.2).map Cell.ofBool

theorem cellsOf_cons (c : Bool × Byte) (cs : List (Bool × Byte)) :
    cellsOf (c :: cs) = (charCells c.1 c.2).map Cell.ofBool ++ cellsOf cs := by
  simp [cellsOf]

theorem cellsOf_length (cs : List (Bool × Byte)) : (cellsOf cs).length = 9 * cs.length := by
  induction cs with
  | nil => rfl
  | cons c cs ih =>
    rw [cellsOf_cons, List.length_append, ih, List.length_map, charCells_length, List.length_cons]
    omega

theorem cellsOf_unmarked (bs : List Byte) :
    cellsOf (bs.map fun b => (false, b)) = (bs.flatMap (charCells false)).map Cell.ofBool := by
  simp [cellsOf, List.flatMap_map]

/-- Characters are read back from their cells (R4, R10). -/
theorem readChars_cellsOf (cs : List (Bool × Byte)) {n : Nat} (h : cs.length ≤ n) :
    readChars n (cellsOf cs) = some cs := by
  induction cs generalizing n with
  | nil => cases n <;> rfl
  | cons c cs ih =>
    match n, h with
    | n + 1, h =>
      have h9 : ((charCells c.1 c.2).map Cell.ofBool).length = 9 := rfl
      have htake : (cellsOf (c :: cs)).take 9 = (charCells c.1 c.2).map Cell.ofBool := by
        rw [cellsOf_cons, ← h9, List.take_left]
      have hdrop : (cellsOf (c :: cs)).drop 9 = cellsOf cs := by
        rw [cellsOf_cons, ← h9, List.drop_left]
      have hne : ∃ x xs, cellsOf (c :: cs) = x :: xs := ⟨_, _, cellsOf_cons c cs⟩
      obtain ⟨x, xs, hx⟩ := hne
      rw [hx] at htake hdrop ⊢
      have hbits : ((List.range 8).map fun i => c.2.getLsbD i).length = 8 := rfl
      simp only [readChars, htake, hdrop, mapM_value_ofBool, charCells, hbits, if_true,
        ih (Nat.le_of_succ_le_succ h), byteOfBits_getLsbD]

/-- Cells that are read as characters are the cells of those characters. -/
theorem cellsOf_of_readChars {n : Nat} {cells : List Cell} {cs : List (Bool × Byte)}
    (h : readChars n cells = some cs) : cells = cellsOf cs := by
  induction n generalizing cells cs with
  | zero =>
    match cells, h with
    | [], h => cases h; rfl
  | succ n ih =>
    match cells, h with
    | [], h => cases h; rfl
    | x :: xs, h =>
      simp only [readChars] at h
      split at h
      case h_2 => cases h
      case h_1 mark bits hbits =>
        split at h
        case isFalse => cases h
        case isTrue h8 =>
          split at h
          case h_2 => cases h
          case h_1 rest hrest =>
            cases h
            rw [cellsOf_cons, ← ih hrest, charCells_byteOfBits mark h8, ← map_ofBool_of_mapM hbits,
              List.take_append_drop]

/-! ## A cell in each state of the receiver (R8, R10) -/

theorem settle_hunt {accepts : Nat → Bool} {r : Receiver} (h : r.state = .hunt)
    (hs : Receiver.synced r = false) : Receiver.settle accepts r = r := by
  simp [Receiver.settle, h, hs]

theorem settle_address {accepts : Nat → Bool} {r : Receiver} (h : r.state = .address)
    (hl : r.cells.length < 9) : Receiver.settle accepts r = r := by
  simp [Receiver.settle, h, hl]

theorem settle_take {accepts : Nat → Bool} {r : Receiver} (h : r.state = .take)
    (hv : r.violation < 16) (hl : r.cells.length < 246 * 9) : Receiver.settle accepts r = r := by
  have hover : Receiver.overrun r = false := by
    simp only [Receiver.overrun, Bool.or_eq_false_iff, decide_eq_false_iff_not]
    omega
  simp [Receiver.settle, h, hover]

theorem push_hunt {accepts : Nat → Bool} {r : Receiver} (c : Cell) (n : Nat) (h : r.state = .hunt)
    (hs : Receiver.synced r = false) : Receiver.push accepts r (c, n)
      = { r with history := if c = .violation then [] else (c :: r.history).take 16 } := by
  simp [Receiver.push, settle_hunt h hs, h]

theorem push_address {accepts : Nat → Bool} {r : Receiver} (c : Cell) (n : Nat)
    (h : r.state = .address) (hl : r.cells.length < 9) : Receiver.push accepts r (c, n)
      = if c = .violation then { Receiver.fresh .hunt with openHalf := r.openHalf }
        else { r with cells := c :: r.cells } := by
  simp [Receiver.push, settle_address h hl, h, Receiver.toHunt]

theorem push_take {accepts : Nat → Bool} {r : Receiver} (c : Cell) (n : Nat) (h : r.state = .take)
    (hv : r.violation < 16) (hl : r.cells.length < 246 * 9) : Receiver.push accepts r (c, n)
      = { r with cells := c :: r.cells, violation := if c = .violation then r.violation + n else 0 } := by
  simp [Receiver.push, settle_take h hv hl, h]

/-! ## The receiver's events -/

theorem address_of_char {accepts : Nat → Bool} {r : Receiver} {mark : Bool} {d : Byte}
    (h : r.cells.reverse = (charCells mark d).map Cell.ofBool) :
    Receiver.address accepts r = if mark = true ∧ accepts d.toNat = true then
        { Receiver.fresh .take with openHalf := r.openHalf, dest := d.toNat }
      else { Receiver.fresh .hunt with openHalf := r.openHalf } := by
  have hlen : r.cells.length = 9 := by
    rw [← List.length_reverse, h]
    rfl
  have hcells : r.cells.reverse.take 9 = cellsOf [(mark, d)] := by
    rw [h, cellsOf_cons]
    rfl
  have hfirst : Receiver.firstChar r = some (mark, d) := by
    simp only [Receiver.firstChar, hlen, Nat.lt_irrefl, if_false, hcells,
      readChars_cellsOf [(mark, d)] (n := 1) (Nat.le_refl 1)]
    rfl
  unfold Receiver.address
  rw [hfirst]
  cases mark with
  | false => rfl
  | true =>
    simp only [true_and]
    rfl

/-- A transition less than two bit times after the last one: its interval enters the receiver (R2, R8). -/
theorem exec_lineTransition_running {s : State} {h : Nat} (hd : driving s = false)
    (hs : s.line.state ≠ none) (hle : s.line.since ≤ h) (h4 : h < 4) :
    ∃ t : State, exec (.lineTransition h) s = .next t
      ∧ t = { s with clock := t.clock, line := t.line, port := t.port }
      ∧ t.port = { s.port with primeLeft := t.port.primeLeft }
      ∧ t.line = { s.line with since := 0, state := some .busy,
                               rx := Receiver.interval (acceptsDest s) h s.line.rx } := by
  have hpass : ∃ st, LineCtl.pass s.line (h - s.line.since)
      = { s.line with since := h, state := some st } := by
    have hsum : min (s.line.since + (h - s.line.since)) sinceCeiling = h := by
      unfold sinceCeiling
      omega
    have hlt : h < idleHalves := h4
    unfold LineCtl.pass
    simp only [driving, Bool.or_eq_false_iff, beq_eq_false_iff_ne] at hd
    split
    · contradiction
    · next hx => exact absurd hx hd.1
    · next hx => exact absurd hx hd.2
    · simp only [hsum, hlt, if_true]
      exact ⟨_, rfl⟩
  obtain ⟨st, hpass⟩ := hpass
  have hadv : (advance (h - s.line.since) s).line = { s.line with since := h, state := some st } :=
    hpass
  have hset : settleReception (advance (h - s.line.since) s) = advance (h - s.line.since) s := by
    unfold settleReception
    rw [hadv, if_pos (show h < idleHalves from h4)]
  refine ⟨transition (advance (h - s.line.since) s), ?_, rfl, rfl, ?_⟩
  · simp only [exec, execLineTransition, hs, hd, if_false, hset]
    rfl
  · have hacc : acceptsDest (advance (h - s.line.since) s) = acceptsDest s := rfl
    unfold transition
    rw [hadv, hacc]

theorem interval_running {accepts : Nat → Bool} {r : Receiver} (h : Nat) (hr : r.state ≠ .off) :
    Receiver.interval accepts h r
      = { (decodeInterval r.openHalf h).1.foldl (Receiver.push accepts) r with
          openHalf := (decodeInterval r.openHalf h).2 } := by
  unfold Receiver.interval
  dsimp only
  split
  · contradiction
  all_goals rfl

theorem decodeInterval_idle (o : Bool) {h : Nat} (h4 : 4 ≤ h) : decodeInterval o h = ([], false) := by
  have hn : ¬h < idleHalves := Nat.not_lt.2 h4
  match h, h4 with
  | h + 4, _ => simp [decodeInterval, hn]

/-- Settles O19. -/
theorem receiverDecodesTheLine : Obligations.ReceiverDecodesTheLine := by
  refine ⟨⟨⟨rfl, rfl, rfl, rfl, rfl, rfl, fun o h h4 => decodeInterval_idle o h4⟩, ?driving, ?interval⟩,
    ?push, ?sync, ?dest, ?abandoned⟩
  case driving =>
    intro s h hd
    have hs : s.line.state ≠ none := by
      intro hn
      simp [driving, hn] at hd
    simp [exec, execLineTransition, hs, hd]
  case interval =>
    intro s h hd hs hle h4
    obtain ⟨t, he, ht, hp, hl⟩ := exec_lineTransition_running hd hs hle h4
    refine ⟨t, he, ht, hp, ?_, ?_, ?_⟩
    · rw [hl]
    · intro hr
      rw [hl, interval_off hr]
    · intro hr
      rw [hl, interval_running h hr]
  case push =>
    exact fun accepts r c n => ⟨push_hunt c n, push_address c n, push_take c n⟩
  case sync =>
    intro s h hh
    have hs : Receiver.synced s.line.rx = true := by simp [Receiver.synced, hh]
    simp only [exec, execSyncPatternMatch, h, hs, and_self, if_true]
    rfl
  case dest =>
    intro s mark d h hc
    have hlen : 9 ≤ s.line.rx.cells.length := by
      rw [← List.length_reverse, hc]
      exact Nat.le_refl 9
    simp only [exec, execDestinationCharacter, h, hlen, and_self, if_true, updRx, address_of_char hc]
  case abandoned =>
    intro s h hv
    have hover : Receiver.overrun s.line.rx = true := by
      simp only [Receiver.overrun, Bool.or_eq_true, decide_eq_true_eq]
      omega
    simp only [exec, execFrameAbandoned, h, hover, and_self, if_true]
    rfl

/-! ## The end of a reception -/

theorem unmarked_any (bs : List Byte) : ((bs.map fun b => (false, b)).any fun c => c.1) = false := by
  simp

theorem receiver_frame_iff {r : Receiver} {f : Frame} : Receiver.frame r = some f
    ↔ byte r.dest = byte f.dest ∧ Frame.valid f = true
      ∧ (Receiver.closed r).reverse
        = (((Frame.bytes f).drop 1).flatMap (charCells false)).map Cell.ofBool := by
  have hdrop : Frame.bytes f = byte f.dest :: (Frame.bytes f).drop 1 := rfl
  constructor
  · intro h
    unfold Receiver.frame at h
    split at h
    case h_2 => cases h
    case h_1 chars hchars =>
      simp only [Option.ite_none_left_eq_some, List.any_eq_true, not_exists, not_and,
        Bool.not_eq_true] at h
      obtain ⟨hmark, hparse⟩ := h
      obtain ⟨hbytes, hv⟩ := bytes_of_parseFrame hparse
      rw [hdrop, List.cons.injEq] at hbytes
      obtain ⟨hdest, hrest⟩ := hbytes
      refine ⟨hdest, hv, ?_⟩
      rw [cellsOf_of_readChars hchars, ← hrest, ← cellsOf_unmarked, List.map_map]
      congr 1
      conv_lhs => rw [← List.map_id chars]
      exact List.map_congr_left fun c hc => Prod.ext (hmark c hc) rfl
  · rintro ⟨hd, hv, hc⟩
    rw [← cellsOf_unmarked] at hc
    have hlen := congrArg List.length hc
    rw [List.length_reverse, cellsOf_length] at hlen
    have hread := readChars_cellsOf (((Frame.bytes f).drop 1).map fun b => (false, b))
      (n := (Receiver.closed r).length) (by omega)
    unfold Receiver.frame
    rw [hc, hread]
    dsimp only
    rw [unmarked_any, if_neg Bool.false_ne_true, List.map_map]
    have hmap : (Prod.snd ∘ fun b : Byte => (false, b)) = id := rfl
    rw [hmap, List.map_id, hd, ← hdrop]
    exact parseFrame_bytes hv

/-- The cells of a whole frame are too few for an abandonment, and none is a violation. -/
theorem not_overrun_of_frame {r : Receiver} {f : Frame} (hcount : Receiver.CountSound r)
    (hf : Receiver.frame r = some f) : Receiver.overrun r = false := by
  obtain ⟨_, hv, hc⟩ := receiver_frame_iff.1 hf
  have hle := body_bytes_length_le (body_valid hv)
  have hlen : r.cells.length + 1 = 9 * (5 + (FrameBody.bytes f.body).length) := by
    have h := congrArg List.length hc
    rw [List.length_reverse, List.length_map, flatMap_charCells_length, List.length_drop,
      frame_bytes_length] at h
    simp only [Receiver.closed, List.length_cons] at h
    omega
  have hzero : r.violation = 0 := by
    by_contra hne
    have hmem : Cell.violation ∈ (Receiver.closed r).reverse := by
      rw [List.mem_reverse]
      exact List.mem_cons_of_mem _ (List.mem_of_mem_head? (hcount hne).2)
    rw [hc, List.mem_map] at hmem
    obtain ⟨b, _, hb⟩ := hmem
    cases b <;> cases hb
  simp only [Receiver.overrun, hzero, Bool.or_eq_false_iff, decide_eq_false_iff_not]
  omega

theorem endReception_inbound {s : State} (hcount : Receiver.CountSound s.line.rx) :
    (endReception s).line.inbound = match Receiver.frame s.line.rx with
      | some f => if s.line.inbound.length < 8 then s.line.inbound ++ [f] else s.line.inbound
      | none => s.line.inbound := by
  cases hf : Receiver.frame s.line.rx with
  | none => simp [endReception, hf, LineCtl.enqueue]
  | some f =>
    simp only [endReception, not_overrun_of_frame hcount hf, hf, LineCtl.enqueue, Bool.false_eq_true,
      if_false]
    by_cases h8 : s.line.inbound.length < inboundCapacity
    · rw [if_pos h8]
      exact (if_pos h8).symm
    · rw [if_neg h8]
      exact (if_neg h8).symm

theorem violation_free {bits : List Bool} : Cell.violation ∉ bits.map Cell.ofBool := by
  rw [List.mem_map]
  rintro ⟨b, _, hb⟩
  cases b <;> cases hb

/-- While this station does not drive the pair, an end of reception in TAKE lets time pass and ends it. -/
theorem exec_receptionEnd {s : State} (h : s.line.rx.state = .take) (hd : driving s = false) :
    exec .receptionEnd s = .next (endReception (advance (4 - s.line.since) s)) := by
  have hset : settleAddress s = s := by simp [settleAddress, h]
  simp only [exec, execReceptionEnd, hset, h, hd, and_self, if_true]
  rfl

theorem endReception_frame (s : State) : endReception s = { s with line := { s.line with
    inbound := (endReception s).line.inbound, rx := Receiver.fresh .hunt } } := by
  unfold endReception LineCtl.enqueue
  dsimp only
  split
  · split <;> rfl
  · rfl

theorem advance_rx_of_take {s : State} (n : Nat) (h : s.line.rx.state = .take) :
    (advance n s).line.rx = s.line.rx := by
  have hidle : Receiver.goIdle s.line.rx = s.line.rx := by simp [Receiver.goIdle, h]
  show (LineCtl.pass s.line n).rx = s.line.rx
  unfold LineCtl.pass
  split
  · rfl
  · rfl
  · rfl
  · dsimp only
    rw [hidle, ite_self]

/-- Settles O20. -/
theorem receptionEndQueuesTheFrame : Obligations.ReceptionEndQueuesTheFrame := by
  refine ⟨fun s h hd hcount => ?_, fun s u h h9 hu => ?_, fun s h => ?_⟩
  · have hrx := advance_rx_of_take (4 - s.line.since) h
    obtain ⟨hw, hs, hi⟩ := pass_frame s.line (4 - s.line.since)
    have hin := endReception_inbound (s := advance (4 - s.line.since) s) (by rw [hrx]; exact hcount)
    rw [hrx, show (advance (4 - s.line.since) s).line.inbound = s.line.inbound from hi] at hin
    refine ⟨_, exec_receptionEnd h hd, ?_, ?_, ?_, ?_, ?_, ?_, ?_, ?_⟩
    · rw [endReception_frame]
      rfl
    · rw [endReception_frame]
      rfl
    · rw [endReception_frame]
    · rw [endReception_frame]
      exact hw
    · rw [endReception_frame]
      exact hs
    · intro f hv hdest hc
      rw [hin, receiver_frame_iff.2 ⟨by rw [hdest], hv, hc⟩]
    · cases hf : Receiver.frame s.line.rx with
      | none => exact .inl (by rw [hin, hf])
      | some f =>
        obtain ⟨hdest, hv, hc⟩ := receiver_frame_iff.1 hf
        by_cases h8 : s.line.inbound.length < 8
        · exact .inr ⟨f, hv, hdest.symm, hc, h8, by rw [hin, hf]; exact if_pos h8⟩
        · exact .inl (by rw [hin, hf]; exact if_neg h8)
    · intro hviol
      cases hf : Receiver.frame s.line.rx with
      | none => rw [hin, hf]
      | some f =>
        obtain ⟨_, _, hc⟩ := receiver_frame_iff.1 hf
        have hmem : Cell.violation ∈ (Receiver.closed s.line.rx).reverse := by
          rw [List.mem_reverse]
          exact List.mem_cons_of_mem _ hviol
        rw [hc] at hmem
        exact absurd hmem violation_free
  · have hset : settleAddress s = u := by
      simp only [exec, execDestinationCharacter, h, h9, and_self, if_true] at hu
      cases hu
      simp [settleAddress, h, h9]
    have hdu : driving u = driving s := by
      rw [← hset]
      rw [driving, driving, settleAddress_line]
    by_cases ht : u.line.rx.state = .take ∧ driving s = false
    · rw [if_pos ht, exec_receptionEnd ht.1 (hdu.trans ht.2)]
      simp only [exec, execReceptionEnd, hset, ht, and_self, if_true]
      rw [← hset, settleAddress_line]
      rfl
    · rw [if_neg ht]
      simp only [exec, execReceptionEnd, hset, if_neg ht]
  · have hset : driving s = true ∨ (settleAddress s).line.rx.state ≠ .take := by
      rcases h with h | h | h | ⟨h, h9⟩
      · exact .inl h
      · exact .inr (by simp [settleAddress, h])
      · exact .inr (by simp [settleAddress, h])
      · exact .inr (by simp [settleAddress, h, Nat.not_le.2 h9])
    rw [exec, execReceptionEnd, if_neg]
    rintro ⟨ht, hd⟩
    rcases hset with h | h
    · exact absurd h (by simp [hd])
    · exact h ht

/-! ## A whole frame heard (R2, R4, R8 to R12) -/

theorem runAll_append {cs ds : List Instr} {s t : State} (h : runAll cs s = .next t) :
    runAll (cs ++ ds) s = runAll ds t := by
  induction cs generalizing s with
  | nil =>
    cases h
    rfl
  | cons c cs ih =>
    simp only [runAll] at h
    simp only [List.cons_append, runAll]
    split at h
    · exact ih h
    · cases h
    · cases h

/-- What the transitions of a frame change: time passes, the line is BUSY since the last of them, and the
receiver takes the cells. -/
structure Hears (r : Receiver) (s t : State) : Prop where
  frame : t = { s with clock := t.clock, line := t.line, port := t.port }
  port : t.port = { s.port with primeLeft := t.port.primeLeft }
  line : t.line = { s.line with since := 0, state := some .busy, rx := r }

theorem Hears.trans {r q : Receiver} {s t u : State} (h : Hears r s t) (k : Hears q t u) :
    Hears q s u where
  frame := by rw [k.frame, h.frame]
  port := by rw [k.port, h.port]
  line := by rw [k.line, h.line]

theorem Hears.with_frame {r : Receiver} {s t : State} (h : Hears r s t) (c : Clock) (l : LineCtl)
    (p : Port) : { t with clock := c, line := l, port := p } = { s with clock := c, line := l, port := p } := by
  rw [h.frame]

theorem Hears.with_port {r : Receiver} {s t : State} (h : Hears r s t) (n : Nat) :
    { t.port with primeLeft := n } = { s.port with primeLeft := n } := by
  rw [h.port]

theorem Hears.accepts {r : Receiver} {s t : State} (h : Hears r s t) : acceptsDest t = acceptsDest s := by
  rw [h.frame]
  rfl

/-- A transition two bit times or more after the last one leaves a receiver in HUNT with an empty history,
and the line BUSY (R2, R8). -/
theorem hears_first {s : State} (hrx : s.line.rx = Receiver.fresh .hunt) (hs : s.line.state ≠ none)
    (hd : driving s = false) :
    ∃ t, exec (.lineTransition 4) s = .next t ∧ Hears (Receiver.fresh .hunt) s t := by
  have hline : ∃ n st, 4 ≤ n ∧ (advance (4 - s.line.since) s).line
      = { s.line with since := n, state := some st } := by
    refine ⟨min (s.line.since + (4 - s.line.since)) sinceCeiling, .idle, by unfold sinceCeiling; omega, ?_⟩
    show LineCtl.pass s.line (4 - s.line.since) = _
    have hge : ¬min (s.line.since + (4 - s.line.since)) sinceCeiling < idleHalves := by
      unfold sinceCeiling idleHalves
      omega
    simp only [driving, Bool.or_eq_false_iff, beq_eq_false_iff_ne] at hd
    unfold LineCtl.pass
    split
    · contradiction
    · next h => exact absurd h hd.1
    · next h => exact absurd h hd.2
    · simp only [hge, and_false, if_false, hrx]
      rfl
  obtain ⟨n, st, hn, hline⟩ := hline
  have hset : settleReception (advance (4 - s.line.since) s) = advance (4 - s.line.since) s := by
    have haddr : settleAddress (advance (4 - s.line.since) s) = advance (4 - s.line.since) s := by
      simp [settleAddress, hline, hrx, Receiver.fresh]
    unfold settleReception
    rw [haddr]
    simp [hline, hrx, Receiver.fresh]
  refine ⟨transition (advance (4 - s.line.since) s), ?_, rfl, rfl, ?_⟩
  · simp only [exec, execLineTransition, hs, hd, if_false, hset]
    rfl
  · unfold transition
    rw [hline]
    simp only [hrx]
    rw [interval_running n (by simp [Receiver.fresh]), decodeInterval_idle _ hn]
    rfl

theorem hears_interval {s : State} {h : Nat} (hb : s.line.state = some .busy) (hz : s.line.since = 0)
    (h4 : h < 4) : ∃ t, exec (.lineTransition h) s = .next t
      ∧ Hears (Receiver.interval (acceptsDest s) h s.line.rx) s t := by
  obtain ⟨t, he, hf, hp, hl⟩ := exec_lineTransition_running (s := s) (h := h) (by simp [driving, hb])
    (by simp [hb]) (by omega) h4
  exact ⟨t, he, hf, hp, hl⟩

theorem push_openHalf (accepts : Nat → Bool) (r : Receiver) (c : Cell × Nat) :
    (Receiver.push accepts r c).openHalf = r.openHalf := by
  have hset : (Receiver.settle accepts r).openHalf = r.openHalf := by
    unfold Receiver.settle Receiver.address
    split
    · split <;> rfl
    · split
      · split
        · split <;> rfl
        · rfl
      · rfl
    · split <;> rfl
    · rfl
  unfold Receiver.push
  dsimp only
  split
  · exact hset
  · exact hset
  · split <;> exact hset
  · exact hset

/-- A cell enters a receiver whether or not a half interval is open. -/
theorem push_with_openHalf (accepts : Nat → Bool) (r : Receiver) (o p : Bool) (c : Cell × Nat) :
    { Receiver.push accepts { r with openHalf := o } c with openHalf := p }
      = { Receiver.push accepts r c with openHalf := p } := by
  have hset : Receiver.settle accepts { r with openHalf := o }
      = { Receiver.settle accepts r with openHalf := o } := by
    have hsync : Receiver.synced { r with openHalf := o } = Receiver.synced r := rfl
    have hchar : Receiver.firstChar { r with openHalf := o } = Receiver.firstChar r := rfl
    have hover : Receiver.overrun { r with openHalf := o } = Receiver.overrun r := rfl
    unfold Receiver.settle Receiver.address
    rw [hsync, hchar, hover]
    dsimp only
    split
    · split <;> rfl
    · split
      · split
        · split <;> rfl
        · rfl
      · rfl
    · split <;> rfl
    · rfl
  unfold Receiver.push
  rw [hset]
  dsimp only
  split
  · rfl
  · rfl
  · split <;> rfl
  · rfl

theorem push_not_off {accepts : Nat → Bool} {r : Receiver} (c : Cell × Nat) (h : r.state ≠ .off) :
    (Receiver.push accepts r c).state ≠ .off := by
  have hset : (Receiver.settle accepts r).state ≠ .off := by
    unfold Receiver.settle Receiver.address
    split
    · split
      · simp [Receiver.toAddress, Receiver.fresh]
      · exact h
    · split
      · split
        · split <;> simp [Receiver.fresh, Receiver.toHunt]
        · simp [Receiver.fresh, Receiver.toHunt]
      · exact h
    · split
      · simp [Receiver.fresh, Receiver.toHunt]
      · exact h
    · exact h
  unfold Receiver.push
  dsimp only
  split
  · exact hset
  · exact hset
  · split
    · simp [Receiver.fresh, Receiver.toHunt]
    · exact hset
  · exact hset

/-- The transitions that close a cell, as intervals in half bit times (R2). -/
def closingIntervals (b : Bool) : List Nat := if b then [1, 1] else [2]

/-- A cell closed by a transition enters the receiver (R2, R8). -/
theorem hears_cell {s : State} (b : Bool) (hb : s.line.state = some .busy) (hz : s.line.since = 0)
    (ho : s.line.rx.openHalf = false) (hr : s.line.rx.state ≠ .off) :
    ∃ t, runAll ((closingIntervals b).map Instr.lineTransition) s = .next t
      ∧ Hears (Receiver.push (acceptsDest s) s.line.rx (Cell.ofBool b, 2)) s t := by
  have hclosed : ∀ c : Cell × Nat, { Receiver.push (acceptsDest s) s.line.rx c with openHalf := false }
      = Receiver.push (acceptsDest s) s.line.rx c := fun c => by
    have h := push_openHalf (acceptsDest s) s.line.rx c
    rw [ho] at h
    rw [← h]
  cases b with
  | false =>
    obtain ⟨t, he, ht⟩ := hears_interval (h := 2) hb hz (by omega)
    rw [interval_running 2 hr, ho] at ht
    refine ⟨t, by simp [closingIntervals, runAll, he], ?_⟩
    have hd : decodeInterval false 2 = ([(.zero, 2)], false) := rfl
    rw [hd] at ht
    rw [← hclosed]
    exact ht
  | true =>
    obtain ⟨t, he, ht⟩ := hears_interval (h := 1) hb hz (by omega)
    rw [interval_running 1 hr, ho] at ht
    have hd : decodeInterval false 1 = ([], true) := rfl
    rw [hd] at ht
    have hrt : t.line.rx = { s.line.rx with openHalf := true } := by
      rw [ht.line]
      rfl
    obtain ⟨u, he', hu⟩ := hears_interval (s := t) (h := 1) (by rw [ht.line]) (by rw [ht.line]) (by omega)
    rw [interval_running 1 (by rw [hrt]; exact hr), hrt, ht.accepts] at hu
    have hd' : decodeInterval true 1 = ([(.one, 2)], false) := rfl
    rw [hd'] at hu
    refine ⟨u, by simp [closingIntervals, runAll, he, he'], ?_⟩
    have hpush : { Receiver.push (acceptsDest s) { s.line.rx with openHalf := true } (.one, 2) with
        openHalf := false } = Receiver.push (acceptsDest s) s.line.rx (.one, 2) := by
      rw [← hclosed]
      exact push_with_openHalf _ _ _ _ _
    have h := ht.trans hu
    rw [List.foldl_cons, List.foldl_nil, hpush] at h
    exact h

/-- Cells closed by transitions enter the receiver one after another. -/
theorem hears_cells {bits : List Bool} {s : State} (hb : s.line.state = some .busy)
    (hz : s.line.since = 0) (ho : s.line.rx.openHalf = false) (hr : s.line.rx.state ≠ .off) :
    ∃ t, runAll ((bits.flatMap closingIntervals).map Instr.lineTransition) s = .next t
      ∧ Hears ((bits.map fun b => (Cell.ofBool b, 2)).foldl (Receiver.push (acceptsDest s))
          s.line.rx) s t := by
  induction bits generalizing s with
  | nil =>
    refine ⟨s, rfl, rfl, rfl, ?_⟩
    rw [← hb, ← hz]
    rfl
  | cons b bits ih =>
    obtain ⟨t, he, ht⟩ := hears_cell b hb hz ho hr
    have hrt : t.line.rx = Receiver.push (acceptsDest s) s.line.rx (Cell.ofBool b, 2) := by
      rw [ht.line]
    obtain ⟨u, hu, hk⟩ := ih (s := t) (by rw [ht.line]) (by rw [ht.line])
      (by rw [hrt, push_openHalf, ho]) (by rw [hrt]; exact push_not_off _ hr)
    rw [hrt, ht.accepts] at hk
    refine ⟨u, ?_, ht.trans hk⟩
    rw [List.flatMap_cons, List.map_append, runAll_append he, hu]

/-- The last cell's first transition, which a 1 has at its beginning and a 0 that closes the cell before it
does not (log 9). -/
theorem cellIntervals_concat (bits : List Bool) (b : Bool) :
    cellIntervals (bits ++ [b]) = bits.flatMap closingIntervals ++ (if b then [1] else []) := by
  induction bits with
  | nil => cases b <;> rfl
  | cons c bits ih =>
    obtain ⟨x, xs, hx⟩ : ∃ x xs, bits ++ [b] = x :: xs := by cases bits <;> exact ⟨_, _, rfl⟩
    rw [List.cons_append, hx]
    rw [hx] at ih
    cases c <;> simp [cellIntervals, ih, closingIntervals]

/-! ### The cells of a frame in the receiver -/

theorem ofBool_ne_violation (b : Bool) : Cell.ofBool b ≠ .violation := by cases b <;> decide

theorem synced_length {r : Receiver} (h : Receiver.synced r = true) : r.history.length = 16 := by
  have hh : r.history.reverse = syncPattern.map Cell.ofBool := by simpa [Receiver.synced] using h
  rw [← List.length_reverse, hh]
  rfl

/-- Up to sixteen cells fill the history of a receiver in HUNT (R8). -/
theorem push_huntCells {accepts : Nat → Bool} {r : Receiver} (bits : List Bool)
    (h : r.state = .hunt) (hl : r.history.length + bits.length ≤ 16) :
    (bits.map fun b => (Cell.ofBool b, 2)).foldl (Receiver.push accepts) r
      = { r with history := (bits.map Cell.ofBool).reverse ++ r.history } := by
  induction bits generalizing r with
  | nil => rfl
  | cons b bits ih =>
    rw [List.length_cons] at hl
    have hs : Receiver.synced r = false := by
      rw [Bool.eq_false_iff]
      intro hs
      have := synced_length hs
      omega
    have hfull : (Cell.ofBool b :: r.history).take 16 = Cell.ofBool b :: r.history :=
      List.take_of_length_le (by simp only [List.length_cons]; omega)
    rw [List.map_cons, List.foldl_cons, push_hunt _ _ h hs, if_neg (ofBool_ne_violation b), hfull,
      ih (by exact h) (by simp only [List.length_cons]; omega)]
    simp

theorem push_syncPattern (accepts : Nat → Bool) :
    (syncPattern.map fun b => (Cell.ofBool b, 2)).foldl (Receiver.push accepts) (Receiver.fresh .hunt)
      = { Receiver.fresh .hunt with history := (syncPattern.map Cell.ofBool).reverse } :=
  push_huntCells syncPattern rfl (Nat.le_refl 16)

theorem settle_synced (accepts : Nat → Bool) :
    Receiver.settle accepts
        { Receiver.fresh .hunt with history := (syncPattern.map Cell.ofBool).reverse }
      = Receiver.fresh .address := rfl

/-- The cells of the first character are kept in ADDRESS (R8). -/
theorem push_addressCells {accepts : Nat → Bool} {r : Receiver} (bits : List Bool)
    (h : r.state = .address) (hl : r.cells.length + bits.length ≤ 9) :
    (bits.map fun b => (Cell.ofBool b, 2)).foldl (Receiver.push accepts) r
      = { r with cells := (bits.map Cell.ofBool).reverse ++ r.cells } := by
  induction bits generalizing r with
  | nil => rfl
  | cons b bits ih =>
    rw [List.length_cons] at hl
    rw [List.map_cons, List.foldl_cons, push_address _ _ h (by omega), if_neg (ofBool_ne_violation b),
      ih (by exact h) (by simp only [List.length_cons]; omega)]
    simp

/-- The cells of the later characters are kept in TAKE (R10). -/
theorem push_takeCells {accepts : Nat → Bool} {r : Receiver} (bits : List Bool)
    (h : r.state = .take) (hv : r.violation = 0) (hl : r.cells.length + bits.length ≤ 246 * 9) :
    (bits.map fun b => (Cell.ofBool b, 2)).foldl (Receiver.push accepts) r
      = { r with cells := (bits.map Cell.ofBool).reverse ++ r.cells } := by
  induction bits generalizing r with
  | nil => rfl
  | cons b bits ih =>
    rw [List.length_cons] at hl
    rw [List.map_cons, List.foldl_cons, push_take _ _ h (by omega) (by omega),
      if_neg (ofBool_ne_violation b), ih (by exact h) rfl (by simp only [List.length_cons]; omega)]
    simp [hv]

/-- A cell acts on the receiver as its due event leaves it (log 8). -/
theorem push_settled {accepts : Nat → Bool} {r q : Receiver} (h : Receiver.settle accepts r = q)
    (hq : Receiver.settle accepts q = q) (c : Cell × Nat) :
    Receiver.push accepts r c = Receiver.push accepts q c := by
  unfold Receiver.push
  rw [h, hq]

theorem foldl_push_settled {accepts : Nat → Bool} {r q : Receiver} (h : Receiver.settle accepts r = q)
    (hq : Receiver.settle accepts q = q) {cs : List (Cell × Nat)} (hne : cs ≠ []) :
    cs.foldl (Receiver.push accepts) r = cs.foldl (Receiver.push accepts) q := by
  cases cs with
  | nil => exact absurd rfl hne
  | cons c cs => rw [List.foldl_cons, List.foldl_cons, push_settled h hq]

/-- A receiver that hunts takes the cells of a frame for this station, from its second character on. -/
theorem push_frameCells {accepts : Nat → Bool} {d : Byte} (hd : accepts d.toNat = true)
    {bits : List Bool} (hne : bits ≠ []) (hl : bits.length ≤ 246 * 9) :
    ((syncPattern ++ charCells true d ++ bits).map fun b => (Cell.ofBool b, 2)).foldl
        (Receiver.push accepts) (Receiver.fresh .hunt)
      = { Receiver.fresh .take with dest := d.toNat, cells := (bits.map Cell.ofBool).reverse } := by
  have htake : Receiver.settle accepts { Receiver.fresh .address with
      cells := ((charCells true d).map Cell.ofBool).reverse ++ [] }
      = { Receiver.fresh .take with dest := d.toNat } := by
    have haddr := address_of_char (accepts := accepts) (mark := true) (d := d)
      (r := { Receiver.fresh .address with
        cells := ((charCells true d).map Cell.ofBool).reverse ++ [] }) (by simp)
    rw [if_pos ⟨rfl, hd⟩] at haddr
    exact haddr
  rw [List.map_append, List.map_append, List.foldl_append, List.foldl_append, push_syncPattern,
    foldl_push_settled (settle_synced accepts) rfl (by simp [charCells]),
    push_addressCells (r := Receiver.fresh .address) (charCells true d) rfl (Nat.le_refl 9)]
  refine (foldl_push_settled htake rfl (by simpa using hne)).trans ?_
  refine (push_takeCells bits rfl rfl ?_).trans ?_
  · simpa [Receiver.fresh] using hl
  · simp [Receiver.fresh]

/-- Settles O14. -/
theorem heardFrameIsQueued : Obligations.HeardFrameIsQueued := by
  intro f s hv hdest hrx hs hd h8
  have hdb : (byte f.dest).toNat = f.dest := byte_toNat (src_lt hv).1
  obtain ⟨init, last, hrest⟩ : ∃ init last, ((Frame.bytes f).drop 1).flatMap (charCells false)
      = init ++ [last] := by
    have hlen : (((Frame.bytes f).drop 1).flatMap (charCells false)).length ≠ 0 := by
      rw [flatMap_charCells_length, List.length_drop, frame_bytes_length]
      omega
    have hne : ((Frame.bytes f).drop 1).flatMap (charCells false) ≠ [] := fun he => hlen (by rw [he]; rfl)
    exact ⟨_, _, (List.dropLast_concat_getLast hne).symm⟩
  have hinit : init.length + 1 = 9 * (5 + (FrameBody.bytes f.body).length) := by
    have h := congrArg List.length hrest
    rw [flatMap_charCells_length, List.length_drop, frame_bytes_length, List.length_append] at h
    simp only [List.length_cons, List.length_nil] at h
    omega
  have hle := body_bytes_length_le (body_valid hv)
  have hcells : Frame.cells f = (syncPattern ++ charCells true (byte f.dest) ++ init) ++ [last] := by
    rw [Frame.cells, List.append_assoc, List.append_assoc, ← hrest, ← List.append_assoc]
    rfl
  -- The transitions up to the last cell's.
  obtain ⟨t, he, ht⟩ := hears_first hrx hs hd
  obtain ⟨u, hu, hk⟩ := hears_cells (bits := syncPattern ++ charCells true (byte f.dest) ++ init)
    (s := t) (by rw [ht.line]) (by rw [ht.line]) (by rw [ht.line]; rfl)
    (by rw [ht.line]; simp [Receiver.fresh])
  have htrx : t.line.rx = Receiver.fresh .hunt := by rw [ht.line]
  rw [htrx, push_frameCells (by rw [ht.accepts, hdb]; exact hdest)
    (by intro h; simp [h] at hinit; omega) (by omega)] at hk
  have hsu := ht.trans hk
  -- The last cell's transition.
  obtain ⟨v, hv', hsv⟩ : ∃ v, runAll ((if last then [1] else []).map Instr.lineTransition) u = .next v
      ∧ Hears { Receiver.fresh .take with
          dest := (byte f.dest).toNat, cells := (init.map Cell.ofBool).reverse, openHalf := last } s v := by
    cases last with
    | false => exact ⟨u, rfl, hsu⟩
    | true =>
      obtain ⟨v, he, hv⟩ := hears_interval (s := u) (h := 1) (by rw [hsu.line]) (by rw [hsu.line])
        (by omega)
      have hru : u.line.rx = { Receiver.fresh .take with
          dest := (byte f.dest).toNat, cells := (init.map Cell.ofBool).reverse } := by rw [hsu.line]
      rw [interval_running 1 (by rw [hru]; simp [Receiver.fresh]), hru] at hv
      exact ⟨v, by simp [runAll, he], hsu.trans hv⟩
  have hrv : v.line.rx = { Receiver.fresh .take with
      dest := (byte f.dest).toNat, cells := (init.map Cell.ofBool).reverse, openHalf := last } := by
    rw [hsv.line]
  have hrun : runAll (hearFrame f) s = .next v := by
    rw [hearFrame, hcells, cellIntervals_concat, List.map_cons, List.map_append]
    show runAll (_ :: (_ ++ _)) s = _
    rw [runAll, he]
    dsimp only
    rw [runAll_append hu, hv']
  -- The end of the reception.
  have htake : v.line.rx.state = .take := by rw [hrv]; rfl
  have hcount : Receiver.CountSound v.line.rx := by rw [hrv]; simp [Receiver.fresh]
  have hframe : Receiver.frame v.line.rx = some f := by
    refine receiver_frame_iff.2 ⟨by rw [hrv]; exact byte_toNat_self _, hv, ?_⟩
    rw [hrest, hrv]
    cases last <;> simp [Receiver.closed, Cell.ofBool]
  have hadv := advance_rx_of_take (4 - v.line.since) htake
  obtain ⟨hw, hsnd, hi⟩ := pass_frame v.line (4 - v.line.since)
  refine ⟨endReception (advance (4 - v.line.since) v), ?_, ?_, ?_, ?_, ?_, ?_, ?_⟩
  · rw [runAll_append hrun, runAll, exec_receptionEnd htake (by rw [driving, hsv.line]; rfl)]
    rfl
  · rw [endReception_inbound (by rw [hadv]; exact hcount), hadv, hframe]
    show (if (LineCtl.pass v.line _).inbound.length < 8 then (LineCtl.pass v.line _).inbound ++ [f]
      else (LineCtl.pass v.line _).inbound) = _
    rw [hi, hsv.line, if_pos h8]
  · rw [endReception_frame]
  · rw [endReception_frame]
    exact hw.trans (by rw [hsv.line])
  · rw [endReception_frame]
    exact hsnd.trans (by rw [hsv.line])
  · rw [endReception_frame]
    exact hsv.with_frame _ _ _
  · rw [endReception_frame]
    exact hsv.with_port _

end Sys2Proof.Machine
end

section
-- One proof at a time: side by side, their threads' stacks outgrow the check's memory.
set_option Elab.async false
/-! Joining and the station table. -/

namespace Sys2Proof.Machine

/-! ## CONFIGURE and START -/

/-- A refused request: every block as it was, the code replied with no body (R169). -/
theorem answer_refused (i : Instr) (c : ReplyCode) (s : State) :
    OnlyLink s (answer i (.error c) s) ∧ Replied (answer i (.error c) s) c [] :=
  ⟨rfl, rfl, rfl, rfl, rfl⟩

/-- The figures that CONFIGURE stores at a station of this role (R26). -/
def figuresFor (r : Role) (f : ConfigureFields) : Figures :=
  match r with
  | .till => tillFigures f
  | .kitchen => kitchenFigures f

theorem configureResult_of_config {f : ConfigureFields} {s : State} (h : s.join.state = .config) :
    unlessStrapFault s (configureResult f s)
      = taken (figuresBytes (role s) (figuresFor (role s) f))
          (recomputeTabs (figuresFor (role s) f)
            { s with join := { s.join with figures := figuresFor (role s) f } }) := by
  rw [unlessStrapFault_of (by simp [h]), configureResult, need_of h]
  cases hr : role s <;> rfl

theorem tabIn_recomputeTabs (f : Figures) (s : State) (i : Nat) :
    tabIn (recomputeTabs f s) i = (tabIn s i).map (Tab.compute f) := by
  simp only [tabIn, recomputeTabs, Vector.getElem?_map]
  cases s.tabs[i]? <;> rfl

theorem clampResponse_eq (n : Nat) :
    clampResponse n = if n = 0 then .latch else if n = 1 then .retry else .skip := by
  match n with
  | 0 => rfl
  | 1 => rfl
  | n + 2 => simp [clampResponse]

theorem responseField_clampResponse (n : Nat) : responseField (clampResponse n) = min n 2 := by
  match n with
  | 0 => rfl
  | 1 => rfl
  | n + 2 => simp [clampResponse, responseField]

theorem startEffect_port (s : State) : (startEffect s).port
    = if role s = .kitchen ∧ s.port.faultPin = true then { s.port with deglitch := .running (now s) }
      else s.port := by
  unfold startEffect
  dsimp only
  split
  case isTrue h => exact (if_pos (c := role s = .kitchen ∧ s.port.faultPin = true) h).symm
  case isFalse h => exact (if_neg (c := role s = .kitchen ∧ s.port.faultPin = true) h).symm

theorem startEffect_frame (s : State) : startEffect s = { s with
    join := { s.join with state := .joining, windowFrom := some (now s) }
    line := { s.line with rx := Receiver.fresh .hunt, inbound := [] }
    port := (startEffect s).port } := by
  unfold startEffect
  dsimp only
  split <;> rfl

/-- Settles O21. -/
theorem configureAndStart : Obligations.ConfigureAndStart := by
  refine ⟨fun f s h => ?_, fun s h => ?_, fun f s h => ⟨?_, ?_⟩⟩
  · refine ⟨_, congrArg Host.Outcome.next
      (congrArg (fun q => answer (.configure f) q s) (configureResult_of_config h)), rfl,
      fun i => tabIn_recomputeTabs _ _ i, fun hr => ?_, fun hr => ?_⟩
    · rw [hr]
      exact ⟨rfl, rfl, rfl, rfl, rfl⟩
    · rw [hr]
      refine ⟨rfl, rfl, rfl, clampResponse_eq _, clampResponse_eq _, rfl, rfl, rfl, rfl, rfl, rfl, ?_,
        rfl, rfl⟩
      rw [← responseField_clampResponse, ← responseField_clampResponse]
      rfl
  · refine ⟨answer .start (taken [] (startEffect s)) s, ?_, ?_, ?_, rfl, rfl, rfl, rfl⟩
    · simp only [exec, execStart, unlessStrapFault_of (by simp [h] : s.join.state ≠ .strapFault), startResult,
        need_of h]
    · rw [answer_taken, startEffect_frame]
    · exact startEffect_port s
  · have hrefused : unlessStrapFault s (configureResult f s) = .error .config := by
      by_cases hs : s.join.state = .strapFault
      · exact unlessStrapFault_of_fault hs _
      · rw [unlessStrapFault_of hs, configureResult, need_of_not h]
    refine ⟨_, by simp only [exec, execConfigure, hrefused]; rfl, answer_refused _ _ _⟩
  · have hrefused : unlessStrapFault s (startResult s) = .error .config := by
      by_cases hs : s.join.state = .strapFault
      · exact unlessStrapFault_of_fault hs _
      · rw [unlessStrapFault_of hs, startResult, need_of_not h]
    refine ⟨_, by simp only [exec, execStart, hrefused]; rfl, answer_refused _ _ _⟩

/-! ## PRESENCE composed -/

theorem composePresence_of_waiting {s : State}
    (h : (s.line.waiting.any fun x => FrameBody.isPresence x.frame.body) = true) :
    composePresence s = { s with line := { s.line with
      waiting := s.line.waiting.map (TxItem.resample (.presence (presenceFields s))) } } := by
  unfold composePresence
  rw [if_pos h]

theorem composePresence_of_none {s : State}
    (h : (s.line.waiting.any fun x => FrameBody.isPresence x.frame.body) = false) :
    composePresence s = offerFrame 127 (.presence (presenceFields s)) false s := by
  unfold composePresence
  rw [if_neg (by simp [h])]

theorem composePresence_frame (s : State) :
    composePresence s = { s with line := (composePresence s).line } := by
  unfold composePresence
  dsimp only
  split
  · rfl
  · rw [offerFrame_frame]

/-- The fields of a PRESENCE depend on neither the line nor the presence timer. -/
theorem presenceFields_congr {s t : State} (hs : t.straps = s.straps)
    (hj : t.join.startMark = s.join.startMark) (hk : t.kitchen = s.kitchen) (hp : t.port = s.port)
    (hl : t.lastCall = s.lastCall) : presenceFields t = presenceFields s := by
  simp only [presenceFields, role, ownClass, depth, freeSlots, accepting, printerState, hs, hj, hk, hp,
    hl]
  rfl

theorem printerState_eq (s : State) : printerState s
    = if s.port.state = .latched then .latched
      else if s.port.state = .retryWait then .retrying
      else if s.port.state = .down then .down else .ok := by
  unfold printerState
  split <;> simp [*]

/-- The state in which the first PRESENCE is sampled (R29). -/
def joinedNow (s : State) : State :=
  { s with join := { s.join with
      state := .onLine, startMark := captureMark s, windowFrom := none, presenceFrom := some (now s) } }

theorem joinWindowOut_of_empty {s : State} (hq : s.line.waiting = []) (hs : s.line.sending = none) :
    joinWindowOut s = { joinedNow s with line := { s.line with
      waiting := [newItem (joinedNow s) 127 (.presence (presenceFields (joinedNow s))) false] } } := by
  have hnone : ((joinedNow s).line.waiting.any fun x => FrameBody.isPresence x.frame.body) = false := by
    rw [show (joinedNow s).line.waiting = [] from hq]
    rfl
  have hfree : 1 ≤ freeTx (joinedNow s) := by simp [joinedNow, freeTx, txCount, hq, hs, txCapacity]
  show composePresence (joinedNow s) = _
  rw [composePresence_of_none hnone, offerFrame_of_free rfl hfree,
    show (joinedNow s).line.waiting = [] from hq]
  rfl

/-- The state in which a PRESENCE is sampled as the presence timer runs out (R32). -/
def presenceDue (start : Time) (s : State) : State :=
  { s with join := { s.join with presenceFrom := some (start + 1000#32) } }

theorem exec_presenceTimerExpiry {s : State} {start : Time} (hj : s.join.state = .onLine)
    (hp : s.join.presenceFrom = some start) (hdue : Due s start 1000) :
    exec .presenceTimerExpiry s = .next (composePresence (presenceDue start s)) := by
  unfold exec execPresenceTimerExpiry
  dsimp only
  split
  · next st h1 h2 =>
    obtain rfl : st = start := by simpa [hp] using h2.symm
    rw [advanceUntil_of_due (limit := presenceInterval) hdue]
    rfl
  · next h => exact (h _ hj hp).elim

/-- Settles O22. -/
theorem joinWindowAndPresence : Obligations.JoinWindowAndPresence := by
  refine ⟨fun s start hj hw hdue hq hs => ?_, fun s start hj hp hdue => ?_, fun s hr => ?_,
    fun s hr => ?_⟩
  · refine ⟨joinWindowOut s, ?_, ?_⟩
    · simp only [exec, execJoinWindowEnd, hj, hw, advanceUntil_of_due (limit := joinWindow) hdue]
    · rw [joinWindowOut_of_empty hq hs]
      refine ⟨rfl, rfl, ?_⟩
      congr 2
  · have hfields : presenceFields (presenceDue start s) = presenceFields s :=
      presenceFields_congr rfl rfl rfl rfl rfl
    refine ⟨composePresence (presenceDue start s), exec_presenceTimerExpiry hj hp hdue, ?_,
      fun hany => ?_, fun hany => ⟨fun hf => ?_, fun hf => ?_⟩⟩
    · rw [composePresence_frame]
      rfl
    · rw [composePresence_of_waiting (s := presenceDue start s) hany, hfields]
      rfl
    · rw [composePresence_of_none (s := presenceDue start s) hany, hfields,
        offerFrame_of_free (s := presenceDue start s) hj hf]
      rfl
    · rw [composePresence_of_none (s := presenceDue start s) hany, 
        offerFrame_of_dropped (s := presenceDue start s) (.inr hf), frameEnded_line]
      rfl
  · simp [presenceFields, hr]
  · simp only [presenceFields, hr, printerState_eq, accepting, depth, freeSlots, queueCapacity, ownClass]
    congr 1
    rw [Bool.decide_and, decide_not]
    rfl

end Sys2Proof.Machine
end

section
-- One proof at a time: side by side, their threads' stacks outgrow the check's memory.
set_option Elab.async false
/-! What the shared operations on the records of a till come to, in the terms of the statements. -/

namespace Sys2Proof.Machine

/-! ## Notices -/

/-- A notice queued on a state whose notices, link and clock are those of `s` is the one queued on `s`. -/
theorem notified_notify {s u : State} (b : NoticeBody) (hn : u.notices = s.notices)
    (ho : u.overflow = s.overflow) (hl : u.link = s.link) (hc : u.clock = s.clock) :
    Notified s (notify b u) b := by
  obtain ⟨h1, h2, h3⟩ := notify_congr b hn ho hl hc
  exact ⟨⟨h1, h2⟩, h3⟩

/-! ## The frames of a record cancelled -/

theorem freeTx_cancelFrames (p : TxItem → Bool) (s : State) : freeTx s ≤ freeTx (cancelFrames p s) := by
  have hlen := List.length_filter_le (fun x => !p x) s.line.waiting
  have hsend : (s.line.sending.map (TxItem.disown p)).toList.length = s.line.sending.toList.length := by
    cases s.line.sending <;> rfl
  simp only [freeTx, txCount, cancelFrames, hsend]
  omega

/-! ## One ticket record -/

theorem updTicket_self (n : Nat) (s : State) : updTicket n (fun t => t) s = s := by
  have h : (s.tickets.map fun t => if t.number = n then t else t) = s.tickets := by
    conv_rhs => rw [← List.map_id s.tickets]
    exact List.map_congr_left fun t _ => ite_self t
  unfold updTicket
  rw [h]

theorem updTicket_updTicket {n : Nat} {f g : Ticket → Ticket} (hf : ∀ t, (f t).number = t.number)
    (s : State) : updTicket n g (updTicket n f s) = updTicket n (fun t => g (f t)) s := by
  simp only [updTicket, List.map_map]
  congr 1
  refine List.map_congr_left fun t _ => ?_
  simp only [Function.comp_apply]
  by_cases h : t.number = n
  · simp [h, hf]
  · simp [h]

/-- A record changes in place, and a notice may follow. -/
theorem onlyTicket_updTicket {s : State} {k : Ticket} {f : Ticket → Ticket}
    (hk : ticketOf s k.number = some k) (hf : ∀ t, (f t).number = t.number) :
    OnlyTicket s (updTicket k.number f s) (f k) := by
  refine ⟨rfl, ?_, fun m hm => ticketOf_updTicket_ne hf (by rwa [hf] at hm)⟩
  rw [hf, ticketOf_updTicket_self hf, hk]
  rfl

theorem OnlyTicket.notify {s t : State} {k : Ticket} (h : OnlyTicket s t k) (b : NoticeBody) :
    OnlyTicket s (notify b t) k := by
  obtain ⟨ht, hk, hne⟩ := h
  refine ⟨?_, ?_, fun m hm => ?_⟩
  · rw [notify_frame, ht]
  · rw [notify_frame]; exact hk
  · rw [notify_frame]; exact hne m hm

/-! ## Reissue (R77) -/

theorem endWithdrawals_of_none {n : Nat} {s : State} {t : Ticket} (ht : ticketOf s n = some t)
    (hw : t.withdrawals = []) : endWithdrawals n s = s := by
  unfold endWithdrawals
  rw [ht]
  simp only [hw, List.map_nil, List.foldl_nil, ticketReport]
  exact updTicket_self n s

/-- The stale holder a reissue leaves, by its cause (Table 4-5). -/
def staleAfter (stale : Option (Nat × Nat)) (k : Ticket) : Option StaleHolder :=
  match stale with
  | some (st, mark) => some ⟨st, mark, k.gen⟩
  | none => k.stale

theorem setStale_eq (n : Nat) (stale : Option (Nat × Nat)) (s : State) :
    setStale n stale s = updTicket n (fun t => { t with stale := staleAfter stale t }) s := by
  cases stale with
  | none => exact (updTicket_self n s).symm
  | some x => rfl

/-- The OFFER of a ticket depends on its tab, its reference and its figures. -/
theorem offerBody_congr {s u : State} {t k : Ticket} (ht : u.tabs = s.tabs)
    (hs : t.slot = k.slot) (hn : t.number = k.number) (hg : t.gen = k.gen) (hc : t.cls = k.cls)
    (hp : t.priority = k.priority) (ha : t.attempt = k.attempt) (hpos : t.positions = k.positions) :
    offerBody u t = offerBody s k := by
  simp only [offerBody, tabIn, Ticket.ref, ht, hs, hn, hg, hc, hp, ha, hpos]

/-- The transmit queue as a reissue has cleared it of the ticket's frames, and its REVOKE has joined it. -/
def withQueue (k : Ticket) (queue : List TxItem) (s : State) : State :=
  { s with line := { s.line with
      waiting := queue, sending := s.line.sending.map (TxItem.disown (ofTicket k.number)) } }

/-- The record renewed, REISSUED queued, its OFFER not yet composed (R77, steps 3 to 7). -/
def renewedState (stale : Option (Nat × Nat)) (cause : ReissueCause) (k : Ticket) (queue : List TxItem)
    (s : State) : State :=
  notify (.reissued ⟨k.number, (k.gen + 1) % 16⟩ (tabCode (station s) k.slot k.issue)
      (k.awardee.map Awardee.station) cause)
    (updTicket k.number (fun t => Ticket.renewed { t with stale := staleAfter stale t })
      (withQueue k queue s))

theorem renewedState_frame (stale : Option (Nat × Nat)) (cause : ReissueCause) (k : Ticket)
    (queue : List TxItem) (s : State) : renewedState stale cause k queue s = { s with
      line := { s.line with
        waiting := queue, sending := s.line.sending.map (TxItem.disown (ofTicket k.number)) }
      tickets := (renewedState stale cause k queue s).tickets
      notices := (renewedState stale cause k queue s).notices
      overflow := (renewedState stale cause k queue s).overflow
      link := (renewedState stale cause k queue s).link } := by
  unfold renewedState
  rw [notify_frame]
  rfl

theorem ticketOf_renewedState {s : State} {k : Ticket} (hk : ticketOf s k.number = some k)
    (stale : Option (Nat × Nat)) (cause : ReissueCause) (queue : List TxItem) :
    ticketOf (renewedState stale cause k queue s) k.number
      = some (Ticket.renewed { k with stale := staleAfter stale k }) := by
  unfold renewedState
  rw [notify_frame]
  exact (ticketOf_updTicket_self (by exact fun _ => rfl)).trans (congrArg (Option.map _) hk)

/-- The steps of a reissue without withdrawals, up to its OFFER (R77). -/
theorem reissue_eq_sendOffer {s : State} {k : Ticket} {queue : List TxItem} (revoke : Bool)
    (stale : Option (Nat × Nat)) (cause : ReissueCause) (hk : ticketOf s k.number = some k)
    (hw : k.withdrawals = []) (hl : k.live ≠ 0#8)
    (hrev : revokeAwardee revoke k (cancelFrames (ofTicket k.number) s) = withQueue k queue s) :
    reissue k.number revoke stale cause s
      = sendOffer k.number (renewedState stale cause k queue s) := by
  have hnum : ∀ t : Ticket, ({ t with stale := staleAfter stale t } : Ticket).number = t.number :=
    fun _ => rfl
  have hfound : ticketOf (updTicket k.number (fun t => { t with stale := staleAfter stale t })
      (withQueue k queue s)) k.number = some { k with stale := staleAfter stale k } :=
    (ticketOf_updTicket_self hnum).trans (congrArg (Option.map _) hk)
  have hbegun : reissueBegun k.number revoke stale k s
      = updTicket k.number (fun t => { t with stale := staleAfter stale t }) (withQueue k queue s) := by
    unfold reissueBegun
    rw [hrev, setStale_eq]
    exact endWithdrawals_of_none hfound hw
  rw [reissue_of_some hk, hbegun, hfound]
  show reissueDone _ _ _ _ _ = _
  unfold reissueDone
  rw [if_neg hl, updTicket_updTicket hnum]
  rfl

/-- A ticket with a live line and no withdrawal is offered afresh under its next generation, once its
frames are cancelled and any REVOKE has joined the queue (R77). -/
theorem reissued_of_revoked {s : State} {k : Ticket} {queue : List TxItem} (revoke : Bool)
    (stale : Option (Nat × Nat)) (cause : ReissueCause) (hk : ticketOf s k.number = some k)
    (hw : k.withdrawals = []) (hl : k.live ≠ 0#8)
    (hrev : revokeAwardee revoke k (cancelFrames (ofTicket k.number) s) = withQueue k queue s)
    (hj : s.join.state = .onLine) (hfree : queue.length + s.line.sending.toList.length < 16) :
    Reissued s (reissue k.number revoke stale cause s) k (staleAfter stale k) cause queue := by
  have hvfree : 1 ≤ freeTx (renewedState stale cause k queue s) := by
    have hsend : (s.line.sending.map (TxItem.disown (ofTicket k.number))).toList.length
        = s.line.sending.toList.length := by cases s.line.sending <;> rfl
    rw [renewedState_frame]
    simp only [freeTx, txCount, txCapacity, hsend]
    omega
  have hvj : (renewedState stale cause k queue s).join.state = .onLine := by
    rw [renewedState_frame]
    exact hj
  have hbody : offerBody (renewedState stale cause k queue s)
        (Ticket.renewed { k with stale := staleAfter stale k })
      = offerBody s { k with gen := (k.gen + 1) % 16, attempt := 0 } :=
    offerBody_congr (by rw [renewedState_frame]) rfl rfl rfl rfl rfl rfl rfl
  have hitem : newItem (renewedState stale cause k queue s) = newItem s := by
    rw [renewedState_frame]
    rfl
  rw [reissue_eq_sendOffer revoke stale cause hk hw hl hrev, sendOffer, ticketOf_renewedState hk]
  dsimp only
  rw [offerFrame_of_free hvj hvfree, hbody, hitem]
  refine ⟨?_, ticketOf_renewedState hk stale cause queue, fun m hm => ?_, ?_, ?_⟩
  · rw [renewedState_frame]
  · show ticketOf (renewedState stale cause k queue s) m = ticketOf s m
    unfold renewedState
    rw [notify_frame]
    exact ticketOf_updTicket_ne (by exact fun _ => rfl) hm
  · exact notified_notify _ rfl rfl rfl rfl
  · rw [renewedState_frame]
    rfl

/-- A reissue without a REVOKE (R77). -/
theorem reissued_of_canSend {s : State} {k : Ticket} (stale : Option (Nat × Nat))
    (cause : ReissueCause) (hk : ticketOf s k.number = some k) (hw : k.withdrawals = [])
    (hl : k.live ≠ 0#8) (hc : CanSend s 1) :
    Reissued s (reissue k.number false stale cause s) k (staleAfter stale k) cause
      (s.line.waiting.filter fun x => !ofTicket k.number x) := by
  obtain ⟨hj, hfree⟩ := hc
  refine reissued_of_revoked false stale cause hk hw hl rfl hj ?_
  have hlen := List.length_filter_le (fun x => !ofTicket k.number x) s.line.waiting
  simp only [freeTx, txCount, txCapacity] at hfree
  omega

/-! ## A station event at a ticket record (R76, R78) -/

theorem ticketEvent_of_awardee {s : State} {st : Nat} {k : Ticket} {a : Awardee} {e : StationEvent}
    (hk : ticketOf s k.number = some k) (ha : k.awardee = some a) (hst : a.station = st)
    (hstale : k.stale.map StaleHolder.station ≠ some st ∨ ∃ m, e = .silent m) :
    ticketEvent st e s k.number = awardeeEvent k a e s := by
  unfold ticketEvent
  rw [hk]
  dsimp only
  rw [ha]
  dsimp only
  rw [if_pos hst]
  cases hx : k.stale with
  | none => rfl
  | some x =>
    dsimp only
    rcases hstale with h | ⟨m, rfl⟩
    · rw [if_neg (by simpa [hx] using h)]
    · exact ite_self _

theorem ticketEvent_of_stale {s : State} {st : Nat} {k : Ticket} {x : StaleHolder} {e : StationEvent}
    (hk : ticketOf s k.number = some k) (ha : k.awardee.map Awardee.station ≠ some st)
    (hx : k.stale = some x) (hst : x.station = st) :
    ticketEvent st e s k.number = staleEvent k x e s := by
  unfold ticketEvent
  rw [hk]
  dsimp only
  rw [hx]
  dsimp only
  rw [if_pos hst]
  cases hk : k.awardee with
  | none => rfl
  | some a =>
    dsimp only
    rw [if_neg (by simpa [hk] using ha)]

theorem ticketEvent_of_other {s : State} {st : Nat} {k : Ticket} {e : StationEvent}
    (hk : ticketOf s k.number = some k) (ha : k.awardee.map Awardee.station ≠ some st)
    (hx : k.stale.map StaleHolder.station ≠ some st) : ticketEvent st e s k.number = s := by
  unfold ticketEvent
  rw [hk]
  dsimp only
  have hfirst : (match k.awardee with
      | some a => if a.station = st then awardeeEvent k a e s else s
      | none => s) = s := by
    cases hk : k.awardee with
    | none => rfl
    | some a => exact if_neg (by simpa [hk] using ha)
  cases hs : k.stale with
  | none => exact hfirst
  | some x =>
    dsimp only
    rw [if_neg (by simpa [hs] using hx)]
    exact hfirst

/-- A PLACING or PLACED ticket of a station that falls silent or restarts is reissued (R76). -/
theorem awardeeEvent_silent_placed {k : Ticket} (h : k.state = .placing ∨ k.state = .placed)
    (a : Awardee) (mark : Nat) (s : State) : awardeeEvent k a (.silent mark) s
      = reissue k.number false (some (a.station, mark)) .awardeeSilent s := by
  unfold awardeeEvent
  rcases h with h | h <;> rw [h]

theorem awardeeEvent_restarted_placed {k : Ticket} (h : k.state = .placing ∨ k.state = .placed)
    (a : Awardee) (mark : Nat) (s : State) : awardeeEvent k a (.restarted mark) s
      = reissue k.number false none .awardeeRestarted s := by
  unfold awardeeEvent
  rcases h with h | h <;> rw [h]

/-- A FIRED or READY ticket of a station that falls silent or restarts is lost (R76). -/
theorem awardeeEvent_silent {k : Ticket} (h : k.state = .fired ∨ k.state = .ready)
    (hl : k.lost = none) (a : Awardee) (mark : Nat) (s : State) :
    awardeeEvent k a (.silent mark) s = kitchenLost k a.station .silent (updTicket k.number (fun t =>
      { t with lost := some .silent, awardee := some { a with mark := mark } }) s) := by
  unfold awardeeEvent
  rcases h with h | h <;> rw [h, hl]

theorem awardeeEvent_restarted {k : Ticket} (h : k.state = .fired ∨ k.state = .ready)
    (hl : k.lost ≠ some .restarted) (a : Awardee) (mark : Nat) (s : State) :
    awardeeEvent k a (.restarted mark) s = kitchenLost k a.station .restarted
      (updTicket k.number (fun t => { t with lost := some .restarted }) s) := by
  unfold awardeeEvent
  match hlost : k.lost with
  | none => rcases h with h | h <;> rw [h]
  | some .silent => rcases h with h | h <;> rw [h]
  | some .restarted => exact absurd hlost hl

theorem awardeeEvent_found {k : Ticket} (h : k.state = .fired ∨ k.state = .ready)
    (hl : k.lost = some .silent) {a : Awardee} {mark : Nat} (hm : a.mark = mark) (s : State) :
    awardeeEvent k a (.present mark) s
      = updTicket k.number (fun t => { t with lost := none }) s := by
  unfold awardeeEvent
  rcases h with h | h <;> rw [h, hl] <;> exact if_pos hm.symm

/-- An event that is nothing to a record leaves it (Table 4-4). -/
theorem awardeeEvent_ignored {k : Ticket} {a : Awardee} {e : StationEvent}
    (h : k.state = .offering ∨ k.state = .stranded
      ∨ (k.state = .fired ∨ k.state = .ready) ∧ k.lost ≠ none ∧ (∃ m, e = .silent m)
      ∨ (k.state = .fired ∨ k.state = .ready) ∧ k.lost = some .restarted ∧ (∃ m, e = .restarted m)
      ∨ ∃ m, e = .present m
        ∧ (k.state = .placing ∨ k.state = .placed ∨ k.lost ≠ some .silent ∨ a.mark ≠ m)) (s : State) :
    awardeeEvent k a e s = s := by
  unfold awardeeEvent
  rcases h with h | h | ⟨h, hl, m, rfl⟩ | ⟨h, hl, m, rfl⟩ | ⟨m, rfl, h⟩
  · rw [h]
  · rw [h]
  · cases hlost : k.lost with
    | none => exact absurd hlost hl
    | some x => rcases h with h | h <;> rw [h]
  · rcases h with h | h <;> rw [h, hl]
  · have hmark : k.state = .placing ∨ k.state = .placed ∨ k.lost ≠ some .silent ∨ m ≠ a.mark := by
      rcases h with h | h | h | h
      · exact .inl h
      · exact .inr (.inl h)
      · exact .inr (.inr (.inl h))
      · exact .inr (.inr (.inr fun he => h he.symm))
    cases hstate : k.state <;> simp only [hstate, reduceCtorEq, false_or] at hmark ⊢
    all_goals
      match hlost : k.lost with
      | none => rfl
      | some .restarted => rfl
      | some .silent => exact if_neg (by simpa [hlost] using hmark)

/-! ## A station event at a share lent (R144) -/

/-- A share of a tab that is not CLOSED becomes held or adrift: the tab is PAYING (R53). -/
theorem setShare_of_locks {s : State} {slot i : Nat} {tb : Tab} {sh : Share} {st : ShareState}
    (ht : tabIn s slot = some tb) (hs : tb.shares[i]? = some sh) (hc : tb.state ≠ .closed)
    (hl : ShareState.locks st = true) (hp : ShareState.isPaid st = false) :
    setShare slot i st s
      = putTab slot (some { Tab.withShare i { sh with state := st } tb with state := .paying }) s := by
  have hne : st ≠ .empty := by
    rintro rfl
    cases hl
  rw [setShare_of_unpaid ht hs hc hne hp, if_pos (locked_withShare hs hl)]

theorem onlyShare_putTab {s : State} {slot i : Nat} {tb : Tab} (sh : Share) (st : ShareState)
    (ht : tabIn s slot = some tb) : OnlyShare s
      (putTab slot (some { Tab.withShare i { sh with state := st } tb with state := .paying }) s)
      slot i tb sh st := by
  refine ⟨?_, fun m hm => tabs_putTab_ne _ hm, tabIn_putTab_self _ (lt_of_tabIn ht)⟩
  rw [putTab_frame]

theorem onlyShare_setShare {s : State} {slot i : Nat} {tb : Tab} {sh : Share} {st : ShareState}
    (ht : tabIn s slot = some tb) (hs : tb.shares[i]? = some sh) (hc : tb.state ≠ .closed)
    (hl : ShareState.locks st = true) (hp : ShareState.isPaid st = false) :
    OnlyShare s (setShare slot i st s) slot i tb sh st
      ∧ setShare slot i st s = { s with tabs := (setShare slot i st s).tabs } := by
  rw [setShare_of_locks ht hs hc hl hp]
  exact ⟨onlyShare_putTab sh st ht, putTab_frame _ _ _⟩

/-- The same with a notice after it. -/
theorem onlyShare_notify {s : State} {slot i : Nat} {tb : Tab} {sh : Share} {st : ShareState}
    (b : NoticeBody) (ht : tabIn s slot = some tb) (hs : tb.shares[i]? = some sh)
    (hc : tb.state ≠ .closed) (hl : ShareState.locks st = true) (hp : ShareState.isPaid st = false) :
    OnlyShare s (notify b (setShare slot i st s)) slot i tb sh st
      ∧ Notified s (notify b (setShare slot i st s)) b := by
  obtain ⟨⟨h1, h2, h3⟩, hframe⟩ := onlyShare_setShare ht hs hc hl hp
  refine ⟨⟨?_, ?_, ?_⟩, ?_⟩
  · rw [notify_frame, hframe]
  · rw [notify_frame]
    exact h2
  · rw [notify_frame]
    exact h3
  · rw [hframe]
    exact notified_notify b rfl rfl rfl rfl

/-! ## A borrowed entry (R152, R153) -/

theorem onlyBorrowed_updBorrowed {s : State} {b : Borrowed} {f : Borrowed → Borrowed}
    (hb : borrowedOf s b.code b.share = some b)
    (hf : ∀ b, (f b).code = b.code ∧ (f b).share = b.share) :
    OnlyBorrowed s (updBorrowed b.code b.share f s) (f b) := by
  refine ⟨rfl, ?_, fun c j hne => borrowedOf_updBorrowed_ne hf ?_⟩
  · rw [(hf b).1, (hf b).2, borrowedOf_updBorrowed_self hf, hb]
    rfl
  · rwa [(hf b).1, (hf b).2] at hne

/-- The line may change beside the entry, and a notice follow. -/
theorem OnlyBorrowed.of_line {s t u : State} {b : Borrowed} (h : OnlyBorrowed s t b)
    (hu : u = { t with line := u.line, notices := u.notices, overflow := u.overflow, link := u.link }) :
    OnlyBorrowed s u b := by
  obtain ⟨ht, hb, hne⟩ := h
  refine ⟨?_, ?_, fun c j hcj => ?_⟩
  · rw [hu, ht]
  · rw [hu]
    exact hb
  · rw [hu]
    exact hne c j hcj

theorem freesBorrowed_freeBorrowed (code share : Nat) (s : State) :
    FreesBorrowed s (freeBorrowed code share s) code share := by
  refine ⟨?_, rfl⟩
  show s.borrowed.filter _ = s.borrowed.filter _
  congr 1
  funext x
  simp only [Bool.not_and, bne]

theorem freeBorrowed_frame (code share : Nat) (s : State) : freeBorrowed code share s
    = { s with borrowed := (freeBorrowed code share s).borrowed
               line := (freeBorrowed code share s).line } := rfl

end Sys2Proof.Machine
end

section
-- One proof at a time: side by side, their threads' stacks outgrow the check's memory.
set_option Elab.async false
/-! Silence and PRESENCE: the events of the station table. -/

namespace Sys2Proof.Machine

/-! ## What an event can touch -/

/-- The blocks a station event can touch: the records of its receivers, their frames and notices. -/
def EventTouches (s t : State) : Prop :=
  t = { s with
    tickets := t.tickets, tabs := t.tabs, line := t.line, kitchen := t.kitchen, port := t.port
    borrowed := t.borrowed, notices := t.notices, overflow := t.overflow, link := t.link }

theorem EventTouches.refl (s : State) : EventTouches s s := rfl

theorem EventTouches.trans {s t u : State} (h : EventTouches s t) (k : EventTouches t u) :
    EventTouches s u := by
  unfold EventTouches at *
  rw [k, h]

theorem EventTouches.foldl {α : Type} {f : State → α → State} (h : ∀ s a, EventTouches s (f s a))
    (xs : List α) (s : State) : EventTouches s (xs.foldl f s) := by
  induction xs generalizing s with
  | nil => exact .refl s
  | cons x xs ih => exact (h s x).trans (ih (f s x))

theorem eventTouches_notify (b : NoticeBody) (s : State) : EventTouches s (notify b s) := by
  unfold EventTouches
  rw [notify_frame]

theorem eventTouches_frameEnded (x : TxItem) (s : State) : EventTouches s (frameEnded x s) := by
  unfold EventTouches
  rw [frameEnded_frame]

theorem eventTouches_offerFrame (dest : Nat) (body : FrameBody) (wait : Bool) (s : State) :
    EventTouches s (offerFrame dest body wait s) := by
  unfold offerFrame
  dsimp only
  split
  · rfl
  · exact eventTouches_frameEnded _ s

/-- The blocks a station event can touch through a till's tickets and tabs. -/
def TillTouches (s t : State) : Prop :=
  t = { s with
    tickets := t.tickets, tabs := t.tabs, line := t.line
    notices := t.notices, overflow := t.overflow, link := t.link }

theorem TillTouches.refl (s : State) : TillTouches s s := rfl

theorem TillTouches.trans {s t u : State} (h : TillTouches s t) (k : TillTouches t u) :
    TillTouches s u := by
  unfold TillTouches at *
  rw [k, h]

theorem TillTouches.foldl {α : Type} {f : State → α → State} (h : ∀ s a, TillTouches s (f s a))
    (xs : List α) (s : State) : TillTouches s (xs.foldl f s) := by
  induction xs generalizing s with
  | nil => exact .refl s
  | cons x xs ih => exact (h s x).trans (ih (f s x))

theorem TillTouches.eventTouches {s t : State} (h : TillTouches s t) : EventTouches s t := by
  unfold EventTouches
  rw [h]

theorem TillTouches.borrowed_eq {s t : State} (h : TillTouches s t) : t.borrowed = s.borrowed := by
  rw [h]

theorem tillTouches_notify (b : NoticeBody) (s : State) : TillTouches s (notify b s) := by
  unfold TillTouches
  rw [notify_frame]

theorem tillTouches_updTicket (n : Nat) (f : Ticket → Ticket) (s : State) :
    TillTouches s (updTicket n f s) := rfl

theorem tillTouches_sendRevoke (dest : Nat) (ref : Ref) (s : State) :
    TillTouches s (sendRevoke dest ref s) := by
  unfold TillTouches sendRevoke
  rw [offerFrame_frame]

theorem tillTouches_ticketEvent (st : Nat) (e : StationEvent) (s : State) (n : Nat) :
    TillTouches s (ticketEvent st e s n) := by
  have hreissue : ∀ n r x c (s : State), TillTouches s (reissue n r x c s) := fun n r x c s => by
    unfold TillTouches
    rw [reissue_frame]
  have hawardee : ∀ t a (s : State), TillTouches s (awardeeEvent t a e s) := fun t a s => by
    unfold awardeeEvent kitchenLost
    split
    · split <;> first | exact hreissue _ _ _ _ s | exact .refl s
    · split <;> first | exact hreissue _ _ _ _ s | exact .refl s
    · split
      · exact (tillTouches_updTicket _ _ s).trans (tillTouches_notify _ _)
      · exact (tillTouches_updTicket _ _ s).trans (tillTouches_notify _ _)
      · exact (tillTouches_updTicket _ _ s).trans (tillTouches_notify _ _)
      · split <;> rfl
      · exact .refl s
    · split
      · exact (tillTouches_updTicket _ _ s).trans (tillTouches_notify _ _)
      · exact (tillTouches_updTicket _ _ s).trans (tillTouches_notify _ _)
      · exact (tillTouches_updTicket _ _ s).trans (tillTouches_notify _ _)
      · split <;> rfl
      · exact .refl s
    · exact .refl s
    · exact .refl s
  have hstale : ∀ t h (s : State), TillTouches s (staleEvent t h e s) := fun t h s => by
    unfold staleEvent
    split
    · rfl
    · dsimp only
      split
      · exact (tillTouches_updTicket _ _ s).trans (tillTouches_sendRevoke _ _ _)
      · rfl
    · exact .refl s
  unfold ticketEvent
  split
  · exact .refl s
  · dsimp only
    split
    · split
      · refine TillTouches.trans ?_ (hstale _ _ _)
        split
        · split
          · exact hawardee _ _ s
          · exact .refl s
        · exact .refl s
      · split
        · split
          · exact hawardee _ _ s
          · exact .refl s
        · exact .refl s
    · split
      · split
        · exact hawardee _ _ s
        · exact .refl s
      · exact .refl s

theorem tillTouches_homeTabEvent (st : Nat) (e : StationEvent) (s : State) (slot : Nat) :
    TillTouches s (homeTabEvent st e s slot) := by
  have hset : ∀ i x (s : State), TillTouches s (setShare slot i x s) := fun i x s => by
    unfold TillTouches
    rw [setShare_frame]
  have hshare : ∀ code i sh (s : State), TillTouches s (homeShareEvent st e slot code i sh s) :=
    fun code i sh s => by
      unfold homeShareEvent
      dsimp only
      split
      · split
        · exact .refl s
        · split
          · split
            · exact hset _ _ s
            · exact .refl s
          · split
            · exact .refl s
            · exact (hset _ _ s).trans (tillTouches_notify _ _)
          · split
            · exact .refl s
            · exact (hset _ _ s).trans (tillTouches_notify _ _)
      · split
        · exact .refl s
        · split
          · split
            · exact (hset _ _ s).trans (tillTouches_notify _ _)
            · exact .refl s
          · split
            · exact .refl s
            · exact (hset _ _ s).trans (tillTouches_notify _ _)
          · exact .refl s
      · exact .refl s
  unfold homeTabEvent
  split
  · exact .foldl (fun s p => hshare _ _ _ s) _ s
  · exact .refl s

theorem tillTouches_homeEvent_ticketEvents (st : Nat) (e : StationEvent) (s : State) :
    TillTouches s (homeEvent st e (ticketEvents st e s)) := by
  unfold homeEvent ticketEvents
  exact (TillTouches.foldl (fun s n => tillTouches_ticketEvent st e s n) _ s).trans
    (.foldl (fun s n => tillTouches_homeTabEvent st e s n) _ _)

theorem eventTouches_borrowedEvent (e : StationEvent) (s : State) (b : Borrowed) :
    EventTouches s (borrowedEvent e s b) := by
  unfold borrowedEvent
  split
  · rfl
  · split
    · unfold homeBack sendRepeat sendHome
      dsimp only
      split
      · exact EventTouches.trans (t := updBorrowed _ _ _ (updBorrowed _ _ _ s)) rfl
          (eventTouches_offerFrame _ _ _ _)
      · rfl
    · exact .refl s
  · split
    · unfold homeRestarted
      split
      · exact EventTouches.trans (t := freeBorrowed _ _ s) rfl (eventTouches_notify _ _)
      · exact EventTouches.trans (t := freeBorrowed _ _ s) rfl (eventTouches_notify _ _)
      · exact EventTouches.trans (t := freeBorrowed _ _ s) rfl (eventTouches_notify _ _)
      · exact EventTouches.trans (t := updBorrowed _ _ _ (cancelWaiting _ s)) rfl
          (eventTouches_notify _ _)
      · exact .refl s
    · exact .refl s

theorem eventTouches_restartEntry (s : State) (e : Entry) : EventTouches s (restartEntry s e) := by
  have hcancel : EventTouches s (dropEntry e.origin e.number (cancelBidOf e s)) := by
    unfold cancelBidOf
    split <;> rfl
  unfold restartEntry
  split
  · exact hcancel.trans (eventTouches_notify _ _)
  · exact EventTouches.trans (t := dropEntry _ _ s) rfl (eventTouches_notify _ _)
  · exact EventTouches.trans (t := updEntry _ _ _ s) rfl (eventTouches_notify _ _)
  · rfl

theorem eventTouches_autoFire (s : State) : EventTouches s (autoFire s) := by
  unfold EventTouches
  rw [autoFire_frame]

theorem eventTouches_raiseEvent (st : Nat) (e : StationEvent) (s : State) :
    EventTouches s (raiseEvent st e s) := by
  unfold raiseEvent
  split
  · unfold settlementEvent borrowerEvent
    exact (tillTouches_homeEvent_ticketEvents st e s).eventTouches.trans
      (.foldl (fun s b => eventTouches_borrowedEvent e s b) _ _)
  · unfold kitchenEvent
    split
    · rfl
    · unfold kitchenRestarted
      exact (EventTouches.foldl eventTouches_restartEntry _ s).trans
        (EventTouches.trans (t := updKitchen _ _) rfl (eventTouches_autoFire _))
    · exact .refl s

theorem EventTouches.heard_eq {s t : State} (h : EventTouches s t) (n : Nat) :
    heard t n = heard s n := by
  rw [h]
  rfl

theorem EventTouches.now_eq {s t : State} (h : EventTouches s t) : now t = now s := by
  rw [h]
  rfl

theorem EventTouches.lastCall_eq {s t : State} (h : EventTouches s t) : t.lastCall = s.lastCall := by
  rw [h]

/-! ## Silence -/

theorem setHeard_frame (n : Nat) (h : Heard) (s : State) :
    setHeard n h s = { s with stations := (setHeard n h s).stations } := by
  unfold setHeard
  split <;> rfl

theorem raiseEvent_silent_kitchen {s : State} (h : role s = .kitchen) (st mark : Nat) :
    raiseEvent st (.silent mark) s = s := by
  unfold raiseEvent
  rw [h]
  rfl

theorem heard_fallSilent {s : State} {n : Nat} {h : Heard} (hn : heard s n = some h) (m : Nat) :
    heard (fallSilent n h s) m = if m = n then some { h with silent := true } else heard s m := by
  have htouch := (eventTouches_raiseEvent n (.silent h.mark) (setHeard n { h with silent := true } s)).trans
    (eventTouches_notify (.silent n h.mark) _)
  have hheard : heard (fallSilent n h s) m = heard (setHeard n { h with silent := true } s) m :=
    htouch.heard_eq m
  rw [hheard]
  split
  · next hm =>
    subst hm
    exact heard_setHeard_self _ (stationNumber_of_heard hn)
  · next hm => exact heard_setHeard_ne _ hm

theorem exec_silenceTimerExpiry {s : State} {n : Nat} {h : Heard} (hn : heard s n = some h)
    (hs : h.silent = false) (hdue : Due s h.lastHeard 3500) :
    exec (.silenceTimerExpiry n) s = .next (fallSilent n h s) := by
  simp only [exec, execSilenceTimerExpiry, hn, hs, advanceUntil_of_due (limit := silenceLimit) hdue]
  rfl

/-- Settles O23. -/
theorem silenceMakesAnEntrySilent : Obligations.SilenceMakesAnEntrySilent := by
  refine ⟨fun s n h hn hs hdue => ?_, fun s st e hr => ?_, fun s st slot e => ⟨fun ht => ?_, fun tb ht => ?_⟩,
    fun s st mark k hk => ⟨fun a ha hst => ⟨fun hstate hw hl hc => ?_, fun hstate hl => ?_⟩, fun h => ?_⟩,
    fun s st mark slot i tb sh ht hsh hc => ⟨fun m hm hm0 => ?_, fun hno => ?_⟩, fun s mark b hb => ?_⟩
  · refine ⟨fallSilent n h s, exec_silenceTimerExpiry hn hs hdue, rfl, ?_, fun m hm => ?_, fun hr => ?_⟩
    · rw [heard_fallSilent hn, if_pos rfl]
    · rw [heard_fallSilent hn, if_neg hm]
    · have hset : role (setHeard n { h with silent := true } s) = .kitchen := by
        rw [setHeard_frame]
        exact hr
      unfold fallSilent
      rw [raiseEvent_silent_kitchen hset, setHeard_frame]
      exact ⟨by rw [notify_frame], notified_notify _ rfl rfl rfl rfl⟩
  · unfold raiseEvent
    rw [hr]
    have hborrowed := (tillTouches_homeEvent_ticketEvents st e s).borrowed_eq
    unfold settlementEvent borrowerEvent
    rw [hborrowed]
    unfold homeEvent ticketEvents
    rfl
  · unfold homeTabEvent
    rw [ht]
  · unfold homeTabEvent
    rw [ht]
  · show Reissued s (ticketEvent st (.silent mark) s k.number) k _ _ _
    rw [ticketEvent_of_awardee hk ha hst (.inr ⟨mark, rfl⟩), awardeeEvent_silent_placed hstate, hst]
    exact reissued_of_canSend (some (st, mark)) _ hk hw hl hc
  · subst hst
    rw [ticketEvent_of_awardee hk ha rfl (.inr ⟨mark, rfl⟩), awardeeEvent_silent hstate hl]
    exact ⟨(onlyTicket_updTicket (f := fun t => { t with
        lost := some .silent, awardee := some { a with mark := mark } }) hk (by exact fun _ => rfl)).notify _,
      notified_notify _ rfl rfl rfl rfl⟩
  · show ticketEvent st (.silent mark) s k.number = s
    by_cases ha : k.awardee.map Awardee.station = some st
    · cases haw : k.awardee with
      | none => simp [haw] at ha
      | some a =>
        have hst : a.station = st := by simpa [haw] using ha
        rw [ticketEvent_of_awardee hk haw hst (.inr ⟨mark, rfl⟩), awardeeEvent_ignored]
        rcases h with h | h | h | ⟨h, hl⟩
        · exact absurd ha h
        · exact .inl h
        · exact .inr (.inl h)
        · exact .inr (.inr (.inl ⟨h, hl, mark, rfl⟩))
    · cases hx : k.stale with
      | none => exact ticketEvent_of_other hk ha (by simp [hx])
      | some x =>
        by_cases hxs : x.station = st
        · rw [ticketEvent_of_stale hk ha hx hxs]
          rfl
        · exact ticketEvent_of_other hk ha (by simpa [hx] using hxs)
  · show OnlyShare s (homeShareEvent st (.silent mark) slot tb.code i sh s) _ _ _ _ _
      ∧ Notified s (homeShareEvent st (.silent mark) slot tb.code i sh s) _
    have heq : homeShareEvent st (.silent mark) slot tb.code i sh s
        = notify (.shareAdrift tb.code i st m .silent) (setShare slot i (.adrift st m .silent) s) := by
      simp [homeShareEvent, hm, hm0]
    rw [heq]
    exact onlyShare_notify _ ht hsh hc rfl rfl
  · show homeShareEvent st (.silent mark) slot tb.code i sh s = s
    unfold homeShareEvent
    dsimp only
    split
    · next holder m hst =>
      rw [if_pos]
      rintro rfl
      exact hno m hst
    · split <;> rfl
    · rfl
  · exact ⟨onlyBorrowed_updBorrowed (f := fun b => { b with homeSilent := true }) hb
      (by exact fun _ => ⟨rfl, rfl⟩), rfl⟩

end Sys2Proof.Machine
end

section
-- One proof at a time: side by side, their threads' stacks outgrow the check's memory.
set_option Elab.async false
/-! A kitchen's answer to RESTARTED: its entries, frames and notices, one entry after the other. -/

namespace Sys2Proof.Machine

/-! ## Auto-fire that has nothing to do (R96) -/

theorem autoFire_of_full {s : State} (h : s.join.figures.fire ≤ cookingCount s) : autoFire s = s := by
  unfold autoFire autoFireList
  cases s.kitchen.entries.length with
  | zero => rfl
  | succ n =>
    unfold fireUpTo
    rw [if_neg (by omega)]

theorem autoFire_of_noEntries {s : State} (h : s.kitchen.entries = []) : autoFire s = s := by
  unfold autoFire autoFireList
  rw [h]
  rfl

/-! ## Frames cancelled for several records (R16) -/

theorem cancelFrames_none {p : TxItem → Bool} (h : ∀ x, p x = false) (s : State) :
    cancelFrames p s = s := by
  have hw : s.line.waiting.filter (fun x => !p x) = s.line.waiting := by simp [h]
  have hs : s.line.sending.map (TxItem.disown p) = s.line.sending := by
    cases s.line.sending <;> simp [TxItem.disown, h]
  unfold cancelFrames
  rw [hw, hs]

theorem disown_disown (p q : TxItem → Bool) (x : TxItem) :
    TxItem.disown q (TxItem.disown p x) = TxItem.disown (fun x => p x || q x) x := by
  unfold TxItem.disown
  by_cases hp : p x = true
  · simp only [hp, Bool.true_or, if_true]
    exact ite_self _
  · simp [hp]

theorem cancelFrames_cancelFrames (p q : TxItem → Bool) (s : State) :
    cancelFrames q (cancelFrames p s) = cancelFrames (fun x => p x || q x) s := by
  have hw : (s.line.waiting.filter fun x => !p x).filter (fun x => !q x)
      = s.line.waiting.filter fun x => !(p x || q x) := by
    rw [List.filter_filter]
    exact List.filter_congr fun x _ => by rw [Bool.not_or, Bool.and_comm]
  have hs : (s.line.sending.map (TxItem.disown p)).map (TxItem.disown q)
      = s.line.sending.map (TxItem.disown fun x => p x || q x) := by
    cases s.line.sending <;> simp [disown_disown]
  simp only [cancelFrames, hw, hs]

/-! ## One entry at RESTARTED (R105) -/

/-- What RESTARTED makes of an entry that has the name of `x`, by the state of `x`. -/
def restartedAs (x e : Entry) : Option Entry :=
  match x.state with
  | .tentative | .queued => none
  | .fired => some { e with state := .revokedFired, bid := none }
  | .revokedFired => some { e with bid := none }

/-- What RESTARTED makes of an entry when it reaches `x`. -/
def restartOne (x e : Entry) : Option Entry :=
  if e.origin = x.origin ∧ e.number = x.number then restartedAs x e else some e

/-- The frames that the end of an entry cancels at RESTARTED: the waiting BID of a TENTATIVE one. -/
def restartCancels (x : Entry) (i : TxItem) : Bool :=
  x.state == .tentative && (x.bid.map fun b => bidFrame x.origin x.number b.gen i).getD false

/-- The notice of an entry that RESTARTED ends. -/
def restartNotice (s : State) (x : Entry) : State :=
  match x.state with
  | .tentative | .queued => notify (.revoked x.origin ⟨x.number, x.gen⟩ .originRestarted) s
  | .fired => notify (.revokedWhileFired x.origin ⟨x.number, x.gen⟩ .originRestarted) s
  | .revokedFired => s

theorem filterMap_dropEntry {x : Entry} (h : ∀ e, restartedAs x e = none) (es : List Entry) :
    es.filterMap (restartOne x)
      = es.filter fun e => !(e.origin == x.origin && e.number == x.number) := by
  rw [← List.filterMap_eq_filter]
  refine List.filterMap_congr fun e _ => ?_
  by_cases hn : e.origin = x.origin ∧ e.number = x.number
  · simp [restartOne, h, hn, Option.guard]
  · have hb : (!(e.origin == x.origin && e.number == x.number)) = true := by
      simp only [Bool.not_eq_true', Bool.and_eq_false_iff, beq_eq_false_iff_ne]
      exact not_and_or.mp hn
    simp only [restartOne, if_neg hn, Option.guard, hb, if_true]

theorem filterMap_updEntry {x : Entry} {f : Entry → Entry} (h : ∀ e, restartedAs x e = some (f e))
    (es : List Entry) : es.filterMap (restartOne x)
      = es.map fun e => if e.origin = x.origin ∧ e.number = x.number then f e else e := by
  rw [← List.filterMap_eq_map]
  refine List.filterMap_congr fun e _ => ?_
  by_cases hn : e.origin = x.origin ∧ e.number = x.number
  · simp [restartOne, h, hn]
  · simp only [restartOne, if_neg hn, Function.comp_apply]

/-- A bid's frames are cancelled where RESTARTED ends a TENTATIVE entry. -/
theorem cancelBidOf_tentative {x : Entry} (h : x.state = .tentative) (s : State) :
    cancelBidOf x s = cancelFrames (restartCancels x) s := by
  unfold cancelBidOf
  cases hb : x.bid with
  | none => exact (cancelFrames_none (fun i => by simp [restartCancels, hb]) s).symm
  | some b =>
    have hp : bidFrame x.origin x.number b.gen = restartCancels x := by
      funext i
      simp [restartCancels, h, hb]
    exact congrArg (fun p => cancelFrames p s) hp

theorem cancelFrames_restart_none {x : Entry} (h : x.state ≠ .tentative) (s : State) :
    cancelFrames (restartCancels x) s = s :=
  cancelFrames_none (fun i => by simp [restartCancels, h]) s

/-- The notice of an entry depends on the notices, the link and the clock. -/
theorem restartNotice_congr {s u : State} (x : Entry) (hn : u.notices = s.notices)
    (ho : u.overflow = s.overflow) (hl : u.link = s.link) (hc : u.clock = s.clock) :
    (restartNotice u x).notices = (restartNotice s x).notices
      ∧ (restartNotice u x).overflow = (restartNotice s x).overflow
      ∧ (restartNotice u x).link = (restartNotice s x).link := by
  unfold restartNotice
  split
  · exact notify_congr _ hn ho hl hc
  · exact notify_congr _ hn ho hl hc
  · exact notify_congr _ hn ho hl hc
  · exact ⟨hn, ho, hl⟩

theorem restartNotice_clock (s : State) (x : Entry) : (restartNotice s x).clock = s.clock := by
  unfold restartNotice
  split
  · rw [notify_frame]
  · rw [notify_frame]
  · rw [notify_frame]
  · rfl

/-- What has changed once RESTARTED has reached the entries `es`, in turn. -/
def restartedOver (entries : List Entry) (p : TxItem → Bool) (told s : State) : State :=
  { s with
    kitchen := { s.kitchen with entries := entries }, line := (cancelFrames p s).line
    notices := told.notices, overflow := told.overflow, link := told.link }

theorem restartEntry_eq (s : State) (x : Entry) :
    restartEntry s x = restartedOver (s.kitchen.entries.filterMap (restartOne x)) (restartCancels x)
      (restartNotice s x) s := by
  cases hs : x.state with
  | tentative =>
    have hd : s.kitchen.entries.filterMap (restartOne x) = _ :=
      filterMap_dropEntry (fun e => by simp [restartedAs, hs]) _
    simp only [restartEntry, restartNotice, restartedOver, hs, hd, cancelBidOf_tentative hs]
    rw [notify_frame]
    obtain ⟨h1, h2, h3⟩ := notify_congr (s := s)
      (t := dropEntry x.origin x.number (cancelFrames (restartCancels x) s))
      (.revoked x.origin (Entry.ref x) .originRestarted) rfl rfl rfl rfl
    rw [h1, h2, h3]
    rfl
  | queued =>
    have hd : s.kitchen.entries.filterMap (restartOne x) = _ :=
      filterMap_dropEntry (fun e => by simp [restartedAs, hs]) _
    simp only [restartEntry, restartNotice, restartedOver, hs, hd,
      cancelFrames_restart_none (by simp [hs] : x.state ≠ .tentative)]
    rw [notify_frame]
    obtain ⟨h1, h2, h3⟩ := notify_congr (s := s) (t := dropEntry x.origin x.number s)
      (.revoked x.origin (Entry.ref x) .originRestarted) rfl rfl rfl rfl
    rw [h1, h2, h3]
    rfl
  | fired =>
    have hd : s.kitchen.entries.filterMap (restartOne x) = _ :=
      filterMap_updEntry (f := fun e => { e with state := .revokedFired, bid := none })
        (fun e => by simp [restartedAs, hs]) _
    simp only [restartEntry, restartNotice, restartedOver, hs, hd,
      cancelFrames_restart_none (by simp [hs] : x.state ≠ .tentative)]
    rw [notify_frame]
    obtain ⟨h1, h2, h3⟩ := notify_congr (s := s)
      (t := updEntry x.origin x.number (fun e => { e with state := .revokedFired, bid := none }) s)
      (.revokedWhileFired x.origin (Entry.ref x) .originRestarted) rfl rfl rfl rfl
    rw [h1, h2, h3]
    rfl
  | revokedFired =>
    have hd : s.kitchen.entries.filterMap (restartOne x) = _ :=
      filterMap_updEntry (f := fun e => { e with bid := none }) (fun e => by simp [restartedAs, hs]) _
    simp only [restartEntry, restartNotice, restartedOver, hs, hd,
      cancelFrames_restart_none (by simp [hs] : x.state ≠ .tentative)]
    rfl

/-! ## Several entries, one after the other -/

/-- What RESTARTED makes of an entry when it reaches those of `es`. -/
def restartAll (es : List Entry) (e : Entry) : Option Entry :=
  match es.find? fun x => x.origin == e.origin && x.number == e.number with
  | some x => restartedAs x e
  | none => some e

theorem restartedAs_name {x e e' : Entry} (h : restartedAs x e = some e') :
    e'.origin = e.origin ∧ e'.number = e.number := by
  unfold restartedAs at h
  split at h <;> simp only [reduceCtorEq, Option.some.injEq] at h <;> subst h <;> exact ⟨rfl, rfl⟩

theorem restartAll_of_fresh {es : List Entry} {e : Entry}
    (h : (e.origin, e.number) ∉ es.map fun x => (x.origin, x.number)) : restartAll es e = some e := by
  have hnone : (es.find? fun x => x.origin == e.origin && x.number == e.number) = none := by
    rw [List.find?_eq_none]
    rintro x hx hxe
    simp only [Bool.and_eq_true, beq_iff_eq] at hxe
    exact h (List.mem_map.2 ⟨x, hx, by rw [hxe.1, hxe.2]⟩)
  unfold restartAll
  rw [hnone]

/-- Entries of different names do not meet: reaching `x` and then `es` is reaching all of them. -/
theorem restartOne_then_all {x : Entry} {es : List Entry}
    (h : ((x :: es).map fun x => (x.origin, x.number)).Nodup) (e : Entry) :
    (restartOne x e).bind (restartAll es) = restartAll (x :: es) e := by
  obtain ⟨hx, -⟩ := List.nodup_cons.1 h
  by_cases hn : e.origin = x.origin ∧ e.number = x.number
  · have hall : restartAll (x :: es) e = restartedAs x e := by
      simp [restartAll, hn]
    rw [hall, restartOne, if_pos hn]
    cases hr : restartedAs x e with
    | none => rfl
    | some e' =>
      obtain ⟨ho, hm⟩ := restartedAs_name hr
      refine restartAll_of_fresh ?_
      rw [ho, hm, hn.1, hn.2]
      exact hx
  · rw [restartOne, if_neg hn]
    have hb : ¬(x.origin == e.origin && x.number == e.number) = true := by
      simp only [Bool.and_eq_true, beq_iff_eq]
      exact fun h => hn ⟨h.1.symm, h.2.symm⟩
    simp only [Option.bind_some, restartAll, List.find?_cons, hb]

/-- Notices queued one after the other depend on the notices, the link and the clock they begin from. -/
theorem foldl_restartNotice_congr (es : List Entry) {s u : State} (hn : u.notices = s.notices)
    (ho : u.overflow = s.overflow) (hl : u.link = s.link) (hc : u.clock = s.clock) :
    (es.foldl restartNotice u).notices = (es.foldl restartNotice s).notices
      ∧ (es.foldl restartNotice u).overflow = (es.foldl restartNotice s).overflow
      ∧ (es.foldl restartNotice u).link = (es.foldl restartNotice s).link := by
  induction es generalizing s u with
  | nil => exact ⟨hn, ho, hl⟩
  | cons x es ih =>
    obtain ⟨h1, h2, h3⟩ := restartNotice_congr x hn ho hl hc
    exact ih h1 h2 h3 (by rw [restartNotice_clock, restartNotice_clock, hc])

theorem foldl_restartEntry (es : List Entry) (s : State)
    (h : (es.map fun x => (x.origin, x.number)).Nodup) :
    es.foldl restartEntry s = restartedOver (s.kitchen.entries.filterMap (restartAll es))
      (fun i => es.any fun x => restartCancels x i) (es.foldl restartNotice s) s := by
  induction es generalizing s with
  | nil =>
    have hall : s.kitchen.entries.filterMap (restartAll []) = s.kitchen.entries :=
      List.filterMap_some
    have hnone : cancelFrames (fun i => ([] : List Entry).any fun x => restartCancels x i) s = s :=
      cancelFrames_none (by exact fun _ => rfl) s
    rw [restartedOver, hall, hnone]
    rfl
  | cons x es ih =>
    rw [List.foldl_cons, ih _ (List.nodup_cons.1 h).2, restartEntry_eq]
    obtain ⟨h1, h2, h3⟩ := foldl_restartNotice_congr es
      (s := restartNotice s x)
      (u := restartedOver (s.kitchen.entries.filterMap (restartOne x)) (restartCancels x)
        (restartNotice s x) s) rfl rfl rfl (restartNotice_clock s x).symm
    have hentries : (s.kitchen.entries.filterMap (restartOne x)).filterMap (restartAll es)
        = s.kitchen.entries.filterMap (restartAll (x :: es)) := by
      rw [List.filterMap_filterMap]
      exact List.filterMap_congr fun e _ => restartOne_then_all h e
    have hline : (cancelFrames (fun i => es.any fun x => restartCancels x i)
          (cancelFrames (restartCancels x) s)).line
        = (cancelFrames (fun i => (x :: es).any fun x => restartCancels x i) s).line := by
      rw [cancelFrames_cancelFrames]
      rfl
    unfold restartedOver at h1 h2 h3 ⊢
    rw [h1, h2, h3, ← hentries, ← hline]
    rfl

/-! ## The whole queue -/

/-- The entries RESTARTED is about, reached in turn: those in the queue by name are themselves. -/
theorem filterMap_restartAll {es : List Entry} (hit : Entry → Bool)
    (h : (es.map fun e => (e.origin, e.number)).Nodup) :
    es.filterMap (restartAll (es.filter hit))
      = (es.filter fun e => !(hit e && (e.state == .tentative || e.state == .queued))).map fun e =>
          if hit e = true then { e with state := .revokedFired, bid := none } else e := by
  rw [← List.filterMap_eq_map, List.filterMap_filter]
  refine List.filterMap_congr fun e he => ?_
  by_cases hh : hit e = true
  · have hfound : restartAll (es.filter hit) e = restartedAs e e := by
      have hmem : e ∈ es.filter hit := List.mem_filter.2 ⟨he, hh⟩
      cases hf : (es.filter hit).find? fun x => x.origin == e.origin && x.number == e.number with
      | none => exact absurd (List.find?_eq_none.1 hf e hmem) (by simp)
      | some x =>
        have hx := List.mem_of_find?_eq_some hf
        have hname := List.find?_some hf
        simp only [Bool.and_eq_true, beq_iff_eq] at hname
        have : x = e := List.inj_on_of_nodup_map h (List.mem_filter.1 hx).1 he
          (by rw [hname.1, hname.2])
        subst this
        simp only [restartAll, hf]
    rw [hfound]
    cases hs : e.state <;> simp [restartedAs, hs, hh]
  · have hnone : restartAll (es.filter hit) e = some e := by
      refine restartAll_of_fresh fun hm => ?_
      obtain ⟨x, hx, hname⟩ := List.mem_map.1 hm
      have : x = e := List.inj_on_of_nodup_map h (List.mem_filter.1 hx).1 he hname
      subst this
      exact hh (List.mem_filter.1 hx).2
    simp [hnone, hh]

/-- RESTARTED ends no entry's place in the fire capacity (R96, R105). -/
theorem cookingCount_restarted (hit : Entry → Bool) (es : List Entry) :
    (((es.filter fun e => !(hit e && (e.state == .tentative || e.state == .queued))).map fun e =>
        if hit e = true then { e with state := .revokedFired, bid := none } else e).filter
          Entry.cooking).length
      = (es.filter Entry.cooking).length := by
  rw [← List.countP_eq_length_filter, ← List.countP_eq_length_filter, List.countP_map,
    List.countP_filter]
  refine List.countP_congr fun e _ => ?_
  by_cases hh : hit e = true <;> cases hs : e.state <;> simp [hh, hs, Entry.cooking]

end Sys2Proof.Machine
end

section
-- One proof at a time: side by side, their threads' stacks outgrow the check's memory.
set_option Elab.async false
/-! PRESENCE and the other frames the station table hears. -/

namespace Sys2Proof.Machine

/-! ## The steps of R36 -/

/-- The entry that a PRESENCE heard at `s` writes (R36, step 2). -/
theorem heardFrom_congr {s t : State} (h : now t = now s) (p : PresenceFields) (b : Bool) :
    heardFrom t p b = heardFrom s p b := by
  unfold heardFrom
  rw [h]

theorem eventTouches_noteRestart (src : Nat) (p : PresenceFields) (old : Option Heard) (s : State) :
    EventTouches s (noteRestart src p old s) := by
  unfold noteRestart
  split
  · split
    · exact (eventTouches_raiseEvent _ _ s).trans (eventTouches_notify _ _)
    · exact .refl s
  · exact .refl s

/-- The station table's step 2 of R36, before any PRESENT is raised. -/
theorem eventTouches_notePresent (src : Nat) (p : PresenceFields) (old : Option Heard) (s : State) :
    EventTouches (setHeard src (heardFrom s p false) s) (notePresent src p old s) := by
  unfold notePresent
  dsimp only
  split
  · exact (eventTouches_raiseEvent _ _ _).trans (eventTouches_notify _ _)
  · exact .refl _

theorem heard_adoptLastCall (src n : Nat) (s : State) : heard (adoptLastCall src s) n = heard s n := by
  unfold adoptLastCall
  split
  · rfl
  · rw [notify_frame]
    rfl

theorem heard_takePresence {src : Nat} (hsrc : stationNumber src = true) (p : PresenceFields)
    (s : State) (m : Nat) : heard (takePresence src p s) m
      = if m = src then some (heardFrom s p false) else heard s m := by
  have hrestart := eventTouches_noteRestart src p (heard s src) s
  have hpresent := eventTouches_notePresent src p (heard s src) (noteRestart src p (heard s src) s)
  have hheard : heard (takePresence src p s) m
      = heard (notePresent src p (heard s src) (noteRestart src p (heard s src) s)) m := by
    unfold takePresence
    dsimp only
    split
    · exact heard_adoptLastCall _ _ _
    · rfl
  rw [hheard, hpresent.heard_eq, heardFrom_congr hrestart.now_eq]
  split
  · next h =>
    subst h
    exact heard_setHeard_self _ hsrc
  · next h => rw [heard_setHeard_ne _ h, hrestart.heard_eq]

/-- A PRESENCE of another station is taken by the station table alone. -/
theorem exec_presence {s : State} {dest src : Nat} {p : PresenceFields}
    (h : Delivers s ⟨dest, src, .presence p⟩) : exec (.presence dest src p) s
      = .next (takePresence src p { s with line := { s.line with inbound := s.line.inbound.tail } }) := by
  obtain ⟨harr, hne⟩ := h
  have hne' : ¬src = station { s with line := { s.line with inbound := s.line.inbound.tail } } := hne
  simp only [exec, execPresence, deliver_of harr, deliverTo, if_neg hne', id_eq]

/-- A delivered frame is of a station number (R11). -/
theorem stationNumber_of_arrives {s : State} {f : Frame} (h : Arrives s f) :
    stationNumber f.src = true := by
  obtain ⟨-, hv, -⟩ := h
  simp only [Frame.valid, Bool.and_eq_true] at hv
  exact hv.1.2

theorem adoptLastCall_of_set {s : State} (h : s.lastCall = true) (src : Nat) : adoptLastCall src s = s := by
  unfold adoptLastCall
  rw [if_pos h]

/-! ## Events that find nothing -/

theorem updKitchen_self {f : Kitchen → Kitchen} {s : State} (h : f s.kitchen = s.kitchen) :
    updKitchen f s = s := by
  unfold updKitchen
  rw [h]

theorem kitchenEvent_of_empty {s : State} (st : Nat) (e : StationEvent) (hk : s.kitchen.entries = [])
    (hl : s.kitchen.lapsed = []) (hp : s.kitchen.pass = []) : kitchenEvent st e s = s := by
  unfold kitchenEvent
  split
  · refine updKitchen_self ?_
    rw [hk, hp, List.map_nil, List.map_nil, ← hk, ← hp]
  · unfold kitchenRestarted
    dsimp only
    rw [hk, List.filter_nil, List.foldl_nil, updKitchen_self, autoFire_of_noEntries hk]
    rw [hl, hp, List.filter_nil, List.map_nil, ← hl, ← hp]
  · rfl

theorem foldl_homeTabEvent_of_noTabs {s : State} (st : Nat) (e : StationEvent)
    (h : ∀ i, tabIn s i = none) (slots : List Nat) : slots.foldl (homeTabEvent st e) s = s := by
  induction slots with
  | nil => rfl
  | cons i slots ih =>
    have hi : homeTabEvent st e s i = s := by
      unfold homeTabEvent
      rw [h i]
    rw [List.foldl_cons, hi, ih]

theorem raiseEvent_of_empty {s : State} (st : Nat) (e : StationEvent) (ht : s.tickets = [])
    (hb : s.borrowed = []) (htab : ∀ i, tabIn s i = none) (hk : s.kitchen.entries = [])
    (hl : s.kitchen.lapsed = []) (hp : s.kitchen.pass = []) : raiseEvent st e s = s := by
  unfold raiseEvent
  split
  · unfold settlementEvent borrowerEvent homeEvent ticketEvents
    rw [ht, List.map_nil, List.foldl_nil, foldl_homeTabEvent_of_noTabs st e htab, hb]
    rfl
  · exact kitchenEvent_of_empty st e hk hl hp

/-! ## RESTARTED and PRESENT at a ticket record -/

theorem staleEvent_restarted {s : State} {k : Ticket} (hk : ticketOf s k.number = some k)
    (x : StaleHolder) (mark : Nat) : OnlyTicket s (staleEvent k x (.restarted mark) s) { k with stale := none }
      ∧ staleEvent k x (.restarted mark) s
        = { s with tickets := (staleEvent k x (.restarted mark) s).tickets } :=
  ⟨onlyTicket_updTicket (f := fun t => { t with stale := none }) hk (by exact fun _ => rfl), rfl⟩

/-- A PRESENT under the stale holder's own mark sends it a REVOKE (R78). -/
theorem staleEvent_present {s : State} {k : Ticket} (hk : ticketOf s k.number = some k)
    (x : StaleHolder) (mark : Nat) (hc : CanSend s 1) :
    staleEvent k x (.present mark) s = { s with
        tickets := (staleEvent k x (.present mark) s).tickets
        line := (staleEvent k x (.present mark) s).line }
      ∧ ticketOf (staleEvent k x (.present mark) s) k.number = some { k with stale := none }
      ∧ (∀ m, m ≠ k.number → ticketOf (staleEvent k x (.present mark) s) m = ticketOf s m)
      ∧ (x.mark = mark → Sends s (staleEvent k x (.present mark) s) x.station
          (.revoke ⟨k.number, x.gen⟩) false)
      ∧ (x.mark ≠ mark → (staleEvent k x (.present mark) s).line = s.line) := by
  obtain ⟨-, hself, hother⟩ :=
    onlyTicket_updTicket (f := fun t => { t with stale := none }) hk (by exact fun _ => rfl)
  by_cases hm : mark = x.mark
  · have heq : staleEvent k x (.present mark) s
        = sendRevoke x.station ⟨k.number, x.gen⟩
            (updTicket k.number (fun t => { t with stale := none }) s) := if_pos hm
    rw [heq, sendRevoke, offerFrame_of_free (by exact hc.1) (by exact hc.2)]
    exact ⟨rfl, hself, hother, fun _ => rfl, fun h => absurd hm.symm h⟩
  · have heq : staleEvent k x (.present mark) s
        = updTicket k.number (fun t => { t with stale := none }) s := if_neg hm
    rw [heq]
    exact ⟨rfl, hself, hother, fun h => absurd h.symm hm, fun _ => rfl⟩

/-! ## RESTARTED and PRESENT at a borrowed entry (R153) -/

theorem homeRestarted_freed {b : Borrowed}
    (h : b.state = .asking ∨ b.state = .borrowed ∨ b.state = .returning) (s : State) :
    homeRestarted b s = notify (.homeLost b.code b.share b.slot b.state) (freeBorrowed b.code b.share s) := by
  unfold homeRestarted
  rcases h with h | h | h <;> rw [h]

theorem homeRestarted_confirming {b : Borrowed} (h : b.state = .confirming) (s : State) :
    homeRestarted b s = notify (.homeLost b.code b.share b.slot .confirming)
      (updBorrowed b.code b.share (fun b => { b with state := .orphaned, wait := .none, paused := false })
        (cancelWaiting (ofBorrowed b.code b.share) s)) := by
  unfold homeRestarted
  rw [h]

theorem freedWithNotice (code share : Nat) (body : NoticeBody) (s : State) :
    notify body (freeBorrowed code share s) = { s with
        borrowed := (notify body (freeBorrowed code share s)).borrowed
        line := (notify body (freeBorrowed code share s)).line
        notices := (notify body (freeBorrowed code share s)).notices
        overflow := (notify body (freeBorrowed code share s)).overflow
        link := (notify body (freeBorrowed code share s)).link }
      ∧ FreesBorrowed s (notify body (freeBorrowed code share s)) code share
      ∧ Notified s (notify body (freeBorrowed code share s)) body := by
  obtain ⟨h1, h2⟩ := freesBorrowed_freeBorrowed code share s
  refine ⟨?_, ⟨?_, ?_⟩, notified_notify _ rfl rfl rfl rfl⟩
  · rw [notify_frame]
    rfl
  · rw [notify_frame]
    exact h1
  · rw [notify_frame]
    exact h2

/-- An entry becomes another in place, its waiting frames cancelled, and a notice follows. -/
theorem changedWithNotice {s : State} {b : Borrowed} {f : Borrowed → Borrowed}
    (hb : borrowedOf s b.code b.share = some b) (hf : ∀ b, (f b).code = b.code ∧ (f b).share = b.share)
    (p : TxItem → Bool) (body : NoticeBody) :
    OnlyBorrowed s (notify body (updBorrowed b.code b.share f (cancelWaiting p s))) (f b)
      ∧ CancelsWaiting s (notify body (updBorrowed b.code b.share f (cancelWaiting p s))) p
      ∧ Notified s (notify body (updBorrowed b.code b.share f (cancelWaiting p s))) body := by
  refine ⟨(onlyBorrowed_updBorrowed hb hf).of_line ?_, ?_, notified_notify _ rfl rfl rfl rfl⟩
  · rw [notify_frame]
    rfl
  · rw [notify_frame]
    rfl

theorem updBorrowed_updBorrowed {code share : Nat} {f g : Borrowed → Borrowed}
    (hf : ∀ b, (f b).code = b.code ∧ (f b).share = b.share) (s : State) :
    updBorrowed code share g (updBorrowed code share f s)
      = updBorrowed code share (fun b => g (f b)) s := by
  simp only [updBorrowed, List.map_map]
  congr 1
  refine List.map_congr_left fun b _ => ?_
  simp only [Function.comp_apply]
  by_cases h : b.code = code ∧ b.share = share
  · rw [if_pos h, if_pos h, if_pos (by rwa [(hf b).1, (hf b).2])]
  · rw [if_neg h, if_neg h, if_neg h]

/-- A repeat frame that finds room is sent and counted (R151). -/
theorem sendRepeat_of_canSend {s : State} {b : Borrowed} (hb : borrowedOf s b.code b.share = some b)
    (hc : CanSend s 1) :
    OnlyBorrowed s (sendRepeat b s) { b with attempts := b.attempts + 1, wait := .none, paused := false }
      ∧ Sends s (sendRepeat b s) (codeHome b.code) (repeatBody b) true
      ∧ sendRepeat b s
        = { s with borrowed := (sendRepeat b s).borrowed, line := (sendRepeat b s).line } := by
  have hsent : sendRepeat b s = offerFrame (codeHome b.code) (repeatBody b) true
      (updBorrowed b.code b.share
        (fun b => { b with attempts := b.attempts + 1, wait := .none, paused := false }) s) := rfl
  rw [hsent, offerFrame_of_free (by exact hc.1) (by exact hc.2)]
  exact ⟨(onlyBorrowed_updBorrowed (f := fun b =>
    { b with attempts := b.attempts + 1, wait := .none, paused := false }) hb
      (by exact fun _ => ⟨rfl, rfl⟩)).of_line rfl, rfl, rfl⟩

theorem homeBack_of_ready {b : Borrowed} {mark : Nat} {s : State}
    (h : b.paused = false ∨ b.state ≠ .confirming ∧ b.state ≠ .returning) :
    homeBack b mark s
      = updBorrowed b.code b.share (fun b => { b with homeMark := mark, homeSilent := false }) s := by
  unfold homeBack
  refine if_neg ?_
  rintro ⟨hp, hs⟩
  rcases h with h | ⟨h1, h2⟩
  · rw [h] at hp
    cases hp
  · exact hs.elim h1 h2

/-- A paused entry whose home is back sends its frame at once (R153). -/
theorem homeBack_of_paused {b : Borrowed} {mark : Nat} {s : State}
    (hb : borrowedOf s b.code b.share = some b) (hc : CanSend s 1) (hp : b.paused = true)
    (hs : b.state = .confirming ∨ b.state = .returning) :
    Sends s (homeBack b mark s) (codeHome b.code) (repeatBody b) true
      ∧ OnlyBorrowed s (homeBack b mark s) { b with
          homeMark := mark, homeSilent := false, attempts := b.attempts + 1, wait := .none,
          paused := false }
      ∧ homeBack b mark s
        = { s with borrowed := (homeBack b mark s).borrowed, line := (homeBack b mark s).line } := by
  have hsent : homeBack b mark s = offerFrame (codeHome b.code) (repeatBody b) true
      (updBorrowed b.code b.share (fun b => { b with
          homeMark := mark, homeSilent := false, attempts := b.attempts + 1, wait := .none,
          paused := false }) s) := by
    unfold homeBack sendRepeat sendHome
    dsimp only
    rw [if_pos ⟨hp, hs⟩, updBorrowed_updBorrowed (by exact fun _ => ⟨rfl, rfl⟩)]
  rw [hsent, offerFrame_of_free (by exact hc.1) (by exact hc.2)]
  exact ⟨rfl, (onlyBorrowed_updBorrowed (f := fun b => { b with
    homeMark := mark, homeSilent := false, attempts := b.attempts + 1, wait := .none,
    paused := false }) hb (by exact fun _ => ⟨rfl, rfl⟩)).of_line rfl, rfl⟩

/-! ## RESTARTED at a kitchen (R105) -/

/-- The queue once RESTARTED has reached its entries, before auto-fire. -/
def restartedQueue (st mark : Nat) (s : State) : State :=
  updKitchen (fun k => { k with
      lapsed := k.lapsed.filter fun l => l.origin != st
      pass := k.pass.map fun p => if p.origin = st then { p with stopped := true } else p })
    ((s.kitchen.entries.filter fun e => e.origin == st && (e.mark == 0 || e.mark != mark)).foldl
      restartEntry s)

theorem raiseEvent_restarted_kitchen {s : State} (hr : role s = .kitchen) (st mark : Nat) :
    raiseEvent st (.restarted mark) s = autoFire (restartedQueue st mark s) := by
  unfold raiseEvent
  rw [hr]
  rfl

/-- What RESTARTED leaves of the queue, its frames and notices. -/
theorem restartedQueue_eq {s : State} (st mark : Nat)
    (h : (s.kitchen.entries.map fun e => (e.origin, e.number)).Nodup) (hit : Entry → Bool)
    (hhit : hit = fun e => e.origin == st && (e.mark == 0 || e.mark != mark)) :
    restartedQueue st mark s = { s with
      kitchen := { s.kitchen with
        entries := (s.kitchen.entries.filter fun e =>
          !(hit e && (e.state == .tentative || e.state == .queued))).map fun e =>
            if hit e = true then { e with state := .revokedFired, bid := none } else e
        lapsed := s.kitchen.lapsed.filter fun l => l.origin != st
        pass := s.kitchen.pass.map fun x => if x.origin = st then { x with stopped := true } else x }
      line := (cancelFrames (fun i =>
        (s.kitchen.entries.filter hit).any fun x => restartCancels x i) s).line
      notices := ((s.kitchen.entries.filter hit).foldl restartNotice s).notices
      overflow := ((s.kitchen.entries.filter hit).foldl restartNotice s).overflow
      link := ((s.kitchen.entries.filter hit).foldl restartNotice s).link } := by
  have hfresh : ((s.kitchen.entries.filter hit).map fun e => (e.origin, e.number)).Nodup :=
    h.sublist (List.filter_sublist.map _)
  unfold restartedQueue
  rw [← hhit, foldl_restartEntry _ s hfresh, filterMap_restartAll hit h]
  rfl

/-- What RESTARTED ends leaves the fire capacity as it was, so auto-fire may have nothing to do (R96). -/
theorem autoFire_restartedQueue {s : State} (st mark : Nat)
    (h : (s.kitchen.entries.map fun e => (e.origin, e.number)).Nodup)
    (hfull : s.join.figures.fire ≤ cookingCount s) :
    autoFire (restartedQueue st mark s) = restartedQueue st mark s := by
  refine autoFire_of_full ?_
  rw [restartedQueue_eq st mark h _ rfl]
  exact hfull.trans (cookingCount_restarted _ s.kitchen.entries).ge

end Sys2Proof.Machine
end

section
-- One proof at a time: side by side, their threads' stacks outgrow the check's memory.
set_option Elab.async false
/-! The station table hears PRESENCE and the other frames. -/

namespace Sys2Proof.Machine

/-! ## The steps of a PRESENCE, as the statement writes them -/

theorem noteRestart_eq (src : Nat) (p : PresenceFields) (old : Option Heard) (s : State) :
    noteRestart src p old s
      = if (old.any fun h => h.mark != p.mark) = true then
          notify (.restarted src ((old.map Heard.mark).getD 0) p.mark)
            (raiseEvent src (.restarted p.mark) s)
        else s := by
  cases old with
  | none => rfl
  | some h =>
    by_cases hm : h.mark = p.mark
    · simp [noteRestart, hm]
    · simp [noteRestart, hm]

theorem notePresent_eq (src : Nat) (p : PresenceFields) (old : Option Heard) (s : State) :
    notePresent src p old s
      = if (old.all fun h => h.silent) = true then
          notify (.present src p.mark)
            (raiseEvent src (.present p.mark) (setHeard src (heardFrom s p false) s))
        else setHeard src (heardFrom s p false) s := by
  cases old <;> rfl

theorem takePresence_eq (src : Nat) (p : PresenceFields) (s : State) :
    takePresence src p s
      = if p.lastCall = true ∧ s.lastCall = false then
          notify (.lastCall src)
            { notePresent src p (heard s src) (noteRestart src p (heard s src) s) with lastCall := true }
        else notePresent src p (heard s src) (noteRestart src p (heard s src) s) := by
  have hlast : (notePresent src p (heard s src) (noteRestart src p (heard s src) s)).lastCall
      = s.lastCall := by
    rw [(eventTouches_notePresent src p _ _).lastCall_eq, setHeard_lastCall,
      (eventTouches_noteRestart src p _ s).lastCall_eq]
  unfold takePresence
  dsimp only
  cases hp : p.lastCall with
  | false => rfl
  | true =>
    cases hs : s.lastCall with
    | true =>
      rw [hs] at hlast
      exact adoptLastCall_of_set hlast src
    | false =>
      rw [hs] at hlast
      unfold adoptLastCall
      rw [hlast]
      rfl

theorem exec_presence_steps {s : State} {dest src : Nat} {p : PresenceFields}
    (h : Delivers s ⟨dest, src, .presence p⟩) :
    let old := heard s src
    let s₀ := { s with line := { s.line with inbound := s.line.inbound.tail } }
    let s₁ := if (old.any fun h => h.mark != p.mark) = true then
        notify (.restarted src ((old.map Heard.mark).getD 0) p.mark)
          (raiseEvent src (.restarted p.mark) s₀)
      else s₀
    let s₂ := setHeard src (heardFrom s p false) s₁
    let s₃ := if (old.all fun h => h.silent) = true then
        notify (.present src p.mark) (raiseEvent src (.present p.mark) s₂)
      else s₂
    exec (.presence dest src p) s
      = .next (if p.lastCall = true ∧ s.lastCall = false then
          notify (.lastCall src) { s₃ with lastCall := true } else s₃) := by
  intro old s₀ s₁ s₂ s₃
  have h₁ : noteRestart src p old s₀ = s₁ := noteRestart_eq src p old s₀
  have h₃ : notePresent src p old s₁ = s₃ := by
    have hnow : now s₁ = now s := by
      rw [← h₁]
      exact (eventTouches_noteRestart src p old s₀).now_eq
    rw [notePresent_eq, heardFrom_congr hnow]
  rw [exec_presence h, takePresence_eq]
  show Host.Outcome.next (if p.lastCall = true ∧ s.lastCall = false then
      notify (.lastCall src) { notePresent src p old (noteRestart src p old s₀) with lastCall := true }
    else notePresent src p old (noteRestart src p old s₀)) = _
  rw [h₁, h₃]

/-! ## A PRESENCE with nothing to tell -/

/-- No table or queue holds anything an event could be about. -/
def NothingHeld (s : State) : Prop :=
  s.tickets = [] ∧ s.borrowed = [] ∧ (∀ i, tabIn s i = none) ∧ s.kitchen.entries = []
    ∧ s.kitchen.lapsed = [] ∧ s.kitchen.pass = []

theorem NothingHeld.raiseEvent_eq {s : State} (h : NothingHeld s) (st : Nat) (e : StationEvent) :
    raiseEvent st e s = s := by
  obtain ⟨ht, hb, htab, hk, hl, hp⟩ := h
  exact raiseEvent_of_empty st e ht hb htab hk hl hp

theorem NothingHeld.notify {s : State} (h : NothingHeld s) (b : NoticeBody) :
    NothingHeld (notify b s) := by
  rw [notify_frame]
  exact h

theorem NothingHeld.setHeard {s : State} (h : NothingHeld s) (n : Nat) (x : Heard) :
    NothingHeld (setHeard n x s) := by
  rw [setHeard_frame]
  exact h

theorem NothingHeld.notePresent_eq {s : State} (h : NothingHeld s) (src : Nat) (p : PresenceFields)
    (old : Option Heard) : notePresent src p old s
      = if (old.all fun h => h.silent) = true then
          Machine.notify (.present src p.mark) (Machine.setHeard src (heardFrom s p false) s)
        else Machine.setHeard src (heardFrom s p false) s := by
  rw [Machine.notePresent_eq, (h.setHeard src _).raiseEvent_eq]

theorem NothingHeld.noteRestart_eq {s : State} (h : NothingHeld s) (src : Nat) (p : PresenceFields)
    (old : Option Heard) : noteRestart src p old s
      = if (old.any fun h => h.mark != p.mark) = true then
          Machine.notify (.restarted src ((old.map Heard.mark).getD 0) p.mark) s
        else s := by
  rw [Machine.noteRestart_eq, h.raiseEvent_eq]

/-- A notice after the entry of a station has changed is the notice queued now. -/
theorem notified_notify_setHeard (b : NoticeBody) (n : Nat) (x : Heard) (s : State) :
    Notified s (notify b (setHeard n x s)) b := by
  rw [setHeard_frame]
  exact notified_notify b rfl rfl rfl rfl

/-- What a notice adds depends on the notices, the link and the clock before it. -/
theorem Notified.congr {s u t : State} {b : NoticeBody} (h : Notified u t b)
    (hn : u.notices = s.notices) (ho : u.overflow = s.overflow) (hl : u.link = s.link)
    (hc : u.clock = s.clock) : Notified s t b := by
  obtain ⟨⟨h1, h2⟩, h3⟩ := h
  obtain ⟨e1, e2, e3⟩ := notify_congr b hn ho hl hc
  exact ⟨⟨h1.trans e1, h2.trans e2⟩, h3.trans e3⟩

/-- With nothing held, a PRESENCE queues RESTARTED for another mark and PRESENT for an entry that was not. -/
theorem NothingHeld.notices_takePresence {s : State} (h : NothingHeld s) {src : Nat} {p : PresenceFields}
    (hlast : p.lastCall = false) :
    (heard s src = none → Notified s (takePresence src p s) (.present src p.mark))
      ∧ ∀ o, heard s src = some o →
        (o.mark = p.mark → o.silent = false → (takePresence src p s).notices = s.notices
            ∧ (takePresence src p s).overflow = s.overflow ∧ (takePresence src p s).link = s.link)
          ∧ (o.mark = p.mark → o.silent = true →
              Notified s (takePresence src p s) (.present src p.mark))
          ∧ (o.mark ≠ p.mark → o.silent = false →
              Notified s (takePresence src p s) (.restarted src o.mark p.mark))
          ∧ (o.mark ≠ p.mark → o.silent = true →
              Notified (Machine.notify (.restarted src o.mark p.mark) s) (takePresence src p s)
                (.present src p.mark)) := by
  have htake : takePresence src p s = notePresent src p (heard s src) (noteRestart src p (heard s src) s) := by
    rw [takePresence_eq, hlast, if_neg (by simp)]
  rw [htake, h.noteRestart_eq]
  refine ⟨fun hn => ?_, fun o ho => ⟨fun hm hs => ?_, fun hm hs => ?_, fun hm hs => ?_, fun hm hs => ?_⟩⟩
  · rw [hn, if_neg (by simp), h.notePresent_eq, if_pos (by simp)]
    exact notified_notify_setHeard _ _ _ _
  · rw [ho, if_neg (by simp [hm]), h.notePresent_eq, if_neg (by simp [hs]), setHeard_frame]
    exact ⟨rfl, rfl, rfl⟩
  · rw [ho, if_neg (by simp [hm]), h.notePresent_eq, if_pos (by simp [hs])]
    exact notified_notify_setHeard _ _ _ _
  · rw [ho, if_pos (by simpa using hm), (h.notify _).notePresent_eq, if_neg (by simp [hs]), setHeard_frame]
    exact ⟨⟨rfl, rfl⟩, rfl⟩
  · rw [ho, if_pos (by simpa using hm), (h.notify _).notePresent_eq, if_pos (by simp [hs])]
    exact notified_notify_setHeard _ _ _ _

theorem NothingHeld.takePresence_frame {s : State} (h : NothingHeld s) {src : Nat} {p : PresenceFields}
    (hlast : p.lastCall = false) : takePresence src p s = { s with
        stations := (takePresence src p s).stations, notices := (takePresence src p s).notices
        overflow := (takePresence src p s).overflow, link := (takePresence src p s).link } := by
  have htake : takePresence src p s = notePresent src p (heard s src) (noteRestart src p (heard s src) s) := by
    rw [takePresence_eq, hlast, if_neg (by simp)]
  have hpresent : ∀ u, NothingHeld u → notePresent src p (heard s src) u = { u with
      stations := (notePresent src p (heard s src) u).stations
      notices := (notePresent src p (heard s src) u).notices
      overflow := (notePresent src p (heard s src) u).overflow
      link := (notePresent src p (heard s src) u).link } := fun u hu => by
    rw [hu.notePresent_eq]
    split
    · rw [notify_frame, setHeard_frame]
    · rw [setHeard_frame]
  rw [htake, h.noteRestart_eq]
  split
  · rw [hpresent _ (h.notify _), notify_frame]
  · exact hpresent s h

/-! ## The other frames (R13, R35) -/

theorem role_arrived (f : Frame) (s : State) : role (arrived f s) = role s := by
  rw [arrived_eq]
  rfl

/-- A frame whose owner is at the other role only arrives (R13). -/
theorem deliverFrame_atKitchen_of_till {s : State} {f : Frame} (hr : role s = .till) (h : Delivers s f)
    (owner : State → State) : deliverFrame f (atKitchen owner) s = arrived f s := by
  have hr' : ¬role (arrived f s) = .kitchen := by rw [role_arrived, hr]; exact nofun
  rw [deliverFrame_of h, atKitchen, if_neg hr']

theorem deliverFrame_atTill_of_kitchen {s : State} {f : Frame} (hr : role s = .kitchen)
    (h : Delivers s f) (owner : State → State) : deliverFrame f (atTill owner) s = arrived f s := by
  have hr' : ¬role (arrived f s) = .till := by rw [role_arrived, hr]; exact nofun
  rw [deliverFrame_of h, atTill, if_neg hr']

/-! ## The statement -/

/-- RESTARTED at a ticket record (R76, R78). -/
theorem ticketEvent_restarted {s : State} (st mark : Nat) {k : Ticket}
    (hk : ticketOf s k.number = some k) :
    (∀ a : Awardee, k.awardee = some a → a.station = st → k.stale.map StaleHolder.station ≠ some st →
      (k.state = .placing ∨ k.state = .placed → k.withdrawals = [] → k.live ≠ 0#8 → CanSend s 1 →
        Reissued s (ticketEvent st (.restarted mark) s k.number) k k.stale .awardeeRestarted
          (s.line.waiting.filter fun x => !ofTicket k.number x))
      ∧ (k.state = .fired ∨ k.state = .ready → k.lost ≠ some .restarted →
        OnlyTicket s (ticketEvent st (.restarted mark) s k.number) { k with lost := some .restarted }
        ∧ Notified s (ticketEvent st (.restarted mark) s k.number)
            (.kitchenLost ⟨k.number, k.gen⟩ (tabCode (station s) k.slot k.issue) st .restarted))
      ∧ (k.state = .fired ∨ k.state = .ready → k.lost = some .restarted →
        ticketEvent st (.restarted mark) s k.number = s))
    ∧ (k.awardee.map Awardee.station ≠ some st → k.stale.map StaleHolder.station = some st →
        OnlyTicket s (ticketEvent st (.restarted mark) s k.number) { k with stale := none }
        ∧ ticketEvent st (.restarted mark) s k.number
          = { s with tickets := (ticketEvent st (.restarted mark) s k.number).tickets })
    ∧ (k.awardee.map Awardee.station ≠ some st → k.stale.map StaleHolder.station ≠ some st →
        ticketEvent st (.restarted mark) s k.number = s) := by
  refine ⟨fun a ha hst hx => ⟨fun hstate hw hl hc => ?_, fun hstate hl => ?_, fun hstate hl => ?_⟩,
    fun ha hx => ?_, fun ha hx => ticketEvent_of_other hk ha hx⟩
  · rw [ticketEvent_of_awardee hk ha hst (.inl hx), awardeeEvent_restarted_placed hstate]
    exact reissued_of_canSend none _ hk hw hl hc
  · subst hst
    rw [ticketEvent_of_awardee hk ha rfl (.inl hx), awardeeEvent_restarted hstate hl]
    exact ⟨(onlyTicket_updTicket (f := fun t => { t with lost := some .restarted }) hk
      (by exact fun _ => rfl)).notify _, notified_notify _ rfl rfl rfl rfl⟩
  · rw [ticketEvent_of_awardee hk ha hst (.inl hx)]
    exact awardeeEvent_ignored (.inr (.inr (.inr (.inl ⟨hstate, hl, mark, rfl⟩)))) s
  · cases hs : k.stale with
    | none => simp [hs] at hx
    | some x =>
      rw [ticketEvent_of_stale hk ha hs (by simpa [hs] using hx)]
      exact staleEvent_restarted hk x mark

/-- PRESENT at a ticket record (R76, R78). -/
theorem ticketEvent_present {s : State} (st mark : Nat) {k : Ticket}
    (hk : ticketOf s k.number = some k) :
    (∀ a : Awardee, k.awardee = some a → a.station = st → k.stale.map StaleHolder.station ≠ some st →
      ((k.state = .fired ∨ k.state = .ready) ∧ k.lost = some .silent ∧ a.mark = mark →
        OnlyTicket s (ticketEvent st (.present mark) s k.number) { k with lost := none }
        ∧ ticketEvent st (.present mark) s k.number
          = { s with tickets := (ticketEvent st (.present mark) s k.number).tickets })
      ∧ (k.state = .placing ∨ k.state = .placed ∨ k.lost ≠ some .silent ∨ a.mark ≠ mark →
        ticketEvent st (.present mark) s k.number = s))
    ∧ (∀ x : StaleHolder, k.awardee.map Awardee.station ≠ some st → k.stale = some x →
        x.station = st → CanSend s 1 →
        ticketEvent st (.present mark) s k.number = { s with
            tickets := (ticketEvent st (.present mark) s k.number).tickets
            line := (ticketEvent st (.present mark) s k.number).line }
        ∧ ticketOf (ticketEvent st (.present mark) s k.number) k.number = some { k with stale := none }
        ∧ (∀ m : Nat, m ≠ k.number →
            ticketOf (ticketEvent st (.present mark) s k.number) m = ticketOf s m)
        ∧ (x.mark = mark → Sends s (ticketEvent st (.present mark) s k.number) st
            (.revoke ⟨k.number, x.gen⟩) false)
        ∧ (x.mark ≠ mark → (ticketEvent st (.present mark) s k.number).line = s.line))
    ∧ (k.awardee.map Awardee.station ≠ some st → k.stale.map StaleHolder.station ≠ some st →
        ticketEvent st (.present mark) s k.number = s) := by
  refine ⟨fun a ha hst hx => ⟨fun ⟨hstate, hl, hm⟩ => ?_, fun h => ?_⟩, fun x ha hx hst hc => ?_,
    fun ha hx => ticketEvent_of_other hk ha hx⟩
  · rw [ticketEvent_of_awardee hk ha hst (.inl hx), awardeeEvent_found hstate hl hm]
    exact ⟨onlyTicket_updTicket (f := fun t => { t with lost := none }) hk (by exact fun _ => rfl), rfl⟩
  · rw [ticketEvent_of_awardee hk ha hst (.inl hx)]
    exact awardeeEvent_ignored (.inr (.inr (.inr (.inr ⟨mark, rfl, h⟩)))) s
  · rw [ticketEvent_of_stale hk ha hx hst, ← hst]
    exact staleEvent_present hk x mark hc

/-- RESTARTED and PRESENT at a share that is lent or adrift (R144). -/
theorem homeShareEvent_changes {s : State} (st mark slot i : Nat) {tb : Tab} {sh : Share}
    (ht : tabIn s slot = some tb) (hsh : tb.shares[i]? = some sh) (hc : tb.state ≠ .closed) :
    (∀ m : Nat, sh.state = .heldRemote st m →
      (m ≠ 0 → m ≠ mark →
        OnlyShare s (homeShareEvent st (.restarted mark) slot tb.code i sh s) slot i tb sh
          (.adrift st m .restarted)
        ∧ Notified s (homeShareEvent st (.restarted mark) slot tb.code i sh s)
          (.shareAdrift tb.code i st m .restarted))
      ∧ (m = 0 ∨ m = mark → homeShareEvent st (.restarted mark) slot tb.code i sh s = s)
      ∧ (m = 0 →
        OnlyShare s (homeShareEvent st (.present mark) slot tb.code i sh s) slot i tb sh
          (.heldRemote st mark)
        ∧ homeShareEvent st (.present mark) slot tb.code i sh s
          = { s with tabs := (homeShareEvent st (.present mark) slot tb.code i sh s).tabs })
      ∧ (m ≠ 0 → homeShareEvent st (.present mark) slot tb.code i sh s = s))
    ∧ (∀ m : Nat, sh.state = .adrift st m .silent →
      (m ≠ mark →
        OnlyShare s (homeShareEvent st (.restarted mark) slot tb.code i sh s) slot i tb sh
          (.adrift st m .restarted)
        ∧ Notified s (homeShareEvent st (.restarted mark) slot tb.code i sh s)
          (.shareAdrift tb.code i st m .restarted)
        ∧ homeShareEvent st (.present mark) slot tb.code i sh s = s)
      ∧ (m = mark → homeShareEvent st (.restarted mark) slot tb.code i sh s = s
        ∧ OnlyShare s (homeShareEvent st (.present mark) slot tb.code i sh s) slot i tb sh
          (.heldRemote st m)
        ∧ Notified s (homeShareEvent st (.present mark) slot tb.code i sh s)
          (.shareRecovered tb.code i st m)))
    ∧ ((∀ m : Nat, sh.state ≠ .heldRemote st m ∧ sh.state ≠ .adrift st m .silent) →
      homeShareEvent st (.restarted mark) slot tb.code i sh s = s
        ∧ homeShareEvent st (.present mark) slot tb.code i sh s = s) := by
  refine ⟨fun m hm => ⟨fun h0 hne => ?_, fun h => ?_, fun h => ?_, fun h => ?_⟩,
    fun m hm => ⟨fun hne => ?_, fun h => ?_⟩, fun hno => ?_⟩
  · have heq : homeShareEvent st (.restarted mark) slot tb.code i sh s
        = notify (.shareAdrift tb.code i st m .restarted)
            (setShare slot i (.adrift st m .restarted) s) := by
      simp [homeShareEvent, hm, h0, hne]
    rw [heq]
    exact onlyShare_notify _ ht hsh hc rfl rfl
  · simp [homeShareEvent, hm, h]
  · have heq : homeShareEvent st (.present mark) slot tb.code i sh s
        = setShare slot i (.heldRemote st mark) s := by
      simp [homeShareEvent, hm, h]
    rw [heq]
    exact onlyShare_setShare ht hsh hc rfl rfl
  · simp [homeShareEvent, hm, h]
  · have heq : homeShareEvent st (.restarted mark) slot tb.code i sh s
        = notify (.shareAdrift tb.code i st m .restarted)
            (setShare slot i (.adrift st m .restarted) s) := by
      simp [homeShareEvent, hm, hne]
    rw [heq]
    obtain ⟨h1, h2⟩ := onlyShare_notify (.shareAdrift tb.code i st m .restarted) ht hsh hc
      (st := .adrift st m .restarted) rfl rfl
    exact ⟨h1, h2, by simp [homeShareEvent, hm, Ne.symm hne]⟩
  · have heq : homeShareEvent st (.present mark) slot tb.code i sh s
        = notify (.shareRecovered tb.code i st m) (setShare slot i (.heldRemote st m) s) := by
      simp [homeShareEvent, hm, h]
    rw [heq]
    exact ⟨by simp [homeShareEvent, hm, h], onlyShare_notify _ ht hsh hc rfl rfl⟩
  · have hnone : ∀ e, homeShareEvent st e slot tb.code i sh s = s := fun e => by
      unfold homeShareEvent
      dsimp only
      split
      · next holder m hst =>
        rw [if_pos]
        rintro rfl
        exact (hno m).1 hst
      · next holder m hst =>
        rw [if_pos]
        rintro rfl
        exact (hno m).2 hst
      · rfl
    exact ⟨hnone _, hnone _⟩

/-- RESTARTED and PRESENT at a borrowed entry (R153). -/
theorem borrowedEvent_changes {s : State} (mark : Nat) {b : Borrowed}
    (hb : borrowedOf s b.code b.share = some b) :
    (b.homeMark = 0 ∨ b.homeMark ≠ mark →
      (b.state = .asking ∨ b.state = .borrowed ∨ b.state = .returning →
        borrowedEvent (.restarted mark) s b = { s with
            borrowed := (borrowedEvent (.restarted mark) s b).borrowed
            line := (borrowedEvent (.restarted mark) s b).line
            notices := (borrowedEvent (.restarted mark) s b).notices
            overflow := (borrowedEvent (.restarted mark) s b).overflow
            link := (borrowedEvent (.restarted mark) s b).link }
        ∧ FreesBorrowed s (borrowedEvent (.restarted mark) s b) b.code b.share
        ∧ Notified s (borrowedEvent (.restarted mark) s b) (.homeLost b.code b.share b.slot b.state))
      ∧ (b.state = .confirming →
        OnlyBorrowed s (borrowedEvent (.restarted mark) s b)
          { b with state := .orphaned, wait := .none, paused := false }
        ∧ CancelsWaiting s (borrowedEvent (.restarted mark) s b) (ofBorrowed b.code b.share)
        ∧ Notified s (borrowedEvent (.restarted mark) s b) (.homeLost b.code b.share b.slot b.state))
      ∧ (b.state = .orphaned → borrowedEvent (.restarted mark) s b = s))
    ∧ (b.homeMark ≠ 0 → b.homeMark = mark → borrowedEvent (.restarted mark) s b = s)
    ∧ (b.homeMark = 0 ∨ b.homeMark = mark →
      (b.paused = false ∨ b.state ≠ .confirming ∧ b.state ≠ .returning →
        OnlyBorrowed s (borrowedEvent (.present mark) s b) { b with homeMark := mark, homeSilent := false }
        ∧ borrowedEvent (.present mark) s b
          = { s with borrowed := (borrowedEvent (.present mark) s b).borrowed })
      ∧ (b.paused = true → CanSend s 1 →
        (b.state = .confirming → ∀ x : Taken, b.taken = some x →
          Sends s (borrowedEvent (.present mark) s b) (codeHome b.code)
            (.shareSettle b.code b.share x.tender x.settled x.adjustment) true)
        ∧ (b.state = .returning →
          Sends s (borrowedEvent (.present mark) s b) (codeHome b.code)
            (.shareReturn b.code b.share) true)
        ∧ (b.state = .confirming ∨ b.state = .returning →
          OnlyBorrowed s (borrowedEvent (.present mark) s b) { b with
              homeMark := mark, homeSilent := false, attempts := b.attempts + 1, wait := .none,
              paused := false }
          ∧ borrowedEvent (.present mark) s b = { s with
              borrowed := (borrowedEvent (.present mark) s b).borrowed
              line := (borrowedEvent (.present mark) s b).line })))
    ∧ (b.homeMark ≠ 0 → b.homeMark ≠ mark → borrowedEvent (.present mark) s b = s) := by
  refine ⟨fun hm => ?_, fun h0 hm => ?_, fun hm => ?_, fun h0 hm => ?_⟩
  · have heq : borrowedEvent (.restarted mark) s b = homeRestarted b s := if_pos hm
    rw [heq]
    refine ⟨fun hs => ?_, fun hs => ?_, fun hs => ?_⟩
    · rw [homeRestarted_freed hs]
      exact freedWithNotice _ _ _ s
    · rw [homeRestarted_confirming hs, hs]
      exact changedWithNotice (f := fun b => { b with state := .orphaned, wait := .none, paused := false })
        hb (by exact fun _ => ⟨rfl, rfl⟩) _ _
    · unfold homeRestarted
      rw [hs]
  · exact if_neg (by tauto)
  · have heq : borrowedEvent (.present mark) s b = homeBack b mark s := if_pos hm
    rw [heq]
    refine ⟨fun hready => ?_, fun hp hc => ⟨fun hs x hx => ?_, fun hs => ?_, fun hs => ?_⟩⟩
    · rw [homeBack_of_ready hready]
      exact ⟨onlyBorrowed_updBorrowed (f := fun b => { b with homeMark := mark, homeSilent := false }) hb
        (by exact fun _ => ⟨rfl, rfl⟩), rfl⟩
    · have hbody : repeatBody b = .shareSettle b.code b.share x.tender x.settled x.adjustment := by
        simp [repeatBody, settleBody, hs, hx]
      rw [← hbody]
      exact (homeBack_of_paused hb hc hp (.inl hs)).1
    · have hbody : repeatBody b = .shareReturn b.code b.share := by
        simp [repeatBody, hs]
      rw [← hbody]
      exact (homeBack_of_paused hb hc hp (.inr hs)).1
    · exact (homeBack_of_paused hb hc hp hs).2
  · exact if_neg (by tauto)

/-- Settles O24. -/
theorem stationTableHearsFrames : Obligations.StationTableHearsFrames := by
  refine ⟨⟨fun s dest src p h => exec_presence_steps h, fun s dest src p h => ?_,
    fun s st mark k hk => ticketEvent_restarted st mark hk,
    fun s st mark k hk => ticketEvent_present st mark hk,
    fun s st mark slot i tb sh ht hsh hc => homeShareEvent_changes st mark slot i ht hsh hc,
    fun s mark b hb => borrowedEvent_changes mark hb,
    fun s st mark hr => ⟨?_, fun hnodup => ?_⟩, fun s dest src p h ht hb htab hk hl hp hlast => ?_⟩,
    fun f s => ?_, fun dest src s hr => ?_, fun dest src code share s hr => ?_⟩
  · refine ⟨_, exec_presence h, ?_, fun m hm => ?_⟩
    · exact (heard_takePresence (stationNumber_of_arrives h.1) p _ src).trans (if_pos rfl)
    · exact (heard_takePresence (stationNumber_of_arrives h.1) p _ m).trans (if_neg hm)
  · unfold raiseEvent
    rw [hr]
    rfl
  · have heq := restartedQueue_eq st mark hnodup _ rfl
    refine ⟨restartedQueue st mark s, raiseEvent_restarted_kitchen hr st mark,
      autoFire_restartedQueue st mark hnodup, ?_⟩
    rw [heq]
    exact ⟨rfl, rfl, rfl, rfl, rfl, rfl⟩
  · have hnothing : NothingHeld { s with line := { s.line with inbound := s.line.inbound.tail } } :=
      ⟨ht, hb, htab, hk, hl, hp⟩
    obtain ⟨hnone, hsome⟩ := hnothing.notices_takePresence (src := src) hlast
    refine ⟨_, exec_presence h, hnothing.takePresence_frame hlast, fun hn => (hnone hn).congr rfl rfl rfl rfl,
      fun o ho => ?_⟩
    obtain ⟨hquiet, hpresent, hrestarted, hboth⟩ := hsome o ho
    obtain ⟨h1, h2, h3⟩ := notify_congr (.restarted src o.mark p.mark)
      (s := s) (t := { s with line := { s.line with inbound := s.line.inbound.tail } }) rfl rfl rfl rfl
    exact ⟨hquiet, fun hm hs => (hpresent hm hs).congr rfl rfl rfl rfl,
      fun hm hs => (hrestarted hm hs).congr rfl rfl rfl rfl,
      fun hm hs => (hboth hm hs).congr h1 h2 h3 ((notify_clock _ _).trans (notify_clock s _).symm)⟩
  · exact ⟨by conv_lhs => rw [arrived_eq]
              simp, arrived_line f s, heard_arrived_self f s, fun n hn => heard_arrived_ne f s hn⟩
  · have hdone : ∀ {f : Frame}, Delivers s f → ∀ owner : State → State,
        (.next (deliverFrame f (atKitchen owner) s) : Host.Outcome State Fault Refusal)
          = .next (arrived f s) :=
      fun hd owner => congrArg _ (deliverFrame_atKitchen_of_till hr hd owner)
    exact ⟨fun o hd => hdone hd _, fun ref a m hd => hdone hd _, fun ref p hd => hdone hd _,
      fun ref hd => hdone hd _, fun ref hd => hdone hd _⟩
  · have hdone : ∀ {f : Frame}, Delivers s f → ∀ owner : State → State,
        (.next (deliverFrame f (atTill owner) s) : Host.Outcome State Fault Refusal)
          = .next (arrived f s) :=
      fun hd owner => congrArg _ (deliverFrame_atTill_of_kitchen hr hd owner)
    exact ⟨fun ref k m hd => hdone hd _, fun ref p o e hd => hdone hd _, fun hd => hdone hd _,
      fun a hd => hdone hd _, fun r hd => hdone hd _, fun k settled adj hd => hdone hd _,
      fun hd => hdone hd _, fun o hd => hdone hd _⟩

end Sys2Proof.Machine
end

section
-- One proof at a time: side by side, their threads' stacks outgrow the check's memory.
set_option Elab.async false
/-! A station that hears its own number: the frames that are dropped and what their owners hear. -/

namespace Sys2Proof.Machine

/-! ## What the end of a frame does to one record -/

/-- A ticket record once a frame has ended at the time `c` (R65). -/
def ticketHears (c : Time) (t : Ticket) (x : TxItem) : Ticket :=
  if x.wait then
    match x.frame.body with
    | .offer o =>
        if t.number = o.ref.number ∧ t.gen = o.ref.gen ∧ t.state = .offering ∧ t.attempt = o.attempt then
          { t with wait := .offerWindow c } else t
    | .award ref awardee _ =>
        if t.number = ref.number ∧ t.gen = ref.gen ∧ t.state = .placing
            ∧ t.awardee.map Awardee.station = some awardee then
          { t with wait := .awardWait c } else t
    | .withdraw ref p =>
        if t.number = ref.number ∧ t.gen = ref.gen then
          { t with withdrawals := t.withdrawals.map fun w =>
              if w.position = p then { w with wait := some c } else w }
        else t
    | _ => t
  else t

/-- A borrowed entry once a frame has ended at the time `c` (R148, R151). -/
def borrowedHears (c : Time) (b : Borrowed) (x : TxItem) : Borrowed :=
  if x.wait then
    match x.frame.body with
    | .shareAsk code share =>
        if (b.code = code ∧ b.share = share) ∧ b.state = .asking then { b with wait := .ask c } else b
    | .shareSettle code share _ _ _ =>
        if (b.code = code ∧ b.share = share) ∧ b.state = .confirming then { b with wait := .again c } else b
    | .shareReturn code share =>
        if (b.code = code ∧ b.share = share) ∧ b.state = .returning then { b with wait := .again c } else b
    | _ => b
  else b

theorem tickets_frameEnded (x : TxItem) (s : State) :
    (frameEnded x s).tickets = s.tickets.map fun t => ticketHears (now s) t x := by
  unfold frameEnded ticketHears
  cases hw : x.wait with
  | false => simp
  | true =>
    cases hb : x.frame.body <;> simp [updTicket, ite_and]

theorem borrowed_frameEnded (x : TxItem) (s : State) :
    (frameEnded x s).borrowed = s.borrowed.map fun b => borrowedHears (now s) b x := by
  unfold frameEnded borrowedHears
  cases hw : x.wait with
  | false => simp
  | true =>
    cases hb : x.frame.body <;> simp [updBorrowed, ite_and, updTicket, updEntry]

/-! ## What stays of a record -/

theorem ticketHears_waitless (c : Time) (t : Ticket) (x : TxItem) :
    Ticket.waitless (ticketHears c t x) = Ticket.waitless t := by
  unfold ticketHears
  split
  · split
    · split <;> rfl
    · split <;> rfl
    · split
      · unfold Ticket.waitless
        rw [List.map_map]
        congr 1
        exact List.map_congr_left fun w _ => by
          simp only [Function.comp_apply]
          split <;> rfl
      · rfl
    · rfl
  · rfl

theorem borrowedHears_waitless (c : Time) (b : Borrowed) (x : TxItem) :
    ({ borrowedHears c b x with wait := .none } : Borrowed) = { b with wait := .none } := by
  unfold borrowedHears
  split
  · split
    · split <;> rfl
    · split <;> rfl
    · split <;> rfl
    · rfl
  · rfl

/-- A queue without its bids (R90). -/
def withoutBids (k : Kitchen) : Kitchen :=
  { k with entries := (k.entries.filter fun e => e.state != .tentative).map fun e => { e with bid := none } }

theorem withoutBids_frameEnded (x : TxItem) (s : State) :
    withoutBids (frameEnded x s).kitchen = withoutBids s.kitchen := by
  have hupd : ∀ (o n : Nat) (f : Bid → Bid),
      withoutBids (updEntry o n (fun e => { e with bid := e.bid.map f }) s).kitchen
        = withoutBids s.kitchen := by
    intro o n f
    unfold withoutBids updEntry
    dsimp only
    rw [List.filter_map, List.map_map]
    have hkeep : ((fun e : Entry => e.state != .tentative) ∘ fun e : Entry =>
        if e.origin = o ∧ e.number = n then { e with bid := e.bid.map f } else e)
        = fun e => e.state != .tentative := by
      funext e
      simp only [Function.comp_apply]
      split <;> rfl
    rw [hkeep]
    congr 1
    refine List.map_congr_left fun e _ => ?_
    simp only [Function.comp_apply]
    split <;> rfl
  unfold frameEnded
  split
  · rfl
  · split
    case h_4 => exact hupd _ _ _
    all_goals rfl

/-! ## The ends of several frames -/

/-- Frames end one after the other. -/
def framesEnd (xs : List TxItem) (s : State) : State := xs.foldl (fun s x => frameEnded x s) s

theorem framesEnd_frame (xs : List TxItem) (s : State) : framesEnd xs s = { s with
    tickets := (framesEnd xs s).tickets, kitchen := (framesEnd xs s).kitchen
    borrowed := (framesEnd xs s).borrowed } := by
  unfold framesEnd
  induction xs generalizing s with
  | nil => rfl
  | cons x xs ih => rw [List.foldl_cons, ih, frameEnded_frame]

theorem tickets_framesEnd (xs : List TxItem) (s : State) :
    (framesEnd xs s).tickets = s.tickets.map fun t => xs.foldl (ticketHears (now s)) t := by
  unfold framesEnd
  induction xs generalizing s with
  | nil => exact (List.map_id _).symm
  | cons x xs ih =>
    have hnow : now (frameEnded x s) = now s := by
      rw [frameEnded_frame]
      rfl
    rw [List.foldl_cons, ih, tickets_frameEnded, hnow, List.map_map]
    rfl

theorem borrowed_framesEnd (xs : List TxItem) (s : State) :
    (framesEnd xs s).borrowed = s.borrowed.map fun b => xs.foldl (borrowedHears (now s)) b := by
  unfold framesEnd
  induction xs generalizing s with
  | nil => exact (List.map_id _).symm
  | cons x xs ih =>
    have hnow : now (frameEnded x s) = now s := by
      rw [frameEnded_frame]
      rfl
    rw [List.foldl_cons, ih, borrowed_frameEnded, hnow, List.map_map]
    rfl

theorem withoutBids_framesEnd (xs : List TxItem) (s : State) :
    withoutBids (framesEnd xs s).kitchen = withoutBids s.kitchen := by
  unfold framesEnd
  induction xs generalizing s with
  | nil => rfl
  | cons x xs ih => rw [List.foldl_cons, ih, withoutBids_frameEnded]

theorem foldl_ticketHears_waitless (c : Time) (xs : List TxItem) (t : Ticket) :
    Ticket.waitless (xs.foldl (ticketHears c) t) = Ticket.waitless t := by
  induction xs generalizing t with
  | nil => rfl
  | cons x xs ih => rw [List.foldl_cons, ih, ticketHears_waitless]

theorem foldl_borrowedHears_waitless (c : Time) (xs : List TxItem) (b : Borrowed) :
    ({ xs.foldl (borrowedHears c) b with wait := .none } : Borrowed) = { b with wait := .none } := by
  induction xs generalizing b with
  | nil => rfl
  | cons x xs ih => rw [List.foldl_cons, ih, borrowedHears_waitless]

theorem ticketOf_framesEnd (xs : List TxItem) (s : State) (n : Nat) :
    ticketOf (framesEnd xs s) n = (ticketOf s n).map fun t => xs.foldl (ticketHears (now s)) t := by
  unfold ticketOf
  rw [tickets_framesEnd, List.find?_map]
  congr 1
  refine congrArg (fun p => List.find? p s.tickets) (funext fun t => ?_)
  have hnum : (xs.foldl (ticketHears (now s)) t).number = t.number :=
    (congrArg Ticket.number (foldl_ticketHears_waitless (now s) xs t) :)
  simp only [Function.comp_apply, hnum]

theorem borrowedOf_framesEnd (xs : List TxItem) (s : State) (code i : Nat) :
    borrowedOf (framesEnd xs s) code i
      = (borrowedOf s code i).map fun b => xs.foldl (borrowedHears (now s)) b := by
  unfold borrowedOf
  rw [borrowed_framesEnd, List.find?_map]
  congr 1
  refine congrArg (fun p => List.find? p s.borrowed) (funext fun b => ?_)
  have hw := foldl_borrowedHears_waitless (now s) xs b
  have hcode : (xs.foldl (borrowedHears (now s)) b).code = b.code := (congrArg Borrowed.code hw :)
  have hshare : (xs.foldl (borrowedHears (now s)) b).share = b.share := (congrArg Borrowed.share hw :)
  simp only [Function.comp_apply, hcode, hshare]

/-- What one frame of several establishes, and none of them undoes, holds after all of them. -/
theorem foldl_establishes {α β : Type} {f : α → β → α} {keeps done : α → Prop} {xs : List β} {x : β}
    (hkeeps : ∀ a b, keeps a → keeps (f a b)) (hdone : ∀ a b, keeps a → done a → done (f a b))
    (hx : x ∈ xs) (hstep : ∀ a, keeps a → done (f a x)) {a : α} (ha : keeps a) :
    done (xs.foldl f a) := by
  have hafter : ∀ (ys : List β) (a : α), keeps a → done a → done (ys.foldl f a) := by
    intro ys
    induction ys with
    | nil => exact fun a _ h => h
    | cons y ys ih => exact fun a hk hd => ih _ (hkeeps a y hk) (hdone a y hk hd)
  induction xs generalizing a with
  | nil => cases hx
  | cons y ys ih =>
    rcases List.mem_cons.1 hx with rfl | hx
    · exact hafter ys _ (hkeeps a x ha) (hstep a ha)
    · exact ih hx (hkeeps a y ha)

theorem foldl_of_fixed {α β : Type} {f : α → β → α} {xs : List β} {a : α} (h : ∀ x ∈ xs, f a x = a) :
    xs.foldl f a = a := by
  induction xs with
  | nil => rfl
  | cons x xs ih =>
    rw [List.foldl_cons, h x List.mem_cons_self]
    exact ih fun y hy => h y (List.mem_cons_of_mem x hy)

/-! ## The waits the ends start -/

/-- A ticket that no frame names keeps its waits. -/
theorem ticketHears_of_other {x : TxItem} {t : Ticket}
    (h : x.wait = true → ofTicket t.number x = false) (c : Time) : ticketHears c t x = t := by
  unfold ticketHears
  split
  · next hw =>
    have h := h hw
    split
    · next hb =>
      refine if_neg fun hc => ?_
      simp [ofTicket, hb, hc.1] at h
    · next hb =>
      refine if_neg fun hc => ?_
      simp [ofTicket, hb, hc.1] at h
    · next hb =>
      refine if_neg fun hc => ?_
      simp [ofTicket, hb, hc.1] at h
    · rfl
  · rfl

theorem borrowedHears_of_other {x : TxItem} {b : Borrowed} (h : ofBorrowed b.code b.share x = false)
    (c : Time) : borrowedHears c b x = b := by
  unfold borrowedHears
  split
  · next hw =>
    split
    · next hb =>
      refine if_neg fun hc => ?_
      simp [ofBorrowed, hw, hb, hc.1] at h
    · next hb =>
      refine if_neg fun hc => ?_
      simp [ofBorrowed, hw, hb, hc.1] at h
    · next hb =>
      refine if_neg fun hc => ?_
      simp [ofBorrowed, hw, hb, hc.1] at h
    · rfl
  · rfl

/-- The end of an OFFER of the ticket's attempt starts its offer window, whatever else ends (R65). -/
theorem offerWindow_of_ends {c : Time} {xs : List TxItem} {x : TxItem} {k : Ticket} {o : OfferFields}
    (hx : x ∈ xs) (hw : x.wait = true) (hb : x.frame.body = .offer o) (hn : k.number = o.ref.number)
    (hg : k.gen = o.ref.gen) (hs : k.state = .offering) (ha : k.attempt = o.attempt) :
    (xs.foldl (ticketHears c) k).wait = .offerWindow c := by
  refine foldl_establishes (keeps := fun t => Ticket.waitless t = Ticket.waitless k)
    (done := fun t => t.wait = .offerWindow c)
    (fun t y h => (ticketHears_waitless c t y).trans h) (fun t y hk hd => ?_) hx (fun t hk => ?_) rfl
  · have hstate : t.state = .offering := (congrArg Ticket.state hk :).trans hs
    unfold ticketHears
    split
    · split
      · split
        · rfl
        · exact hd
      · rw [if_neg (by simp [hstate])]
        exact hd
      · split
        · exact hd
        · exact hd
      · exact hd
    · exact hd
  · have hstate : t.state = .offering := (congrArg Ticket.state hk :).trans hs
    have hnumber : t.number = o.ref.number := (congrArg Ticket.number hk :).trans hn
    have hgen : t.gen = o.ref.gen := (congrArg Ticket.gen hk :).trans hg
    have hattempt : t.attempt = o.attempt := (congrArg Ticket.attempt hk :).trans ha
    simp [ticketHears, hw, hb, hstate, hnumber, hgen, hattempt]

/-- The end of an AWARD to the awardee starts the award wait of a PLACING ticket, whatever else ends
(R65). -/
theorem awardWait_of_ends {c : Time} {xs : List TxItem} {x : TxItem} {k : Ticket} {ref : Ref}
    {awardee : Nat} {mask : Byte} (hx : x ∈ xs) (hw : x.wait = true)
    (hb : x.frame.body = .award ref awardee mask) (hn : k.number = ref.number) (hg : k.gen = ref.gen)
    (hs : k.state = .placing) (ha : k.awardee.map Awardee.station = some awardee) :
    (xs.foldl (ticketHears c) k).wait = .awardWait c := by
  refine foldl_establishes (keeps := fun t => Ticket.waitless t = Ticket.waitless k)
    (done := fun t => t.wait = .awardWait c)
    (fun t y h => (ticketHears_waitless c t y).trans h) (fun t y hk hd => ?_) hx (fun t hk => ?_) rfl
  · have hstate : t.state = .placing := (congrArg Ticket.state hk :).trans hs
    unfold ticketHears
    split
    · split
      · rw [if_neg (by simp [hstate])]
        exact hd
      · split
        · rfl
        · exact hd
      · split
        · exact hd
        · exact hd
      · exact hd
    · exact hd
  · have hstate : t.state = .placing := (congrArg Ticket.state hk :).trans hs
    have hnumber : t.number = ref.number := (congrArg Ticket.number hk :).trans hn
    have hgen : t.gen = ref.gen := (congrArg Ticket.gen hk :).trans hg
    have hawardee : t.awardee.map Awardee.station = some awardee :=
      (congrArg (fun t : Ticket => t.awardee.map Awardee.station) hk :).trans ha
    simp [ticketHears, hw, hb, hstate, hnumber, hgen, hawardee]

/-- The end of a WITHDRAW starts the reply wait of its withdrawal, whatever else ends (R65). -/
theorem replyWait_of_ends {c : Time} {xs : List TxItem} {x : TxItem} {k : Ticket} {ref : Ref} {p : Nat}
    (hx : x ∈ xs) (hw : x.wait = true) (hb : x.frame.body = .withdraw ref p)
    (hn : k.number = ref.number) (hg : k.gen = ref.gen) :
    ∀ w ∈ (xs.foldl (ticketHears c) k).withdrawals, w.position = p → w.wait = some c := by
  have hmap : ∀ (ws : List Withdrawal) (q : Nat), (∀ w ∈ ws, w.position = p → w.wait = some c) →
      ∀ w ∈ ws.map (fun w => if w.position = q then { w with wait := some c } else w),
        w.position = p → w.wait = some c := by
    intro ws q h w hmem hp
    obtain ⟨v, hv, rfl⟩ := List.mem_map.1 hmem
    by_cases hq : v.position = q
    · rw [if_pos hq]
    · rw [if_neg hq] at hp ⊢
      exact h v hv hp
  refine foldl_establishes (keeps := fun t => Ticket.waitless t = Ticket.waitless k)
    (done := fun t => ∀ w ∈ t.withdrawals, w.position = p → w.wait = some c)
    (fun t y h => (ticketHears_waitless c t y).trans h) (fun t y hk hd => ?_) hx (fun t hk => ?_) rfl
  · unfold ticketHears
    split
    · split
      · split
        · exact hd
        · exact hd
      · split
        · exact hd
        · exact hd
      · split
        · exact hmap _ _ hd
        · exact hd
      · exact hd
    · exact hd
  · have hnumber : t.number = ref.number := (congrArg Ticket.number hk :).trans hn
    have hgen : t.gen = ref.gen := (congrArg Ticket.gen hk :).trans hg
    have heq : (ticketHears c t x).withdrawals
        = t.withdrawals.map fun w => if w.position = p then { w with wait := some c } else w := by
      simp [ticketHears, hw, hb, hnumber, hgen]
    rw [heq]
    intro w hmem hp
    obtain ⟨v, hv, rfl⟩ := List.mem_map.1 hmem
    by_cases hq : v.position = p
    · rw [if_pos hq]
    · rw [if_neg hq] at hp
      exact absurd hp hq

/-- The end of a frame that starts a wait of a borrowed entry starts it, whatever else ends. -/
theorem borrowedWait_of_ends {c : Time} {xs : List TxItem} {x : TxItem} {b : Borrowed} {w : BorrowedWait}
    (hx : x ∈ xs) (hstep : ∀ v, borrowedHears c { b with wait := v } x = { b with wait := w })
    (hkeep : ∀ y, borrowedHears c { b with wait := w } y = { b with wait := w }) :
    xs.foldl (borrowedHears c) b = { b with wait := w } := by
  have hform : ∀ {d : Borrowed}, ({ d with wait := .none } : Borrowed) = { b with wait := .none } →
      d = { b with wait := d.wait } := fun {d} h => by
    have := congrArg (fun e : Borrowed => ({ e with wait := d.wait } : Borrowed)) h
    exact this
  refine foldl_establishes
    (keeps := fun d => ({ d with wait := .none } : Borrowed) = { b with wait := .none })
    (done := fun d => d = { b with wait := w })
    (fun d y h => (borrowedHears_waitless c d y).trans h) (fun d y _ hd => ?_) hx (fun d hd => ?_) rfl
  · rw [hd]
    exact hkeep y
  · rw [hform hd]
    exact hstep _

/-- An ask wait that has started at the time `c` is not started again otherwise, nor another wait. -/
theorem borrowedHears_asking {b : Borrowed} (hs : b.state = .asking) (c : Time) (y : TxItem) :
    borrowedHears c { b with wait := .ask c } y = { b with wait := .ask c } := by
  unfold borrowedHears
  split
  · split
    · split <;> rfl
    · exact if_neg (by simp [hs])
    · exact if_neg (by simp [hs])
    · rfl
  · rfl

theorem borrowedHears_repeating {b : Borrowed} (hs : b.state = .confirming ∨ b.state = .returning)
    (c : Time) (y : TxItem) :
    borrowedHears c { b with wait := .again c } y = { b with wait := .again c } := by
  unfold borrowedHears
  split
  · split
    · exact if_neg (by rcases hs with hs | hs <;> simp [hs])
    · split <;> rfl
    · split <;> rfl
    · rfl
  · rfl

/-! ## The queue emptied (R22) -/

/-- A delivery row with the station's own number is for the join machine alone (R30). -/
theorem exec_own_number {c : Instr} {f : Frame} {s : State} (hd : deliveredFrame (role s) c = some f)
    (h : Arrives s f) (hsrc : f.src = station s) :
    exec c s = .next (enterDuplicate { s with line := { s.line with inbound := s.line.inbound.tail } }) := by
  have hrow : ∀ table owner : State → State, deliver f table owner s
      = enterDuplicate { s with line := { s.line with inbound := s.line.inbound.tail } } :=
    fun table owner => by
      rw [deliver_of h, deliverTo]
      exact if_pos hsrc
  unfold deliveredFrame at hd
  split at hd
  case h_3 =>
    split at hd
    · next hr =>
      cases hd
      exact congrArg Host.Outcome.next ((if_pos hr).trans (hrow _ _))
    · cases hd
  case h_4 =>
    split at hd
    · next hr =>
      cases hd
      exact congrArg Host.Outcome.next ((if_pos hr).trans (hrow _ _))
    · cases hd
  case h_18 => cases hd
  all_goals
    cases hd
    exact congrArg Host.Outcome.next (hrow _ _)

/-- The line once its transmit queue is empty and its transmitter at rest. -/
def quietLine (l : LineCtl) : LineCtl :=
  if l.sending.isSome then
    { l with waiting := [], sending := none, txPos := 0
             state := some (if l.since < 4 then .busy else .idle), rx := Receiver.fresh .hunt }
  else { l with waiting := [] }

theorem emptyQueue_eq (s : State) : emptyQueue s
    = framesEnd (s.line.sending.toList ++ s.line.waiting) { s with line := quietLine s.line } := by
  unfold emptyQueue framesEnd quietLine
  dsimp only
  split <;> rfl

theorem removeBids_eq (s : State) : removeBids s = { s with kitchen := withoutBids s.kitchen } := rfl

/-- The state of DUPLICATE before its notice. -/
def silenced (s : State) : State :=
  { framesEnd (s.line.sending.toList ++ s.line.waiting)
      { s with
        join := { s.join with state := .duplicate, windowFrom := none, presenceFrom := none }
        line := quietLine s.line } with
    kitchen := withoutBids s.kitchen }

theorem enterDuplicate_of {s : State} (h : s.join.state = .joining ∨ s.join.state = .onLine) :
    enterDuplicate s = notify (.duplicate (station s)) (silenced s) := by
  have hkitchen := withoutBids_framesEnd (s.line.sending.toList ++ s.line.waiting)
    { s with
      join := { s.join with state := .duplicate, windowFrom := none, presenceFrom := none }
      line := quietLine s.line }
  unfold enterDuplicate silenced
  rw [if_pos h]
  dsimp only
  rw [emptyQueue_eq, removeBids_eq]
  dsimp only
  rw [hkitchen]
  rfl

theorem silenced_frame (s : State) : silenced s = { s with
    join := { s.join with state := .duplicate, windowFrom := none, presenceFrom := none }
    line := quietLine s.line, kitchen := withoutBids s.kitchen
    tickets := (silenced s).tickets, borrowed := (silenced s).borrowed } := by
  unfold silenced
  rw [framesEnd_frame]

/-- The state that a station of a duplicated number enters. -/
def duplicated (s : State) : State :=
  notify (.duplicate (station s)) (silenced { s with line := { s.line with inbound := s.line.inbound.tail } })

theorem duplicated_frame (s : State) : duplicated s = { s with
    join := { s.join with state := .duplicate, windowFrom := none, presenceFrom := none }
    kitchen := withoutBids s.kitchen
    line := quietLine { s.line with inbound := s.line.inbound.tail }
    tickets := (duplicated s).tickets, borrowed := (duplicated s).borrowed
    notices := (duplicated s).notices, overflow := (duplicated s).overflow
    link := (duplicated s).link } := by
  unfold duplicated
  rw [notify_frame, silenced_frame]

theorem ticketOf_duplicated (s : State) (n : Nat) : ticketOf (duplicated s) n
    = (ticketOf s n).map fun t => (s.line.sending.toList ++ s.line.waiting).foldl (ticketHears (now s)) t := by
  unfold duplicated
  rw [notify_frame]
  exact ticketOf_framesEnd _ _ n

theorem borrowedOf_duplicated (s : State) (code i : Nat) : borrowedOf (duplicated s) code i
    = (borrowedOf s code i).map fun b =>
        (s.line.sending.toList ++ s.line.waiting).foldl (borrowedHears (now s)) b := by
  unfold duplicated
  rw [notify_frame]
  exact borrowedOf_framesEnd _ _ code i

theorem tickets_duplicated (s : State) : (duplicated s).tickets
    = s.tickets.map fun t => (s.line.sending.toList ++ s.line.waiting).foldl (ticketHears (now s)) t := by
  unfold duplicated
  rw [notify_frame]
  exact tickets_framesEnd _ _

theorem borrowed_duplicated (s : State) : (duplicated s).borrowed
    = s.borrowed.map fun b =>
        (s.line.sending.toList ++ s.line.waiting).foldl (borrowedHears (now s)) b := by
  unfold duplicated
  rw [notify_frame]
  exact borrowed_framesEnd _ _

theorem notified_duplicated (s : State) : Notified s (duplicated s) (.duplicate (station s)) := by
  unfold duplicated
  rw [silenced_frame]
  exact notified_notify _ rfl rfl rfl rfl

/-- Records that no dropped frame names keep their waits (R22). -/
theorem duplicated_others (s : State) :
    (∀ n, (∀ x ∈ s.line.sending.toList ++ s.line.waiting, x.wait = true → ofTicket n x = false) →
        ticketOf (duplicated s) n = ticketOf s n)
      ∧ ∀ code i, (∀ x ∈ s.line.sending.toList ++ s.line.waiting, ofBorrowed code i x = false) →
        borrowedOf (duplicated s) code i = borrowedOf s code i := by
  refine ⟨fun n h => ?_, fun code i h => ?_⟩
  · rw [ticketOf_duplicated]
    cases hk : ticketOf s n with
    | none => rfl
    | some k =>
      have hn := ticketOf_number hk
      exact congrArg some (foldl_of_fixed fun x hx =>
        ticketHears_of_other (by rw [hn]; exact h x hx) (now s))
  · rw [borrowedOf_duplicated]
    cases hb : borrowedOf s code i with
    | none => rfl
    | some b =>
      obtain ⟨hcode, hshare⟩ := borrowedOf_name hb
      exact congrArg some (foldl_of_fixed fun x hx =>
        borrowedHears_of_other (by rw [hcode, hshare]; exact h x hx) (now s))

/-- A dropped frame that a borrowed entry waits for starts that wait. -/
theorem borrowedOf_duplicated_of_ends {s : State} {code i : Nat} {b : Borrowed} {x : TxItem}
    {w : BorrowedWait} (hx : x ∈ s.line.sending.toList ++ s.line.waiting)
    (hb : borrowedOf s code i = some b)
    (hstep : ∀ v, borrowedHears (now s) { b with wait := v } x = { b with wait := w })
    (hkeep : ∀ y, borrowedHears (now s) { b with wait := w } y = { b with wait := w }) :
    borrowedOf (duplicated s) code i = some { b with wait := w } := by
  rw [borrowedOf_duplicated, hb]
  exact congrArg some (borrowedWait_of_ends hx hstep hkeep)

/-- Settles O25. -/
theorem ownNumberMakesADuplicate : Obligations.OwnNumberMakesADuplicate := by
  intro c f s hd harr hsrc
  refine ⟨fun hj => ⟨duplicated s, ?_, ?_, fun hs => ?_, fun hs => ?_, notified_duplicated s, ?_, ?_,
    (duplicated_others s).1, (duplicated_others s).2, fun x hx hw => ⟨?_, ?_, ?_, ?_, ?_, ?_⟩⟩, fun hj => ?_⟩
  · rw [exec_own_number hd harr hsrc, enterDuplicate_of (by exact hj)]
    rfl
  · rw [duplicated_frame]
    rfl
  · rw [duplicated_frame]
    exact if_neg (by simp [hs])
  · have hsend : s.line.sending.isSome = true := Option.isSome_iff_ne_none.2 hs
    rw [duplicated_frame]
    refine (if_pos hsend).trans ?_
    simp only [apply_ite some]
  · rw [tickets_duplicated, List.map_map]
    exact List.map_congr_left fun t _ => foldl_ticketHears_waitless _ _ t
  · rw [borrowed_duplicated, List.map_map]
    exact List.map_congr_left fun b _ => foldl_borrowedHears_waitless _ _ b
  · intro o k hb hk hg hs ha
    rw [ticketOf_duplicated, hk]
    exact congrArg some (offerWindow_of_ends hx hw hb (ticketOf_number hk) hg hs ha)
  · intro ref awardee mask k hb hk hg hs ha
    rw [ticketOf_duplicated, hk]
    exact congrArg some (awardWait_of_ends hx hw hb (ticketOf_number hk) hg hs ha)
  · intro ref p k k' w hb hk hg hk' hw' hp
    rw [ticketOf_duplicated, hk] at hk'
    cases hk'
    exact replyWait_of_ends hx hw hb (ticketOf_number hk) hg w hw' hp
  · intro code i b hbody hb hs
    obtain ⟨hcode, hshare⟩ := borrowedOf_name hb
    refine borrowedOf_duplicated_of_ends hx hb (fun v => ?_) (borrowedHears_asking hs _)
    simp [borrowedHears, hw, hbody, hcode, hshare, hs]
  · intro code i settled tender adj b hbody hb hs
    obtain ⟨hcode, hshare⟩ := borrowedOf_name hb
    refine borrowedOf_duplicated_of_ends hx hb (fun v => ?_) (borrowedHears_repeating (.inl hs) _)
    simp [borrowedHears, hw, hbody, hcode, hshare, hs]
  · intro code i b hbody hb hs
    obtain ⟨hcode, hshare⟩ := borrowedOf_name hb
    refine borrowedOf_duplicated_of_ends hx hb (fun v => ?_) (borrowedHears_repeating (.inr hs) _)
    simp [borrowedHears, hw, hbody, hcode, hshare, hs]
  · rw [exec_own_number hd harr hsrc, enterDuplicate, if_neg (by simp [hj])]

end Sys2Proof.Machine
end

section
-- One proof at a time: side by side, their threads' stacks outgrow the check's memory.
set_option Elab.async false
/-! Operator slots: signing on and off. -/

namespace Sys2Proof.Machine

/-! ## A request's outcome, in the terms of the statements -/

/-- A refusal leaves every block but the link, and its body is empty (R169). -/
theorem refused_of {c : Instr} {s : State} {r : RequestResult} {code : ReplyCode}
    (hexec : exec c s = .next (answer c r s)) (h : r = .error code) :
    ∃ t : State, exec c s = .next t ∧ OnlyLink s t ∧ Replied t code [] := by
  subst h
  exact ⟨_, hexec, answer_refused c code s⟩

/-- A request that is taken answers the state of its result, with the reply in the link. -/
theorem exec_of_ok {c : Instr} {s u : State} {r : RequestResult} {code : ReplyCode} {body : List Byte}
    (hexec : exec c s = .next (answer c r s)) (h : r = .ok (code, body, u)) :
    exec c s = .next { u with link := replying c { code := code, body := body } none } := by
  subst h
  exact hexec

/-! ## Operator slots -/

theorem slotOf_lt {s : State} {i : Nat} {r : SlotRecord} (h : slotOf s i = some r) : i < 4 := by
  by_contra hi
  simp [slotOf, hi] at h

theorem slotOf_setIfInBounds_self {s t : State} {i : Nat} {v : Option SlotRecord} (hi : i < 4)
    (ht : t.slots = s.slots.setIfInBounds i v) : slotOf t i = v := by
  unfold slotOf
  rw [ht, Vector.getElem?_setIfInBounds_self_of_lt hi]
  rfl

theorem slotOf_setIfInBounds_ne {s t : State} {i j : Nat} {v : Option SlotRecord} (hne : j ≠ i)
    (ht : t.slots = s.slots.setIfInBounds i v) : slotOf t j = slotOf s j := by
  unfold slotOf
  rw [ht, Vector.getElem?_setIfInBounds_ne (by exact fun h => hne h.symm)]

theorem freeOperatorSlot_of_lowest {s : State} {i : Nat} (hi : i < 4) (hnone : slotOf s i = none)
    (hlow : ∀ j, j < i → slotOf s j ≠ none) : freeOperatorSlot s = some i := by
  unfold freeOperatorSlot
  rw [List.find?_range_eq_some]
  refine ⟨by simp [hnone], List.mem_range.2 hi, fun j hj => ?_⟩
  simpa [Option.isSome_iff_ne_none] using hlow j hj

theorem freeOperatorSlot_of_full {s : State} (h : ∀ j, j < 4 → slotOf s j ≠ none) :
    freeOperatorSlot s = none := by
  unfold freeOperatorSlot
  rw [List.find?_eq_none]
  intro j hj
  simpa [Option.isSome_iff_ne_none] using h j (List.mem_range.1 hj)

/-- An operator is signed on when a slot holds the id. -/
theorem operatorSignedOn_iff (s : State) (operator : Nat) :
    operatorSignedOn s operator = true
      ↔ ∃ j r, slotOf s j = some r ∧ r.operator = operator := by
  unfold operatorSignedOn
  rw [List.any_eq_true]
  constructor
  · rintro ⟨x, hx, hop⟩
    cases x with
    | none => simp at hop
    | some r =>
      obtain ⟨j, hj, hget⟩ := List.mem_iff_getElem.1 hx
      refine ⟨j, r, ?_, by simpa using hop⟩
      have hj' : j < 4 := by simpa using hj
      have hvec : s.slots[j] = some r := by simpa using hget
      simp [slotOf, hj', hvec]
  · rintro ⟨j, r, hj, hop⟩
    have hlt := slotOf_lt hj
    refine ⟨some r, ?_, by simp [hop]⟩
    have hvec : s.slots[j] = some r := by simpa [slotOf, hlt] using hj
    rw [Vector.mem_toList_iff, ← hvec]
    exact Vector.getElem_mem hlt

/-! ## What a slot holds (R161) -/

theorem holdsShare_iff (s : State) (slot : Nat) : holdsShare s slot = true
    ↔ ∃ i t sh, i < 32 ∧ tabIn s i = some t ∧ sh ∈ t.shares ∧ sh.state = .heldLocal slot := by
  unfold holdsShare
  rw [List.any_eq_true]
  constructor
  · rintro ⟨e, he, hany⟩
    obtain ⟨i, hi, hget⟩ := List.mem_iff_getElem.1 he
    have hi' : i < 32 := by simpa using hi
    have hvec : s.tabs[i] = e := by simpa using hget
    cases ht : e.tab with
    | none => simp [ht] at hany
    | some t =>
      simp only [ht, List.any_eq_true, beq_iff_eq] at hany
      obtain ⟨sh, hsh, hst⟩ := hany
      exact ⟨i, t, sh, hi', by simp [tabIn, hi', hvec, ht], hsh, hst⟩
  · rintro ⟨i, t, sh, hi, ht, hsh, hst⟩
    have htab : s.tabs[i].tab = some t := by simpa [tabIn, hi] using ht
    refine ⟨s.tabs[i], ?_, ?_⟩
    · rw [Vector.mem_toList_iff]
      exact Vector.getElem_mem hi
    · simp only [htab, List.any_eq_true, beq_iff_eq]
      exact ⟨sh, hsh, hst⟩

theorem holdsBorrowed_iff (s : State) (slot : Nat) : holdsBorrowed s slot = true
    ↔ ∃ b ∈ s.borrowed, b.slot = slot
      ∧ (b.state = .borrowed ∨ b.state = .confirming ∨ b.state = .returning) := by
  simp only [holdsBorrowed, List.any_eq_true, Bool.and_eq_true, Bool.or_eq_true, beq_iff_eq, or_assoc]

/-! ## SIGN-ON (R158) -/

theorem signOnResult_of {s : State} {operator level i : Nat} (h1 : 1 ≤ operator) (h2 : operator ≤ 9999)
    (hoff : ∀ j r, slotOf s j = some r → r.operator ≠ operator) (hfree : freeOperatorSlot s = some i) :
    signOnResult operator level s = taken [byte i, byte (min level 3)]
      { s with
        slots := s.slots.setIfInBounds i
          (some ⟨operator, min level 3, now s, ⟨0, 0, 0, 0, 0, 0⟩⟩) } := by
  have hnot : operatorSignedOn s operator = false := by
    rw [Bool.eq_false_iff]
    intro h
    obtain ⟨j, r, hj, hop⟩ := (operatorSignedOn_iff s operator).1 h
    exact hoff j r hj hop
  unfold signOnResult
  rw [need_of ⟨h1, h2⟩, need_of hnot]
  dsimp only
  rw [hfree]
  rfl

theorem signOnResult_field {s : State} {operator level : Nat} (h : operator = 0 ∨ 9999 < operator) :
    signOnResult operator level s = .error .field := need_of_not (by omega) _ _

theorem signOnResult_state {s : State} {operator level : Nat} (h1 : 1 ≤ operator) (h2 : operator ≤ 9999)
    (hon : ∃ j r, slotOf s j = some r ∧ r.operator = operator) :
    signOnResult operator level s = .error .state := by
  have := (operatorSignedOn_iff s operator).2 hon
  unfold signOnResult
  rw [need_of ⟨h1, h2⟩, need_of_not (by simp [this])]

theorem signOnResult_full {s : State} {operator level : Nat} (h1 : 1 ≤ operator) (h2 : operator ≤ 9999)
    (hoff : ∀ j r, slotOf s j = some r → r.operator ≠ operator)
    (hfull : ∀ j, j < 4 → slotOf s j ≠ none) : signOnResult operator level s = .error .full := by
  have hnot : operatorSignedOn s operator = false := by
    rw [Bool.eq_false_iff]
    intro h
    obtain ⟨j, r, hj, hop⟩ := (operatorSignedOn_iff s operator).1 h
    exact hoff j r hj hop
  unfold signOnResult
  rw [need_of ⟨h1, h2⟩, need_of hnot]
  dsimp only
  rw [freeOperatorSlot_of_full hfull]

/-! ## SIGN-OFF (R161 to R163) -/

/-- The state once the shift of a slot is closed. -/
def signedOff (slot : Nat) (r : SlotRecord) (s : State) : State :=
  { notify (.shiftReport slot r.operator r.level r.since (now s) r.totals) s with
    closed := ClosedShifts.close r.totals s.closed
    slots := s.slots.setIfInBounds slot none }

theorem signOffResult_of {s : State} {slot : Nat} {r : SlotRecord} (hr : slotOf s slot = some r)
    (h : ¬(role s = .till ∧ (holdsShare s slot = true ∨ holdsBorrowed s slot = true))) :
    signOffResult slot s
      = taken (shiftFields slot r.operator r.level r.since (now s) r.totals) (signedOff slot r s) := by
  unfold signOffResult signedOff
  rw [withSlot_of_some hr, need_of h]
  dsimp only
  rw [notify_frame]

/-- Nothing that the rule of R161 asks back stands between the slot and its sign-off. -/
theorem nothing_held {s : State} {slot : Nat}
    (h : role s = .till →
      (∀ (i : Nat) (t : Tab) (sh : Share), tabIn s i = some t → sh ∈ t.shares →
        sh.state ≠ .heldLocal slot)
      ∧ ∀ b : Borrowed, b ∈ s.borrowed → b.slot = slot → b.state = .asking ∨ b.state = .orphaned) :
    ¬(role s = .till ∧ (holdsShare s slot = true ∨ holdsBorrowed s slot = true)) := by
  rintro ⟨hr, hshare | hborrowed⟩
  · obtain ⟨i, t, sh, -, ht, hsh, hst⟩ := (holdsShare_iff s slot).1 hshare
    exact (h hr).1 i t sh ht hsh hst
  · obtain ⟨b, hb, hslot, hst⟩ := (holdsBorrowed_iff s slot).1 hborrowed
    rcases (h hr).2 b hb hslot with h | h <;> rw [h] at hst <;> simp at hst

/-- Settles O26. -/
theorem signOnAndSignOff : Obligations.SignOnAndSignOff := by
  refine ⟨fun s operator level => ⟨fun hf => ?_, fun hf =>
    ⟨fun i h1 h2 hoff hi hnone hlow => ?_, fun h => ?_, fun h1 h2 hon => ?_, fun h1 h2 hoff hfull => ?_⟩⟩,
    fun s slot r => ⟨fun hf => ?_, fun hf hnone => ?_, fun hf hr => ⟨fun h => ?_, fun hrole h => ?_⟩⟩⟩
  · exact refused_of rfl (unlessStrapFault_of_fault hf _)
  · refine ⟨_, exec_of_ok rfl ((unlessStrapFault_of hf _).trans
      (signOnResult_of h1 h2 hoff (freeOperatorSlot_of_lowest hi hnone hlow))), rfl, ?_, fun j hj => ?_,
      replied_replying _ _ _ _⟩
    · exact slotOf_setIfInBounds_self hi rfl
    · exact slotOf_setIfInBounds_ne hj rfl
  · exact refused_of rfl ((unlessStrapFault_of hf _).trans (signOnResult_field h))
  · exact refused_of rfl ((unlessStrapFault_of hf _).trans (signOnResult_state h1 h2 hon))
  · exact refused_of rfl ((unlessStrapFault_of hf _).trans (signOnResult_full h1 h2 hoff hfull))
  · exact refused_of rfl (unlessStrapFault_of_fault hf _)
  · exact refused_of rfl ((unlessStrapFault_of hf _).trans (withSlot_of_none hnone _))
  · refine ⟨_, exec_of_ok rfl ((unlessStrapFault_of hf _).trans (signOffResult_of hr (nothing_held h))),
      ?_, ?_, fun j hj => ?_, rfl, rfl, rfl, rfl, rfl, rfl, rfl, ⟨rfl, rfl⟩, ?_⟩
    · unfold signedOff
      rw [notify_frame]
    · exact slotOf_setIfInBounds_self (slotOf_lt hr) rfl
    · exact slotOf_setIfInBounds_ne hj rfl
    · have hbody : shiftFields slot r.operator r.level r.since (now s) r.totals
          = byte slot :: (be16 r.operator ++ [byte r.level] ++ be32 r.since.toNat
            ++ be32 (now s).toNat ++ be48 r.totals.cash ++ be48 r.totals.card
            ++ be48Int r.totals.rounding ++ be32 r.totals.shares ++ be32 r.totals.voids
            ++ be32 r.totals.wastes) := by
        simp only [shiftFields, timeBytes, Totals.bytes, List.append_assoc]
      rw [hbody]
      exact replied_replying _ _ _ _
  · refine refused_of rfl ((unlessStrapFault_of hf _).trans ?_)
    have hheld : holdsShare s slot = true ∨ holdsBorrowed s slot = true := by
      rcases h with h | ⟨b, hb, hslot, hst⟩
      · exact .inl ((holdsShare_iff s slot).2 h)
      · exact .inr ((holdsBorrowed_iff s slot).2 ⟨b, hb, hslot, hst⟩)
    unfold signOffResult
    rw [withSlot_of_some hr, need_of_not (not_not.2 ⟨hrole, hheld⟩)]

end Sys2Proof.Machine
end

section
-- One proof at a time: side by side, their threads' stacks outgrow the check's memory.
set_option Elab.async false
/-! Tabs: opening, lines, closing, last call. -/

namespace Sys2Proof.Machine

/-! ## The check for freeing (R56), in the terms of the statements -/

theorem finished_iff (l : TabLine) :
    TabLine.finished l = true ↔ l.state = .served ∨ l.state = .void ∨ l.state = .waste := by
  simp only [TabLine.finished, Bool.or_eq_true, beq_iff_eq, or_assoc]

theorem referred_eq_false_iff (s : State) (slot issue : Nat) :
    referred s slot issue = false ↔ ∀ x ∈ s.tickets, x.slot = slot → x.issue ≠ issue := by
  simp only [referred, List.any_eq_false, Bool.and_eq_true, beq_iff_eq, not_and]

/-- A tab of the slot is CLOSED, its lines finished, and no ticket record refers to it. -/
def Freeable (s : State) (slot : Nat) (tb : Tab) : Prop :=
  tb.state = .closed ∧ (∀ l ∈ tb.lines, l.state = .served ∨ l.state = .void ∨ l.state = .waste)
    ∧ ∀ x ∈ s.tickets, x.slot = slot → x.issue ≠ codeIssue tb.code

theorem checkFree_of_freeable {s : State} {slot : Nat} {tb : Tab} (ht : tabIn s slot = some tb)
    (h : Freeable s slot tb) : checkFree slot s = notify (.tabFreed tb.code) (putTab slot none s) := by
  obtain ⟨hc, hl, hr⟩ := h
  unfold checkFree
  rw [ht]
  exact if_pos ⟨hc, List.all_eq_true.2 fun l hm => (finished_iff l).2 (hl l hm),
    (referred_eq_false_iff _ _ _).2 hr⟩

theorem checkFree_of_kept {s : State} {slot : Nat} {tb : Tab} (ht : tabIn s slot = some tb)
    (h : ¬Freeable s slot tb) : checkFree slot s = s := by
  unfold checkFree
  rw [ht]
  refine if_neg fun ⟨hc, hl, hr⟩ => h ⟨hc, fun l hm => ?_, (referred_eq_false_iff _ _ _).1 hr⟩
  exact (finished_iff l).1 (List.all_eq_true.1 hl l hm)

/-- What the check for freeing comes to where a slot's tab has become `tb` (R56). -/
theorem tabCheckedByEvent_checkFree {s u : State} {slot : Nat} {tb : Tab} (hu : tabIn u slot = some tb)
    (hother : OtherSlots s u slot)
    (hissue : (u.tabs[slot]?).map TabSlot.issue = (s.tabs[slot]?).map TabSlot.issue)
    (hn : u.notices = s.notices) (ho : u.overflow = s.overflow) (hl : u.link = s.link)
    (hc : u.clock = s.clock) : TabCheckedByEvent s (checkFree slot u) slot tb := by
  have htickets : (checkFree slot u).tickets = u.tickets := by rw [checkFree_frame]
  by_cases h : Freeable u slot tb
  · have hfreed := h
    unfold Freeable at hfreed
    rw [← htickets] at hfreed
    have hnone : tabIn (checkFree slot u) slot = none := by
      rw [checkFree_of_freeable hu h, notify_frame]
      exact tabIn_putTab_self _ (lt_of_tabIn hu)
    obtain ⟨⟨h1, h2⟩, h3⟩ := notified_notify (s := s) (u := putTab slot none u) (.tabFreed tb.code)
      (by rw [putTab_frame]; exact hn) (by rw [putTab_frame]; exact ho) (by rw [putTab_frame]; exact hl)
      (by rw [putTab_frame]; exact hc)
    refine ⟨⟨fun i hi => ?_, ?_, fun _ => ⟨hnone, ?_, ?_⟩, fun hkept => absurd hfreed hkept⟩, fun _ => ?_,
      fun hsome => absurd hnone hsome⟩
    · rw [checkFree_of_freeable hu h, notify_frame]
      exact (tabs_putTab_ne _ hi).trans (hother i hi)
    · rw [checkFree_of_freeable hu h, notify_frame]
      exact (issue_putTab _).trans hissue
    · rw [checkFree_of_freeable hu h]
      exact h1
    · rw [checkFree_of_freeable hu h]
      exact h2
    · rw [checkFree_of_freeable hu h]
      exact h3
  · rw [checkFree_of_kept hu h]
    refine ⟨⟨hother, hissue, fun hfreed => absurd hfreed h, fun _ => ⟨hu, hn, ho⟩⟩,
      fun hnone => ?_, fun _ => hl⟩
    rw [hu] at hnone
    cases hnone

/-- A tab put into its own slot, then checked. -/
theorem tabCheckedByEvent_putTab {s u : State} {slot : Nat} {tb old : Tab} (hold : tabIn s slot = some old)
    (hu : u = { putTab slot (some tb) s with
      tickets := u.tickets, line := u.line, borrowed := u.borrowed, slots := u.slots }) :
    TabCheckedByEvent s (checkFree slot u) slot tb := by
  have hslot : u.tabs = (putTab slot (some tb) s).tabs := by rw [hu]
  have hin : tabIn u slot = tabIn (putTab slot (some tb) s) slot := by
    unfold tabIn
    rw [hslot]
  refine tabCheckedByEvent_checkFree (hin.trans (tabIn_putTab_self _ (lt_of_tabIn hold)))
    (fun i hi => ?_) ?_ ?_ ?_ ?_ ?_
  · rw [hslot]
    exact tabs_putTab_ne _ hi
  · rw [hslot]
    exact issue_putTab _
  · rw [hu, putTab_frame]
  · rw [hu, putTab_frame]
  · rw [hu, putTab_frame]
  · rw [hu, putTab_frame]

/-! ## A request outside STRAP-FAULT -/

theorem request_refused {c : Instr} {s : State} {r : RequestResult} {code : ReplyCode}
    (hexec : exec c s = .next (answer c (unlessStrapFault s r) s)) (hj : s.join.state ≠ .strapFault)
    (h : r = .error code) : ∃ t : State, exec c s = .next t ∧ OnlyLink s t ∧ Replied t code [] :=
  refused_of hexec ((unlessStrapFault_of hj r).trans h)

theorem request_ok {c : Instr} {s u : State} {r : RequestResult} {code : ReplyCode} {body : List Byte}
    (hexec : exec c s = .next (answer c (unlessStrapFault s r) s)) (hj : s.join.state ≠ .strapFault)
    (h : r = .ok (code, body, u)) :
    exec c s = .next { u with link := replying c { code := code, body := body } none } :=
  exec_of_ok hexec ((unlessStrapFault_of hj r).trans h)

/-- A request has queued a notice where its state has what `notify` leaves on a state like `s`. -/
theorem reported_of_notify {s u t : State} {b : NoticeBody} (htn : t.notices = (notify b u).notices)
    (hto : t.overflow = (notify b u).overflow) (hn : u.notices = s.notices)
    (ho : u.overflow = s.overflow) (hl : u.link = s.link) (hc : u.clock = s.clock) : Reported s t b := by
  obtain ⟨h1, h2, -⟩ := notify_congr b hn ho hl hc
  exact ⟨htn.trans h1, hto.trans h2⟩

theorem locked_eq_false_iff (t : Tab) :
    Tab.locked t = false ↔ ∀ sh ∈ t.shares, sh.state = .opened ∨ sh.state = .empty := by
  simp only [Tab.locked, List.any_eq_false]
  refine forall₂_congr fun sh _ => ?_
  cases sh.state <;> simp [ShareState.locks]

theorem updTab_of {s : State} {slot : Nat} {t : Tab} (h : tabIn s slot = some t) (f : Tab → Tab) :
    updTab slot f s = putTab slot (some (f t)) s := by
  simp [updTab, h]

/-- A tab in its slot replaced: the others and the issue counter as they were. -/
theorem putTab_changes {s : State} {slot : Nat} {old : Tab} (h : tabIn s slot = some old) (tb : Option Tab) :
    OtherSlots s (putTab slot tb s) slot ∧ tabIn (putTab slot tb s) slot = tb :=
  ⟨fun _ hi => tabs_putTab_ne _ hi, tabIn_putTab_self _ (lt_of_tabIn h)⟩

/-! ## OPEN-TAB (R43) -/

theorem freeTabSlot_of_lowest {s : State} {i n : Nat} (h : s.tabs[i]? = some ⟨n, none⟩)
    (hlow : ∀ j, j < i → tabIn s j ≠ none) : freeTabSlot s = some i := by
  have hi : i < 32 := by
    by_contra hc
    simp [Nat.le_of_not_lt hc] at h
  unfold freeTabSlot
  rw [List.find?_range_eq_some]
  refine ⟨by simp [h], List.mem_range.2 hi, fun j hj => ?_⟩
  have hj32 : j < 32 := by omega
  have htaken := hlow j hj
  simp only [tabIn, Vector.getElem?_eq_getElem hj32, Option.bind_some, ne_eq] at htaken
  simpa [hj32, Option.isSome_iff_ne_none] using htaken

theorem freeTabSlot_of_full {s : State} (h : ∀ j, j < 32 → tabIn s j ≠ none) : freeTabSlot s = none := by
  unfold freeTabSlot
  rw [List.find?_eq_none]
  intro j hj
  have hj32 := List.mem_range.1 hj
  have htaken := h j hj32
  simp only [tabIn, Vector.getElem?_eq_getElem hj32, Option.bind_some, ne_eq] at htaken
  simpa [hj32, Option.isSome_iff_ne_none] using htaken

/-- A tab without lines computes to nothing, whatever the rates (R43). -/
theorem newTab_eq (s : State) (code operator : Nat) : newTab s code operator =
    { code := code, state := .opened, operator := operator, openedAt := now s, lines := []
      shares := [⟨0, ⟨0, 0, 0, 0, 0, 0, 0, 0, 0⟩, .empty⟩], gross := 0, total := 0 } := by
  have hlocked : ∀ sh ∈ [Share.new], sh.state = .opened ∨ sh.state = .empty := by
    simp [Share.new]
  unfold newTab Tab.compute
  rw [if_neg (by rw [Bool.not_eq_true]; exact (locked_eq_false_iff _).2 hlocked)]
  simp [computeShare, amountsOf, groupSum, discountOf, taxOf, Share.new]

theorem openTabResult_of {s : State} {slot i n : Nat} {r : SlotRecord} (h : TillSlot s slot 3 r)
    (hi : s.tabs[i]? = some ⟨n, none⟩) (hlow : ∀ j, j < i → tabIn s j ≠ none) :
    openTabResult slot s = taken (be16 (tabCode (station s) i ((n + 1) % 32)))
      { s with
        tabs := s.tabs.setIfInBounds i
          { issue := (n + 1) % 32
            tab := some (newTab s (tabCode (station s) i ((n + 1) % 32)) r.operator) } } := by
  obtain ⟨-, hrole, hslot, hlevel⟩ := h
  unfold openTabResult
  rw [need_of hrole, withSlot_of_some hslot, need_of hlevel, freeTabSlot_of_lowest hi hlow]
  dsimp only
  rw [hi]
  rfl

/-! ## CLOSE-TAB (R55) -/

theorem closeTabResult_of {s : State} {slot code : Nat} {r : SlotRecord} {tb : Tab}
    (h : TillSlot s slot 2 r) (ht : tabOf s code = some tb) (ho : tb.state = .opened)
    (hw : ∀ l ∈ tb.lines, l.state ≠ .withdrawing) (he : ∀ sh ∈ tb.shares, sh.state = .empty) :
    closeTabResult slot code s = taken []
      (checkFree (codeSlot code) (putTab (codeSlot code) (some { tb with state := .closed }) s)) := by
  have hnot : Tab.withdrawing tb = false := by
    simpa [Tab.withdrawing] using hw
  have hempty : (tb.shares.all fun sh => ShareState.isEmpty sh.state) = true :=
    List.all_eq_true.2 fun sh hsh => by rw [he sh hsh]; rfl
  unfold closeTabResult
  rw [tabRequest_of h ht, need_of ho, need_of hnot, need_of hempty]

/-- Settles O27. -/
theorem tabsOpenAndClose : Obligations.TabsOpenAndClose := by
  refine ⟨fun s slot i n r h hi hlow => ?_, fun s slot r h hfull => ?_,
    fun s slot code r tb h ht ho hw he => ?_⟩
  · refine ⟨_, request_ok rfl h.1 (openTabResult_of h hi hlow), rfl, fun j hj => ?_, ?_,
      replied_replying _ _ _ _⟩
    · exact Vector.getElem?_setIfInBounds_ne (by exact fun h => hj h.symm)
    · have hi32 : i < 32 := by
        by_contra hc
        simp [Nat.le_of_not_lt hc] at hi
      rw [newTab_eq]
      exact Vector.getElem?_setIfInBounds_self_of_lt hi32
  · obtain ⟨hj, hrole, hslot, hlevel⟩ := h
    refine request_refused rfl hj ?_
    unfold openTabResult
    rw [need_of hrole, withSlot_of_some hslot, need_of hlevel, freeTabSlot_of_full hfull]
  · obtain ⟨-, htab, rfl⟩ := tabIn_of_tabOf ht
    obtain ⟨⟨hother, hissue, hfreed, hkept⟩, -⟩ :=
      tabCheckedByEvent_putTab (tb := { tb with state := .closed }) htab
        (u := putTab (codeSlot tb.code) (some { tb with state := .closed }) s)
        (by rw [putTab_frame])
    have htickets : (checkFree (codeSlot tb.code)
        (putTab (codeSlot tb.code) (some { tb with state := .closed }) s)).tickets = s.tickets := by
      rw [checkFree_frame, putTab_frame]
    rw [htickets] at hfreed hkept
    refine ⟨_, request_ok rfl h.1 (closeTabResult_of h ht ho hw he), ?_, hother, hissue,
      replied_replying _ _ _ _, fun hl hk => hfreed ⟨rfl, hl, hk⟩, fun hor => hkept ?_⟩
    · rw [checkFree_frame, putTab_frame]
    · rintro ⟨-, hl, hk⟩
      rcases hor with ⟨l, hl', h1, h2, h3⟩ | ⟨k, hk', h1, h2⟩
      · exact (hl l hl').elim h1 fun h => h.elim h2 h3
      · exact hk k hk' h1 h2

/-! ## ADD-LINE (R45, R46) -/

theorem classServed_iff (s : State) (c : Nat) : classServed s c = true
    ↔ ∃ n h, heard s n = some h ∧ h.silent = false ∧ h.role = .kitchen ∧ h.cls = c ∧ h.accepting = true := by
  unfold classServed
  rw [List.any_eq_true]
  constructor
  · rintro ⟨e, he, hserves⟩
    cases e with
    | none => simp at hserves
    | some h =>
      obtain ⟨i, hi, hget⟩ := List.mem_iff_getElem.1 he
      have hi' : i < 62 := by simpa using hi
      have hvec : s.stations[i] = some h := by simpa using hget
      have hnum : stationNumber (i + 1) = true := by
        rw [stationNumber_iff]
        omega
      refine ⟨i + 1, h, by simp [heard, hnum, hi', hvec], ?_⟩
      simpa [Heard.serves, and_assoc] using hserves
  · rintro ⟨n, h, hn, hserves⟩
    have hnum := stationNumber_iff.1 (stationNumber_of_heard hn)
    have hlt : n - 1 < 62 := by omega
    have hvec : s.stations[n - 1] = some h := by
      simpa [heard, stationNumber_of_heard hn, hlt] using hn
    refine ⟨some h, ?_, by simpa [Heard.serves, and_assoc] using hserves⟩
    rw [Vector.mem_toList_iff, ← hvec]
    exact Vector.getElem_mem hlt

theorem inRange_iff (l : LineFields) : LineFields.inRange l = true
    ↔ (1 ≤ l.qty ∧ l.qty ≤ 60) ∧ (1 ≤ l.label.length ∧ l.label.length ≤ 12) ∧ l.note.length ≤ 12
      ∧ ∀ b ∈ l.label ++ l.note, 0x20 ≤ b.toNat ∧ b.toNat ≤ 0x7E := by
  simp only [LineFields.inRange, Bool.and_eq_true, decide_eq_true_eq, List.all_eq_true, printable,
    List.mem_append, or_imp, forall_and]
  tauto

/-- The line an ADD-LINE of these fields appends (R46). -/
def addedLine (l : LineFields) (shares : Nat) : TabLine :=
  newLine shares (clampLine l)

/-- ADD-LINE as its chain of checks (R45). -/
theorem addLineResult_eq {s : State} {slot code : Nat} {l : LineFields} {r : SlotRecord} {tb : Tab}
    (h : TillSlot s slot 3 r) (ht : tabOf s code = some tb) : addLineResult slot code l s
      = (need (Tab.locked tb = false) .locked <| need (tb.state = .opened) .state <|
        need (LineFields.inRange l = true) .field <|
        need ((clampLine l).cls = 0 ∨ classServed s (clampLine l).cls = true) .unserved <|
        need ((addedLine l tb.shares.length).restricted = false ∨ s.lastCall = false) .restricted <|
        need (tb.gross + TabLine.gross (addedLine l tb.shares.length) ≤ goodsLimit) .limit <|
        need (tb.lines.length < lineCapacity) .full <|
        taken (byte tb.lines.length :: (be16 (clampLine l).price ++ be16 (clampLine l).deposit
            ++ [byte (clampLine l).taxGroup, byte (clampLine l).cls]))
          (putTab (codeSlot code)
            (some (Tab.append s.join.figures (addedLine l tb.shares.length) tb)) s)) := by
  unfold addLineResult
  rw [tabRequest_of h ht]
  rfl

/-- Settles O28. -/
theorem addLineChecksThenAppends : Obligations.AddLineChecksThenAppends := by
  intro s slot code l r tb h ht
  obtain ⟨-, htab, -⟩ := tabIn_of_tabOf ht
  refine ⟨answer (.addLine slot code l) (addLineResult slot code l s) s,
    congrArg (fun q => Host.Outcome.next (answer (.addLine slot code l) q s))
      (unlessStrapFault_of h.1 _), ?_⟩
  rw [addLineResult_eq h ht]
  have hserved : ((clampLine l).cls = 0 ∨ classServed s (clampLine l).cls = true)
      ↔ ((if 7 < l.cls then 0 else l.cls) = 0 ∨ ∃ n h, heard s n = some h ∧ h.silent = false
        ∧ h.role = .kitchen ∧ h.cls = (if 7 < l.cls then 0 else l.cls) ∧ h.accepting = true) :=
    or_congr Iff.rfl (classServed_iff s _)
  have hsold : ((addedLine l tb.shares.length).restricted = false ∨ s.lastCall = false)
      ↔ (l.restricted = 0 ∨ s.lastCall = false) :=
    or_congr (by simp [addedLine, newLine, clampLine]) Iff.rfl
  refine ⟨fun hu => ?_, fun hu ho => ?_, fun hu ho hf => ?_, fun hu ho hf hs => ?_,
    fun hu ho hf hs hr => ?_, fun hu ho hf hs hr hg => ?_, fun hu ho hf hs hr hg hn => ?_,
    fun hu ho hf hs hr hg hn => ?_⟩
  · rw [need_of_not (fun hc => hu ((locked_eq_false_iff tb).1 hc))]
    exact answer_refused _ _ s
  · rw [need_of ((locked_eq_false_iff tb).2 hu), need_of_not ho]
    exact answer_refused _ _ s
  · rw [need_of ((locked_eq_false_iff tb).2 hu), need_of ho,
      need_of_not (fun hc => hf ((inRange_iff l).1 hc))]
    exact answer_refused _ _ s
  · rw [need_of ((locked_eq_false_iff tb).2 hu), need_of ho, need_of ((inRange_iff l).2 hf),
      need_of_not (fun hc => hs (hserved.1 hc))]
    exact answer_refused _ _ s
  · rw [need_of ((locked_eq_false_iff tb).2 hu), need_of ho, need_of ((inRange_iff l).2 hf),
      need_of (hserved.2 hs), need_of_not (fun hc => hr (hsold.1 hc))]
    exact answer_refused _ _ s
  · rw [need_of ((locked_eq_false_iff tb).2 hu), need_of ho, need_of ((inRange_iff l).2 hf),
      need_of (hserved.2 hs), need_of (hsold.2 hr), need_of_not (by exact Nat.not_le.2 hg)]
    exact answer_refused _ _ s
  · rw [need_of ((locked_eq_false_iff tb).2 hu), need_of ho, need_of ((inRange_iff l).2 hf),
      need_of (hserved.2 hs), need_of (hsold.2 hr), need_of (by exact hg),
      need_of_not (by exact Nat.not_lt.2 hn)]
    exact answer_refused _ _ s
  · rw [need_of ((locked_eq_false_iff tb).2 hu), need_of ho, need_of ((inRange_iff l).2 hf),
      need_of (hserved.2 hs), need_of (hsold.2 hr), need_of (by exact hg), need_of (by exact hn)]
    obtain ⟨hother, hself⟩ :=
      putTab_changes htab (some (Tab.append s.join.figures (addedLine l tb.shares.length) tb))
    refine ⟨?_, hother, hself.trans ?_, replied_replying _ _ _ _⟩
    · rw [answer_taken, putTab_frame]
    · have hrestricted : decide (l.restricted ≠ 0) = (l.restricted != 0) := by
        by_cases h0 : l.restricted = 0 <;> simp [h0]
      rw [hrestricted]
      rfl

/-! ## Last call (R57, R58) -/

theorem lastCallResult_eq {s : State} {slot : Nat} {r : SlotRecord} (h : TillSlot s slot 1 r) :
    lastCallResult slot s = if s.lastCall then taken [] s
      else needFrames s 1 <| taken [] (notify (.lastCall (station s)) (offerFrame 127 .lastCall false
        { s with lastCall := true })) := by
  obtain ⟨-, hrole, hslot, hlevel⟩ := h
  unfold lastCallResult
  rw [need_of hrole, withSlot_of_some hslot, need_of hlevel]

/-- A request that needs a frame is refused outside ON-LINE, and while no entry is free (R15). -/
theorem needFrames_offline {s : State} (h : s.join.state ≠ .onLine) (n : Nat) (k : RequestResult) :
    needFrames s (n + 1) k = .error .offline := by
  unfold needFrames
  rw [if_neg (Nat.succ_ne_zero n), need_of_not h]

theorem needFrames_lineBusy {s : State} (h : s.join.state = .onLine) {n : Nat} (hn : freeTx s < n)
    (k : RequestResult) : needFrames s n k = .error .lineBusy := by
  unfold needFrames
  rw [if_neg (by omega), need_of h, need_of_not (by omega)]

/-- Settles O30. -/
theorem lastCallIsAdopted : Obligations.LastCallIsAdopted := by
  refine ⟨fun s slot r h => ⟨fun hl hc => ?_, fun hl hj => ?_, fun hl hj hfree => ?_, fun hl => ?_⟩,
    fun s dest src hd => ⟨fun hl => ?_, fun hl => ?_⟩⟩
  · have hres : lastCallResult slot s = taken [] (notify (.lastCall (station s))
        (offerFrame 127 .lastCall false { s with lastCall := true })) := by
      rw [lastCallResult_eq h, if_neg (by simp [hl]), needFrames_of hc]
    refine ⟨_, request_ok rfl h.1 hres, ?_, ?_, ?_, replied_replying _ _ _ _⟩
    · rw [notify_frame, offerFrame_of_free (by exact hc.1) (by exact hc.2)]
    · rw [notify_frame, offerFrame_of_free (by exact hc.1) (by exact hc.2)]
      rfl
    · rw [offerFrame_of_free (by exact hc.1) (by exact hc.2)]
      exact reported_of_notify rfl rfl rfl rfl rfl rfl
  · refine request_refused rfl h.1 ?_
    rw [lastCallResult_eq h, if_neg (by simp [hl]), needFrames_offline hj]
  · refine request_refused rfl h.1 ?_
    rw [lastCallResult_eq h, if_neg (by simp [hl]), needFrames_lineBusy hj (by omega)]
  · have hres : lastCallResult slot s = taken [] s := by
      rw [lastCallResult_eq h, if_pos hl]
    exact ⟨_, request_ok rfl h.1 hres, rfl, replied_replying _ _ _ _⟩
  · have hexec : exec (.lastCallFrame dest src) s = .next (notify (.lastCall src)
        { arrived ⟨dest, src, .lastCall⟩ s with lastCall := true }) := by
      refine congrArg Host.Outcome.next ((deliverFrame_of hd _).trans ?_)
      unfold adoptLastCall
      rw [arrived_lastCall, if_neg (by simp [hl])]
    refine ⟨_, hexec, ?_, notified_notify _ (by simp) (by simp) (by simp) (by simp)⟩
    rw [notify_frame]
  · refine congrArg Host.Outcome.next ((deliverFrame_of hd _).trans ?_)
    exact adoptLastCall_of_set (by rw [arrived_lastCall]; exact hl) src

end Sys2Proof.Machine
end

section
-- One proof at a time: side by side, their threads' stacks outgrow the check's memory.
set_option Elab.async false
/-! Voiding and wasting lines. -/

namespace Sys2Proof.Machine

/-! ## Totals of a slot -/

theorem addTotals_of {s : State} {slot : Nat} {r : SlotRecord} (h : slotOf s slot = some r)
    (f : Totals → Totals) : addTotals slot f s = { s with
      slots := s.slots.setIfInBounds slot (some { r with totals := f r.totals }) } := by
  unfold addTotals
  rw [h]

/-! ## Records freed (R82) -/

theorem ticketOf_of_filter {s t : State} {n : Nat}
    (h : t.tickets = s.tickets.filter fun x => x.number != n) :
    ticketOf t n = none ∧ ∀ m, m ≠ n → ticketOf t m = ticketOf s m := by
  unfold ticketOf
  rw [h]
  refine ⟨find?_filter_named _ _ (fun x hx => ?_) _, fun m hm => find?_filter_other _ _ (fun x hx => ?_) _⟩
  · simpa using hx
  · have hx : x.number = m := by simpa using hx
    simpa [hx] using hm

theorem freeTicket_of {s : State} {n : Nat} {k : Ticket} (h : ticketOf s n = some k) :
    freeTicket n s = checkFree k.slot { cancelFrames (ofTicket n) s with
      tickets := s.tickets.filter fun t => t.number != n } := by
  unfold freeTicket
  rw [h]
  rfl

/-- The tab of a slot is not CLOSED, so the check for freeing leaves it (R56). -/
theorem checkFree_of_open {s : State} {slot : Nat} {tb : Tab} (ht : tabIn s slot = some tb)
    (hc : tb.state ≠ .closed) : checkFree slot s = s :=
  checkFree_of_kept ht fun h => hc h.1

theorem compute_state (f : Figures) (t : Tab) : (Tab.compute f t).state = t.state := by
  unfold Tab.compute
  split <;> rfl

theorem uncount_state (f : Figures) (i : Nat) (l : TabLine) (t : Tab) :
    (Tab.uncount f i l t).state = t.state := compute_state f _

/-! ## Checks on a line (R49, R52) -/

theorem lineRequest_of {tb : Tab} {line : Nat} {l : TabLine}
    (hu : ∀ sh ∈ tb.shares, sh.state = .opened ∨ sh.state = .empty) (hc : tb.state ≠ .closed)
    (hl : tb.lines[line]? = some l) (k : TabLine → RequestResult) : lineRequest tb line k = k l := by
  unfold lineRequest
  rw [need_of ((locked_eq_false_iff tb).2 hu), need_of hc, hl]

/-- VOID-LINE of a line, by its state (Table 3-6). -/
def voidLineOf (slot level code line : Nat) (l : TabLine) (s : State) : RequestResult :=
  match l.state, l.place with
  | .entered, _ =>
      need (level ≤ 3) .level <| taken [] (countVoid slot (voidLineIn (codeSlot code) line l s))
  | .sent, some (number, position) => voidSent slot level code line number position l s
  | .withdrawing, _ => .error .pending
  | _, _ => .error .state

theorem voidLineResult_eq {s : State} {slot code line : Nat} {r : SlotRecord} {tb : Tab}
    (h : TillSlot s slot 3 r) (ht : tabOf s code = some tb) : voidLineResult slot code line s
      = lineRequest tb line fun l => voidLineOf slot r.level code line l s := by
  obtain ⟨-, hrole, hslot, -⟩ := h
  unfold voidLineResult
  rw [need_of hrole, withSlot_of_some hslot, withTab_of_some ht]
  rfl

theorem voidLineResult_of {s : State} {slot code line : Nat} {r : SlotRecord} {tb : Tab} {l : TabLine}
    (h : TillSlot s slot 3 r) (ht : tabOf s code = some tb)
    (hu : ∀ sh ∈ tb.shares, sh.state = .opened ∨ sh.state = .empty) (hc : tb.state ≠ .closed)
    (hl : tb.lines[line]? = some l) :
    voidLineResult slot code line s = voidLineOf slot r.level code line l s := by
  rw [voidLineResult_eq h ht, lineRequest_of hu hc hl]

theorem voidLineOf_sent {l : TabLine} {n p : Nat} (hs : l.state = .sent) (hp : l.place = some (n, p))
    (slot level code line : Nat) (s : State) :
    voidLineOf slot level code line l s = voidSent slot level code line n p l s := by
  unfold voidLineOf
  rw [hs, hp]

theorem voidSent_unplaced {s : State} {n : Nat} {k : Ticket} (hk : ticketOf s n = some k)
    (h : k.state = .offering ∨ k.state = .stranded) {level : Nat} (hl : level ≤ 2)
    (slot code line p : Nat) (l : TabLine) : voidSent slot level code line n p l s
      = taken [] (countVoid slot (removeFromTicket n p (voidLineIn (codeSlot code) line l s))) := by
  unfold voidSent
  rw [hk]
  rcases h with h | h <;> rw [Option.map_some, h] <;> exact need_of hl _ _

theorem voidSent_placed {s : State} {n : Nat} {k : Ticket} (hk : ticketOf s n = some k)
    (h : k.state = .placing ∨ k.state = .placed) (slot level code line p : Nat) (l : TabLine) :
    voidSent slot level code line n p l s
      = (need (level ≤ 2) .level <| needFrames s 1 <|
          accepted (countVoid slot (beginWithdrawal (codeSlot code) line n p l s))) := by
  unfold voidSent
  rw [hk]
  rcases h with h | h <;> rw [Option.map_some, h]

theorem voidSent_level {s : State} {n : Nat} {k : Ticket} (hk : ticketOf s n = some k)
    (h1 : k.state ≠ .fired) (h2 : k.state ≠ .ready) {level : Nat} (hl : level = 3)
    (slot code line p : Nat) (l : TabLine) :
    voidSent slot level code line n p l s = .error .level := by
  have hnot : ¬level ≤ 2 := by omega
  unfold voidSent
  rw [hk, Option.map_some]
  cases hs : k.state
  case fired => exact absurd hs h1
  case ready => exact absurd hs h2
  all_goals exact need_of_not hnot _ _

theorem voidSent_cooked {s : State} {n : Nat} {k : Ticket} (hk : ticketOf s n = some k)
    (h : k.state = .fired ∨ k.state = .ready) (slot level code line p : Nat) (l : TabLine) :
    voidSent slot level code line n p l s = .error .state := by
  unfold voidSent
  rw [hk]
  rcases h with h | h <;> rw [Option.map_some, h]

/-! ## The tab after a line has left the bill -/

/-- The tab of a slot and the record of an operator slot replaced. -/
def withTabAndSlot (cs : Nat) (tb : Tab) (slot : Nat) (r : SlotRecord) (s : State) : State :=
  { s with tabs := (putTab cs (some tb) s).tabs, slots := s.slots.setIfInBounds slot (some r) }

/-- What a tab and a slot's record replaced leave of the others. -/
theorem tab_and_slot_changed {s u : State} {cs slot : Nat} {old tb : Tab} {r r' : SlotRecord}
    (hold : tabIn s cs = some old) (hslot : slotOf s slot = some r')
    (htabs : u.tabs = (withTabAndSlot cs tb slot r s).tabs)
    (hslots : u.slots = (withTabAndSlot cs tb slot r s).slots) :
    OtherSlots s u cs ∧ tabIn u cs = some tb ∧ slotOf u slot = some r
      ∧ ∀ j, j ≠ slot → slotOf u j = slotOf s j := by
  obtain ⟨hother, hself⟩ := putTab_changes hold (some tb)
  refine ⟨fun i hi => ?_, ?_, slotOf_setIfInBounds_self (slotOf_lt hslot) hslots,
    fun j hj => slotOf_setIfInBounds_ne hj hslots⟩
  · rw [htabs]
    exact hother i hi
  · unfold tabIn at hself ⊢
    rw [htabs]
    exact hself

/-- The record of a slot with one void more (R160). -/
def oneVoidMore (r : SlotRecord) : SlotRecord :=
  { r with totals := { r.totals with voids := r.totals.voids + 1 } }

/-- The record of a slot with one waste more (R160). -/
def oneWasteMore (r : SlotRecord) : SlotRecord :=
  { r with totals := { r.totals with wastes := r.totals.wastes + 1 } }

theorem countVoid_of {s : State} {slot : Nat} {r : SlotRecord} (h : slotOf s slot = some r) :
    countVoid slot s = { s with
      slots := s.slots.setIfInBounds slot (some (oneVoidMore r)) } :=
  addTotals_of h _

theorem countWaste_of {s : State} {slot : Nat} {r : SlotRecord} (h : slotOf s slot = some r) :
    countWaste slot s = { s with
      slots := s.slots.setIfInBounds slot (some (oneWasteMore r)) } :=
  addTotals_of h _

theorem voidLineIn_of {s : State} {slot : Nat} {tb : Tab} (h : tabIn s slot = some tb) (line : Nat)
    (l : TabLine) : voidLineIn slot line l s
      = putTab slot (some (Tab.uncount s.join.figures line { l with state := .void, place := none } tb)) s :=
  updTab_of h _

/-- The voided line's position taken off its ticket, which is freed when that was its last (R73). -/
theorem removeFromTicket_of {s : State} {n p : Nat} {k : Ticket} {tb : Tab} (hk : ticketOf s n = some k)
    (ht : tabIn s k.slot = some tb) (hc : tb.state ≠ .closed) :
    removeFromTicket n p s = { s with
        tickets := (removeFromTicket n p s).tickets, line := (removeFromTicket n p s).line }
      ∧ (without p k.live ≠ 0#8 → (removeFromTicket n p s).line = s.line
          ∧ ticketOf (removeFromTicket n p s) n = some (Ticket.dropPosition p k))
      ∧ (without p k.live = 0#8 → ticketOf (removeFromTicket n p s) n = none
          ∧ (removeFromTicket n p s).line = { s.line with
              waiting := s.line.waiting.filter fun x => !ofTicket n x
              sending := s.line.sending.map (TxItem.disown (ofTicket n)) })
      ∧ ∀ m, m ≠ n → ticketOf (removeFromTicket n p s) m = ticketOf s m := by
  have hdropped : ticketOf (updTicket n (Ticket.dropPosition p) s) n = some (Ticket.dropPosition p k) :=
    (ticketOf_updTicket_self (by exact fun _ => rfl)).trans (congrArg (Option.map _) hk)
  have hother : ∀ m, m ≠ n → ticketOf (updTicket n (Ticket.dropPosition p) s) m = ticketOf s m :=
    fun m hm => ticketOf_updTicket_ne (by exact fun _ => rfl) hm
  by_cases hlive : without p k.live = 0#8
  · have heq : removeFromTicket n p s = { cancelFrames (ofTicket n)
          (updTicket n (Ticket.dropPosition p) s) with
        tickets := (updTicket n (Ticket.dropPosition p) s).tickets.filter fun t => t.number != n } := by
      unfold removeFromTicket
      dsimp only
      rw [hdropped]
      dsimp only
      rw [if_pos (by exact hlive), freeTicket_of hdropped]
      exact checkFree_of_open (by exact ht) hc
    obtain ⟨hnone, hne⟩ := ticketOf_of_filter (s := updTicket n (Ticket.dropPosition p) s)
      (t := removeFromTicket n p s) (n := n) (by rw [heq])
    refine ⟨?_, fun h => absurd hlive h, fun _ => ⟨hnone, ?_⟩, fun m hm => (hne m hm).trans (hother m hm)⟩
    · rw [heq]
      rfl
    · rw [heq]
      rfl
  · have heq : removeFromTicket n p s = updTicket n (Ticket.dropPosition p) s := by
      unfold removeFromTicket
      dsimp only
      rw [hdropped]
      exact if_neg hlive
    rw [heq]
    exact ⟨rfl, fun _ => ⟨rfl, hdropped⟩, fun h => absurd h hlive, hother⟩

/-- A withdrawal begins with its WITHDRAW (R51, R74). -/
theorem beginWithdrawal_of {s : State} {slot line n p : Nat} {k : Ticket} {a : Awardee} {tb : Tab}
    (l : TabLine) (ht : tabIn s slot = some tb) (hk : ticketOf s n = some k) (ha : k.awardee = some a)
    (hcan : CanSend s 1) : beginWithdrawal slot line n p l s = { putTab slot
        (some (Tab.withLine line { l with state := .withdrawing } tb)) s with
      tickets := (updTicket n (fun t => { t with withdrawals := t.withdrawals ++ [⟨p, 1, none⟩] }) s).tickets
      line := { s.line with
        waiting := joinQueue (newItem s a.station (.withdraw ⟨k.number, k.gen⟩ p) true) s.line.waiting } } := by
  have hfound : ticketOf (updTicket n (fun t => { t with withdrawals := t.withdrawals ++ [⟨p, 1, none⟩] })
      (putTab slot (some (Tab.withLine line { l with state := .withdrawing } tb)) s)) n
        = some { k with withdrawals := k.withdrawals ++ [⟨p, 1, none⟩] } := by
    refine (ticketOf_updTicket_self (by exact fun _ => rfl)).trans ?_
    rw [putTab_frame]
    exact congrArg (Option.map _) hk
  unfold beginWithdrawal
  rw [updTab_of ht]
  dsimp only
  show sendWithdraw n p (updTicket n _ (putTab slot (some (Tab.withLine line
    { l with state := .withdrawing } tb)) s)) = _
  unfold sendWithdraw
  rw [hfound]
  dsimp only
  rw [ha]
  dsimp only
  rw [putTab_frame, offerFrame_of_free (by exact hcan.1) (by exact hcan.2)]
  rfl

/-! ## WASTE-LINE (R52) -/

theorem wasteLineResult_eq {s : State} {slot code line : Nat} {r : SlotRecord} {tb : Tab}
    (h : TillSlot s slot 1 r) (ht : tabOf s code = some tb) : wasteLineResult slot code line s
      = lineRequest tb line fun l =>
          need (l.state = .fired ∨ l.state = .ready) .state <|
          taken [] (checkFree (codeSlot code) (countWaste slot
            (updTab (codeSlot code)
              (Tab.uncount s.join.figures line { l with state := .waste }) s))) := by
  unfold wasteLineResult
  rw [tabRequest_of h ht]

/-- The wasted line leaves the bill of a tab that stays. -/
theorem wasteLineResult_of {s : State} {slot code line : Nat} {r : SlotRecord} {tb : Tab} {l : TabLine}
    (h : TillSlot s slot 1 r) (ht : tabOf s code = some tb)
    (hu : ∀ sh ∈ tb.shares, sh.state = .opened ∨ sh.state = .empty) (hc : tb.state ≠ .closed)
    (hl : tb.lines[line]? = some l) (hs : l.state = .fired ∨ l.state = .ready) :
    wasteLineResult slot code line s = taken [] (withTabAndSlot (codeSlot code)
      (Tab.uncount s.join.figures line { l with state := .waste } tb) slot (oneWasteMore r) s) := by
  obtain ⟨-, htab, -⟩ := tabIn_of_tabOf ht
  have hslot : ∀ tb', slotOf (putTab (codeSlot code) tb' s) slot = some r := fun tb' => by
    rw [putTab_frame]
    exact h.2.2.1
  rw [wasteLineResult_eq h ht, lineRequest_of hu hc hl, need_of hs, updTab_of htab,
    countWaste_of (hslot _)]
  refine congrArg (taken []) ?_
  rw [checkFree_of_open (by exact tabIn_putTab_self _ (lt_of_tabIn htab))
    (by rw [uncount_state]; exact hc), putTab_frame]
  rfl

/-- The checks that VOID-LINE and WASTE-LINE share, the first that fails (R49, R52). -/
theorem lineRequest_refused {tb : Tab} {line : Nat} {why : ReplyCode}
    (h : (∃ sh ∈ tb.shares, sh.state ≠ .opened ∧ sh.state ≠ .empty) ∧ why = .locked
      ∨ (∀ sh ∈ tb.shares, sh.state = .opened ∨ sh.state = .empty)
        ∧ (tb.state = .closed ∧ why = .state
          ∨ tb.state ≠ .closed ∧ tb.lines.length ≤ line ∧ why = .field))
    (k : TabLine → RequestResult) : lineRequest tb line k = .error why := by
  unfold lineRequest
  rcases h with ⟨⟨sh, hsh, h1, h2⟩, rfl⟩ | ⟨hu, ⟨hc, rfl⟩ | ⟨hc, hlen, rfl⟩⟩
  · exact need_of_not (fun hf => ((locked_eq_false_iff tb).1 hf sh hsh).elim h1 h2) _ _
  · rw [need_of ((locked_eq_false_iff tb).2 hu), need_of_not (not_not.2 hc)]
  · rw [need_of ((locked_eq_false_iff tb).2 hu), need_of hc, List.getElem?_eq_none hlen]

/-- Settles O29. -/
theorem voidAndWasteByLineState : Obligations.VoidAndWasteByLineState := by
  refine ⟨fun s slot code line r tb l h ht hu hc hl => ?_, fun s slot code line r tb c why h ht hcmd hwhy => ?_,
    fun s slot code line r tb l h ht hu hc hl => ⟨fun hs => ?_, fun h1 h2 => ?_⟩⟩
  · obtain ⟨-, htab, -⟩ := tabIn_of_tabOf ht
    have hlt := slotOf_lt h.2.2.1
    have hreach := voidLineResult_of h ht hu hc hl
    refine ⟨fun hs => ?_, fun n p k hs hp hlevel hk hstate hks => ?_,
      fun n p k a hs hp hlevel hk hstate ha hcan => ?_, fun n p k why hs hp hk hwhy => ?_, fun hs => ?_,
      fun hs => ?_⟩
    · have hres : voidLineResult slot code line s = taken [] (withTabAndSlot (codeSlot code)
          (Tab.uncount s.join.figures line { l with state := .void, place := none } tb) slot
          (oneVoidMore r) s) := by
        rw [hreach, voidLineOf, hs]
        dsimp only
        rw [need_of h.2.2.2, voidLineIn_of htab, putTab_frame, countVoid_of (by exact h.2.2.1)]
        rfl
      obtain ⟨h1, h2, h3, h4⟩ := tab_and_slot_changed (u := withTabAndSlot _ _ _ _ s)
        htab h.2.2.1 rfl rfl
      exact ⟨_, request_ok rfl h.1 hres, rfl, h1, h2, h3, h4, replied_replying _ _ _ _⟩
    · obtain ⟨hframe, hlive, hdead, hother⟩ := removeFromTicket_of (p := p)
        (s := putTab (codeSlot code)
          (some (Tab.uncount s.join.figures line { l with state := .void, place := none } tb)) s)
        (by rw [putTab_frame]; exact hk)
        (by rw [hks]; exact tabIn_putTab_self _ (lt_of_tabIn htab))
        (by rw [uncount_state]; exact hc)
      rw [putTab_frame] at hframe hlive hdead hother
      have hres : voidLineResult slot code line s = taken [] { withTabAndSlot (codeSlot code)
            (Tab.uncount s.join.figures line { l with state := .void, place := none } tb) slot
            (oneVoidMore r) s with
          tickets := (removeFromTicket n p { s with tabs := (putTab (codeSlot code) (some (Tab.uncount
            s.join.figures line { l with state := .void, place := none } tb)) s).tabs }).tickets
          line := (removeFromTicket n p { s with tabs := (putTab (codeSlot code) (some (Tab.uncount
            s.join.figures line { l with state := .void, place := none } tb)) s).tabs }).line } := by
        rw [hreach, voidLineOf_sent hs hp, voidSent_unplaced hk hstate hlevel, voidLineIn_of htab,
          putTab_frame, hframe, countVoid_of (by exact h.2.2.1)]
        rfl
      obtain ⟨h1, h2, h3, h4⟩ := tab_and_slot_changed (u := withTabAndSlot _ _ _ _ s)
        htab h.2.2.1 rfl rfl
      exact ⟨_, request_ok rfl h.1 hres, rfl, h1, h2, h3, hlive, hdead, hother,
        replied_replying _ _ _ _⟩
    · have hres : voidLineResult slot code line s = accepted { withTabAndSlot (codeSlot code)
            (Tab.withLine line { l with state := .withdrawing } tb) slot (oneVoidMore r) s with
          tickets := (updTicket n
            (fun t => { t with withdrawals := t.withdrawals ++ [⟨p, 1, none⟩] }) s).tickets
          line := { s.line with
            waiting := joinQueue (newItem s a.station (.withdraw ⟨k.number, k.gen⟩ p) true)
              s.line.waiting } } := by
        rw [hreach, voidLineOf_sent hs hp, voidSent_placed hk hstate, need_of hlevel,
          needFrames_of hcan, beginWithdrawal_of l htab hk ha hcan, putTab_frame,
          countVoid_of (by exact h.2.2.1)]
        rfl
      obtain ⟨h1, h2, h3, -⟩ := tab_and_slot_changed (u := withTabAndSlot _ _ _ _ s)
        htab h.2.2.1 rfl rfl
      refine ⟨_, request_ok rfl h.1 hres, rfl, h1, h2, h3, ?_, fun m hm => ?_, rfl,
        replied_replying _ _ _ _⟩
      · exact (ticketOf_updTicket_self (s := s) (by exact fun _ => rfl)).trans (congrArg (Option.map _) hk)
      · exact ticketOf_updTicket_ne (s := s) (by exact fun _ => rfl) hm
    · refine request_refused rfl h.1 (hreach.trans ((voidLineOf_sent hs hp _ _ _ _ _).trans ?_))
      rcases hwhy with ⟨hst, rfl⟩ | ⟨hf, hr, hlevel, rfl⟩ | ⟨hst, hlevel, hj, rfl⟩ | ⟨hst, hlevel, hj, hfree, rfl⟩
      · exact voidSent_cooked hk hst _ _ _ _ _ _
      · exact voidSent_level hk hf hr hlevel _ _ _ _ _
      · rw [voidSent_placed hk hst, need_of hlevel, needFrames_offline hj]
      · rw [voidSent_placed hk hst, need_of hlevel, needFrames_lineBusy hj (by omega)]
    · refine request_refused rfl h.1 (hreach.trans ?_)
      rw [voidLineOf, hs]
    · refine request_refused rfl h.1 (hreach.trans ?_)
      rcases hs with hs | hs | hs | hs | hs <;> rw [voidLineOf, hs]
  · rcases hcmd with rfl | ⟨rfl, hlevel⟩
    · exact request_refused rfl h.1 ((voidLineResult_eq h ht).trans (lineRequest_refused hwhy _))
    · exact request_refused rfl h.1
        ((wasteLineResult_eq ⟨h.1, h.2.1, h.2.2.1, hlevel⟩ ht).trans (lineRequest_refused hwhy _))
  · obtain ⟨-, htab, -⟩ := tabIn_of_tabOf ht
    obtain ⟨h1, h2, h3, h4⟩ := tab_and_slot_changed (u := withTabAndSlot _ _ _ _ s)
      htab h.2.2.1 rfl rfl
    exact ⟨_, request_ok rfl h.1 (wasteLineResult_of h ht hu hc hl hs), rfl, h1, h2, h3, h4,
      replied_replying _ _ _ _⟩
  · refine request_refused rfl h.1 ?_
    rw [wasteLineResult_eq h ht, lineRequest_of hu hc hl, need_of_not (fun h => h.elim h1 h2)]

end Sys2Proof.Machine
end

section
-- One proof at a time: side by side, their threads' stacks outgrow the check's memory.
set_option Elab.async false
/-! Split arithmetic: largest remainder, share amounts, the payment step. -/

namespace Sys2Proof.Machine

/-! ## Ranks (R129) -/

/-- Position `j` ranks before position `i`: its value is larger, or the same with a lower index. -/
def ranksBefore (values : List Nat) (j i : Nat) : Bool :=
  values.getD i 0 < values.getD j 0 || (values.getD j 0 == values.getD i 0 && decide (j < i))

theorem rankOf_eq (values : List Nat) (i : Nat) :
    rankOf values i = ((List.range values.length).filter fun j => ranksBefore values j i).length := by
  have hzip : values.zipIdx = (List.range values.length).map fun j => (values.getD j 0, j) := by
    refine List.ext_getElem (by simp) fun n h1 h2 => ?_
    have hn : n < values.length := by simpa using h1
    simp [List.getElem_zipIdx, hn]
  unfold rankOf
  dsimp only
  rw [hzip, List.filter_map, List.length_map]
  rfl

theorem ranksBefore_trans {values : List Nat} {i j k : Nat} (h : ranksBefore values i j = true)
    (g : ranksBefore values j k = true) : ranksBefore values i k = true := by
  simp only [ranksBefore, Bool.or_eq_true, Bool.and_eq_true, decide_eq_true_eq, beq_iff_eq] at *
  omega

theorem ranksBefore_irrefl (values : List Nat) (i : Nat) : ranksBefore values i i = false := by
  simp [ranksBefore]

theorem ranksBefore_total (values : List Nat) {i j : Nat} (h : i ≠ j) :
    ranksBefore values i j = true ∨ ranksBefore values j i = true := by
  simp only [ranksBefore, Bool.or_eq_true, Bool.and_eq_true, decide_eq_true_eq, beq_iff_eq]
  omega

theorem rankOf_eq_card (values : List Nat) (i : Nat) :
    rankOf values i = ((Finset.range values.length).filter fun j => ranksBefore values j i = true).card := by
  have hlist : ((Finset.range values.length).filter fun j => ranksBefore values j i = true).card
      = ((List.range values.length).filter fun j => decide (ranksBefore values j i = true)).length := rfl
  rw [rankOf_eq, hlist]
  simp only [Bool.decide_eq_true]

/-- Who ranks before another has a lower rank. -/
theorem rankOf_lt {values : List Nat} {i j : Nat} (hi : i < values.length)
    (h : ranksBefore values i j = true) : rankOf values i < rankOf values j := by
  rw [rankOf_eq_card, rankOf_eq_card]
  refine Finset.card_lt_card (Finset.ssubset_iff_of_subset (fun k hk => ?_) |>.2 ⟨i, ?_, ?_⟩)
  · obtain ⟨hk1, hk2⟩ := Finset.mem_filter.1 hk
    exact Finset.mem_filter.2 ⟨hk1, ranksBefore_trans hk2 h⟩
  · exact Finset.mem_filter.2 ⟨Finset.mem_range.2 hi, h⟩
  · simp [ranksBefore_irrefl]

theorem rankOf_lt_length {values : List Nat} {i : Nat} (hi : i < values.length) :
    rankOf values i < values.length := by
  rw [rankOf_eq_card]
  calc _ < (Finset.range values.length).card := by
        refine Finset.card_lt_card (Finset.filter_ssubset.2 ⟨i, Finset.mem_range.2 hi, ?_⟩)
        simp [ranksBefore_irrefl]
    _ = values.length := Finset.card_range _

/-- Each rank below the count is taken once. -/
theorem card_rankOf_lt {values : List Nat} {r : Nat} (hr : r ≤ values.length) :
    ((Finset.range values.length).filter fun i => rankOf values i < r).card = r := by
  have himage : (Finset.range values.length).image (rankOf values) = Finset.range values.length := by
    refine Finset.eq_of_subset_of_card_le (fun k hk => ?_) ?_
    · obtain ⟨i, hi, rfl⟩ := Finset.mem_image.1 hk
      exact Finset.mem_range.2 (rankOf_lt_length (Finset.mem_range.1 hi))
    · rw [Finset.card_image_of_injOn]
      intro i hi j hj hij
      have hi := Finset.mem_range.1 (Finset.mem_coe.1 hi)
      have hj := Finset.mem_range.1 (Finset.mem_coe.1 hj)
      by_contra hne
      rcases ranksBefore_total values hne with h | h
      · exact absurd hij (rankOf_lt hi h).ne
      · exact absurd hij (rankOf_lt hj h).ne'
  have hinj : Set.InjOn (rankOf values) (Finset.range values.length) := by
    refine Finset.injOn_of_card_image_eq ?_
    rw [himage]
  have hfiltered : ((Finset.range values.length).filter fun i => rankOf values i < r).image (rankOf values)
      = Finset.range r := by
    ext k
    simp only [Finset.mem_image, Finset.mem_filter, Finset.mem_range]
    constructor
    · rintro ⟨i, ⟨-, hlt⟩, rfl⟩
      exact hlt
    · intro hk
      have hk' : k ∈ (Finset.range values.length).image (rankOf values) := by
        rw [himage]
        exact Finset.mem_range.2 (hk.trans_le hr)
      obtain ⟨i, hi, rfl⟩ := Finset.mem_image.1 hk'
      exact ⟨i, ⟨Finset.mem_range.1 hi, hk⟩, rfl⟩
  calc _ = (((Finset.range values.length).filter fun i => rankOf values i < r).image
        (rankOf values)).card :=
        (Finset.card_image_of_injOn (hinj.mono fun i hi => Finset.mem_of_mem_filter i hi)).symm
    _ = r := by rw [hfiltered, Finset.card_range]

/-! ## Largest remainder (R129) -/

/-- The remainders add up to what the floors leave, in whole weights. -/
theorem floors_and_values (amount total : Nat) (ws : List Nat) :
    (ws.map fun w => amount * w / total).sum * total + (ws.map fun w => amount * w % total).sum
      = amount * ws.sum := by
  induction ws with
  | nil => simp
  | cons w ws ih =>
    have hw := Nat.div_add_mod' (amount * w) total
    simp only [List.map_cons, List.sum_cons, Nat.add_mul, Nat.mul_add]
    omega

/-- Remainders below the total weight need at least as many shares as they make whole cents. -/
theorem sum_values_le {total : Nat} {values : List Nat} (h : ∀ v ∈ values, v < total) :
    values.sum ≤ (values.countP fun v => 0 < v) * total := by
  induction values with
  | nil => simp
  | cons v vs ih =>
    have hv := h v List.mem_cons_self
    have hvs := ih fun x hx => h x (List.mem_cons_of_mem v hx)
    rw [List.sum_cons, List.countP_cons, Nat.add_mul]
    by_cases hz : 0 < v
    · simp only [hz, decide_true, if_true, one_mul]
      omega
    · simp only [hz, decide_false, Bool.false_eq_true, if_false, zero_mul]
      omega

/-- The cents that the floors leave are fewer than the shares with a remainder, or as many. -/
theorem rest_le {amount : Nat} {ws : List Nat} (hW : 0 < ws.sum) :
    amount - (ws.map fun w => amount * w / ws.sum).sum
      ≤ (ws.map fun w => amount * w % ws.sum).countP fun v => 0 < v := by
  have hsum := floors_and_values amount ws.sum ws
  have hle := sum_values_le (total := ws.sum) (values := ws.map fun w => amount * w % ws.sum)
    (fun v hv => by
      obtain ⟨w, -, rfl⟩ := List.mem_map.1 hv
      exact Nat.mod_lt _ hW)
  have hmul : (amount - (ws.map fun w => amount * w / ws.sum).sum) * ws.sum
      ≤ ((ws.map fun w => amount * w % ws.sum).countP fun v => 0 < v) * ws.sum := by
    rw [Nat.sub_mul]
    omega
  exact Nat.le_of_mul_le_mul_right hmul hW

/-- A share without a remainder ranks behind all that have one. -/
theorem le_rankOf_of_zero {values : List Nat} {i : Nat} (h : values.getD i 0 = 0) :
    (values.countP fun v => 0 < v) ≤ rankOf values i := by
  have hfst : values.countP (fun v => 0 < v) = values.zipIdx.countP fun p => 0 < p.1 := by
    conv_lhs => rw [← List.zipIdx_map_fst 0 values]
    rw [List.countP_map]
    rfl
  unfold rankOf
  dsimp only
  rw [hfst, h, ← List.countP_eq_length_filter]
  exact List.countP_mono_left fun p _ hp => by
    simp only [Bool.or_eq_true]
    exact .inl hp

theorem length_divide (amount : Nat) (ws : List Nat) : (divide amount ws).length = ws.length := by
  simp [divide]

theorem getElem?_divide {amount : Nat} {ws : List Nat} {i w : Nat} (h : ws[i]? = some w) :
    (divide amount ws)[i]? = some (amount * w / ws.sum
      + if rankOf (ws.map fun v => amount * v % ws.sum) i
          < amount - (ws.map fun v => amount * v / ws.sum).sum then 1 else 0) := by
  unfold divide
  dsimp only
  rw [List.getElem?_map, List.getElem?_zipIdx, List.getElem?_map, h]
  simp only [Option.map_some, Nat.zero_add]
  split <;> rfl

/-- Values each raised by one at some positions add up to their sum and the number of those positions. -/
theorem sum_raised (xs : List Nat) (c : Nat → Prop) [DecidablePred c] :
    ((xs.zipIdx).map fun p => if c p.2 then p.1 + 1 else p.1).sum
      = xs.sum + ((Finset.range xs.length).filter c).card := by
  have hzip : xs.zipIdx = (List.range xs.length).map fun j => (xs.getD j 0, j) := by
    refine List.ext_getElem (by simp) fun n h1 h2 => ?_
    have hn : n < xs.length := by simpa using h1
    simp [List.getElem_zipIdx, hn]
  have hxs : xs.sum = ((List.range xs.length).map fun j => xs.getD j 0).sum := by
    congr 1
    refine List.ext_getElem (by simp) fun n h1 h2 => ?_
    simp [h1]
  have hraised : ((List.range xs.length).map fun j => if c j then xs.getD j 0 + 1 else xs.getD j 0).sum
      = ∑ j ∈ Finset.range xs.length, if c j then xs.getD j 0 + 1 else xs.getD j 0 := rfl
  have hplain : ((List.range xs.length).map fun j => xs.getD j 0).sum
      = ∑ j ∈ Finset.range xs.length, xs.getD j 0 := rfl
  rw [hzip, List.map_map, hxs]
  show ((List.range xs.length).map fun j => if c j then xs.getD j 0 + 1 else xs.getD j 0).sum = _
  rw [hraised, hplain, Finset.card_filter, ← Finset.sum_add_distrib]
  refine Finset.sum_congr rfl fun j _ => ?_
  split <;> rfl

/-- The parts sum to the whole (R129). -/
theorem sum_divide {amount : Nat} {ws : List Nat} (hW : 0 < ws.sum) : (divide amount ws).sum = amount := by
  have hfloors : (ws.map fun w => amount * w / ws.sum).sum ≤ amount := by
    have := floors_and_values amount ws.sum ws
    exact Nat.le_of_mul_le_mul_right (by omega) hW
  have hrest : amount - (ws.map fun w => amount * w / ws.sum).sum
      ≤ (ws.map fun w => amount * w % ws.sum).length :=
    (rest_le hW).trans List.countP_le_length
  unfold divide
  dsimp only
  rw [sum_raised _ fun i => rankOf (ws.map fun w => amount * w % ws.sum) i
    < amount - (ws.map fun w => amount * w / ws.sum).sum]
  have hlen : (ws.map fun w => amount * w / ws.sum).length
      = (ws.map fun w => amount * w % ws.sum).length := by simp
  rw [hlen, card_rankOf_lt hrest]
  omega

/-- The rank of a share, counted over the weights themselves. -/
theorem rankOf_weights {amount total : Nat} {ws : List Nat} {i w : Nat} (h : ws[i]? = some w) :
    rankOf (ws.map fun v => amount * v % total) i
      = ((ws.zipIdx).filter fun q => amount * w % total < amount * q.1 % total
          || (amount * q.1 % total == amount * w % total && q.2 < i)).length := by
  have hmine : (ws.map fun v => amount * v % total).getD i 0 = amount * w % total := by
    simp [List.getD_eq_getElem?_getD, h]
  unfold rankOf
  dsimp only
  rw [hmine, List.zipIdx_map, List.filter_map, List.length_map]
  rfl

theorem divide_zero {amount : Nat} {ws : List Nat} (hW : 0 < ws.sum) {i : Nat} (h : ws[i]? = some 0) :
    (divide amount ws)[i]? = some 0 := by
  have hmine : (ws.map fun v => amount * v % ws.sum).getD i 0 = 0 := by
    simp [List.getD_eq_getElem?_getD, h]
  rw [getElem?_divide h, if_neg (Nat.not_lt.2 ((rest_le hW).trans (le_rankOf_of_zero hmine)))]
  simp

/-! ## A computed tab (R123, R133) -/

theorem compute_of_unlocked {t : Tab} (h : ∀ sh ∈ t.shares, sh.state = .opened ∨ sh.state = .empty)
    (f : Figures) : Tab.compute f t = { t with
      shares := (Tab.compute f t).shares, total := ((Tab.compute f t).shares.map fun sh => sh.amounts.total).sum }
      ∧ ∀ i, (Tab.compute f t).shares[i]?
        = (t.shares[i]?).map (computeShare f t.lines t.shares.length i) := by
  have hnot : ¬Tab.locked t = true := by
    rw [Bool.not_eq_true]
    exact (locked_eq_false_iff t).2 h
  unfold Tab.compute
  rw [if_neg hnot]
  refine ⟨rfl, fun i => ?_⟩
  dsimp only
  rw [List.getElem?_map, List.getElem?_zipIdx, Option.map_map]
  cases t.shares[i]? with
  | none => rfl
  | some sh => simp

theorem length_compute (f : Figures) (t : Tab) : (Tab.compute f t).shares.length = t.shares.length := by
  unfold Tab.compute
  split
  · rfl
  · simp

/-! ## The amounts of a share (R131 to R133) -/

/-- A discount of at most half takes no more than the goods (R131). -/
theorem discountOf_le (sum : Nat) {p : Nat} (h : p ≤ 50) : discountOf sum p ≤ sum := by
  have hmul : sum * p ≤ sum * 50 := Nat.mul_le_mul_left sum h
  unfold discountOf
  omega

/-- The goods of a tax group, from the counted lines (R131). -/
theorem groupSum_eq (lines : List TabLine) (count i g : Nat) : groupSum lines count i g
    = (((lines.filter TabLine.counted).filter fun l => l.taxGroup == g).map fun l =>
        (divide (l.price * l.qty) (Alloc.weights count l.alloc)).getD i 0).sum := by
  unfold groupSum
  rw [List.filter_filter]
  simp only [Bool.and_comm]
  rfl

theorem net_add_discount (f : Figures) (lines : List TabLine) (count i : Nat) {p : Nat} (h : p ≤ 50) :
    (amountsOf f lines count i p).net + (amountsOf f lines count i p).discount
      = (amountsOf f lines count i p).goods := by
  have h0 := discountOf_le (groupSum lines count i 0) h
  have h1 := discountOf_le (groupSum lines count i 1) h
  have h2 := discountOf_le (groupSum lines count i 2) h
  have h3 := discountOf_le (groupSum lines count i 3) h
  unfold amountsOf
  dsimp only
  omega

theorem computeShare_state (f : Figures) (lines : List TabLine) (count i : Nat) (sh : Share) :
    ((computeShare f lines count i sh).state = .empty
        ↔ (computeShare f lines count i sh).amounts.total = 0)
      ∧ ((computeShare f lines count i sh).state = .opened
        ↔ (computeShare f lines count i sh).amounts.total ≠ 0) := by
  unfold computeShare
  dsimp only
  split
  · next h => simp [h]
  · next h => simp [h]

/-- Settles O32. -/
theorem sharesDivideAndAddUp : Obligations.SharesDivideAndAddUp := by
  refine ⟨fun amount ws hW => ⟨length_divide amount ws, sum_divide hW, fun i w hw => ⟨?_, ?_⟩⟩,
    fun f lines count i p hp => ?_, fun f tb hu => ?_, fun f tb hl => ?_⟩
  · rw [getElem?_divide hw, rankOf_weights hw]
  · rintro rfl
    exact divide_zero hW hw
  · simp only [← groupSum_eq]
    exact ⟨rfl, rfl, net_add_discount f lines count i hp, rfl, rfl, rfl, rfl, rfl, rfl⟩
  · obtain ⟨heq, hget⟩ := compute_of_unlocked hu f
    refine ⟨?_, length_compute f tb, fun i sh hsh => ?_⟩
    · conv_lhs => rw [heq]
    · rw [hget] at hsh
      cases hi : tb.shares[i]? with
      | none => simp [hi] at hsh
      | some x =>
        rw [hi, Option.map_some, Option.some.injEq] at hsh
        subst hsh
        exact ⟨rfl, computeShare_state f _ _ i x⟩
  · obtain ⟨sh, hsh, h1, h2⟩ := hl
    refine compute_locked f tb ?_
    by_contra hnot
    exact ((locked_eq_false_iff tb).1 (by simpa using hnot) sh hsh).elim h1 h2

/-! ## The payment step (R134) -/

theorem ofCode_cash : Tender.ofCode 0 = some .cash := rfl

theorem ofCode_card : Tender.ofCode 1 = some .card := rfl

theorem ofCode_other {n : Nat} (h : 2 ≤ n) : Tender.ofCode n = none := by
  unfold Tender.ofCode
  exact List.getElem?_eq_none h

/-- The table of R134: the settled amount and the adjustment of a cash total, by its last digit. -/
def CashRounding (total settled : Nat) (adj : Int) : Prop :=
  total % 10 = 0 ∧ settled = total ∧ adj = 0
    ∨ total % 10 = 1 ∧ settled = total - 1 ∧ adj = -1
    ∨ total % 10 = 2 ∧ settled = total - 2 ∧ adj = -2
    ∨ total % 10 = 3 ∧ settled = total + 2 ∧ adj = 2
    ∨ total % 10 = 4 ∧ settled = total + 1 ∧ adj = 1
    ∨ total % 10 = 5 ∧ settled = total ∧ adj = 0
    ∨ total % 10 = 6 ∧ settled = total - 1 ∧ adj = -1
    ∨ total % 10 = 7 ∧ settled = total - 2 ∧ adj = -2
    ∨ total % 10 = 8 ∧ settled = total + 2 ∧ adj = 2
    ∨ total % 10 = 9 ∧ settled = total + 1 ∧ adj = 1

theorem roundCash_eq {total settled : Nat} {adj : Int} (h : CashRounding total settled adj) :
    roundCash total = (settled, adj) := by
  unfold roundCash
  rcases h with ⟨h, rfl, rfl⟩ | ⟨h, rfl, rfl⟩ | ⟨h, rfl, rfl⟩ | ⟨h, rfl, rfl⟩ | ⟨h, rfl, rfl⟩
    | ⟨h, rfl, rfl⟩ | ⟨h, rfl, rfl⟩ | ⟨h, rfl, rfl⟩ | ⟨h, rfl, rfl⟩ | ⟨h, rfl, rfl⟩ <;> simp only [h]

theorem CashRounding.exists (total : Nat) : ∃ settled adj, CashRounding total settled adj := by
  have hdigit : total % 10 = 0 ∨ total % 10 = 1 ∨ total % 10 = 2 ∨ total % 10 = 3 ∨ total % 10 = 4
      ∨ total % 10 = 5 ∨ total % 10 = 6 ∨ total % 10 = 7 ∨ total % 10 = 8 ∨ total % 10 = 9 := by omega
  unfold CashRounding
  rcases hdigit with h | h | h | h | h | h | h | h | h | h <;> simp [h]

/-- A rounded amount is a multiple of 5 that differs from the total by the adjustment, at most 2. -/
theorem CashRounding.bounds {total settled : Nat} {adj : Int} (h : CashRounding total settled adj) :
    adj = (settled : Int) - total ∧ -2 ≤ adj ∧ adj ≤ 2 ∧ settled % 5 = 0 := by
  unfold CashRounding at h
  omega

theorem paymentStep_card (total tendered : Nat) :
    paymentStep total 1 tendered = .ok (.card, total, 0, 0) := rfl

theorem paymentStep_cash (total tendered : Nat) : paymentStep total 0 tendered
    = if tendered < (roundCash total).1 then .error .short
      else .ok (.cash, (roundCash total).1, (roundCash total).2, tendered - (roundCash total).1) := rfl

theorem paymentStep_other {tender : Nat} (h : 2 ≤ tender) (total tendered : Nat) :
    paymentStep total tender tendered = .error .field := by
  unfold paymentStep
  rw [ofCode_other h]

/-- Settles O33. -/
theorem paymentStepSettles : Obligations.PaymentStepSettles := by
  refine ⟨fun total tendered => ⟨paymentStep_card _ _, fun settled adj h => ?_,
    fun tender h => paymentStep_other h _ _⟩, fun total tender tendered settled change k adj h => ?_⟩
  · rw [paymentStep_cash, roundCash_eq h]
  · match tender, h with
    | 0, h =>
      rw [paymentStep_cash] at h
      split at h
      · cases h
      · next hle =>
        obtain ⟨amount, change', hround⟩ := CashRounding.exists total
        obtain ⟨hadj, h1, h2, h5⟩ := hround.bounds
        rw [roundCash_eq hround] at h hle
        simp only [Except.ok.injEq, Prod.mk.injEq] at h
        obtain ⟨rfl, rfl, rfl, rfl⟩ := h
        exact ⟨hadj, h1, h2, nofun, fun _ => ⟨h5, by omega⟩⟩
    | 1, h =>
      rw [paymentStep_card] at h
      simp only [Except.ok.injEq, Prod.mk.injEq] at h
      obtain ⟨rfl, rfl, rfl, rfl⟩ := h
      exact ⟨by omega, by decide, by decide, fun _ => rfl, nofun⟩
    | n + 2, h =>
      rw [paymentStep_other (by omega)] at h
      cases h

/-! ## SPLIT, ASSIGN and DISCOUNT (R125 to R127) -/

theorem splitRequest_of {s : State} {slot code : Nat} {r : SlotRecord} {tb : Tab} (h : TillSlot s slot 2 r)
    (ht : tabOf s code = some tb) (hu : ∀ sh ∈ tb.shares, sh.state = .opened ∨ sh.state = .empty)
    (hc : tb.state ≠ .closed) (k : Tab → RequestResult) : splitRequest s slot code k = k tb := by
  unfold splitRequest
  rw [tabRequest_of h ht, need_of ((locked_eq_false_iff tb).2 hu), need_of hc]

/-- The shares of a split tab: none of them locks it, and no discount is left (R125). -/
theorem resplit_shares {tb : Tab} (hu : ∀ sh ∈ tb.shares, sh.state = .opened ∨ sh.state = .empty)
    (n : Nat) : (Tab.resplit n tb).shares.length = n
      ∧ ∀ sh ∈ (Tab.resplit n tb).shares,
        sh.discount = 0 ∧ (sh.state = .opened ∨ sh.state = .empty) := by
  refine ⟨by simp [Tab.resplit], fun sh hsh => ?_⟩
  simp only [Tab.resplit, List.map_map, List.mem_map, Function.comp_apply] at hsh
  obtain ⟨i, -, rfl⟩ := hsh
  refine ⟨rfl, ?_⟩
  rw [List.getD_eq_getElem?_getD]
  cases hi : tb.shares[i]? with
  | none => exact .inr rfl
  | some x => exact hu x (List.mem_of_getElem? hi)

/-- An allocation that ASSIGN stores (R126). -/
theorem assignAlloc_of {count kind share : Nat} {weights : List Nat} {a : Alloc}
    (h : kind = 0 ∧ a = .allEqual ∨ kind = 1 ∧ share < count ∧ a = .one share
      ∨ kind = 2 ∧ (∃ i, i < 8 ∧ i < count ∧ 0 < weights.getD i 0)
        ∧ a = .weighted ((List.range 8).map fun i => if i < count then min (weights.getD i 0) 9 else 0)) :
    assignAlloc count kind share weights = some a := by
  rcases h with ⟨rfl, rfl⟩ | ⟨rfl, hlt, rfl⟩ | ⟨rfl, ⟨i, h8, hi, hw⟩, rfl⟩
  · rfl
  · exact if_pos hlt
  · refine if_pos (List.any_eq_true.2 ⟨min (weights.getD i 0) 9, ?_, by simpa using hw⟩)
    exact List.mem_map.2 ⟨i, List.mem_range.2 h8, if_pos hi⟩

theorem counted_of {l : TabLine} (h1 : l.state ≠ .void) (h2 : l.state ≠ .waste) :
    TabLine.counted l = true := by
  simp [TabLine.counted, h1, h2]

theorem splitResult_of {s : State} {slot code count : Nat} {r : SlotRecord} {tb : Tab}
    (h : TillSlot s slot 2 r) (ht : tabOf s code = some tb)
    (hu : ∀ sh ∈ tb.shares, sh.state = .opened ∨ sh.state = .empty) (hc : tb.state ≠ .closed)
    (hcount : count ≠ 0) : splitResult slot code count s
      = taken (byte (min count 8)
          :: be32 (Tab.compute s.join.figures (Tab.resplit (min count 8) tb)).total)
        (putTab (codeSlot code)
          (some (Tab.compute s.join.figures (Tab.resplit (min count 8) tb))) s) := by
  unfold splitResult
  rw [splitRequest_of h ht hu hc, need_of hcount]
  rfl

/-- The share of a computed tab at an index. -/
theorem computed_share {tb : Tab} (hu : ∀ sh ∈ tb.shares, sh.state = .opened ∨ sh.state = .empty)
    {f : Figures} {i : Nat} {sh : Share} (h : (Tab.compute f tb).shares[i]? = some sh) :
    ∃ x, tb.shares[i]? = some x ∧ sh = computeShare f tb.lines tb.shares.length i x := by
  rw [(compute_of_unlocked hu f).2] at h
  cases hi : tb.shares[i]? with
  | none => simp [hi] at h
  | some x =>
    rw [hi, Option.map_some, Option.some.injEq] at h
    exact ⟨x, rfl, h.symm⟩

/-- Settles O31. -/
theorem splitAssignDiscount : Obligations.SplitAssignDiscount := by
  intro s slot code r tb h ht hu hc
  obtain ⟨-, htab, -⟩ := tabIn_of_tabOf ht
  refine ⟨fun count hcount => ?_, ?_, fun line kind share weights l a hl hv hw ha => ?_,
    fun share percent sh hsh => ?_⟩
  · obtain ⟨hlen, hshares⟩ := resplit_shares hu (min count 8)
    have hu' : ∀ sh ∈ (Tab.resplit (min count 8) tb).shares, sh.state = .opened ∨ sh.state = .empty :=
      fun sh hsh => (hshares sh hsh).2
    obtain ⟨heq, -⟩ := compute_of_unlocked hu' s.join.figures
    obtain ⟨hother, hself⟩ := putTab_changes htab
      (some (Tab.compute s.join.figures (Tab.resplit (min count 8) tb)))
    refine ⟨_, request_ok rfl h.1 (splitResult_of h ht hu hc hcount), ?_, hother, _, hself, ?_, ?_, ?_,
      fun i sh hsh => ?_, ?_, replied_replying _ _ _ _⟩
    · rw [putTab_frame]
    · rw [heq]
      rfl
    · rw [heq]
      rfl
    · rw [length_compute, hlen]
    · obtain ⟨x, hx, rfl⟩ := computed_share hu' hsh
      have hzero := (hshares x (List.mem_of_getElem? hx)).1
      rw [heq]
      unfold computeShare
      dsimp only
      rw [hzero, hlen]
      exact ⟨rfl, rfl, rfl⟩
    · conv_lhs => rw [heq]
  · refine request_refused rfl h.1 ?_
    unfold splitResult
    rw [splitRequest_of h ht hu hc, need_of_not (by simp)]
  · have hres : assignResult slot code line kind share weights s
        = taken (Alloc.bytes a
            ++ be32 (Tab.compute s.join.figures (Tab.withLine line { l with alloc := a } tb)).total)
          (putTab (codeSlot code)
            (some (Tab.compute s.join.figures (Tab.withLine line { l with alloc := a } tb))) s) := by
      unfold assignResult
      rw [splitRequest_of h ht hu hc, hl]
      dsimp only
      rw [need_of (counted_of hv hw), assignAlloc_of ha]
      rfl
    obtain ⟨hother, hself⟩ := putTab_changes htab
      (some (Tab.compute s.join.figures (Tab.withLine line { l with alloc := a } tb)))
    refine ⟨_, request_ok rfl h.1 hres, ?_, hother, _, hself, rfl, replied_replying _ _ _ _⟩
    rw [putTab_frame]
  · have hu' : ∀ x ∈ (Tab.withShare share { sh with discount := min percent 50 } tb).shares,
        x.state = .opened ∨ x.state = .empty := by
      intro x hx
      rcases List.mem_or_eq_of_mem_set hx with hx | rfl
      · exact hu x hx
      · exact hu sh (List.mem_of_getElem? hsh)
    have hlt := (List.getElem?_eq_some_iff.1 hsh).1
    have hget : (Tab.compute s.join.figures
          (Tab.withShare share { sh with discount := min percent 50 } tb)).shares[share]?
        = some (computeShare s.join.figures tb.lines tb.shares.length share
            { sh with discount := min percent 50 }) := by
      rw [(compute_of_unlocked hu' s.join.figures).2]
      simp [Tab.withShare, hlt]
    have hres : discountResult slot code share percent s
        = taken (byte (min percent 50)
            :: (be32 (computeShare s.join.figures tb.lines tb.shares.length share
                { sh with discount := min percent 50 }).amounts.total
              ++ be32 (Tab.compute s.join.figures
                (Tab.withShare share { sh with discount := min percent 50 } tb)).total))
          (putTab (codeSlot code) (some (Tab.compute s.join.figures
            (Tab.withShare share { sh with discount := min percent 50 } tb))) s) := by
      unfold discountResult
      rw [splitRequest_of h ht hu hc, hsh]
      dsimp only
      show taken (byte (min percent 50) :: (be32 (((Tab.compute s.join.figures (Tab.withShare share
        { sh with discount := min percent 50 } tb)).shares[share]?.map fun x => x.amounts.total).getD 0)
          ++ _)) _ = _
      rw [hget]
      rfl
    obtain ⟨hother, hself⟩ := putTab_changes htab (some (Tab.compute s.join.figures
      (Tab.withShare share { sh with discount := min percent 50 } tb)))
    refine ⟨_, request_ok rfl h.1 hres, ?_, hother, _, _, hself, rfl, hget, rfl,
      replied_replying _ _ _ _⟩
    rw [putTab_frame]

end Sys2Proof.Machine
end

section
-- One proof at a time: side by side, their threads' stacks outgrow the check's memory.
set_option Elab.async false
/-! Line reports (R47): what they make of a tab, one after the other. -/

namespace Sys2Proof.Machine

/-! ## One tab slot -/

theorem putTab_self {s : State} {slot : Nat} {tb : Tab} (h : tabIn s slot = some tb) :
    putTab slot (some tb) s = s := by
  have hlt := lt_of_tabIn h
  have htab : s.tabs[slot].tab = some tb := by simpa [tabIn, hlt] using h
  unfold putTab
  rw [Vector.getElem?_eq_getElem hlt]
  dsimp only
  have hslot : ({ s.tabs[slot] with tab := some tb } : TabSlot) = s.tabs[slot] := by rw [← htab]
  have hset : s.tabs.setIfInBounds slot { s.tabs[slot] with tab := some tb } = s.tabs := by
    rw [hslot]
    ext i hi
    by_cases he : slot = i
    · subst he
      simp
    · simp [he]
  rw [hset]

theorem putTab_putTab (slot : Nat) (a b : Option Tab) (s : State) :
    putTab slot b (putTab slot a s) = putTab slot b s := by
  by_cases hlt : slot < 32
  · unfold putTab
    simp [hlt]
  · unfold putTab
    simp [Nat.le_of_not_lt hlt]

theorem getElem?_withLine {tb : Tab} {i : Nat} {l l' : TabLine} (h : tb.lines[i]? = some l) (j : Nat) :
    (Tab.withLine i l' tb).lines[j]? = if j = i then some l' else tb.lines[j]? := by
  have hlt := (List.getElem?_eq_some_iff.1 h).1
  unfold Tab.withLine
  by_cases hj : j = i
  · subst hj
    simp [hlt]
  · have hj' : ¬i = j := fun he => hj he.symm
    simp [hj, hj']

/-! ## One report -/

/-- A tab after a report that makes no line VOID (Table 3-5). -/
def Tab.report (r : Report) (tb : Tab) (i : Nat) : Tab :=
  match tb.lines[i]?.bind (applyReport r) with
  | some l => Tab.withLine i l tb
  | none => tb

theorem report_of_none {tb : Tab} {i : Nat} {r : Report} (h : tb.lines[i]?.bind (applyReport r) = none) :
    Tab.report r tb i = tb := by
  unfold Tab.report
  rw [h]

theorem report_of_some {tb : Tab} {i : Nat} {r : Report} {l : TabLine}
    (h : tb.lines[i]?.bind (applyReport r) = some l) : Tab.report r tb i = Tab.withLine i l tb := by
  unfold Tab.report
  rw [h]

theorem lineReport_of_none {s : State} {slot i : Nat} {tb : Tab} {r : Report}
    (ht : tabIn s slot = some tb) (h : tb.lines[i]?.bind (applyReport r) = none) :
    lineReport slot i r s = s := by
  unfold lineReport
  rw [ht]
  dsimp only
  rw [h]

theorem lineReport_of_noTab {s : State} {slot : Nat} (ht : tabIn s slot = none) (i : Nat) (r : Report) :
    lineReport slot i r s = s := by
  unfold lineReport
  rw [ht]

theorem lineReport_of_some {s : State} {slot i : Nat} {tb : Tab} {r : Report} {l : TabLine}
    (ht : tabIn s slot = some tb) (h : tb.lines[i]?.bind (applyReport r) = some l)
    (hv : l.state ≠ .void) :
    lineReport slot i r s = checkFree slot (putTab slot (some (Tab.withLine i l tb)) s) := by
  unfold lineReport
  rw [ht]
  dsimp only
  rw [h]
  dsimp only
  rw [if_neg hv]
  rfl

theorem lineReport_void {s : State} {slot i : Nat} {tb : Tab} {r : Report} {l : TabLine}
    (ht : tabIn s slot = some tb) (h : tb.lines[i]?.bind (applyReport r) = some l)
    (hv : l.state = .void) : lineReport slot i r s
      = checkFree slot (putTab slot (some (Tab.uncount s.join.figures i l tb)) s) := by
  unfold lineReport
  rw [ht]
  dsimp only
  rw [h]
  dsimp only
  rw [if_pos hv]

/-! ## The state a report gives (Table 3-5) -/

/-- The state of a line that a report has been applied to. -/
def Report.target : Report → TabLineState
  | .sent .. | .withdrawFailed => .sent
  | .fired | .withdrawRefused => .fired
  | .ready => .ready
  | .collected | .counterServed => .served
  | .removed => .void

theorem applyReport_state {r : Report} {l l' : TabLine} (h : applyReport r l = some l') :
    l'.state = Report.target r := by
  unfold applyReport at h
  split at h
  case h_2 =>
    split at h
    · cases h
      rfl
    · cases h
  case h_14 => cases h
  all_goals
    cases h
    rfl

/-- A report is not applied twice. -/
theorem applyReport_of_target {r : Report} {l : TabLine} (h : l.state = Report.target r) :
    applyReport r l = none := by
  cases r <;> simp [applyReport, h, Report.target]

/-- A report of a line that lives on at the kitchen leaves it unfinished, so its tab is not freed (R56). -/
def Report.lives (r : Report) : Prop :=
  Report.target r = .sent ∨ Report.target r = .fired ∨ Report.target r = .ready

theorem lineReport_of_lives {s : State} {slot i : Nat} {tb : Tab} {r : Report} (hr : Report.lives r)
    (ht : tabIn s slot = some tb) :
    lineReport slot i r s = putTab slot (some (Tab.report r tb i)) s := by
  cases h : tb.lines[i]?.bind (applyReport r) with
  | none => rw [lineReport_of_none ht h, report_of_none h, putTab_self ht]
  | some l =>
    obtain ⟨l₀, hl₀, hl⟩ := Option.bind_eq_some_iff.1 h
    have hstate := applyReport_state hl
    have hvoid : l.state ≠ .void := by
      rcases hr with hr | hr | hr <;> rw [hstate, hr] <;> exact nofun
    have hkept : ¬Freeable (putTab slot (some (Tab.withLine i l tb)) s) slot (Tab.withLine i l tb) := by
      rintro ⟨-, hfin, -⟩
      have hmem : l ∈ (Tab.withLine i l tb).lines :=
        List.mem_of_getElem? ((getElem?_withLine hl₀ i).trans (if_pos rfl))
      have hfin := hfin l hmem
      rw [hstate] at hfin
      rcases hr with hr | hr | hr <;> simp [hr] at hfin
    rw [lineReport_of_some ht h hvoid, report_of_some h,
      checkFree_of_kept (tabIn_putTab_self _ (lt_of_tabIn ht)) hkept]

/-- A report other than removed, at a tab that is not CLOSED. -/
theorem lineReport_of_open {s : State} {slot i : Nat} {tb : Tab} {r : Report}
    (hr : Report.target r ≠ .void) (ht : tabIn s slot = some tb) (hc : tb.state ≠ .closed) :
    lineReport slot i r s = putTab slot (some (Tab.report r tb i)) s := by
  cases h : tb.lines[i]?.bind (applyReport r) with
  | none => rw [lineReport_of_none ht h, report_of_none h, putTab_self ht]
  | some l =>
    obtain ⟨l₀, -, hl⟩ := Option.bind_eq_some_iff.1 h
    rw [lineReport_of_some ht h (by rwa [applyReport_state hl]), report_of_some h]
    exact checkFree_of_open (tabIn_putTab_self _ (lt_of_tabIn ht)) (by exact hc)

/-! ## Reports to several lines -/

/-- A tab after a report to each of several lines. -/
def Tab.reports (r : Report) (tb : Tab) (is : List Nat) : Tab := is.foldl (Tab.report r) tb

theorem report_frame (r : Report) (tb : Tab) (i : Nat) :
    Tab.report r tb i = { tb with lines := (Tab.report r tb i).lines }
      ∧ (Tab.report r tb i).lines.length = tb.lines.length := by
  unfold Tab.report
  split
  · exact ⟨rfl, by simp [Tab.withLine]⟩
  · exact ⟨rfl, rfl⟩

theorem reports_frame (r : Report) (tb : Tab) (is : List Nat) :
    Tab.reports r tb is = { tb with lines := (Tab.reports r tb is).lines }
      ∧ (Tab.reports r tb is).lines.length = tb.lines.length := by
  unfold Tab.reports
  induction is generalizing tb with
  | nil => exact ⟨rfl, rfl⟩
  | cons i is ih =>
    obtain ⟨h1, h2⟩ := report_frame r tb i
    obtain ⟨h3, h4⟩ := ih (Tab.report r tb i)
    rw [List.foldl_cons]
    exact ⟨by rw [h3, h1], h4.trans h2⟩

/-- A line after a report to it, where the report applies. -/
def lineAfter (r : Report) (l : TabLine) : TabLine := (applyReport r l).getD l

theorem lineAfter_lineAfter (r : Report) (l : TabLine) : lineAfter r (lineAfter r l) = lineAfter r l := by
  unfold lineAfter
  cases h : applyReport r l with
  | none => simp [h]
  | some l' => simp [applyReport_of_target (applyReport_state h)]

theorem getElem?_report (r : Report) (tb : Tab) (i j : Nat) :
    (Tab.report r tb i).lines[j]?
      = (tb.lines[j]?).map fun l => if j = i then lineAfter r l else l := by
  cases h : tb.lines[i]?.bind (applyReport r) with
  | none =>
    rw [report_of_none h]
    cases hj : tb.lines[j]? with
    | none => rfl
    | some l =>
      by_cases he : j = i
      · subst he
        rw [hj] at h
        have happly : applyReport r l = none := h
        simp [lineAfter, happly]
      · simp [he]
  | some l' =>
    obtain ⟨l₀, hl₀, hl⟩ := Option.bind_eq_some_iff.1 h
    rw [report_of_some h, getElem?_withLine hl₀]
    by_cases he : j = i
    · subst he
      simp [hl₀, lineAfter, hl]
    · cases tb.lines[j]? <;> simp [he]

/-- Reports to several lines reach each of them, however often it is named. -/
theorem getElem?_reports (r : Report) (tb : Tab) (is : List Nat) (j : Nat) :
    (Tab.reports r tb is).lines[j]?
      = (tb.lines[j]?).map fun l => if j ∈ is then lineAfter r l else l := by
  unfold Tab.reports
  induction is generalizing tb with
  | nil => simp
  | cons i is ih =>
    rw [List.foldl_cons, ih, getElem?_report, Option.map_map]
    congr 1
    funext l
    by_cases hi : j = i <;> by_cases his : j ∈ is <;> simp [hi, his, lineAfter_lineAfter]

/-- The lines a ticket's positions name. -/
def Ticket.linesAt (k : Ticket) (ps : List Nat) : List Nat := ps.filterMap fun p => k.positions[p]?

theorem ticketReport_eq (k : Ticket) (ps : List Nat) (r : Report) (s : State) :
    ticketReport k ps r s = (Ticket.linesAt k ps).foldl (fun s i => lineReport k.slot i r s) s := by
  unfold ticketReport Ticket.linesAt
  induction ps generalizing s with
  | nil => rfl
  | cons p ps ih =>
    rw [List.foldl_cons, ih]
    cases h : k.positions[p]? with
    | none => simp [h]
    | some i => simp [h]

theorem ticketReport_of_noTab {s : State} {k : Ticket} (ht : tabIn s k.slot = none) (ps : List Nat)
    (r : Report) : ticketReport k ps r s = s := by
  rw [ticketReport_eq]
  induction Ticket.linesAt k ps with
  | nil => rfl
  | cons i is ih => rw [List.foldl_cons, lineReport_of_noTab ht, ih]

theorem ticketReport_of_lives {s : State} {k : Ticket} {tb : Tab} {r : Report} (hr : Report.lives r)
    (ht : tabIn s k.slot = some tb) (ps : List Nat) :
    ticketReport k ps r s = putTab k.slot (some (Tab.reports r tb (Ticket.linesAt k ps))) s := by
  rw [ticketReport_eq]
  unfold Tab.reports
  generalize Ticket.linesAt k ps = is
  induction is generalizing s tb with
  | nil => exact (putTab_self ht).symm
  | cons i is ih =>
    rw [List.foldl_cons, List.foldl_cons, lineReport_of_lives hr ht,
      ih (tabIn_putTab_self _ (lt_of_tabIn ht)), putTab_putTab]

/-! ## Reports that may free a tab (R56) -/

/-- A tab freed before its check comes again is freed once (R56). -/
theorem tabCheckedByEvent_of_freed {s u : State} {slot : Nat} {tb old : Tab}
    (hold : tabIn s slot = some old)
    (hfree : tb.state = .closed
      ∧ (∀ l ∈ tb.lines, l.state = .served ∨ l.state = .void ∨ l.state = .waste)
      ∧ ∀ x ∈ u.tickets, x.slot = slot → x.issue ≠ codeIssue tb.code)
    (htabs : u.tabs = (putTab slot none s).tabs)
    (hn : u.notices = (notify (.tabFreed tb.code) s).notices)
    (ho : u.overflow = (notify (.tabFreed tb.code) s).overflow)
    (hl : u.link = (notify (.tabFreed tb.code) s).link) : TabCheckedByEvent s u slot tb := by
  have hnone : tabIn u slot = none := by
    have := tabIn_putTab_self (s := s) none (lt_of_tabIn hold)
    unfold tabIn at this ⊢
    rwa [htabs]
  refine ⟨⟨fun i hi => ?_, ?_, fun _ => ⟨hnone, hn, ho⟩, fun h => absurd hfree h⟩, fun _ => hl,
    fun h => absurd hnone h⟩
  · rw [htabs]
    exact tabs_putTab_ne _ hi
  · rw [htabs]
    exact issue_putTab _

/-- Lines reported collected: the tab stays in its slot with its lines served, or it has been freed. -/
theorem collected_reports {s : State} {slot : Nat} {tb : Tab} (ht : tabIn s slot = some tb)
    (is : List Nat) :
    is.foldl (fun s i => lineReport slot i .collected s) s
        = putTab slot (some (Tab.reports .collected tb is)) s
      ∨ is.foldl (fun s i => lineReport slot i .collected s) s
          = notify (.tabFreed tb.code) (putTab slot none s)
        ∧ Freeable s slot (Tab.reports .collected tb is) := by
  induction is generalizing s tb with
  | nil => exact .inl (putTab_self ht).symm
  | cons i is ih =>
    unfold Tab.reports
    rw [List.foldl_cons, List.foldl_cons]
    cases h : tb.lines[i]?.bind (applyReport .collected) with
    | none =>
      rw [lineReport_of_none ht h, report_of_none h]
      exact ih ht
    | some l =>
      obtain ⟨l₀, -, hl⟩ := Option.bind_eq_some_iff.1 h
      have hput := tabIn_putTab_self (s := s) (some (Tab.report .collected tb i)) (lt_of_tabIn ht)
      have hstep : lineReport slot i .collected s
          = checkFree slot (putTab slot (some (Tab.report .collected tb i)) s) := by
        rw [lineReport_of_some ht h (by rw [applyReport_state hl]; exact nofun), report_of_some h]
      have hcode : (Tab.report .collected tb i).code = tb.code := by rw [(report_frame _ _ _).1]
      by_cases hfree : Freeable (putTab slot (some (Tab.report .collected tb i)) s) slot
          (Tab.report .collected tb i)
      · refine .inr ?_
        have hfreed : lineReport slot i .collected s
            = notify (.tabFreed tb.code) (putTab slot none s) := by
          rw [hstep, checkFree_of_freeable hput hfree, putTab_putTab, hcode]
        have hrest : ∀ js : List Nat, js.foldl (Tab.report .collected) (Tab.report .collected tb i)
            = Tab.report .collected tb i := by
          intro js
          induction js with
          | nil => rfl
          | cons j js ihj =>
            have hnone : ((Tab.report .collected tb i).lines[j]?).bind (applyReport .collected) = none := by
              cases hj : (Tab.report .collected tb i).lines[j]? with
              | none => rfl
              | some x =>
                have hx := hfree.2.1 x (List.mem_of_getElem? hj)
                rcases hx with hx | hx | hx <;> simp [applyReport, hx]
            rw [List.foldl_cons, report_of_none hnone, ihj]
        have hgone : tabIn (notify (.tabFreed tb.code) (putTab slot none s)) slot = none := by
          rw [notify_frame]
          exact tabIn_putTab_self _ (lt_of_tabIn ht)
        have hstay : ∀ js : List Nat, js.foldl (fun s i => lineReport slot i .collected s)
            (notify (.tabFreed tb.code) (putTab slot none s))
              = notify (.tabFreed tb.code) (putTab slot none s) := by
          intro js
          induction js with
          | nil => rfl
          | cons j js ihj => rw [List.foldl_cons, lineReport_of_noTab hgone, ihj]
        rw [hfreed, hstay, hrest]
        refine ⟨rfl, ?_⟩
        rw [putTab_frame] at hfree
        exact hfree
      · have hkept : lineReport slot i .collected s
            = putTab slot (some (Tab.report .collected tb i)) s := by
          rw [hstep, checkFree_of_kept hput hfree]
        rcases ih hput with hih | ⟨hih, hfreeable⟩
        · rw [hkept, hih, putTab_putTab]
          exact .inl rfl
        · refine .inr ?_
          rw [hkept, hih, putTab_putTab, hcode]
          rw [putTab_frame] at hfreeable
          exact ⟨rfl, hfreeable⟩

end Sys2Proof.Machine
end

section
-- One proof at a time: side by side, their threads' stacks outgrow the check's memory.
set_option Elab.async false
/-! Retrying and collecting tickets, their waits, and bids for them. -/

namespace Sys2Proof.Machine

/-! ## Frames of a ticket (R66 to R70, R74) -/

theorem sendOffer_of_canSend {s : State} {n : Nat} {k : Ticket} (hk : ticketOf s n = some k)
    (hc : CanSend s 1) : sendOffer n s = { s with line := { s.line with
      waiting := joinQueue (newItem s (64 + k.cls) (offerBody s k) true) s.line.waiting } } := by
  unfold sendOffer
  rw [hk]
  exact offerFrame_of_free hc.1 hc.2

theorem sendAward_of_canSend {s : State} {n : Nat} {k : Ticket} {a : Awardee} (hk : ticketOf s n = some k)
    (ha : k.awardee = some a) (dest : Nat) (wait : Bool) (hc : CanSend s 1) :
    sendAward n dest wait s = { s with line := { s.line with
      waiting := joinQueue (newItem s dest (.award (Ticket.ref k) a.station k.live) wait)
        s.line.waiting } } := by
  unfold sendAward
  rw [hk]
  dsimp only
  rw [ha]
  exact offerFrame_of_free hc.1 hc.2

theorem sendWithdraw_of_canSend {s : State} {n : Nat} {k : Ticket} {a : Awardee}
    (hk : ticketOf s n = some k) (ha : k.awardee = some a) (p : Nat) (hc : CanSend s 1) :
    sendWithdraw n p s = { s with line := { s.line with
      waiting := joinQueue (newItem s a.station (.withdraw (Ticket.ref k) p) true) s.line.waiting } } := by
  unfold sendWithdraw
  rw [hk]
  dsimp only
  rw [ha]
  exact offerFrame_of_free hc.1 hc.2

/-- An OFFER that is dropped has ended: its ticket's offer window starts at once (R15, R65). -/
theorem sendOffer_of_dropped {s : State} {n : Nat} {k : Ticket} (hk : ticketOf s n = some k)
    (hs : k.state = .offering) (hd : s.join.state ≠ .onLine ∨ freeTx s = 0) :
    sendOffer n s = { s with tickets := (sendOffer n s).tickets }
      ∧ ticketOf (sendOffer n s) n = some { k with wait := .offerWindow (now s) } := by
  obtain rfl := ticketOf_number hk
  have hsent : sendOffer k.number s = frameEnded (newItem s (classGroup k.cls) (offerBody s k) true) s := by
    unfold sendOffer
    rw [hk]
    exact offerFrame_of_dropped hd
  rw [hsent]
  refine ⟨rfl, ?_⟩
  have hstep : ticketOf (updTicket k.number (fun t =>
      if t.gen = k.gen ∧ t.state = .offering ∧ t.attempt = k.attempt then
        { t with wait := .offerWindow (now s) } else t) s) k.number
      = some { k with wait := .offerWindow (now s) } := by
    refine (ticketOf_updTicket_self (by intro t; split <;> rfl)).trans ?_
    rw [hk, Option.map_some, if_pos ⟨rfl, hs, rfl⟩]
  exact hstep

/-- The state with one record changed, as the statements see it. -/
theorem ticketOf_updTicket_of {s : State} {n : Nat} {k : Ticket} {f : Ticket → Ticket}
    (hk : ticketOf s n = some k) (hf : ∀ t, (f t).number = t.number) :
    ticketOf (updTicket n f s) n = some (f k) ∧ ∀ m, m ≠ n → ticketOf (updTicket n f s) m = ticketOf s m :=
  ⟨(ticketOf_updTicket_self hf).trans (by rw [hk]; rfl), fun _ hm => ticketOf_updTicket_ne hf hm⟩

/-- A reissue with a REVOKE to the old awardee (R77). -/
theorem reissued_with_revoke {s : State} {k : Ticket} {a : Awardee} (stale : Option (Nat × Nat))
    (cause : ReissueCause) (hk : ticketOf s k.number = some k) (ha : k.awardee = some a)
    (hw : k.withdrawals = []) (hl : k.live ≠ 0#8) (hc : CanSend s 2) :
    Reissued s (reissue k.number true stale cause s) k (staleAfter stale k) cause
      (joinQueue (newItem s a.station (.revoke ⟨k.number, k.gen⟩) false)
        (s.line.waiting.filter fun x => !ofTicket k.number x)) := by
  obtain ⟨hj, hfree⟩ := hc
  have hcancel := freeTx_cancelFrames (ofTicket k.number) s
  refine reissued_of_revoked true stale cause hk hw hl ?_ hj ?_
  · unfold revokeAwardee
    rw [ha]
    dsimp only
    rw [sendRevoke, offerFrame_of_free (by exact hj) (by omega)]
    rfl
  · have hlen := List.length_filter_le (fun x => !ofTicket k.number x) s.line.waiting
    rw [joinQueue_length]
    simp only [freeTx, txCount, txCapacity] at hfree
    omega

/-! ## RETRY-TICKET (R80) -/

theorem ticketRequest_of {s : State} {slot n level : Nat} {r : SlotRecord} {k : Ticket}
    (h : TillSlot s slot level r) (hk : ticketOf s n = some k)
    (f : SlotRecord → Ticket → RequestResult) : ticketRequest s slot n f = f r k := by
  obtain ⟨-, hrole, hslot, -⟩ := h
  unfold ticketRequest
  rw [need_of hrole, withSlot_of_some hslot, hk]

/-- RETRY-TICKET of a ticket, by its state (R80). -/
def retryByState (n : Nat) (r : SlotRecord) (k : Ticket) (s : State) : RequestResult :=
  match k.state, k.lost with
  | .stranded, _ =>
      need (r.level ≤ 3) .level <|
      needFrames s 1 <|
      taken [] (sendOffer n
        (updTicket n (fun t => { t with state := .offering, attempt := 0, wait := .none }) s))
  | .fired, some _ | .ready, some _ =>
      need (r.level ≤ 1) .level <| needFrames s 1 <| taken [] (retryReissue n k s)
  | _, _ => .error .state

theorem retryTicketResult_of {s : State} {slot n : Nat} {r : SlotRecord} {k : Ticket}
    (h : TillSlot s slot 3 r) (hk : ticketOf s n = some k) :
    retryTicketResult slot n s = retryByState n r k s := by
  unfold retryTicketResult
  rw [ticketRequest_of h hk]
  rfl

theorem retryByState_lost {k : Ticket} {lost : Lost} (h : k.state = .fired ∨ k.state = .ready)
    (hl : k.lost = some lost) (n : Nat) (r : SlotRecord) (s : State) : retryByState n r k s
      = (need (r.level ≤ 1) .level <| needFrames s 1 <| taken [] (retryReissue n k s)) := by
  unfold retryByState
  rcases h with h | h <;> rw [h, hl]

/-- The reissue of a ticket whose kitchen is lost (R80, Table 4-5). -/
theorem reissued_retryReissue {s : State} {k : Ticket} {lost : Lost} {a : Awardee}
    (hk : ticketOf s k.number = some k) (hl : k.lost = some lost) (ha : k.awardee = some a)
    (hw : k.withdrawals = []) (hlive : k.live ≠ 0#8) (hc : CanSend s 1) :
    Reissued s (retryReissue k.number k s) k
      (if lost = .silent then some ⟨a.station, a.mark, k.gen⟩ else k.stale)
      (if lost = .silent then .retrySilent else .retryRestarted)
      (s.line.waiting.filter fun x => !ofTicket k.number x) := by
  unfold retryReissue
  cases lost with
  | silent =>
    rw [hl, ha]
    exact reissued_of_canSend (some (a.station, a.mark)) _ hk hw hlive hc
  | restarted =>
    rw [hl]
    exact reissued_of_canSend none _ hk hw hlive hc

/-! ## COLLECT (R81, R82) -/

theorem collectResult_of {s : State} {slot n : Nat} {r : SlotRecord} {k : Ticket}
    (h : TillSlot s slot 3 r) (hk : ticketOf s n = some k) (hs : k.state = .fired ∨ k.state = .ready)
    (hc : CanSend s 1) : collectResult slot n s = taken [] (collectEffect k s) := by
  unfold collectResult
  rw [ticketRequest_of h hk, need_of h.2.2.2, need_of hs, needFrames_of hc]

/-- The lines a COLLECT reports (R81). -/
def Ticket.liveLines (k : Ticket) : List Nat := Ticket.linesAt k (Ticket.livePositions k)

theorem mem_liveLines {k : Ticket} {i : Nat} : i ∈ Ticket.liveLines k
    ↔ ∃ p, k.positions[p]? = some i ∧ k.live.getLsbD p = true := by
  simp only [Ticket.liveLines, Ticket.linesAt, Ticket.livePositions, List.mem_filterMap, List.mem_filter,
    List.mem_range]
  constructor
  · rintro ⟨p, ⟨-, hlive⟩, hp⟩
    exact ⟨p, hp, hlive⟩
  · rintro ⟨p, hp, hlive⟩
    exact ⟨p, ⟨(List.getElem?_eq_some_iff.1 hp).1, hlive⟩, hp⟩

theorem lineAfter_collected (l : TabLine) : lineAfter .collected l
    = if l.state = .sent ∨ l.state = .withdrawing ∨ l.state = .fired ∨ l.state = .ready then
        { l with state := .served } else l := by
  unfold lineAfter applyReport
  cases hs : l.state <;> simp

theorem checkFree_of_noTab {s : State} {slot : Nat} (h : tabIn s slot = none) : checkFree slot s = s := by
  unfold checkFree
  rw [h]

/-- The effect of COLLECT on the records, the frames and the tab (R81, R82). -/
theorem collectEffect_of {s : State} {k : Ticket} {a : Awardee} {tb : Tab}
    (hk : ticketOf s k.number = some k) (ha : k.awardee = some a) (hc : CanSend s 1)
    (ht : tabIn s k.slot = some tb) :
    collectEffect k s = { s with
        tickets := (collectEffect k s).tickets, tabs := (collectEffect k s).tabs
        line := (collectEffect k s).line, notices := (collectEffect k s).notices
        overflow := (collectEffect k s).overflow, link := (collectEffect k s).link }
      ∧ (collectEffect k s).tickets = s.tickets.filter (fun x => x.number != k.number)
      ∧ (collectEffect k s).line = { s.line with
          waiting := (joinQueue (newItem s a.station (.collect ⟨k.number, k.gen⟩) false)
            s.line.waiting).filter fun x => !ofTicket k.number x
          sending := s.line.sending.map (TxItem.disown (ofTicket k.number)) }
      ∧ TabCheckedByEvent s (collectEffect k s) k.slot (Tab.reports .collected tb (Ticket.liveLines k)) := by
  have hreports : ∀ v : State, v = { s with
        tabs := v.tabs, notices := v.notices, overflow := v.overflow, link := v.link } →
      ticketReport k (Ticket.livePositions k) .collected s = v →
      collectEffect k s = checkFree k.slot { v with
        tickets := s.tickets.filter fun x => x.number != k.number
        line := { s.line with
          waiting := (joinQueue (newItem s a.station (.collect ⟨k.number, k.gen⟩) false)
            s.line.waiting).filter fun x => !ofTicket k.number x
          sending := s.line.sending.map (TxItem.disown (ofTicket k.number)) } } := by
    intro v hv heq
    unfold collectEffect
    rw [heq, ha]
    dsimp only
    rw [hv, offerFrame_of_free (by exact hc.1) (by exact hc.2), freeTicket_of (by exact hk)]
    rfl
  rw [ticketReport_eq] at hreports
  rcases collected_reports ht (Ticket.liveLines k) with heq | ⟨heq, hfree⟩
  · rw [hreports _ (by rw [putTab_frame]) heq]
    refine ⟨?_, ?_, ?_, ?_⟩
    · rw [checkFree_frame, putTab_frame]
    · rw [checkFree_frame]
    · rw [checkFree_frame]
    · exact tabCheckedByEvent_putTab ht rfl
  · have hnone : tabIn (notify (.tabFreed tb.code) (putTab k.slot none s)) k.slot = none := by
      rw [notify_frame]
      exact tabIn_putTab_self _ (lt_of_tabIn ht)
    have hcode : (Tab.reports .collected tb (Ticket.liveLines k)).code = tb.code := by
      rw [(reports_frame _ _ _).1]
    rw [hreports _ (by rw [notify_frame, putTab_frame]) heq, checkFree_of_noTab (by exact hnone)]
    obtain ⟨⟨h1, h2⟩, h3⟩ := notified_notify (s := s) (u := putTab k.slot none s) (.tabFreed tb.code)
      (by rw [putTab_frame]) (by rw [putTab_frame]) (by rw [putTab_frame]) (by rw [putTab_frame])
    obtain ⟨hclosed, hfin, hrefs⟩ := hfree
    refine ⟨?_, rfl, rfl, tabCheckedByEvent_of_freed ht ⟨hclosed, hfin, fun x hx => ?_⟩ ?_ ?_ ?_ ?_⟩
    · rw [notify_frame, putTab_frame]
    · exact hrefs x (List.mem_of_mem_filter hx)
    · rw [notify_frame]
    · rw [hcode]
      exact h1
    · rw [hcode]
      exact h2
    · rw [hcode]
      exact h3

/-- Settles O35. -/
theorem retryAndCollectTickets : Obligations.RetryAndCollectTickets := by
  refine ⟨fun s slot n r k h hk => ⟨fun hs hc => ?_, fun lost a hs hl ha hw hlive hlevel hc => ?_,
    fun hs => ?_⟩, fun s slot n r k a tb h hk hs ha hc ht => ?_⟩
  · obtain ⟨hself, hother⟩ := ticketOf_updTicket_of
      (f := fun t => { t with state := .offering, attempt := 0, wait := .none }) hk (by exact fun _ => rfl)
    have hres : retryTicketResult slot n s = taken [] (sendOffer n
        (updTicket n (fun t => { t with state := .offering, attempt := 0, wait := .none }) s)) := by
      rw [retryTicketResult_of h hk, retryByState, hs]
      dsimp only
      rw [need_of h.2.2.2, needFrames_of hc]
    rw [sendOffer_of_canSend hself hc] at hres
    refine ⟨_, request_ok rfl h.1 hres, rfl, hself, hother, ?_, replied_replying _ _ _ _⟩
    exact congrArg (fun b => { s.line with waiting := joinQueue (newItem s (64 + k.cls) b true) s.line.waiting })
      (offerBody_congr rfl rfl rfl rfl rfl rfl rfl rfl)
  · obtain rfl := ticketOf_number hk
    have hres : retryTicketResult slot k.number s = taken [] (retryReissue k.number k s) := by
      rw [retryTicketResult_of h hk, retryByState_lost hs hl, need_of hlevel, needFrames_of hc]
    obtain ⟨hframe, hself, hother, ⟨hreported, -⟩, hline⟩ := reissued_retryReissue hk hl ha hw hlive hc
    rw [ha] at hreported
    refine ⟨_, request_ok rfl h.1 hres, ?_, hself, hother, hreported, hline, replied_replying _ _ _ _⟩
    rw [hframe]
  · refine request_refused rfl h.1 ?_
    rw [retryTicketResult_of h hk]
    unfold retryByState
    rcases hs with hs | hs | hs | ⟨hs | hs, hl⟩
    · rw [hs]
    · rw [hs]
    · rw [hs]
    · rw [hs, hl]
    · rw [hs, hl]
  · obtain rfl := ticketOf_number hk
    obtain ⟨hframe, htickets, hline, hchecked, -⟩ := collectEffect_of hk ha hc ht
    obtain ⟨htab, hlen⟩ := reports_frame .collected tb (Ticket.liveLines k)
    refine ⟨_, Tab.reports .collected tb (Ticket.liveLines k),
      request_ok rfl h.1 (collectResult_of h hk hs hc), ?_, htickets, hline, htab, hlen, fun i l hl => ?_,
      hchecked, replied_replying _ _ _ _⟩
    · rw [hframe]
    · rw [getElem?_reports, hl, Option.map_some, lineAfter_collected]
      refine ⟨fun ⟨hlive, hstate⟩ => ?_, fun hnot => ?_⟩
      · rw [if_pos (mem_liveLines.2 hlive), if_pos hstate]
      · by_cases hm : i ∈ Ticket.liveLines k
        · rw [if_pos hm, if_neg fun hstate => hnot ⟨mem_liveLines.1 hm, hstate⟩]
        · rw [if_neg hm]

end Sys2Proof.Machine
end

section
-- One proof at a time: side by side, their threads' stacks outgrow the check's memory.
set_option Elab.async false
/-! The timed waits of a ticket, and the bids for it. -/

namespace Sys2Proof.Machine

/-! ## The offer window and the award wait (R67, R70) -/

theorem exec_offerWindowExpiry {s : State} {n : Nat} {k : Ticket} {start : Time}
    (hk : ticketOf s n = some k) (hs : k.state = .offering) (hw : k.wait = .offerWindow start)
    (hdue : Due s start 150) : exec (.offerWindowExpiry n) s = .next (offerWindowOut n s) := by
  simp only [exec, execOfferWindowExpiry, hk, hs, hw, advanceUntil_of_due (limit := offerWindow) hdue]

theorem exec_awardWaitExpiry {s : State} {n : Nat} {k : Ticket} {start : Time}
    (hk : ticketOf s n = some k) (hs : k.state = .placing) (hw : k.wait = .awardWait start)
    (hdue : Due s start 300) : exec (.awardWaitExpiry n) s = .next (awardWaitOut n s) := by
  simp only [exec, execAwardWaitExpiry, hk, hs, hw, advanceUntil_of_due (limit := awardWait) hdue]

theorem exec_withdrawReplyWaitExpiry {s : State} {n attempt : Nat} {k : Ticket} {w : Withdrawal}
    {start : Time} (hk : ticketOf s n = some k) (hws : k.withdrawals = [w])
    (hattempt : w.attempt = attempt) (hwait : w.wait = some start) (hdue : Due s start 200) :
    exec (.withdrawReplyWaitExpiry n w.position) s = .next (replyWaitOut n w.position attempt s) := by
  obtain ⟨p, att, wt⟩ := w
  simp only at hattempt hwait
  subst hattempt hwait
  simp [exec, execWithdrawReplyWaitExpiry, hk, hws, advanceUntil_of_due (limit := replyWait) hdue]

theorem offerWindowOut_next {s : State} {n : Nat} {k : Ticket} (hk : ticketOf s n = some k)
    (ha : k.attempt < 4) : offerWindowOut n s = sendOffer n
      (updTicket n (fun t => { t with attempt := t.attempt + 1, wait := .none }) s) := by
  unfold offerWindowOut
  rw [hk]
  exact if_pos ha

theorem offerWindowOut_last {s : State} {n : Nat} {k : Ticket} (hk : ticketOf s n = some k)
    (ha : k.attempt = 4) : offerWindowOut n s
      = notify (.stranded (Ticket.ref k) (tabCode (station s) k.slot k.issue))
        (updTicket n (fun t => { t with state := .stranded, wait := .none }) s) := by
  unfold offerWindowOut
  rw [hk]
  exact if_neg (by rw [ha]; exact Nat.lt_irrefl 4)

theorem awardWaitOut_next {s : State} {n : Nat} {k : Ticket} {a : Awardee} (hk : ticketOf s n = some k)
    (ha : k.awardee = some a) (hr : k.repeats < 2) : awardWaitOut n s = sendAward n a.station true
      (updTicket n (fun t => { t with repeats := t.repeats + 1, wait := .none }) s) := by
  unfold awardWaitOut
  rw [hk]
  dsimp only
  rw [ha]
  exact if_pos hr

theorem awardWaitOut_last {s : State} {n : Nat} {k : Ticket} (hk : ticketOf s n = some k)
    (hr : k.repeats = 2) : awardWaitOut n s = reissue n true none .awardExhausted s := by
  unfold awardWaitOut
  rw [hk]
  exact if_neg (by rw [hr]; exact Nat.lt_irrefl 2)

/-! ## The reply wait (R74) -/

theorem replyWaitOut_next {s : State} {n p attempt : Nat} {k : Ticket} (hk : ticketOf s n = some k)
    (ha : attempt < 3) : replyWaitOut n p attempt s = sendWithdraw n p (updTicket n (fun t =>
      { t with withdrawals := t.withdrawals.map fun w =>
          if w.position = p then { w with attempt := w.attempt + 1, wait := none } else w }) s) := by
  unfold replyWaitOut
  rw [hk]
  exact if_pos ha

/-- The withdrawal of a position ends, its record with it. -/
def endWithdrawal (n p : Nat) (s : State) : State :=
  updTicket n (fun t => { t with withdrawals := t.withdrawals.filter fun w => w.position != p }) s

theorem ticketOf_endWithdrawal {s : State} {n : Nat} {k : Ticket} (hk : ticketOf s n = some k) (p : Nat) :
    ticketOf (endWithdrawal n p s) n
      = some { k with withdrawals := k.withdrawals.filter fun w => w.position != p } :=
  (ticketOf_updTicket_of hk (by exact fun _ => rfl)).1

theorem replyWaitOut_last {s : State} {n p : Nat} {k : Ticket} (hk : ticketOf s n = some k) :
    replyWaitOut n p 3 s = notify (.withdrawFailed (Ticket.ref k)
        (ticketCode (ticketReport k [p] .withdrawFailed (endWithdrawal n p s)) k) (k.positions.getD p 0))
      (ticketReport k [p] .withdrawFailed (endWithdrawal n p s)) := by
  unfold replyWaitOut
  rw [hk]
  exact if_neg (Nat.lt_irrefl 3)

theorem ticketCode_putTab (slot : Nat) (tb : Option Tab) (k : Ticket) (s : State) :
    ticketCode (putTab slot tb s) k = ticketCode s k := by
  rw [putTab_frame]
  rfl

theorem getD_of_getElem? {xs : List Nat} {p i : Nat} (h : xs[p]? = some i) : xs.getD p 0 = i := by
  rw [List.getD_eq_getElem?_getD, h]
  rfl

theorem linesAt_single {k : Ticket} {p i : Nat} (h : k.positions[p]? = some i) :
    Ticket.linesAt k [p] = [i] := by
  simp [Ticket.linesAt, h]

/-- One report to one line that it applies to. -/
theorem reports_single {tb : Tab} {i : Nat} {l l' : TabLine} {r : Report} (hl : tb.lines[i]? = some l)
    (ha : applyReport r l = some l') : Tab.reports r tb [i] = Tab.withLine i l' tb :=
  report_of_some (by rw [hl]; exact ha)

/-- A report to the line at one position of a ticket, which lives on at the kitchen. -/
theorem ticketReport_single {s : State} {k : Ticket} {tb : Tab} {p i : Nat} {l l' : TabLine} {r : Report}
    (hr : Report.lives r) (ht : tabIn s k.slot = some tb) (hp : k.positions[p]? = some i)
    (hl : tb.lines[i]? = some l) (ha : applyReport r l = some l') :
    ticketReport k [p] r s = putTab k.slot (some (Tab.withLine i l' tb)) s := by
  rw [ticketReport_of_lives hr ht, linesAt_single hp, reports_single hl ha]

/-- Settles O36. -/
theorem ticketWaitsRunOut : Obligations.TicketWaitsRunOut := by
  refine ⟨fun s n k start hk hs hw hdue => ⟨fun ha hc => ?_, fun ha hd => ?_, fun ha => ?_⟩,
    fun s n k a start hk hs hw ha hdue => ⟨fun hr hc => ?_, fun hr hws hl hc => ?_⟩,
    fun s n p i k a w start tb l hk hws hwp hwait ha hdue hp ht hl hstate =>
      ⟨fun hatt hc => ?_, fun hatt => ?_⟩⟩
  · have hself := (ticketOf_updTicket_of
      (f := fun t => { t with attempt := t.attempt + 1, wait := .none }) hk (by exact fun _ => rfl)).1
    rw [exec_offerWindowExpiry hk hs hw hdue, offerWindowOut_next hk ha, sendOffer_of_canSend hself hc]
    refine ⟨_, rfl, rfl, hself, ?_⟩
    exact congrArg (fun b => { s.line with waiting := joinQueue (newItem s (64 + k.cls) b true) s.line.waiting })
      (offerBody_congr rfl rfl rfl rfl rfl rfl rfl rfl)
  · have hself := (ticketOf_updTicket_of
      (f := fun t => { t with attempt := t.attempt + 1, wait := .none }) hk (by exact fun _ => rfl)).1
    obtain ⟨hframe, hwaits⟩ := sendOffer_of_dropped hself hs hd
    rw [exec_offerWindowExpiry hk hs hw hdue, offerWindowOut_next hk ha]
    refine ⟨_, rfl, ?_, hwaits⟩
    rw [hframe]
    rfl
  · obtain rfl := ticketOf_number hk
    rw [exec_offerWindowExpiry hk hs hw hdue, offerWindowOut_last hk ha]
    obtain ⟨hframe, hself, -⟩ := (onlyTicket_updTicket
      (f := fun t => { t with state := .stranded, wait := .none }) hk (by exact fun _ => rfl)).notify
        (.stranded (Ticket.ref k) (tabCode (station s) k.slot k.issue))
    exact ⟨_, rfl, hframe, hself, notified_notify _ rfl rfl rfl rfl⟩
  · obtain rfl := ticketOf_number hk
    have hself := (ticketOf_updTicket_of
      (f := fun t => { t with repeats := t.repeats + 1, wait := .none }) hk (by exact fun _ => rfl)).1
    rw [exec_awardWaitExpiry hk hs hw hdue, awardWaitOut_next hk ha hr,
      sendAward_of_canSend hself ha _ _ hc]
    exact ⟨_, rfl, rfl, hself, rfl⟩
  · obtain rfl := ticketOf_number hk
    obtain ⟨hframe, hself, -, hnotified, hline⟩ :=
      reissued_with_revoke none .awardExhausted hk ha hws hl hc
    rw [exec_awardWaitExpiry hk hs hw hdue, awardWaitOut_last hk hr]
    rw [ha] at hnotified
    exact ⟨_, rfl, hframe, hself, hnotified, hline⟩
  · obtain rfl := ticketOf_number hk
    subst hwp
    have hself : ticketOf (updTicket k.number (fun t =>
        { t with withdrawals := t.withdrawals.map fun v =>
            if v.position = w.position then { v with attempt := v.attempt + 1, wait := none } else v }) s)
          k.number = some { k with withdrawals := [⟨w.position, w.attempt + 1, none⟩] } := by
      refine (ticketOf_updTicket_of hk (by exact fun _ => rfl)).1.trans ?_
      rw [hws]
      simp
    rw [exec_withdrawReplyWaitExpiry hk hws rfl hwait hdue, replyWaitOut_next hk hatt,
      sendWithdraw_of_canSend hself ha _ hc]
    exact ⟨_, rfl, rfl, hself, rfl⟩
  · obtain rfl := ticketOf_number hk
    subst hwp
    have hself : ticketOf (endWithdrawal k.number w.position s) k.number
        = some { k with withdrawals := [] } := by
      rw [ticketOf_endWithdrawal hk, hws]
      simp
    have ht' : tabIn (endWithdrawal k.number w.position s) k.slot = some tb := ht
    have hreport := ticketReport_single (r := .withdrawFailed) (l' := { l with state := .sent })
      (.inl rfl) ht' hp hl (by simp [applyReport, hstate])
    obtain ⟨hother, hput⟩ := putTab_changes ht' (some (Tab.withLine i { l with state := .sent } tb))
    rw [exec_withdrawReplyWaitExpiry hk hws hatt hwait hdue, replyWaitOut_last hk, hreport,
      ticketCode_putTab, getD_of_getElem? hp]
    refine ⟨_, rfl, ?_, ?_, ?_, fun j hj => ?_, ?_⟩
    · rw [notify_frame, putTab_frame]
      rfl
    · rw [notify_frame, putTab_frame]
      exact hself
    · rw [notify_frame]
      exact hput
    · rw [notify_frame]
      exact hother j hj
    · refine notified_notify _ ?_ ?_ ?_ ?_ <;> rw [putTab_frame] <;> rfl

/-! ## Bids for a ticket (R68, R69) -/

/-- A BID delivered to a till reaches the ticket table. -/
theorem exec_bid {s : State} {dest src origin depth : Nat} {ref : Ref}
    (h : TillDelivers s ⟨dest, src, .bid origin ref depth⟩) : exec (.bid dest src origin ref depth) s
      = .next (ticketBid src origin ref depth (arrived ⟨dest, src, .bid origin ref depth⟩ s)) := by
  obtain ⟨hd, hr, -⟩ := h
  exact congrArg Host.Outcome.next ((if_pos hr).trans (deliverFrame_of hd _))

/-- What the arrival of a frame leaves: the records, and the room in the transmit queue. -/
theorem ticketOf_arrived (f : Frame) (s : State) (n : Nat) : ticketOf (arrived f s) n = ticketOf s n := by
  rw [arrived_eq]
  rfl

theorem station_arrived (f : Frame) (s : State) : station (arrived f s) = station s := by
  rw [arrived_eq]
  rfl

theorem now_arrived (f : Frame) (s : State) : now (arrived f s) = now s := by
  rw [arrived_eq]
  rfl

theorem tabIn_arrived (f : Frame) (s : State) (i : Nat) : tabIn (arrived f s) i = tabIn s i := by
  rw [arrived_eq]
  rfl

theorem newItem_arrived (f : Frame) (s : State) : newItem (arrived f s) = newItem s := by
  rw [arrived_eq]
  rfl

theorem freeTx_arrived (f : Frame) (s : State) : freeTx (arrived f s) = freeTx s := by
  rw [arrived_eq]
  rfl

theorem canSend_arrived {s : State} {n : Nat} (h : CanSend s n) (f : Frame) : CanSend (arrived f s) n := by
  obtain ⟨h1, h2⟩ := h
  exact ⟨by rw [arrived_join]; exact h1, by rw [freeTx_arrived]; exact h2⟩

theorem ticketBid_of_other {s : State} {src origin depth : Nat} {ref : Ref}
    (h : origin ≠ station s ∨ ticketOf s ref.number = none) : ticketBid src origin ref depth s = s := by
  unfold ticketBid
  rcases h with h | h
  · exact if_neg h
  · rw [h]
    exact ite_self s

theorem ticketBid_of {s : State} {src depth : Nat} {ref : Ref} {k : Ticket}
    (hk : ticketOf s ref.number = some k) (hg : k.gen = ref.gen) :
    ticketBid src (station s) ref depth s
      = if k.state = .offering ∨ k.state = .stranded then placeTicket k src depth s
        else sendAward k.number src false s := by
  unfold ticketBid
  rw [if_pos rfl, hk]
  exact if_pos hg

theorem ticketBid_of_gen {s : State} {src depth : Nat} {ref : Ref} {k : Ticket}
    (hk : ticketOf s ref.number = some k) (hg : k.gen ≠ ref.gen) :
    ticketBid src (station s) ref depth s = s := by
  unfold ticketBid
  rw [if_pos rfl, hk]
  exact if_neg hg

/-- The record of a ticket that a bid has taken (R68). -/
def placedBy (src mark depth : Nat) (k : Ticket) : Ticket :=
  { k with
    state := .placing, wait := .none, repeats := 0, awardee := some ⟨src, mark, depth⟩
    stale := if k.stale.map StaleHolder.station = some src then none else k.stale }

/-- A bid takes a ticket: its OFFERs cancelled, its AWARD to the class group (R68). -/
theorem placeTicket_of {s : State} {k : Ticket} (hk : ticketOf s k.number = some k) (src depth : Nat)
    (hc : CanSend s 1) : placeTicket k src depth s = { s with
      tickets := (updTicket k.number (placedBy src (markOf s src) depth) s).tickets
      line := { s.line with
        waiting := joinQueue (newItem s (64 + k.cls) (.award (Ticket.ref k) src k.live) true)
          (s.line.waiting.filter fun x => !offerOf k.number x)
        sending := s.line.sending.map (TxItem.disown (offerOf k.number)) } } := by
  have hroom := freeTx_cancelFrames (offerOf k.number) s
  have hself := (ticketOf_updTicket_of (f := placedBy src (markOf s src) depth)
    (s := cancelFrames (offerOf k.number) s) hk (by exact fun _ => rfl)).1
  have hplace : placeTicket k src depth s = sendAward k.number (classGroup k.cls) true
      (updTicket k.number (placedBy src (markOf s src) depth) (cancelFrames (offerOf k.number) s)) := rfl
  have hcan : CanSend (updTicket k.number (placedBy src (markOf s src) depth)
      (cancelFrames (offerOf k.number) s)) 1 := ⟨hc.1, hc.2.trans hroom⟩
  rw [hplace, sendAward_of_canSend hself rfl _ _ hcan]
  rfl

/-- Settles O37. -/
theorem firstBidTakesTheTicket : Obligations.FirstBidTakesTheTicket := by
  refine ⟨fun s dest src depth ref k h hk => ⟨fun hg hs hc => ?_, fun a hg h1 h2 ha hc => ?_,
    fun hg => ?_⟩, fun s dest src origin depth ref h hno => ?_⟩
  · obtain ⟨number, gen⟩ := ref
    obtain rfl := ticketOf_number hk
    simp only at hg
    subst hg
    have hk' := (ticketOf_arrived ⟨dest, src, .bid (station s) ⟨k.number, k.gen⟩ depth⟩ s k.number).trans hk
    have hcan := canSend_arrived hc ⟨dest, src, .bid (station s) ⟨k.number, k.gen⟩ depth⟩
    have htake : ticketBid src (station s) ⟨k.number, k.gen⟩ depth
          (arrived ⟨dest, src, .bid (station s) ⟨k.number, k.gen⟩ depth⟩ s)
        = placeTicket k src depth (arrived ⟨dest, src, .bid (station s) ⟨k.number, k.gen⟩ depth⟩ s) := by
      have hbid := ticketBid_of (src := src) (depth := depth) (ref := ⟨k.number, k.gen⟩) hk' rfl
      rw [station_arrived] at hbid
      exact hbid.trans (if_pos hs)
    obtain ⟨hself, hother⟩ := ticketOf_updTicket_of (n := k.number)
      (f := placedBy src (markOf s src) depth) hk (by exact fun _ => rfl)
    rw [exec_bid h, htake, placeTicket_of hk' src depth hcan, markOf_arrived]
    refine ⟨_, rfl, rfl, ?_, fun m hm => ?_, ?_⟩
    · unfold updTicket
      rw [arrived_tickets]
      exact hself
    · unfold updTicket
      rw [arrived_tickets]
      exact hother m hm
    · dsimp only
      rw [arrived_line, newItem_arrived]
      rfl
  · obtain ⟨number, gen⟩ := ref
    obtain rfl := ticketOf_number hk
    simp only at hg
    subst hg
    have hk' := (ticketOf_arrived ⟨dest, src, .bid (station s) ⟨k.number, k.gen⟩ depth⟩ s k.number).trans hk
    have htake : ticketBid src (station s) ⟨k.number, k.gen⟩ depth
          (arrived ⟨dest, src, .bid (station s) ⟨k.number, k.gen⟩ depth⟩ s)
        = sendAward k.number src false
          (arrived ⟨dest, src, .bid (station s) ⟨k.number, k.gen⟩ depth⟩ s) := by
      have hbid := ticketBid_of (src := src) (depth := depth) (ref := ⟨k.number, k.gen⟩) hk' rfl
      rw [station_arrived] at hbid
      exact hbid.trans (if_neg (fun h => h.elim h1 h2))
    rw [exec_bid h, htake, sendAward_of_canSend hk' ha _ _ (canSend_arrived hc _)]
    exact ⟨_, rfl, rfl, rfl⟩
  · have hbid := ticketBid_of_gen (src := src) (depth := depth) (ref := ref)
      ((ticketOf_arrived ⟨dest, src, .bid (station s) ref depth⟩ s ref.number).trans hk) hg
    rw [station_arrived] at hbid
    rw [exec_bid h, hbid]
  · rw [exec_bid h, ticketBid_of_other]
    rw [station_arrived, ticketOf_arrived]
    exact hno

end Sys2Proof.Machine
end

section
-- One proof at a time: side by side, their threads' stacks outgrow the check's memory.
set_option Elab.async false
/-! SUPPORT. The settlement unit's requests: home shares held, given back and released, payments, and the
start and the end of a borrowed entry (R137 to R139, R145, R147, R149, R150, R154). -/

namespace Sys2Proof.Machine

/-! ## Home shares (R137, R139, R145) -/

theorem withdrawing_eq_false_iff (t : Tab) :
    Tab.withdrawing t = false ↔ ∀ l ∈ t.lines, l.state ≠ .withdrawing := by
  simp [Tab.withdrawing]

/-- A share that becomes OPEN again: the tab is PAYING while another is locked (R53). -/
theorem setShare_opened {s : State} {slot i : Nat} {tb : Tab} {sh : Share} (ht : tabIn s slot = some tb)
    (hs : tb.shares[i]? = some sh) (hc : tb.state ≠ .closed) : setShare slot i .opened s
      = putTab slot (some { Tab.withShare i { sh with state := .opened } tb with
          state := if Tab.locked (Tab.withShare i { sh with state := .opened } tb) then .paying
            else .opened }) s :=
  setShare_of_unpaid ht hs hc (by decide) rfl

theorem takeResult_of {s : State} {slot code i : Nat} {r : SlotRecord} {tb : Tab} {sh : Share}
    (h : TillSlot s slot 2 r) (ht : tabOf s code = some tb) (hs : tb.shares[i]? = some sh)
    (hc : tb.state ≠ .closed) (ho : sh.state = .opened) (hw : ∀ l ∈ tb.lines, l.state ≠ .withdrawing) :
    takeResult slot code i s = taken (amountsBytes sh.amounts) (putTab (codeSlot code)
      (some { Tab.withShare i { sh with state := .heldLocal slot } tb with state := .paying }) s) := by
  obtain ⟨-, hin, -⟩ := tabIn_of_tabOf ht
  unfold takeResult
  rw [shareRequest_of h ht hs, need_of ho, need_of ((withdrawing_eq_false_iff tb).2 hw),
    setShare_of_locks hin hs hc rfl rfl]

theorem giveBackResult_home {s : State} {slot code i : Nat} {r : SlotRecord} {tb : Tab} {sh : Share}
    (h : TillSlot s slot 2 r) (ht : tabOf s code = some tb) (hs : tb.shares[i]? = some sh)
    (hheld : sh.state = .heldLocal slot) :
    giveBackResult slot code i s = taken [] (setShare (codeSlot code) i .opened s) := by
  obtain ⟨hhome, -, -⟩ := tabIn_of_tabOf ht
  unfold giveBackResult
  rw [if_pos hhome, shareRequest_of h ht hs, need_of hheld]

theorem forceReleaseResult_of {s : State} {slot code i holder mark : Nat} {reason : Lost} {r : SlotRecord}
    {tb : Tab} {sh : Share} (h : TillSlot s slot 1 r) (ht : tabOf s code = some tb)
    (hs : tb.shares[i]? = some sh) (had : sh.state = .adrift holder mark reason) :
    forceReleaseResult slot code i s = taken [] (setShare (codeSlot code) i .opened
      (notify (.shareReleased code i holder reason) s)) := by
  unfold forceReleaseResult
  rw [shareRequest_of h ht hs]
  simp only [had]

/-- Settles O39. -/
theorem localHolds : Obligations.LocalHolds := by
  intro s slot code i r tb sh h ht hc hs
  obtain ⟨-, hin, -⟩ := tabIn_of_tabOf ht
  refine ⟨fun ho hw => ?_, fun hheld _ => ?_, fun holder mark reason had hlevel => ?_⟩
  · obtain ⟨hother, hput⟩ := putTab_changes hin
      (some { Tab.withShare i { sh with state := .heldLocal slot } tb with state := .paying })
    refine ⟨_, request_ok rfl h.1 (takeResult_of h ht hs hc ho hw), ?_, hother, hput, rfl, rfl, rfl, rfl⟩
    rw [putTab_frame]
  · obtain ⟨hother, hput⟩ := putTab_changes hin (some { Tab.withShare i { sh with state := .opened } tb with
      state := if Tab.locked (Tab.withShare i { sh with state := .opened } tb) then .paying else .opened })
    have hres := giveBackResult_home h ht hs hheld
    rw [setShare_opened hin hs hc] at hres
    refine ⟨_, request_ok rfl h.1 hres, ?_, hother, hput, rfl, rfl, rfl, rfl⟩
    rw [putTab_frame]
  · have hin' : tabIn (notify (.shareReleased code i holder reason) s) (codeSlot code) = some tb := by
      rw [notify_frame]
      exact hin
    obtain ⟨hother, hput⟩ := putTab_changes hin' (some { Tab.withShare i { sh with state := .opened } tb with
      state := if Tab.locked (Tab.withShare i { sh with state := .opened } tb) then .paying else .opened })
    have hres := forceReleaseResult_of ⟨h.1, h.2.1, h.2.2.1, hlevel⟩ ht hs had
    rw [setShare_opened hin' hs hc] at hres
    refine ⟨_, request_ok rfl h.1 hres, ?_, fun j hj => ?_, hput, ⟨?_, ?_⟩, rfl, rfl, rfl, rfl⟩
    · rw [putTab_frame, notify_frame]
    · refine (hother j hj).trans ?_
      rw [notify_frame]
    · rw [putTab_frame]
    · rw [putTab_frame]

/-! ## A borrowed entry's beginning and its clearing (R147, R154) -/

/-- The checks of a request for a borrowed entry, passed (R136). -/
theorem borrowedRequest_of {s : State} {slot code i level : Nat} {r : SlotRecord} {b : Borrowed}
    (h : TillSlot s slot level r) (hb : borrowedOf s code i = some b)
    (k : SlotRecord → Borrowed → RequestResult) : borrowedRequest s slot code i level k = k r b := by
  obtain ⟨-, hrole, hslot, hlevel⟩ := h
  unfold borrowedRequest
  rw [need_of hrole, withSlot_of_some hslot]
  simp only [hb]
  rw [need_of hlevel]

theorem takeRemoteResult_of {s : State} {slot code i : Nat} {r : SlotRecord} (h : TillSlot s slot 2 r)
    (h1 : 1 ≤ codeHome code) (h2 : codeHome code ≤ 62) (h3 : codeHome code ≠ station s) (hi : i ≤ 7)
    (hb : borrowedOf s code i = none) (hroom : s.borrowed.length < 8) (hc : CanSend s 1) :
    takeRemoteResult slot code i s = accepted { s with
      borrowed := s.borrowed ++ [newBorrowed s slot code i]
      line := { s.line with
        waiting := joinQueue (newItem s (codeHome code) (.shareAsk code i) true) s.line.waiting } } := by
  obtain ⟨-, hrole, hslot, hlevel⟩ := h
  have hsend : offerFrame (codeHome code) (.shareAsk code i) true
        { s with borrowed := s.borrowed ++ [newBorrowed s slot code i] }
      = { s with
          borrowed := s.borrowed ++ [newBorrowed s slot code i]
          line := { s.line with
            waiting := joinQueue (newItem s (codeHome code) (.shareAsk code i) true) s.line.waiting } } :=
    offerFrame_of_free (s := { s with borrowed := s.borrowed ++ [newBorrowed s slot code i] }) hc.1 hc.2
  unfold takeRemoteResult
  rw [need_of hrole, withSlot_of_some hslot, need_of hlevel, need_of ⟨stationNumber_iff.2 ⟨h1, h2⟩, h3⟩,
    need_of hi, need_of hb, need_of (by exact hroom), needFrames_of hc]
  exact congrArg accepted hsend

theorem takeRemoteResult_field {s : State} {slot code i : Nat} {r : SlotRecord} (h : TillSlot s slot 2 r)
    (hcode : codeHome code = 0 ∨ 62 < codeHome code ∨ codeHome code = station s) :
    takeRemoteResult slot code i s = .error .field := by
  obtain ⟨-, hrole, hslot, hlevel⟩ := h
  unfold takeRemoteResult
  rw [need_of hrole, withSlot_of_some hslot, need_of hlevel, need_of_not]
  rintro ⟨hnumber, hother⟩
  obtain ⟨h1, h2⟩ := stationNumber_iff.1 hnumber
  omega

theorem clearOrphanResult_of {s : State} {slot code i : Nat} {r : SlotRecord} {b : Borrowed} {p : Taken}
    (h : TillSlot s slot 1 r) (hb : borrowedOf s code i = some b) (ho : b.state = .orphaned)
    (hp : b.taken = some p) : clearOrphanResult slot code i s
      = taken (byte (Tender.code p.tender) :: (be32 p.settled ++ [adjustmentByte p.adjustment]))
        (freeBorrowed code i s) := by
  unfold clearOrphanResult
  rw [borrowedRequest_of h hb, need_of ho]
  simp only [hp]

/-- Settles O41. -/
theorem borrowingStartsAndEnds : Obligations.BorrowingStartsAndEnds := by
  refine ⟨fun s slot code i r h => ⟨fun h1 h2 h3 hi hb hroom hc => ?_, fun hcode => ?_⟩,
    fun s slot code i r b h hb => ⟨fun p ho hp => ?_, fun ho => ?_⟩⟩
  · exact ⟨_, request_ok rfl h.1 (takeRemoteResult_of h h1 h2 h3 hi hb hroom hc), rfl, rfl, rfl, rfl, rfl,
      rfl, rfl⟩
  · exact request_refused rfl h.1 (takeRemoteResult_field h hcode)
  · obtain ⟨hfree, hcancels⟩ := freesBorrowed_freeBorrowed code i s
    exact ⟨_, request_ok rfl h.1 (clearOrphanResult_of h hb ho hp), rfl, ⟨hfree, hcancels⟩, rfl, rfl, rfl,
      rfl⟩
  · refine request_refused rfl h.1 ?_
    unfold clearOrphanResult
    rw [borrowedRequest_of h hb, need_of_not ho]

/-! ## A share paid (R53, R56, R138, R142) -/

/-- Another share than the one at `i` is neither EMPTY nor paid. -/
def OwedBeside (tb : Tab) (i : Nat) : Prop :=
  ∃ (j : Nat) (x : Share), j ≠ i ∧ tb.shares[j]? = some x ∧ x.state ≠ .empty
    ∧ ∀ p : Payment, x.state ≠ .paid p

/-- Every share but the one at `i` is EMPTY or paid. -/
def SettledBeside (tb : Tab) (i : Nat) : Prop :=
  ∀ (j : Nat) (x : Share), j ≠ i → tb.shares[j]? = some x →
    x.state = .empty ∨ ∃ p : Payment, x.state = .paid p

theorem owedBeside_of_not_settled {tb : Tab} {i : Nat} (h : ¬SettledBeside tb i) : OwedBeside tb i := by
  unfold SettledBeside at h
  push Not at h
  exact h

theorem isPaid_iff (st : ShareState) : ShareState.isPaid st = true ↔ ∃ p, st = .paid p := by
  cases st <;> simp [ShareState.isPaid]

theorem isEmpty_iff (st : ShareState) : ShareState.isEmpty st = true ↔ st = .empty := by
  cases st <;> simp [ShareState.isEmpty]

/-- The tab with the share at this index paid. -/
def Tab.paidShare (i : Nat) (sh : Share) (p : Payment) (t : Tab) : Tab :=
  Tab.withShare i { sh with state := .paid p } t

theorem getElem?_paidShare {tb : Tab} {i : Nat} {sh : Share} (hs : tb.shares[i]? = some sh) (p : Payment) :
    (Tab.paidShare i sh p tb).shares[i]? = some { sh with state := .paid p }
      ∧ ∀ j, j ≠ i → (Tab.paidShare i sh p tb).shares[j]? = tb.shares[j]? := by
  have hlt := (List.getElem?_eq_some_iff.1 hs).1
  refine ⟨?_, fun j hj => ?_⟩
  · simp [Tab.paidShare, Tab.withShare, hlt]
  · simp [Tab.paidShare, Tab.withShare, List.getElem?_set_ne (Ne.symm hj)]

/-- A paid share beside one that is owed: the tab is PAYING (R53). -/
theorem restate_paying {tb : Tab} {i : Nat} {sh : Share} (hs : tb.shares[i]? = some sh)
    (hc : tb.state ≠ .closed) (p : Payment) (h : OwedBeside tb i) :
    Tab.restate (Tab.paidShare i sh p tb) = { Tab.paidShare i sh p tb with state := .paying } := by
  obtain ⟨j, x, hj, hx, h1, h2⟩ := h
  obtain ⟨-, hothers⟩ := getElem?_paidShare hs p
  have hlocked : Tab.locked (Tab.paidShare i sh p tb) = true := locked_withShare hs rfl
  have hmem : x ∈ (Tab.paidShare i sh p tb).shares :=
    List.mem_iff_getElem?.2 ⟨j, (hothers j hj).trans hx⟩
  have hunpaid : ShareState.isPaid x.state = false := by
    refine Bool.eq_false_iff.2 fun hp => ?_
    obtain ⟨q, hq⟩ := (isPaid_iff _).1 hp
    exact h2 q hq
  rw [restate_of_unpaid (t := Tab.paidShare i sh p tb) hc ⟨x, hmem, h1, hunpaid⟩, if_pos hlocked]

/-- The last share paid: the tab is CLOSED (R53). -/
theorem restate_closed {tb : Tab} {i : Nat} {sh : Share} (hs : tb.shares[i]? = some sh)
    (hc : tb.state ≠ .closed) (p : Payment) (h : SettledBeside tb i) :
    Tab.restate (Tab.paidShare i sh p tb) = { Tab.paidShare i sh p tb with state := .closed } := by
  obtain ⟨hself, hothers⟩ := getElem?_paidShare hs p
  have hall : ((Tab.paidShare i sh p tb).shares.all fun sh =>
      ShareState.isPaid sh.state || ShareState.isEmpty sh.state) = true := by
    refine List.all_eq_true.2 fun x hx => ?_
    obtain ⟨j, hj⟩ := List.mem_iff_getElem?.1 hx
    by_cases hji : j = i
    · subst hji
      rw [hself] at hj
      cases hj
      rfl
    · rw [hothers j hji] at hj
      rw [Bool.or_eq_true, isPaid_iff, isEmpty_iff]
      exact (h j x hji hj).symm
  have hany : ((Tab.paidShare i sh p tb).shares.any fun sh => ShareState.isPaid sh.state) = true :=
    List.any_eq_true.2 ⟨_, List.mem_iff_getElem?.2 ⟨i, hself⟩, rfl⟩
  unfold Tab.restate
  rw [if_neg (by exact hc), hall, hany]
  rfl

theorem checkFree_others (slot : Nat) (s : State) : OtherSlots s (checkFree slot s) slot
    ∧ ((checkFree slot s).tabs[slot]?).map TabSlot.issue = (s.tabs[slot]?).map TabSlot.issue := by
  cases ht : tabIn s slot with
  | none => rw [checkFree_of_noTab ht]; exact ⟨fun _ _ => rfl, rfl⟩
  | some tb =>
    by_cases h : Freeable s slot tb
    · rw [checkFree_of_freeable ht h, notify_frame]
      exact ⟨fun _ hi => tabs_putTab_ne _ hi, issue_putTab _⟩
    · rw [checkFree_of_kept ht h]
      exact ⟨fun _ _ => rfl, rfl⟩

/-- A payment, with another share owed, leaves its tab PAYING; with none the tab is CLOSED and checked for
freeing (R53, R56). -/
theorem setShare_paid {s : State} {slot i : Nat} {tb : Tab} {sh : Share} (p : Payment)
    (ht : tabIn s slot = some tb) (hs : tb.shares[i]? = some sh) (hc : tb.state ≠ .closed) :
    (OwedBeside tb i → setShare slot i (.paid p) s
        = putTab slot (some { Tab.paidShare i sh p tb with state := .paying }) s)
      ∧ (SettledBeside tb i → setShare slot i (.paid p) s
        = checkFree slot (putTab slot (some { Tab.paidShare i sh p tb with state := .closed }) s)) := by
  have hset : setShare slot i (.paid p) s
      = if (Tab.restate (Tab.paidShare i sh p tb)).state = .closed ∧ tb.state ≠ .closed then
          checkFree slot (putTab slot (some (Tab.restate (Tab.paidShare i sh p tb))) s)
        else putTab slot (some (Tab.restate (Tab.paidShare i sh p tb))) s := by
    unfold setShare
    simp only [ht, hs]
    rfl
  refine ⟨fun h => ?_, fun h => ?_⟩
  · rw [hset, restate_paying hs hc p h]
    exact if_neg fun ⟨hclosed, _⟩ => by cases hclosed
  · rw [hset, restate_closed hs hc p h]
    exact if_pos ⟨rfl, hc⟩

/-- What a payment makes of the tab table. -/
theorem paidShare_of {s : State} {slot i : Nat} {tb : Tab} {sh : Share} (p : Payment)
    (ht : tabIn s slot = some tb) (hs : tb.shares[i]? = some sh) (hc : tb.state ≠ .closed) :
    (OtherSlots s (setShare slot i (.paid p) s) slot
        ∧ ((setShare slot i (.paid p) s).tabs[slot]?).map TabSlot.issue
          = (s.tabs[slot]?).map TabSlot.issue)
      ∧ (OwedBeside tb i → tabIn (setShare slot i (.paid p) s) slot
          = some { Tab.paidShare i sh p tb with state := .paying }
        ∧ setShare slot i (.paid p) s = { s with tabs := (setShare slot i (.paid p) s).tabs })
      ∧ (SettledBeside tb i → TabCheckedByEvent s (setShare slot i (.paid p) s) slot
          { Tab.paidShare i sh p tb with state := .closed }) := by
  obtain ⟨howed, hsettled⟩ := setShare_paid p ht hs hc
  refine ⟨?_, fun h => ?_, fun h => ?_⟩
  · by_cases h : SettledBeside tb i
    · rw [hsettled h]
      obtain ⟨hother, hissue⟩ := checkFree_others slot
        (putTab slot (some { Tab.paidShare i sh p tb with state := .closed }) s)
      exact ⟨fun j hj => (hother j hj).trans (tabs_putTab_ne _ hj), hissue.trans (issue_putTab _)⟩
    · rw [howed (owedBeside_of_not_settled h)]
      exact ⟨fun j hj => tabs_putTab_ne _ hj, issue_putTab _⟩
  · rw [howed h]
    exact ⟨(putTab_changes ht _).2, putTab_frame _ _ _⟩
  · rw [hsettled h]
    refine tabCheckedByEvent_putTab ht ?_
    rw [putTab_frame]

/-- A tab that its check for freeing keeps, or frees, by its lines and the ticket records. -/
theorem tabChecked_kept {s t : State} {slot : Nat} {tb : Tab} (h : TabCheckedByEvent s t slot tb)
    (htickets : t.tickets = s.tickets)
    (hkept : (∃ l ∈ tb.lines, l.state ≠ .served ∧ l.state ≠ .void ∧ l.state ≠ .waste)
      ∨ ∃ x ∈ s.tickets, x.slot = slot ∧ x.issue = codeIssue tb.code) :
    tabIn t slot = some tb ∧ t.notices = s.notices ∧ t.overflow = s.overflow ∧ t.link = s.link := by
  obtain ⟨⟨-, -, -, hstays⟩, -, hlink⟩ := h
  obtain ⟨hin, hn, ho⟩ := hstays (by
    rintro ⟨-, hlines, htick⟩
    rcases hkept with ⟨l, hl, h1, h2, h3⟩ | ⟨x, hx, h1, h2⟩
    · exact (hlines l hl).elim h1 fun h => h.elim h2 h3
    · exact htick x (by rw [htickets]; exact hx) h1 h2)
  refine ⟨hin, hn, ho, hlink ?_⟩
  rw [hin]
  exact fun h => by cases h

theorem tabChecked_freed {s t : State} {slot : Nat} {tb : Tab} (h : TabCheckedByEvent s t slot tb)
    (htickets : t.tickets = s.tickets) (hc : tb.state = .closed)
    (hlines : ∀ l ∈ tb.lines, l.state = .served ∨ l.state = .void ∨ l.state = .waste)
    (htick : ∀ x ∈ s.tickets, x.slot = slot → x.issue ≠ codeIssue tb.code) :
    tabIn t slot = none ∧ Notified s t (.tabFreed tb.code) := by
  obtain ⟨⟨-, -, hfreed, -⟩, hlink, -⟩ := h
  obtain ⟨hin, hrep⟩ := hfreed ⟨hc, hlines, by rw [htickets]; exact htick⟩
  exact ⟨hin, hrep, hlink hin⟩

/-! ## PAY and GIVE-BACK (R138, R139, R149, R150, R159) -/

/-- The record of a slot that has taken a payment (R159). -/
def withPaymentOf (k : Tender) (settled : Nat) (adj : Int) (r : SlotRecord) : SlotRecord :=
  { r with totals := Totals.pay k settled adj r.totals }

theorem withPaymentOf_eq (k : Tender) (settled : Nat) (adj : Int) (r : SlotRecord) :
    withPaymentOf k settled adj r = { r with totals := { r.totals with
      cash := r.totals.cash + (if k = .cash then settled else 0)
      card := r.totals.card + (if k = .card then settled else 0)
      rounding := r.totals.rounding + (if k = .cash then adj else 0)
      shares := r.totals.shares + 1 } } := by
  unfold withPaymentOf Totals.pay
  cases k <;> simp

/-- The state with a payment in a slot's totals. -/
def withPaymentIn (slot : Nat) (r : SlotRecord) (s : State) : State :=
  { s with slots := s.slots.setIfInBounds slot (some r) }

theorem withPayment_ok (k : Tender) (settled : Nat) (adj : Int) (change : Nat)
    (f : Tender → Nat → Int → Nat → RequestResult) :
    withPayment (.ok (k, settled, adj, change)) f = f k settled adj change := rfl

theorem payResult_home {s : State} {slot code i tender tendered settled change : Nat} {adj : Int}
    {k : Tender} {r : SlotRecord} {tb : Tab} {sh : Share} (h : TillSlot s slot 2 r)
    (ht : tabOf s code = some tb) (hs : tb.shares[i]? = some sh) (hheld : sh.state = .heldLocal slot)
    (hp : paymentStep sh.amounts.total tender tendered = .ok (k, settled, adj, change)) :
    payResult slot code i tender tendered s = taken (paidBytes settled adj change)
      (setShare (codeSlot code) i (.paid ⟨k, settled, adj, station s, some r.operator, now s⟩)
        (withPaymentIn slot (withPaymentOf k settled adj r) s)) := by
  obtain ⟨hhome, -, -⟩ := tabIn_of_tabOf ht
  unfold payResult
  rw [if_pos hhome]
  unfold payLocal
  rw [shareRequest_of h ht hs, need_of hheld, hp, withPayment_ok,
    addTotals_of h.2.2.1]
  rfl

/-- The state after PAY on a borrowed entry (R149). -/
def paidBorrowed (slot code i : Nat) (k : Tender) (settled : Nat) (adj : Int) (r : SlotRecord)
    (s : State) : State :=
  { withPaymentIn slot (withPaymentOf k settled adj r) s with
    borrowed := (updBorrowed code i (Borrowed.pay k settled adj (now s)) s).borrowed
    line := { s.line with
      waiting := joinQueue (newItem s (codeHome code) (.shareSettle code i k settled adj) true)
        s.line.waiting } }

theorem payResult_borrowed {s : State} {slot code i tender tendered settled change : Nat} {adj : Int}
    {k : Tender} {r : SlotRecord} {b : Borrowed} {a : Amounts} (h : TillSlot s slot 2 r)
    (hhome : codeHome code ≠ station s) (hb : borrowedOf s code i = some b) (hs : b.state = .borrowed)
    (hslot : b.slot = slot) (hc : CanSend s 1) (ha : b.amounts = some a)
    (hp : paymentStep a.total tender tendered = .ok (k, settled, adj, change)) :
    payResult slot code i tender tendered s
      = taken (paidBytes settled adj change) (paidBorrowed slot code i k settled adj r s) := by
  obtain ⟨hcode, hshare⟩ := borrowedOf_name hb
  have htotal : Borrowed.total b = a.total := by
    unfold Borrowed.total
    rw [ha]
    rfl
  have hsend : sendHome (Borrowed.pay k settled adj (now s) b)
        (settleBody (Borrowed.pay k settled adj (now s) b))
        (updBorrowed code i (Borrowed.pay k settled adj (now s))
          (withPaymentIn slot (withPaymentOf k settled adj r) s))
      = paidBorrowed slot code i k settled adj r s := by
    subst hcode hshare
    exact offerFrame_of_free (by exact hc.1) (by exact hc.2)
  unfold payResult
  rw [if_neg hhome]
  unfold payBorrowed
  rw [borrowedRequest_of h hb, need_of ⟨hs, hslot⟩, htotal, hp]
  refine (needFrames_of hc _).trans ?_
  rw [addTotals_of h.2.2.1]
  exact congrArg (taken (paidBytes settled adj change)) hsend

/-- An entry given back: it is RETURNING, and its SHARE-RETURN is on its way (R150). -/
theorem returnBorrowed_of_canSend {s : State} {b : Borrowed} (hc : CanSend s 1) :
    returnBorrowed b s = { s with
      borrowed := (updBorrowed b.code b.share Borrowed.giveBack s).borrowed
      line := { s.line with
        waiting := joinQueue (newItem s (codeHome b.code) (.shareReturn b.code b.share) true)
          s.line.waiting } } :=
  offerFrame_of_free (by exact hc.1) (by exact hc.2)

theorem giveBackResult_borrowed {s : State} {slot code i : Nat} {r : SlotRecord} {b : Borrowed}
    (h : TillSlot s slot 2 r) (hhome : codeHome code ≠ station s) (hb : borrowedOf s code i = some b)
    (hs : b.state = .borrowed) (hslot : b.slot = slot) (hc : CanSend s 1) :
    giveBackResult slot code i s = taken [] (returnBorrowed b s) := by
  unfold giveBackResult
  rw [if_neg hhome, borrowedRequest_of h hb, need_of ⟨hs, hslot⟩, needFrames_of hc]

theorem borrowedOf_updBorrowed_of {s : State} {code i : Nat} {b : Borrowed} {f : Borrowed → Borrowed}
    (hb : borrowedOf s code i = some b) (hf : ∀ b, (f b).code = b.code ∧ (f b).share = b.share) :
    borrowedOf (updBorrowed code i f s) code i = some (f b)
      ∧ ∀ c j : Nat, c ≠ code ∨ j ≠ i → borrowedOf (updBorrowed code i f s) c j = borrowedOf s c j := by
  refine ⟨?_, fun c j hne => borrowedOf_updBorrowed_ne hf hne⟩
  rw [borrowedOf_updBorrowed_self hf, hb]
  rfl

/-- Settles O40. -/
theorem paymentsSettleShares : Obligations.PaymentsSettleShares := by
  refine ⟨fun s slot code i tender tendered settled change adj k r tb sh h hhome ht hc hs hheld hp => ?_,
    fun s slot code i r b h hhome hb hs hslot hc =>
      ⟨fun tender tendered settled change adj k a ha hp => ?_, ?_⟩⟩
  · obtain ⟨-, hin, rfl⟩ := tabIn_of_tabOf ht
    have hpaid := paidShare_of (s := withPaymentIn slot (withPaymentOf k settled adj r) s)
      ⟨k, settled, adj, station s, some r.operator, now s⟩ hin hs hc
    have hframe := setShare_frame (codeSlot tb.code) i
      (.paid ⟨k, settled, adj, station s, some r.operator, now s⟩)
      (withPaymentIn slot (withPaymentOf k settled adj r) s)
    generalize hu : setShare (codeSlot tb.code) i
      (.paid ⟨k, settled, adj, station s, some r.operator, now s⟩)
      (withPaymentIn slot (withPaymentOf k settled adj r) s) = u at hpaid hframe
    have hres := payResult_home h ht hs hheld hp
    rw [hu] at hres
    obtain ⟨⟨hother, hissue⟩, howed, hsettled⟩ := hpaid
    have hslots : u.slots = s.slots.setIfInBounds slot (some (withPaymentOf k settled adj r)) := by
      rw [hframe]
      rfl
    have htickets : u.tickets = s.tickets := by
      rw [hframe]
      rfl
    refine ⟨_, request_ok rfl h.1 hres, ?_, hother, ?_, fun j hj => slotOf_setIfInBounds_ne hj hslots,
      ⟨rfl, rfl, rfl, rfl⟩, hissue, fun howe => ?_, fun hall => ⟨fun hkept => ?_, fun hlines htick => ?_⟩⟩
    · rw [hframe]
      rfl
    · rw [← withPaymentOf_eq]
      exact slotOf_setIfInBounds_self (slotOf_lt h.2.2.1) hslots
    · obtain ⟨hself, hsame⟩ := howed howe
      refine ⟨hself, ?_, ?_⟩
      · rw [hsame]
        rfl
      · rw [hsame]
        rfl
    · obtain ⟨h1, h2, h3, -⟩ := tabChecked_kept (hsettled hall) htickets hkept
      exact ⟨h1, h2, h3⟩
    · obtain ⟨hnone, ⟨hn, ho⟩, -⟩ := tabChecked_freed (hsettled hall) htickets rfl hlines htick
      exact ⟨hnone, reported_of_notify hn ho rfl rfl rfl rfl⟩
  · obtain ⟨hself, hothers⟩ := borrowedOf_updBorrowed_of hb
      (f := Borrowed.pay k settled adj (now s)) (by exact fun _ => ⟨rfl, rfl⟩)
    refine ⟨_, request_ok rfl h.1 (payResult_borrowed h hhome hb hs hslot hc ha hp), rfl, hself, hothers,
      ?_, fun j hj => slotOf_setIfInBounds_ne hj rfl, rfl, rfl, rfl, rfl, rfl⟩
    rw [← withPaymentOf_eq]
    exact slotOf_setIfInBounds_self (slotOf_lt h.2.2.1) rfl
  · obtain ⟨hself, hothers⟩ := borrowedOf_updBorrowed_of hb (f := Borrowed.giveBack)
      (by exact fun _ => ⟨rfl, rfl⟩)
    have hres := giveBackResult_borrowed h hhome hb hs hslot hc
    obtain ⟨rfl, rfl⟩ := borrowedOf_name hb
    rw [returnBorrowed_of_canSend hc] at hres
    exact ⟨_, request_ok rfl h.1 hres, rfl, hself, hothers, rfl, rfl, rfl, rfl, rfl⟩

end Sys2Proof.Machine
end

section
-- One proof at a time: side by side, their threads' stacks outgrow the check's memory.
set_option Elab.async false
/-! SUPPORT. The home till's side of a remote share: asks denied and granted, settlements and returns
recorded (R140 to R143). -/

namespace Sys2Proof.Machine

/-! ## Frames of the settlement unit (R13) -/

/-- A frame delivered to a till reaches its owner there. -/
theorem deliverFrame_atTill {s : State} {f : Frame} (h : TillDelivers s f) (owner : State → State) :
    deliverFrame f (atTill owner) s = owner (arrived f s) := by
  obtain ⟨hd, hr, -⟩ := h
  rw [deliverFrame_of hd]
  exact if_pos ((role_arrived f s).trans hr)

/-- An answer that starts no wait, sent with room in the queue. -/
theorem answerFrame_of {s : State} (dest : Nat) (body : FrameBody) (h : CanSend s 1) :
    offerFrame dest body false s = { s with line := { s.line with
      waiting := joinQueue (newItem s dest body false) s.line.waiting } } :=
  offerFrame_of_free h.1 h.2

theorem heard_mark_eq (s : State) (n : Nat) : ((heard s n).map Heard.mark).getD 0 = markOf s n := rfl

theorem notified_of_arrived {f : Frame} {s t : State} {b : NoticeBody} (h : Notified (arrived f s) t b) :
    Notified s t b :=
  h.congr (arrived_notices f s) (arrived_overflow f s) (arrived_link f s) (arrived_clock f s)

/-! ## SHARE-ASK (R140, R141) -/

theorem denyReason_null (src i : Nat) (s : State) : denyReason src 0 i s = some .null := if_pos rfl

theorem denyReason_wrongHome {s : State} {code : Nat} (h0 : code ≠ 0) (h : codeHome code ≠ station s)
    (src i : Nat) : denyReason src code i s = some .wrongHome := by
  unfold denyReason
  rw [if_neg h0, if_pos h]

theorem denyReason_absent {s : State} {code : Nat} (h0 : code ≠ 0) (h : codeHome code = station s)
    (ht : tabIn s (codeSlot code) = none) (src i : Nat) : denyReason src code i s = some .absent := by
  unfold denyReason
  rw [if_neg h0, if_neg (not_not.2 h)]
  simp only [ht]

theorem denyReason_stale {s : State} {code : Nat} {tb : Tab} (h0 : code ≠ 0) (h : codeHome code = station s)
    (ht : tabIn s (codeSlot code) = some tb) (hc : tb.code ≠ code) (src i : Nat) :
    denyReason src code i s = some .stale := by
  unfold denyReason
  rw [if_neg h0, if_neg (not_not.2 h)]
  simp only [ht]
  exact if_pos hc

theorem denyReason_range {s : State} {code i : Nat} {tb : Tab} (h0 : code ≠ 0)
    (h : codeHome code = station s) (ht : tabIn s (codeSlot code) = some tb) (hc : tb.code = code)
    (hi : tb.shares.length ≤ i) (src : Nat) : denyReason src code i s = some .range := by
  unfold denyReason
  rw [if_neg h0, if_neg (not_not.2 h)]
  simp only [ht]
  rw [if_neg (not_not.2 hc), List.getElem?_eq_none hi]

/-- The checks of a share that the code and index name. -/
theorem denyReason_share {s : State} {code i : Nat} {tb : Tab} {sh : Share} (h0 : code ≠ 0)
    (h : codeHome code = station s) (ht : tabIn s (codeSlot code) = some tb) (hc : tb.code = code)
    (hs : tb.shares[i]? = some sh) (src : Nat) : denyReason src code i s
      = if sh.state = .empty ∨ ShareState.isPaid sh.state = true then some .settled
        else if sh.state ≠ .opened ∧ heldByAsker src (markOf s src) sh.state = false then some .held
        else if Tab.withdrawing tb then some .pending
        else none := by
  unfold denyReason
  rw [if_neg h0, if_neg (not_not.2 h)]
  simp only [ht]
  rw [if_neg (not_not.2 hc)]
  simp only [hs]

theorem heldByAsker_false {src mark st m : Nat} (h : st ≠ src ∨ (m ≠ 0 ∧ m ≠ mark)) :
    (st == src && (m == 0 || m == mark)) = false := by
  rcases h with h | ⟨h1, h2⟩
  · simp [h]
  · simp [h1, h2]

/-- A share another holds, or the asker under another start: the ask is denied as HELD. -/
theorem denyReason_held {s : State} {code i : Nat} {tb : Tab} {sh : Share} (h0 : code ≠ 0)
    (h : codeHome code = station s) (ht : tabIn s (codeSlot code) = some tb) (hc : tb.code = code)
    (hs : tb.shares[i]? = some sh) {src : Nat} (he : sh.state ≠ .empty)
    (hp : ShareState.isPaid sh.state = false) (ho : sh.state ≠ .opened)
    (hheld : heldByAsker src (markOf s src) sh.state = false) : denyReason src code i s = some .held := by
  rw [denyReason_share h0 h ht hc hs, if_neg, if_pos ⟨ho, hheld⟩]
  rintro (h | h)
  · exact he h
  · rw [hp] at h
    cases h

/-- A share that is free or the asker's own passes the checks. -/
theorem denyReason_none {s : State} {code i : Nat} {tb : Tab} {sh : Share} (h0 : code ≠ 0)
    (h : codeHome code = station s) (ht : tabIn s (codeSlot code) = some tb) (hc : tb.code = code)
    (hs : tb.shares[i]? = some sh) {src : Nat} (he : sh.state ≠ .empty)
    (hp : ShareState.isPaid sh.state = false)
    (hown : sh.state = .opened ∨ heldByAsker src (markOf s src) sh.state = true)
    (hw : ∀ l ∈ tb.lines, l.state ≠ .withdrawing) : denyReason src code i s = none := by
  rw [denyReason_share h0 h ht hc hs, if_neg, if_neg, (withdrawing_eq_false_iff tb).2 hw]
  · rfl
  · rintro ⟨h1, h2⟩
    rcases hown with h | h
    · exact h1 h
    · rw [h] at h2
      cases h2
  · rintro (h | h)
    · exact he h
    · rw [hp] at h
      cases h

theorem settleAsk_denied {s : State} {src code i : Nat} {reason : DenyReason}
    (h : denyReason src code i s = some reason) (hc : CanSend s 1) : settleAsk src code i s
      = { s with line := { s.line with
          waiting := joinQueue (newItem s src (.shareDeny code i reason) false) s.line.waiting } } := by
  unfold settleAsk
  rw [h]
  exact answerFrame_of _ _ hc

theorem shareOf_of {s : State} {code i : Nat} {tb : Tab} {sh : Share} (ht : tabOf s code = some tb)
    (hs : tb.shares[i]? = some sh) : shareOf s code i = some sh := by
  unfold shareOf
  rw [ht]
  exact hs

theorem tabOf_of {s : State} {code : Nat} {tb : Tab} (h : codeHome code = station s)
    (ht : tabIn s (codeSlot code) = some tb) (hc : tb.code = code) : tabOf s code = some tb := by
  unfold tabOf
  rw [if_pos h, ht]
  exact if_pos hc

theorem settleAsk_granted {s : State} {src code i : Nat} {sh : Share}
    (h : denyReason src code i s = none) (hs : shareOf s code i = some sh) : settleAsk src code i s
      = offerFrame src (.shareGrant code i sh.amounts) false (grantShare src code i sh s) := by
  unfold settleAsk
  rw [h, hs]

theorem grantShare_opened {sh : Share} (h : sh.state = .opened) (src code i : Nat) (s : State) :
    grantShare src code i sh s
      = setShare (codeSlot code) i (.heldRemote src (markOf s src)) s := by
  unfold grantShare
  rw [h]

theorem grantShare_held {sh : Share} {st m : Nat} (h : sh.state = .heldRemote st m) (src code i : Nat)
    (s : State) : grantShare src code i sh s = s := by
  unfold grantShare
  rw [h]

theorem grantShare_adrift {sh : Share} {st m : Nat} {why : Lost} (h : sh.state = .adrift st m why)
    (src code i : Nat) (s : State) : grantShare src code i sh s
      = notify (.shareRecovered code i src (markOf s src))
        (setShare (codeSlot code) i (.heldRemote src (markOf s src)) s) := by
  unfold grantShare
  rw [h]

theorem exec_shareAsk {s : State} {dest src code i : Nat}
    (h : TillDelivers s ⟨dest, src, .shareAsk code i⟩) : exec (.shareAsk dest src code i) s
      = .next (settleAsk src code i (arrived ⟨dest, src, .shareAsk code i⟩ s)) :=
  congrArg Host.Outcome.next (deliverFrame_atTill h _)

/-- A share lent to the asker: the tab PAYING, the grant on its way. -/
theorem settleAsk_lends {s : State} {src code i : Nat} {tb : Tab} {sh : Share}
    (hdeny : denyReason src code i s = none) (ht : tabOf s code = some tb)
    (hs : tb.shares[i]? = some sh) (hc : tb.state ≠ .closed) (ho : sh.state = .opened)
    (hcan : CanSend s 1) : settleAsk src code i s = { putTab (codeSlot code)
        (some { Tab.withShare i { sh with state := .heldRemote src (markOf s src) } tb with
          state := .paying }) s with
      line := { s.line with
        waiting := joinQueue (newItem s src (.shareGrant code i sh.amounts) false) s.line.waiting } } := by
  obtain ⟨-, hin, -⟩ := tabIn_of_tabOf ht
  rw [settleAsk_granted hdeny (shareOf_of ht hs), grantShare_opened ho, setShare_of_locks hin hs hc rfl rfl,
    putTab_frame]
  exact answerFrame_of _ _ hcan

/-- A denied ask sends its SHARE-DENY and does nothing else. -/
theorem asks_denied {s : State} {src code i : Nat} {reason : DenyReason}
    (h : denyReason src code i s = some reason) (hc : CanSend s 1) :
    settleAsk src code i s = { s with line := (settleAsk src code i s).line }
      ∧ Sends s (settleAsk src code i s) src (.shareDeny code i reason) false := by
  rw [settleAsk_denied h hc]
  exact ⟨rfl, rfl⟩

/-- A share that the asker holds already: the grant again, and nothing else. -/
theorem asks_again {s : State} {src code i st m : Nat} {tb : Tab} {sh : Share}
    (hdeny : denyReason src code i s = none) (ht : tabOf s code = some tb)
    (hs : tb.shares[i]? = some sh) (hheld : sh.state = .heldRemote st m) (hcan : CanSend s 1) :
    settleAsk src code i s = { s with line := (settleAsk src code i s).line }
      ∧ Sends s (settleAsk src code i s) src (.shareGrant code i sh.amounts) false := by
  rw [settleAsk_granted hdeny (shareOf_of ht hs), grantShare_held hheld, answerFrame_of _ _ hcan]
  exact ⟨rfl, rfl⟩

/-- A share adrift from the asker is recovered: the tab PAYING, the notice queued, the grant on its way. -/
theorem asks_recovered {s : State} {src code i st m : Nat} {why : Lost} {tb : Tab} {sh : Share}
    (hdeny : denyReason src code i s = none) (ht : tabOf s code = some tb)
    (hs : tb.shares[i]? = some sh) (hc : tb.state ≠ .closed) (had : sh.state = .adrift st m why)
    (hcan : CanSend s 1) :
    settleAsk src code i s = { s with
        tabs := (settleAsk src code i s).tabs, line := (settleAsk src code i s).line
        notices := (settleAsk src code i s).notices, overflow := (settleAsk src code i s).overflow
        link := (settleAsk src code i s).link }
      ∧ (settleAsk src code i s).tabs = (putTab (codeSlot code)
          (some { Tab.withShare i { sh with state := .heldRemote src (markOf s src) } tb with
            state := .paying }) s).tabs
      ∧ Notified s (settleAsk src code i s) (.shareRecovered code i src (markOf s src))
      ∧ Sends s (settleAsk src code i s) src (.shareGrant code i sh.amounts) false := by
  obtain ⟨-, hin, -⟩ := tabIn_of_tabOf ht
  have hnote := notified_notify (s := s) (u := putTab (codeSlot code)
      (some { Tab.withShare i { sh with state := .heldRemote src (markOf s src) } tb with
        state := .paying }) s) (.shareRecovered code i src (markOf s src))
    (by rw [putTab_frame]) (by rw [putTab_frame]) (by rw [putTab_frame]) (by rw [putTab_frame])
  rw [settleAsk_granted hdeny (shareOf_of ht hs), grantShare_adrift had, setShare_of_locks hin hs hc rfl rfl,
    answerFrame_of _ _ (by rw [notify_frame, putTab_frame]; exact hcan)]
  refine ⟨?_, ?_, hnote, ?_⟩
  · rw [notify_frame, putTab_frame]
  · rw [notify_frame]
  · dsimp only
    rw [notify_frame, putTab_frame]
    rfl

/-- Settles O42. -/
theorem askIsDeniedOrGranted : Obligations.AskIsDeniedOrGranted := by
  intro s dest src code i h hcan
  have hcan' := canSend_arrived hcan ⟨dest, src, .shareAsk code i⟩
  have htab := tabIn_arrived ⟨dest, src, .shareAsk code i⟩ s (codeSlot code)
  have hmark := markOf_arrived ⟨dest, src, .shareAsk code i⟩ s src
  have hstation := station_arrived ⟨dest, src, .shareAsk code i⟩ s
  have htabs := arrived_tabs ⟨dest, src, .shareAsk code i⟩ s
  have hnote : ∀ {t : State} {b : NoticeBody},
      Notified (arrived ⟨dest, src, .shareAsk code i⟩ s) t b → Notified s t b := notified_of_arrived
  refine ⟨_, exec_shareAsk h, ?_⟩
  generalize arrived ⟨dest, src, .shareAsk code i⟩ s = s' at *
  rw [heard_mark_eq, ← hmark, ← hstation, ← htab]
  refine ⟨?_, fun h0 h1 => asks_denied (denyReason_wrongHome h0 h1 _ _) hcan',
    fun h0 h1 ht => asks_denied (denyReason_absent h0 h1 ht _ _) hcan', fun tb h0 h1 ht =>
      ⟨fun hc => asks_denied (denyReason_stale h0 h1 ht hc _ _) hcan',
        fun hc hi => asks_denied (denyReason_range h0 h1 ht hc hi _) hcan', fun sh hc hs => ?_⟩⟩
  · rintro rfl
    exact asks_denied (denyReason_null _ _ _) hcan'
  have hof := tabOf_of h1 ht hc
  refine ⟨fun hset => ?_, fun slot hheld => ?_, fun st m hheld hno => ?_, fun st m why hheld hno => ?_,
    fun ho hw => ?_, fun hw hcl => ⟨fun ho => ?_, fun m hheld hm => ?_, fun m why hheld hm => ?_⟩⟩
  · refine asks_denied ((denyReason_share h0 h1 ht hc hs src).trans (if_pos ?_)) hcan'
    rw [isPaid_iff]
    exact hset
  · exact asks_denied (denyReason_held h0 h1 ht hc hs (by rw [hheld]; nofun) (by rw [hheld]; rfl)
      (by rw [hheld]; nofun) (by rw [hheld]; rfl)) hcan'
  · exact asks_denied (denyReason_held h0 h1 ht hc hs (by rw [hheld]; nofun) (by rw [hheld]; rfl)
      (by rw [hheld]; nofun) (by rw [hheld]; exact heldByAsker_false hno)) hcan'
  · exact asks_denied (denyReason_held h0 h1 ht hc hs (by rw [hheld]; nofun) (by rw [hheld]; rfl)
      (by rw [hheld]; nofun) (by rw [hheld]; exact heldByAsker_false hno)) hcan'
  · have hwith : Tab.withdrawing tb = true := by
      obtain ⟨l, hl, hls⟩ := hw
      exact List.any_eq_true.2 ⟨l, hl, by simp [hls]⟩
    refine asks_denied ?_ hcan'
    rw [denyReason_share h0 h1 ht hc hs src, ho, hwith]
    rfl
  · have hdeny := denyReason_none h0 h1 ht hc hs (src := src) (by rw [ho]; nofun) (by rw [ho]; rfl)
      (.inl ho) hw
    obtain ⟨hother, hself⟩ := putTab_changes ht
      (some { Tab.withShare i { sh with state := .heldRemote src (markOf s' src) } tb with
        state := .paying })
    rw [settleAsk_lends hdeny hof hs hcl ho hcan']
    refine ⟨?_, fun j hj => (hother j hj).trans (congrArg (·[j]?) htabs), hself, ?_⟩
    · rw [putTab_frame]
    · rfl
  · have hown : heldByAsker src (markOf s' src) sh.state = true := by
      rw [hheld]
      simpa [heldByAsker] using hm
    have hdeny := denyReason_none h0 h1 ht hc hs (by rw [hheld]; nofun) (by rw [hheld]; rfl)
      (.inr hown) hw
    exact asks_again hdeny hof hs hheld hcan'
  · have hown : heldByAsker src (markOf s' src) sh.state = true := by
      rw [hheld]
      simpa [heldByAsker] using hm
    have hdeny := denyReason_none h0 h1 ht hc hs (by rw [hheld]; nofun) (by rw [hheld]; rfl)
      (.inr hown) hw
    obtain ⟨hframe, htabs', hrec, hsend⟩ := asks_recovered hdeny hof hs hcl hheld hcan'
    obtain ⟨hother, hself⟩ := putTab_changes ht
      (some { Tab.withShare i { sh with state := .heldRemote src (markOf s' src) } tb with
        state := .paying })
    refine ⟨hframe, fun j hj => ?_, ?_, hnote hrec, hsend⟩
    · rw [htabs']
      exact (hother j hj).trans (congrArg (·[j]?) htabs)
    · unfold tabIn
      rw [htabs']
      exact hself

/-! ## SHARE-SETTLE (R142) -/

/-- The total settles so by the tender where the payment step says so, with nothing left over. -/
theorem settle_iff (total settled : Nat) (k : Tender) (adj : Int) : settle total k = (settled, adj)
    ↔ paymentStep total (Tender.code k) settled = .ok (k, settled, adj, 0) := by
  cases k with
  | card =>
    show (total, 0) = (settled, adj) ↔ Except.ok (Tender.card, total, 0, 0) = Except.ok _
    simp
  | cash =>
    show roundCash total = (settled, adj) ↔ paymentStep total 0 settled = _
    rw [paymentStep_cash]
    constructor
    · intro h
      simp [h]
    · intro h
      split at h
      · cases h
      · simp only [Except.ok.injEq, Prod.mk.injEq, true_and] at h
        exact Prod.ext h.1 h.2.1

/-- The share is lent to this station. -/
def LentTo (src : Nat) (st : ShareState) : Prop :=
  ∃ m : Nat, st = .heldRemote src m ∨ ∃ why : Lost, st = .adrift src m why

theorem lentTo_iff (src : Nat) (st : ShareState) : lentTo st = some src ↔ LentTo src st := by
  unfold LentTo
  cases st <;> simp [lentTo, eq_comm]

theorem paidBy_iff (src : Nat) (st : ShareState) :
    paidBy src st = true ↔ ∃ p : Payment, st = .paid p ∧ p.station = src := by
  cases st <;> simp [paidBy]

theorem exec_shareSettle {s : State} {dest src code i settled : Nat} {k : Tender} {adj : Int}
    (h : TillDelivers s ⟨dest, src, .shareSettle code i k settled adj⟩) :
    exec (.shareSettle dest src code i k settled adj) s = .next (settleSettle src code i k settled adj
      (arrived ⟨dest, src, .shareSettle code i k settled adj⟩ s)) :=
  congrArg Host.Outcome.next (deliverFrame_atTill h _)

theorem exec_shareReturn {s : State} {dest src code i : Nat}
    (h : TillDelivers s ⟨dest, src, .shareReturn code i⟩) : exec (.shareReturn dest src code i) s
      = .next (settleReturn src code i (arrived ⟨dest, src, .shareReturn code i⟩ s)) :=
  congrArg Host.Outcome.next (deliverFrame_atTill h _)

/-- A settlement from the share's holder that agrees with its total. -/
theorem settleSettle_paid {s : State} {src code i settled : Nat} {k : Tender} {adj : Int} {sh : Share}
    (hs : shareOf s code i = some sh) (hlent : LentTo src sh.state)
    (hp : paymentStep sh.amounts.total (Tender.code k) settled = .ok (k, settled, adj, 0)) :
    settleSettle src code i k settled adj s
      = offerFrame src (.shareClose code i .paidRecorded) false
        (notify (.remotePaid code i src k settled)
          (setShare (codeSlot code) i (.paid ⟨k, settled, adj, src, none, now s⟩) s)) := by
  unfold settleSettle
  rw [hs]
  exact if_pos ⟨(lentTo_iff _ _).2 hlent, (settle_iff _ _ _ _).2 hp⟩

/-- A settlement repeated: it is recorded already. -/
theorem settleSettle_again {s : State} {src code i : Nat} {sh : Share} {p : Payment}
    (hs : shareOf s code i = some sh) (hp : sh.state = .paid p) (hst : p.station = src) (k : Tender)
    (settled : Nat) (adj : Int) : settleSettle src code i k settled adj s
      = offerFrame src (.shareClose code i .paidRecorded) false s := by
  unfold settleSettle
  rw [hs]
  refine (if_neg ?_).trans (if_pos ((paidBy_iff _ _).2 ⟨p, hp, hst⟩))
  rintro ⟨h, -⟩
  obtain ⟨m, h | ⟨why, h⟩⟩ := (lentTo_iff _ _).1 h <;> rw [hp] at h <;> cases h

/-- Any other settlement conflicts. -/
theorem settleSettle_conflict {s : State} {src code i settled : Nat} {k : Tender} {adj : Int} {sh : Share}
    (hs : shareOf s code i = some sh)
    (h : LentTo src sh.state
          ∧ paymentStep sh.amounts.total (Tender.code k) settled ≠ .ok (k, settled, adj, 0)
        ∨ ¬LentTo src sh.state ∧ ∀ p : Payment, sh.state = .paid p → p.station ≠ src) :
    settleSettle src code i k settled adj s
      = offerFrame src (.shareClose code i .conflict) false
        (notify (.conflict code i src k settled (byte (ShareState.code sh.state))) s) := by
  have hpaid : ¬paidBy src sh.state = true := by
    rw [paidBy_iff]
    rintro ⟨p, hp, hst⟩
    rcases h with ⟨⟨m, h | ⟨why, h⟩⟩, -⟩ | ⟨-, h⟩
    · rw [hp] at h
      cases h
    · rw [hp] at h
      cases h
    · exact h p hp hst
  have hagree : ¬(lentTo sh.state = some src ∧ settle sh.amounts.total k = (settled, adj)) := by
    rw [lentTo_iff, settle_iff]
    rintro ⟨h1, h2⟩
    rcases h with ⟨-, h⟩ | ⟨h, -⟩
    · exact h h2
    · exact h h1
  unfold settleSettle
  rw [hs]
  refine (if_neg hagree).trans ((if_neg hpaid).trans ?_)
  unfold settleConflicts conflictState
  rw [hs]

/-- A settlement for no share conflicts too, with a free value for the share's state (log 23). -/
theorem settleSettle_noShare {s : State} {code i : Nat} (hs : shareOf s code i = none) (src : Nat)
    (k : Tender) (settled : Nat) (adj : Int) : settleSettle src code i k settled adj s
      = offerFrame src (.shareClose code i .conflict) false
        (notify (.conflict code i src k settled (Config.freeByte s.free)) { s with free := s.free + 1 }) := by
  unfold settleSettle
  rw [hs]
  show settleConflicts src code i k settled s = _
  unfold settleConflicts conflictState
  rw [hs]

theorem shareOf_none {s : State} {code i : Nat}
    (h : ∀ tb : Tab, tabOf s code = some tb → tb.shares.length ≤ i) : shareOf s code i = none := by
  unfold shareOf
  cases ht : tabOf s code with
  | none => rfl
  | some tb => exact List.getElem?_eq_none (h tb ht)

theorem tabOf_arrived (f : Frame) (s : State) (code : Nat) : tabOf (arrived f s) code = tabOf s code := by
  unfold tabOf
  rw [station_arrived, tabIn_arrived]

theorem shareOf_arrived (f : Frame) (s : State) (code i : Nat) :
    shareOf (arrived f s) code i = shareOf s code i := by
  unfold shareOf
  rw [tabOf_arrived]

/-- A notice and then an answer: what they leave of a state. -/
theorem noticed_and_answered {u : State} {dest : Nat} {body : FrameBody} (b : NoticeBody)
    (hcan : CanSend u 1) :
    offerFrame dest body false (notify b u) = { u with
        line := (offerFrame dest body false (notify b u)).line, notices := (notify b u).notices
        overflow := (notify b u).overflow, link := (notify b u).link }
      ∧ Sends u (offerFrame dest body false (notify b u)) dest body false := by
  rw [answerFrame_of _ _ (by rw [notify_frame]; exact hcan)]
  refine ⟨?_, ?_⟩
  · rw [notify_frame]
  · rw [notify_frame]
    rfl


/-- A settlement recorded: the share paid, the tab by its other shares, lines and tickets, REMOTE-PAID after
a TAB-FREED, and the answer on its way. -/
theorem remotely_paid {s : State} {src code i settled : Nat} {k : Tender} {adj : Int} {tb : Tab} {sh : Share}
    (hcan : CanSend s 1) (ht : tabOf s code = some tb) (hs : tb.shares[i]? = some sh)
    (hlent : LentTo src sh.state)
    (hp : paymentStep sh.amounts.total (Tender.code k) settled = .ok (k, settled, adj, 0))
    (hc : tb.state ≠ .closed) (t : State) (htdef : t = settleSettle src code i k settled adj s) :
    t = { s with tabs := t.tabs, line := t.line, notices := t.notices, overflow := t.overflow,
                 link := t.link }
      ∧ OtherSlots s t (codeSlot code)
      ∧ (t.tabs[codeSlot code]?).map TabSlot.issue = (s.tabs[codeSlot code]?).map TabSlot.issue
      ∧ Sends s t src (.shareClose code i .paidRecorded) false
      ∧ (OwedBeside tb i → tabIn t (codeSlot code) = some
            { Tab.paidShare i sh ⟨k, settled, adj, src, none, now s⟩ tb with state := .paying }
          ∧ Notified s t (.remotePaid code i src k settled))
      ∧ (SettledBeside tb i →
        ((∃ l ∈ tb.lines, l.state ≠ .served ∧ l.state ≠ .void ∧ l.state ≠ .waste)
            ∨ (∃ x ∈ s.tickets, x.slot = codeSlot code ∧ x.issue = codeIssue code) →
          tabIn t (codeSlot code) = some
              { Tab.paidShare i sh ⟨k, settled, adj, src, none, now s⟩ tb with state := .closed }
            ∧ Notified s t (.remotePaid code i src k settled))
        ∧ ((∀ l ∈ tb.lines, l.state = .served ∨ l.state = .void ∨ l.state = .waste) →
          (∀ x ∈ s.tickets, x.slot = codeSlot code → x.issue ≠ codeIssue code) →
          tabIn t (codeSlot code) = none
            ∧ Notified (notify (.tabFreed code) s) t (.remotePaid code i src k settled))) := by
  obtain ⟨-, hin, rfl⟩ := tabIn_of_tabOf ht
  obtain ⟨⟨hother, hissue⟩, howed, hsettled⟩ :=
    paidShare_of ⟨k, settled, adj, src, none, now s⟩ hin hs hc
  have hframe := setShare_frame (codeSlot tb.code) i (.paid ⟨k, settled, adj, src, none, now s⟩) s
  have hset := settleSettle_paid (shareOf_of ht hs) hlent hp
  rw [hset] at htdef
  generalize setShare (codeSlot tb.code) i (.paid ⟨k, settled, adj, src, none, now s⟩) s = u at *
  obtain ⟨hsame, hsend⟩ := noticed_and_answered (u := u) (dest := src)
    (body := .shareClose tb.code i .paidRecorded) (.remotePaid tb.code i src k settled)
    (by rw [hframe]; exact hcan)
  rw [← htdef] at hsame hsend
  have htabs : t.tabs = u.tabs := by rw [hsame]
  have hnote : t.notices = (notify (.remotePaid tb.code i src k settled) u).notices
      ∧ t.overflow = (notify (.remotePaid tb.code i src k settled) u).overflow
      ∧ t.link = (notify (.remotePaid tb.code i src k settled) u).link := by
    rw [hsame]
    exact ⟨rfl, rfl, rfl⟩
  have hafter : ∀ v : State, u.notices = v.notices → u.overflow = v.overflow → u.link = v.link →
      u.clock = v.clock → Notified v t (.remotePaid tb.code i src k settled) := by
    intro v hn ho hl hclk
    have hnu : Notified u t (.remotePaid tb.code i src k settled) := ⟨⟨hnote.1, hnote.2.1⟩, hnote.2.2⟩
    exact hnu.congr hn ho hl hclk
  have hclock : u.clock = s.clock := by rw [hframe]
  have htickets : u.tickets = s.tickets := by rw [hframe]
  have hintab : tabIn t (codeSlot tb.code) = tabIn u (codeSlot tb.code) := by
    unfold tabIn
    rw [htabs]
  refine ⟨?_, fun j hj => ?_, ?_, ?_, fun h => ?_, fun h => ⟨fun hkept => ?_, fun hlines htick => ?_⟩⟩
  · rw [hsame, hframe]
  · rw [htabs]
    exact hother j hj
  · rw [htabs]
    exact hissue
  · rw [hframe] at hsend
    exact hsend
  · obtain ⟨hself, hu⟩ := howed h
    exact ⟨hintab.trans hself, hafter s (by rw [hu]) (by rw [hu]) (by rw [hu]) hclock⟩
  · obtain ⟨hself, hn, ho, hl⟩ := tabChecked_kept (hsettled h) htickets hkept
    exact ⟨hintab.trans hself, hafter s hn ho hl hclock⟩
  · obtain ⟨hnone, ⟨hn, ho⟩, hl⟩ := tabChecked_freed (hsettled h) htickets rfl hlines htick
    refine ⟨hintab.trans hnone, hafter _ hn ho hl (hclock.trans ?_)⟩
    rw [notify_frame]

/-! ## SHARE-RETURN (R143) -/

theorem settleReturn_lent {s : State} {src code i : Nat} {sh : Share} (hs : shareOf s code i = some sh)
    (hlent : LentTo src sh.state) : settleReturn src code i s
      = offerFrame src (.shareClose code i .returnRecorded) false
        (notify (.remoteReturned code i src) (setShare (codeSlot code) i .opened s)) := by
  unfold settleReturn
  rw [hs]
  simp only [(lentTo_iff _ _).2 hlent, if_true]

/-- A return of a share not lent to its source is only answered. -/
theorem settleReturn_other {s : State} {src code i : Nat} (hcan : CanSend s 1)
    (h : ∀ sh, shareOf s code i = some sh → ¬LentTo src sh.state) :
    settleReturn src code i s = { s with line := (settleReturn src code i s).line }
      ∧ Sends s (settleReturn src code i s) src (.shareClose code i .returnRecorded) false := by
  have hret : settleReturn src code i s = offerFrame src (.shareClose code i .returnRecorded) false s := by
    unfold settleReturn
    cases hs : shareOf s code i with
    | none => rfl
    | some sh =>
      have hno : ¬lentTo sh.state = some src := fun hl => h sh hs ((lentTo_iff _ _).1 hl)
      simp only [hno, if_false]
  rw [hret, answerFrame_of _ _ hcan]
  exact ⟨rfl, rfl⟩

/-- The same of a second notice. -/
theorem notified_after_notice {f : Frame} {s t : State} {b c : NoticeBody}
    (h : Notified (notify c (arrived f s)) t b) : Notified (notify c s) t b := by
  obtain ⟨h1, h2, h3⟩ := notify_congr c (arrived_notices f s) (arrived_overflow f s)
    (arrived_link f s) (arrived_clock f s)
  exact h.congr h1 h2 h3 (by rw [notify_clock, notify_clock, arrived_clock])

/-- Settles O43. -/
theorem homeRecordsSettlements : Obligations.HomeRecordsSettlements := by
  refine ⟨fun s dest src code i settled k adj tb sh h hcan ht hs => ?_,
    fun s dest src code i settled k adj h hcan hno => ?_,
    fun s dest src code i tb sh h hcan ht hs hc => ?_, fun s dest src code i h hcan hno => ?_⟩
  · have hcan' := canSend_arrived hcan ⟨dest, src, .shareSettle code i k settled adj⟩
    have ht' := (tabOf_arrived ⟨dest, src, .shareSettle code i k settled adj⟩ s code).trans ht
    have htabs := arrived_tabs ⟨dest, src, .shareSettle code i k settled adj⟩ s
    have htickets := arrived_tickets ⟨dest, src, .shareSettle code i k settled adj⟩ s
    have hnow := now_arrived ⟨dest, src, .shareSettle code i k settled adj⟩ s
    have hnote : ∀ {t : State} {b : NoticeBody},
        Notified (arrived ⟨dest, src, .shareSettle code i k settled adj⟩ s) t b → Notified s t b :=
      notified_of_arrived
    have hfreed : ∀ {t : State} {b c : NoticeBody},
        Notified (notify c (arrived ⟨dest, src, .shareSettle code i k settled adj⟩ s)) t b →
          Notified (notify c s) t b := notified_after_notice
    refine ⟨_, exec_shareSettle h, ?_⟩
    generalize arrived ⟨dest, src, .shareSettle code i k settled adj⟩ s = s' at *
    rw [← htickets, ← hnow, ← htabs]
    refine ⟨fun hlent hp howe hc => ?_, fun hlent hp hall hc => ?_, fun p hp hst => ?_, fun hconf => ?_⟩
    · obtain ⟨h1, h2, -, h4, h5, -⟩ := remotely_paid hcan' ht' hs hlent hp hc _ rfl
      obtain ⟨h6, h7⟩ := h5 howe
      exact ⟨h1, fun j hj => (h2 j hj).trans (congrArg (·[j]?) htabs), h6, hnote h7, h4⟩
    · obtain ⟨h1, h2, h3, h4, -, h6⟩ := remotely_paid hcan' ht' hs hlent hp hc _ rfl
      obtain ⟨h7, h8⟩ := h6 hall
      refine ⟨h1, fun j hj => (h2 j hj).trans (congrArg (·[j]?) htabs), h3, h4, fun hkept => ?_,
        fun hlines htick => ?_⟩
      · obtain ⟨h9, h10⟩ := h7 hkept
        exact ⟨h9, hnote h10⟩
      · obtain ⟨h9, h10⟩ := h8 hlines htick
        exact ⟨h9, hfreed h10⟩
    · rw [settleSettle_again (shareOf_of ht' hs) hp hst, answerFrame_of _ _ hcan']
      exact ⟨rfl, rfl⟩
    · obtain ⟨hsame, hsend⟩ := noticed_and_answered (dest := src) (body := .shareClose code i .conflict)
        (.conflict code i src k settled (byte (ShareState.code sh.state))) hcan'
      rw [settleSettle_conflict (shareOf_of ht' hs) hconf]
      refine ⟨?_, hnote ?_, hsend⟩
      · rw [hsame]
      · rw [hsame]
        exact ⟨⟨rfl, rfl⟩, rfl⟩
  · have hcan' := canSend_arrived hcan ⟨dest, src, .shareSettle code i k settled adj⟩
    have hs : shareOf (arrived ⟨dest, src, .shareSettle code i k settled adj⟩ s) code i = none := by
      rw [shareOf_arrived]
      exact shareOf_none hno
    rw [exec_shareSettle h, settleSettle_noShare hs]
    have hnote : ∀ {t : State} {b : NoticeBody},
        Notified (arrived ⟨dest, src, .shareSettle code i k settled adj⟩ s) t b → Notified s t b :=
      notified_of_arrived
    generalize arrived ⟨dest, src, .shareSettle code i k settled adj⟩ s = s' at *
    obtain ⟨hsame, hsend⟩ := noticed_and_answered (u := { s' with free := s'.free + 1 }) (dest := src)
      (body := .shareClose code i .conflict)
      (.conflict code i src k settled (Config.freeByte s'.free)) hcan'
    refine ⟨_, Config.freeByte s'.free, rfl, ?_, hnote ?_, hsend⟩
    · rw [hsame]
    · rw [hsame]
      exact notified_notify (u := { s' with free := s'.free + 1 }) _ rfl rfl rfl rfl
  · have hcan' := canSend_arrived hcan ⟨dest, src, .shareReturn code i⟩
    have ht' := (tabOf_arrived ⟨dest, src, .shareReturn code i⟩ s code).trans ht
    have htabs := arrived_tabs ⟨dest, src, .shareReturn code i⟩ s
    have hnote : ∀ {t : State} {b : NoticeBody},
        Notified (arrived ⟨dest, src, .shareReturn code i⟩ s) t b → Notified s t b :=
      notified_of_arrived
    refine ⟨_, exec_shareReturn h, ?_⟩
    generalize arrived ⟨dest, src, .shareReturn code i⟩ s = s' at *
    by_cases hlent : LentTo src sh.state
    · obtain ⟨-, hin, -⟩ := tabIn_of_tabOf ht'
      have hopen := setShare_opened hin hs hc
      obtain ⟨hother, hself⟩ := putTab_changes hin
        (some { Tab.withShare i { sh with state := .opened } tb with
          state := if Tab.locked (Tab.withShare i { sh with state := .opened } tb) then .paying else .opened })
      rw [← hopen] at hother hself
      have hframe : setShare (codeSlot code) i .opened s'
          = { s' with tabs := (setShare (codeSlot code) i .opened s').tabs } := by
        rw [hopen]
        exact putTab_frame _ _ _
      rw [settleReturn_lent (shareOf_of ht' hs) hlent]
      generalize setShare (codeSlot code) i .opened s' = u at *
      obtain ⟨hsame, hsend⟩ := noticed_and_answered (u := u) (dest := src)
        (body := .shareClose code i .returnRecorded) (.remoteReturned code i src)
        (by rw [hframe]; exact hcan')
      rw [hframe] at hsend
      refine ⟨?_, fun _ => ⟨?_, fun j hj => ?_, ?_, hnote ?_⟩, fun hno => absurd hlent hno⟩
      · rw [hframe]
        exact hsend
      · rw [hsame, hframe]
      · rw [hsame, ← htabs]
        exact hother j hj
      · rw [hsame]
        exact hself
      · rw [hsame]
        exact notified_notify _ (by rw [hframe]) (by rw [hframe]) (by rw [hframe]) (by rw [hframe])
    · obtain ⟨h1, h2⟩ := settleReturn_other hcan' (src := src) (code := code) (i := i) (by
        intro x hx
        rw [shareOf_of ht' hs] at hx
        cases hx
        exact hlent)
      exact ⟨h2, fun hyes => absurd hyes hlent, fun _ => h1⟩
  · obtain ⟨h1, h2⟩ := settleReturn_other (src := src) (code := code) (i := i)
      (canSend_arrived hcan ⟨dest, src, .shareReturn code i⟩) (by
        intro sh hsh hlent
        rw [shareOf_arrived] at hsh
        unfold shareOf at hsh
        obtain ⟨tb, ht, hs⟩ := Option.bind_eq_some_iff.1 hsh
        obtain ⟨m, hm | ⟨why, hm⟩⟩ := hlent
        · exact (hno tb sh ht hs).1 m hm
        · exact (hno tb sh ht hs).2 m why hm)
    exact ⟨_, exec_shareReturn h, h1, h2⟩

end Sys2Proof.Machine
end

section
-- One proof at a time: side by side, their threads' stacks outgrow the check's memory.
set_option Elab.async false
/-! SUPPORT. The borrowing till: the answers to its frames and the ends of its waits (R148, R150 to R152). -/

namespace Sys2Proof.Machine

/-! ## Answers from the home (R148, R152) -/

theorem borrowedOf_arrived (f : Frame) (s : State) (code i : Nat) :
    borrowedOf (arrived f s) code i = borrowedOf s code i := by
  unfold borrowedOf
  rw [arrived_borrowed]

theorem matchBorrowed_of {s : State} {src code i : Nat} {b : Borrowed} (hsrc : src = codeHome code)
    (hb : borrowedOf s code i = some b) : matchBorrowed src code i s = some b := by
  unfold matchBorrowed
  rw [if_pos hsrc, hb]

theorem matchBorrowed_none {s : State} {src code i : Nat}
    (h : src ≠ codeHome code ∨ borrowedOf s code i = none) : matchBorrowed src code i s = none := by
  unfold matchBorrowed
  rcases h with h | h
  · exact if_neg h
  · rw [h]
    exact ite_self none

theorem exec_shareGrant {s : State} {dest src code i : Nat} {a : Amounts}
    (h : TillDelivers s ⟨dest, src, .shareGrant code i a⟩) : exec (.shareGrant dest src code i a) s
      = .next (settleGrant src code i a (arrived ⟨dest, src, .shareGrant code i a⟩ s)) :=
  congrArg Host.Outcome.next (deliverFrame_atTill h _)

theorem exec_shareDeny {s : State} {dest src code i : Nat} {reason : DenyReason}
    (h : TillDelivers s ⟨dest, src, .shareDeny code i reason⟩) : exec (.shareDeny dest src code i reason) s
      = .next (settleDeny src code i reason (arrived ⟨dest, src, .shareDeny code i reason⟩ s)) :=
  congrArg Host.Outcome.next (deliverFrame_atTill h _)

theorem exec_shareClose {s : State} {dest src code i : Nat} {o : CloseOutcome}
    (h : TillDelivers s ⟨dest, src, .shareClose code i o⟩) : exec (.shareClose dest src code i o) s
      = .next (settleClose src code i o (arrived ⟨dest, src, .shareClose code i o⟩ s)) :=
  congrArg Host.Outcome.next (deliverFrame_atTill h _)

/-- The entry a grant makes BORROWED (R148). -/
def Borrowed.granting (a : Amounts) (time : Time) (b : Borrowed) : Borrowed :=
  { b with state := .borrowed, amounts := some a, granted := some time, wait := .hold time }

/-- The entry a CONFLICT leaves (R152). -/
def Borrowed.orphan (b : Borrowed) : Borrowed :=
  { b with state := .orphaned, wait := .none, paused := false }

theorem settleGrant_asking {s : State} {src code i : Nat} {b : Borrowed} (hsrc : src = codeHome code)
    (hb : borrowedOf s code i = some b) (ha : b.state = .asking) (a : Amounts) :
    settleGrant src code i a s = notify (.shareGranted code i a.total)
      (updBorrowed code i (Borrowed.granting a (now s)) (cancelWaiting (ofBorrowed code i) s)) := by
  unfold settleGrant
  rw [matchBorrowed_of hsrc hb]
  exact if_pos ha

theorem settleGrant_unmatched {s : State} {src code i : Nat}
    (h : src ≠ codeHome code ∨ borrowedOf s code i = none) (a : Amounts) :
    settleGrant src code i a s = offerFrame src (.shareReturn code i) false s := by
  unfold settleGrant
  rw [matchBorrowed_none h]

theorem settleGrant_other {s : State} {src code i : Nat} {b : Borrowed} (hsrc : src = codeHome code)
    (hb : borrowedOf s code i = some b) (ha : b.state ≠ .asking) (a : Amounts) :
    settleGrant src code i a s = s := by
  unfold settleGrant
  rw [matchBorrowed_of hsrc hb]
  exact if_neg ha

theorem settleDeny_asking {s : State} {src code i : Nat} {b : Borrowed} (hsrc : src = codeHome code)
    (hb : borrowedOf s code i = some b) (ha : b.state = .asking) (reason : DenyReason) :
    settleDeny src code i reason s = notify (.shareDenied code i reason) (freeBorrowed code i s) := by
  unfold settleDeny
  rw [matchBorrowed_of hsrc hb]
  exact if_pos ha

theorem settleDeny_other {s : State} {src code i : Nat}
    (h : src = codeHome code → ∀ b, borrowedOf s code i = some b → b.state ≠ .asking)
    (reason : DenyReason) : settleDeny src code i reason s = s := by
  unfold settleDeny
  cases hm : matchBorrowed src code i s with
  | none => rfl
  | some b =>
    unfold matchBorrowed at hm
    split at hm
    · next hsrc => exact if_neg (h hsrc b hm)
    · cases hm

theorem settleClose_paid {s : State} {src code i : Nat} {b : Borrowed} {p : Taken}
    (hsrc : src = codeHome code) (hb : borrowedOf s code i = some b) (hs : b.state = .confirming)
    (hp : b.taken = some p) : settleClose src code i .paidRecorded s
      = notify (.settleConfirmed code i p.tender p.settled) (freeBorrowed code i s) := by
  unfold settleClose
  rw [matchBorrowed_of hsrc hb]
  simp only [hs, Borrowed.reported, hp]

theorem settleClose_returned {s : State} {src code i : Nat} {b : Borrowed} (hsrc : src = codeHome code)
    (hb : borrowedOf s code i = some b) (hs : b.state = .returning) :
    settleClose src code i .returnRecorded s
      = notify (.returnConfirmed code i) (freeBorrowed code i s) := by
  unfold settleClose
  rw [matchBorrowed_of hsrc hb]
  simp only [hs]

theorem settleClose_conflict {s : State} {src code i : Nat} {b : Borrowed} {p : Taken}
    (hsrc : src = codeHome code) (hb : borrowedOf s code i = some b) (hs : b.state = .confirming)
    (hp : b.taken = some p) : settleClose src code i .conflict s
      = notify (.settleConflict code i b.slot p.tender p.settled)
        (updBorrowed code i Borrowed.orphan s) := by
  unfold settleClose
  rw [matchBorrowed_of hsrc hb]
  simp only [hs, Borrowed.reported, hp]
  rfl

theorem settleClose_other {s : State} {src code i : Nat} {o : CloseOutcome}
    (h : src = codeHome code → ∀ b, borrowedOf s code i = some b →
      b.state ≠ if o = .returnRecorded then .returning else .confirming) :
    settleClose src code i o s = s := by
  unfold settleClose
  cases hm : matchBorrowed src code i s with
  | none => rfl
  | some b =>
    unfold matchBorrowed at hm
    split at hm
    · next hsrc =>
      have hno := h hsrc b hm
      cases o <;> cases hs : b.state <;> simp_all
    · cases hm

/-- A granted or orphaned entry, beside the frames it cancels and its notice. -/
theorem changedBorrowed {s : State} {code i : Nat} {b : Borrowed} {f : Borrowed → Borrowed}
    (hb : borrowedOf s code i = some b) (hf : ∀ b, (f b).code = b.code ∧ (f b).share = b.share)
    (body : NoticeBody) :
    notify body (updBorrowed code i f s) = { s with
        borrowed := (notify body (updBorrowed code i f s)).borrowed
        notices := (notify body (updBorrowed code i f s)).notices
        overflow := (notify body (updBorrowed code i f s)).overflow
        link := (notify body (updBorrowed code i f s)).link }
      ∧ borrowedOf (notify body (updBorrowed code i f s)) code i = some (f b)
      ∧ Notified s (notify body (updBorrowed code i f s)) body := by
  refine ⟨?_, ?_, notified_notify _ rfl rfl rfl rfl⟩
  · rw [notify_frame]
    rfl
  · rw [notify_frame]
    exact (borrowedOf_updBorrowed_of hb hf).1

/-- Settles O44. -/
theorem borrowerTakesAnswers : Obligations.BorrowerTakesAnswers := by
  refine ⟨fun s dest src code i b hsrc _ hb => ⟨fun a h ha => ?_, fun reason h ha => ?_,
      fun p h hs hp => ?_, fun h hs => ?_, fun p h hs hp => ?_⟩,
    fun s dest src code i a h hno hcan => ?_,
    fun s dest src code i => ⟨fun a b h hsrc hb ha => ?_, fun reason h hno => ?_, fun o h hno => ?_⟩⟩
  · have hb' := (borrowedOf_arrived ⟨dest, src, .shareGrant code i a⟩ s code i).trans hb
    obtain ⟨hframe, hself, hnote⟩ := changedBorrowed
      (s := cancelWaiting (ofBorrowed code i) (arrived ⟨dest, src, .shareGrant code i a⟩ s)) hb'
      (f := Borrowed.granting a (now s)) (by exact fun _ => ⟨rfl, rfl⟩) (.shareGranted code i a.total)
    rw [exec_shareGrant h, settleGrant_asking hsrc hb' ha, now_arrived]
    refine ⟨_, rfl, ?_, hself, ?_, notified_of_arrived (hnote.congr rfl rfl rfl rfl)⟩
    · rw [hframe]
      rfl
    · rw [hframe]
      rfl
  · have hb' := (borrowedOf_arrived ⟨dest, src, .shareDeny code i reason⟩ s code i).trans hb
    obtain ⟨hframe, hfree, hnote⟩ := freedWithNotice code i (.shareDenied code i reason)
      (arrived ⟨dest, src, .shareDeny code i reason⟩ s)
    rw [exec_shareDeny h, settleDeny_asking hsrc hb' ha]
    exact ⟨_, rfl, hframe, hfree, notified_of_arrived hnote⟩
  · have hb' := (borrowedOf_arrived ⟨dest, src, .shareClose code i .paidRecorded⟩ s code i).trans hb
    obtain ⟨hframe, hfree, hnote⟩ := freedWithNotice code i (.settleConfirmed code i p.tender p.settled)
      (arrived ⟨dest, src, .shareClose code i .paidRecorded⟩ s)
    rw [exec_shareClose h, settleClose_paid hsrc hb' hs hp]
    exact ⟨_, rfl, hframe, hfree, notified_of_arrived hnote⟩
  · have hb' := (borrowedOf_arrived ⟨dest, src, .shareClose code i .returnRecorded⟩ s code i).trans hb
    obtain ⟨hframe, hfree, hnote⟩ := freedWithNotice code i (.returnConfirmed code i)
      (arrived ⟨dest, src, .shareClose code i .returnRecorded⟩ s)
    rw [exec_shareClose h, settleClose_returned hsrc hb' hs]
    exact ⟨_, rfl, hframe, hfree, notified_of_arrived hnote⟩
  · have hb' := (borrowedOf_arrived ⟨dest, src, .shareClose code i .conflict⟩ s code i).trans hb
    obtain ⟨hframe, hself, hnote⟩ := changedBorrowed hb' (f := Borrowed.orphan)
      (by exact fun _ => ⟨rfl, rfl⟩) (.settleConflict code i b.slot p.tender p.settled)
    rw [exec_shareClose h, settleClose_conflict hsrc hb' hs hp]
    exact ⟨_, rfl, hframe, hself, notified_of_arrived hnote⟩
  · have hcan' := canSend_arrived hcan ⟨dest, src, .shareGrant code i a⟩
    rw [exec_shareGrant h, settleGrant_unmatched (by rw [borrowedOf_arrived]; exact hno),
      answerFrame_of _ _ hcan']
    exact ⟨_, rfl, rfl, rfl⟩
  · rw [exec_shareGrant h,
      settleGrant_other hsrc ((borrowedOf_arrived _ s code i).trans hb) ha]
  · rw [exec_shareDeny h, settleDeny_other (by simpa only [borrowedOf_arrived] using hno)]
  · rw [exec_shareClose h, settleClose_other (by simpa only [borrowedOf_arrived] using hno)]

/-! ## Waits (R148, R150, R151) -/

theorem exec_askWaitExpiry {s : State} {code i : Nat} {b : Borrowed} {start : Time}
    (hb : borrowedOf s code i = some b) (hs : b.state = .asking) (hw : b.wait = .ask start)
    (hdue : Due s start 300) : exec (.askWaitExpiry code i) s = .next (askWaitOut b s) := by
  show execAskWaitExpiry code i s = _
  unfold execAskWaitExpiry
  rw [hb]
  simp only [hs, hw]
  rw [advanceUntil_of_due (limit := askWait) hdue]

theorem exec_holdLimitExpiry {s : State} {code i : Nat} {b : Borrowed} {start : Time}
    (hb : borrowedOf s code i = some b) (hs : b.state = .borrowed) (hw : b.wait = .hold start)
    (hdue : Due s start 180000) : exec (.holdLimitExpiry code i) s
      = .next (returnBorrowed b (notify (.holdExpired b.code b.share b.slot) s)) := by
  show execHoldLimitExpiry code i s = _
  unfold execHoldLimitExpiry
  rw [hb]
  simp only [hs, hw]
  rw [advanceUntil_of_due (limit := holdLimit) hdue]

theorem exec_repeatWaitExpiry {s : State} {code i : Nat} {b : Borrowed} {start : Time}
    (hb : borrowedOf s code i = some b) (hs : b.state = .returning ∨ b.state = .confirming)
    (hw : b.wait = .again start) (hdue : Due s start 1000) :
    exec (.repeatWaitExpiry code i) s = .next (repeatWaitOut b s) := by
  show execRepeatWaitExpiry code i s = _
  unfold execRepeatWaitExpiry
  rw [hb]
  rcases hs with hs | hs <;> simp only [hs, hw] <;>
    rw [advanceUntil_of_due (limit := repeatWait) hdue]

/-- The entry of which another ask goes out (R148). -/
def Borrowed.askAgain (b : Borrowed) : Borrowed := { b with attempts := b.attempts + 1, wait := .none }

theorem askWaitOut_next {s : State} {b : Borrowed} (ha : b.attempts < 3) (hcan : CanSend s 1) :
    askWaitOut b s = { s with
      borrowed := (updBorrowed b.code b.share Borrowed.askAgain s).borrowed
      line := { s.line with
        waiting := joinQueue (newItem s (codeHome b.code) (.shareAsk b.code b.share) true)
          s.line.waiting } } := by
  have hask : askWaitOut b s = offerFrame (codeHome b.code) (.shareAsk b.code b.share) true
      (updBorrowed b.code b.share Borrowed.askAgain s) := if_pos ha
  rw [hask]
  exact offerFrame_of_free (by exact hcan.1) (by exact hcan.2)

theorem askWaitOut_last {b : Borrowed} (ha : b.attempts = 3) (s : State) :
    askWaitOut b s = notify (.askFailed b.code b.share) (freeBorrowed b.code b.share s) :=
  if_neg (by rw [ha]; exact Nat.lt_irrefl 3)

theorem repeatBody_returning {b : Borrowed} (h : b.state = .returning) :
    repeatBody b = .shareReturn b.code b.share := by
  unfold repeatBody
  rw [h]
  rfl

theorem repeatBody_confirming {b : Borrowed} {x : Taken} (h : b.state = .confirming)
    (hx : b.taken = some x) :
    repeatBody b = .shareSettle b.code b.share x.tender x.settled x.adjustment := by
  unfold repeatBody settleBody
  rw [h, hx]
  rfl

theorem repeatWaitOut_sends {s : State} {b : Borrowed} (h : b.homeSilent = false)
    (hno : ∀ x ∈ s.line.waiting, ofBorrowed b.code b.share x = false) :
    repeatWaitOut b s = sendRepeat b s := by
  have hwaits : frameWaits s b.code b.share = false := by
    unfold frameWaits
    simpa using hno
  unfold repeatWaitOut
  rw [h, hwaits]
  rfl

theorem repeatWaitOut_beside {s : State} {b : Borrowed} (h : b.homeSilent = false)
    (hx : ∃ x ∈ s.line.waiting, ofBorrowed b.code b.share x = true) :
    repeatWaitOut b s
      = updBorrowed b.code b.share (fun b => { b with wait := .again (now s) }) s := by
  have hwaits : frameWaits s b.code b.share = true := by
    unfold frameWaits
    simpa using hx
  unfold repeatWaitOut
  rw [h, hwaits]
  rfl

theorem repeatWaitOut_silent {b : Borrowed} (h : b.homeSilent = true) (s : State) :
    repeatWaitOut b s
      = updBorrowed b.code b.share (fun b => { b with wait := .none, paused := true }) s := by
  unfold repeatWaitOut
  rw [h]
  rfl

/-- Settles O45. -/
theorem borrowerWaitsRunOut : Obligations.BorrowerWaitsRunOut := by
  intro s code i b start hb
  obtain ⟨rfl, rfl⟩ := borrowedOf_name hb
  refine ⟨fun hs hw hdue => ⟨fun ha hcan => ?_, fun ha => ?_⟩, fun hs hw hdue hcan => ?_,
    fun hs hw hdue => ⟨fun hhome hno hcan => ?_, fun hhome hx => ?_, fun hhome => ?_⟩⟩
  · rw [exec_askWaitExpiry hb hs hw hdue, askWaitOut_next ha hcan]
    exact ⟨_, rfl, rfl,
      (borrowedOf_updBorrowed_of hb (f := Borrowed.askAgain) (by exact fun _ => ⟨rfl, rfl⟩)).1, rfl⟩
  · obtain ⟨hframe, hfree, hnote⟩ := freedWithNotice b.code b.share (.askFailed b.code b.share) s
    rw [exec_askWaitExpiry hb hs hw hdue, askWaitOut_last ha]
    exact ⟨_, rfl, hframe, hfree, hnote⟩
  · have hself := (borrowedOf_updBorrowed_of (s := notify (.holdExpired b.code b.share b.slot) s)
      (f := Borrowed.giveBack) (by rw [notify_frame]; exact hb) (by exact fun _ => ⟨rfl, rfl⟩)).1
    rw [exec_holdLimitExpiry hb hs hw hdue,
      returnBorrowed_of_canSend (by rw [notify_frame]; exact hcan)]
    refine ⟨_, rfl, ?_, hself, ?_, ⟨rfl, rfl⟩, rfl⟩
    · rw [notify_frame]
    · dsimp only
      rw [notify_frame]
      rfl
  · obtain ⟨⟨-, hself, hothers⟩, hsend, hframe⟩ := sendRepeat_of_canSend hb hcan
    rw [exec_repeatWaitExpiry hb hs hw hdue, repeatWaitOut_sends hhome hno]
    refine ⟨_, rfl, hframe, hself, hothers, fun hret => ?_, fun x hconf hx => ?_⟩
    · rw [← repeatBody_returning hret]
      exact hsend
    · rw [← repeatBody_confirming hconf hx]
      exact hsend
  · rw [exec_repeatWaitExpiry hb hs hw hdue, repeatWaitOut_beside hhome hx]
    exact ⟨_, rfl, rfl, (borrowedOf_updBorrowed_of hb
      (f := fun b => { b with wait := .again (now s) }) (by exact fun _ => ⟨rfl, rfl⟩)).1⟩
  · rw [exec_repeatWaitExpiry hb hs hw hdue, repeatWaitOut_silent hhome]
    exact ⟨_, rfl, rfl, (borrowedOf_updBorrowed_of hb
      (f := fun b => { b with wait := .none, paused := true }) (by exact fun _ => ⟨rfl, rfl⟩)).1⟩

end Sys2Proof.Machine
end

section
-- One proof at a time: side by side, their threads' stacks outgrow the check's memory.
set_option Elab.async false
/-! SUPPORT. The queries: what each replies, and that it changes no block (R39, R164, R174 to R179). -/

namespace Sys2Proof.Machine

/-! ## A query answered -/

theorem query_ok {c : Instr} {s u : State} {r : RequestResult} {body : List Byte}
    (hexec : exec c s = .next (answer c r s)) (h : r = taken body u) :
    ∃ t : State, exec c s = .next t ∧ t = { u with link := t.link } ∧ Replied t .done body :=
  ⟨_, exec_of_ok hexec h, rfl, rfl, rfl, rfl, rfl⟩

theorem query_refused {c : Instr} {s : State} {r : RequestResult} {code : ReplyCode}
    (hexec : exec c s = .next (answer c r s)) (h : r = .error code) :
    ∃ t : State, exec c s = .next t ∧ OnlyLink s t ∧ Replied t code [] := refused_of hexec h

/-- The optional fields of a record that is not there. -/
theorem optional_none (size : Nat) : optional size none = List.replicate (size + 1) 0#8 := rfl

theorem role_code (s : State) :
    byte (Role.code (role s)) = if s.straps.role.val = 0 then 0#8 else 1#8 := by
  unfold role
  split <;> rfl

/-! ## The list of entries (R178) -/

theorem length_insertBy (lt : Entry → Entry → Bool) (e : Entry) (es : List Entry) :
    (insertBy lt e es).length = es.length + 1 := by
  induction es with
  | nil => rfl
  | cons x xs ih =>
    unfold insertBy
    split
    · rfl
    · rw [List.length_cons, ih, List.length_cons]

theorem length_sortBy (lt : Entry → Entry → Bool) (es : List Entry) :
    (sortBy lt es).length = es.length := by
  have hfold : ∀ acc : List Entry,
      (es.foldl (fun acc e => insertBy lt e acc) acc).length = acc.length + es.length := by
    induction es with
    | nil => exact fun acc => rfl
    | cons x xs ih =>
      intro acc
      rw [List.foldl_cons, ih, length_insertBy, List.length_cons]
      omega
  unfold sortBy
  rw [hfold, List.length_nil, Nat.zero_add]

/-- Every entry is shown once, by its state. -/
theorem length_by_state (es : List Entry) :
    (es.filter fun e => e.state == .queued).length + (es.filter Entry.cooking).length
      + (es.filter fun e => e.state == .tentative).length = es.length := by
  induction es with
  | nil => rfl
  | cons e es ih =>
    simp only [List.filter_cons, List.length_cons]
    cases hs : e.state <;> simp [Entry.cooking, hs] <;> omega

theorem length_entriesShown (s : State) : (entriesShown s).length = s.kitchen.entries.length := by
  unfold entriesShown
  rw [List.length_append, List.length_append, length_sortBy, length_sortBy, length_sortBy,
    length_by_state]

/-- Of a list at most eight items are sent, from a first one on. -/
theorem length_window {α β : Type} (xs : List α) (first : Nat) (f : α → β) :
    (((xs.drop first).take 8).map f).length = min 8 (xs.length - first) := by
  rw [List.length_map, List.length_take, List.length_drop]

/-! ## The bodies of the replies -/

theorem tabFields_eq (t : Tab) (first : Nat) : ∃ rest, tabFields t first
    = be16 t.code ++ [byte (TabState.code t.state)] ++ be16 t.operator ++ be32 t.openedAt.toNat
      ++ be32 t.lines.length ++ [byte t.shares.length] ++ be32 t.gross ++ be32 t.total
      ++ [byte (min 8 (t.lines.length - first))] ++ rest := by
  refine ⟨(((t.lines.zipIdx.drop first).take 8).map fun p => lineFields p.2 p.1).flatten, ?_⟩
  unfold tabFields listBytes
  rw [length_window, List.length_zipIdx, List.append_assoc _ [_], List.singleton_append]
  rfl

theorem shareFields_eq (sh : Share) : ∃ rest, shareFields sh
    = [byte (ShareState.code sh.state), byte sh.discount] ++ amountsBytes sh.amounts ++ rest :=
  ⟨_, List.append_assoc _ _ _⟩

theorem ticketFields_eq (s : State) (k : Ticket) : ∃ rest, ticketFields s k
    = be16 k.number ++ [byte k.gen, byte k.cls, byte k.slot, byte k.issue, byte k.positions.length]
      ++ k.positions.map byte ++ [k.live] ++ rest := by
  have hlist : listBytes (k.positions.map fun line => [byte line])
      = byte k.positions.length :: k.positions.map byte := by
    unfold listBytes
    rw [List.length_map, ← List.flatMap_def, ← List.map_eq_flatMap]
  unfold ticketFields
  rw [hlist]
  simp only [List.append_assoc, refBytes, Ticket.ref, List.cons_append, List.nil_append]
  exact ⟨_, rfl⟩

theorem borrowedFields_eq (s : State) (b : Borrowed) : ∃ rest, borrowedFields s b
    = be16 b.code ++ [byte b.share, byte b.slot, byte (BorrowedState.code b.state)] ++ rest := by
  unfold borrowedFields
  simp only [List.append_assoc]
  exact ⟨_, rfl⟩

theorem slotFields_eq (r : SlotRecord) : slotFields r
    = be16 r.operator ++ [byte r.level] ++ be32 r.since.toNat ++ be48 r.totals.cash
      ++ be48 r.totals.card ++ be48Int r.totals.rounding ++ be32 r.totals.shares
      ++ be32 r.totals.voids ++ be32 r.totals.wastes := by
  unfold slotFields Totals.bytes timeBytes
  simp only [List.append_assoc]

theorem listBytes_map {α : Type} (f : α → List Byte) (xs : List α) :
    listBytes (xs.map f) = byte xs.length :: (xs.map f).flatten := by
  unfold listBytes
  rw [List.length_map]

theorem totalsFields_none (s : State) (a b c : List Byte) :
    optional 37 ((none : Option SlotRecord).map slotFields) ++ Totals.bytes s.closed.totals ++ a ++ b ++ c
      = 0#8 :: (List.replicate 37 0#8 ++ be48 s.closed.totals.cash ++ be48 s.closed.totals.card
        ++ be48Int s.closed.totals.rounding ++ be32 s.closed.totals.shares ++ be32 s.closed.totals.voids
        ++ be32 s.closed.totals.wastes ++ a ++ (b ++ c)) := by
  rw [Option.map_none, optional_none, List.replicate_succ]
  simp only [Totals.bytes, List.append_assoc, List.cons_append]

theorem totalsFields_some (r : SlotRecord) (rest : List Byte) :
    optional 37 ((some r).map slotFields) ++ rest
      = 1#8 :: (be16 r.operator ++ [byte r.level] ++ be32 r.since.toNat ++ be48 r.totals.cash
        ++ be48 r.totals.card ++ be48Int r.totals.rounding ++ be32 r.totals.shares ++ be32 r.totals.voids
        ++ be32 r.totals.wastes ++ rest) := by
  rw [Option.map_some, optional, slotFields_eq, List.cons_append]

/-! ## The statement -/

theorem queryState_replies (s : State) : ∃ (t : State) (body : List Byte), exec .queryState s = .next t
    ∧ t = { s with link := t.link, free := t.free } ∧ Replied t .done body
    ∧ (s.join.state ≠ .strapFault → t.free = s.free)
    ∧ body.take 7 = [byte s.straps.sta.val, byte s.straps.stb.val, byte s.straps.role.val,
        byte s.straps.mode.val, byte (8 * s.straps.sta.val + s.straps.stb.val),
        if s.straps.role.val = 0 then 0#8 else 1#8, byte s.straps.role.val] := by
  obtain ⟨t, hexec, ht, hrep⟩ := query_ok (c := .queryState) rfl (s := s) rfl
  refine ⟨t, _, hexec, ?_, hrep, fun hj => ?_, ?_⟩
  · rw [ht]
    split <;> rfl
  · rw [ht, if_neg hj]
  · unfold stateFields
    rw [role_code]
    rfl

/-- The served standing of the classes, class 1 first (log 57). -/
def servedFlags (s : State) : List Byte :=
  [1, 2, 3, 4, 5, 6, 7].map fun c => if classServed s c then 1#8 else 0#8

theorem stationFields_none (s : State) :
    byte (standingCode none) :: (optional 17 ((none : Option Heard).map (heardFields s))
        ++ ((List.range 8).drop 1).map fun c => flagByte (classServed s c))
      = 0#8 :: (List.replicate 18 0#8 ++ servedFlags s) := rfl

theorem stationFields_some (s : State) (h : Heard) :
    byte (standingCode (some h)) :: (optional 17 ((some h).map (heardFields s))
        ++ ((List.range 8).drop 1).map fun c => flagByte (classServed s c))
      = (if h.silent then 2#8 else 1#8) :: 1#8 :: (heardFields s h ++ servedFlags s) := by
  unfold standingCode
  dsimp only
  split <;> rfl

theorem queryStation_replies (s : State) (n : Nat) : ∃ t : State, exec (.queryStation n) s = .next t
    ∧ OnlyLink s t ∧ (n = 0 ∨ 62 < n → Replied t .field [])
    ∧ (1 ≤ n → n ≤ 62 → heard s n = none →
        Replied t .done (0#8 :: (List.replicate 18 0#8 ++ servedFlags s)))
    ∧ ∀ h : Heard, 1 ≤ n → n ≤ 62 → heard s n = some h →
        Replied t .done ((if h.silent then 2#8 else 1#8) :: 1#8 :: (heardFields s h ++ servedFlags s)) := by
  by_cases hn : stationNumber n = true
  · obtain ⟨h1, h2⟩ := stationNumber_iff.1 hn
    obtain ⟨t, hexec, ht, hrep⟩ := query_ok (c := .queryStation n) rfl (need_of hn _ _)
    refine ⟨t, hexec, ht, by omega, fun _ _ hnone => ?_, fun h _ _ hsome => ?_⟩
    · rw [← stationFields_none, ← hnone]
      exact hrep
    · rw [← stationFields_some, ← hsome]
      exact hrep
  · obtain ⟨t, hexec, ht, hrep⟩ := query_refused (c := .queryStation n) rfl (need_of_not hn _ _)
    have hout : ¬(1 ≤ n ∧ n ≤ 62) := fun h => hn (stationNumber_iff.2 h)
    exact ⟨t, hexec, ht, fun _ => hrep, fun h1 h2 => absurd ⟨h1, h2⟩ hout,
      fun _ h1 h2 => absurd ⟨h1, h2⟩ hout⟩

theorem queryQueue_replies (s : State) (part first : Nat) : ∃ t : State,
    exec (.queryQueue part first) s = .next t ∧ t = { s with link := t.link, free := t.free }
      ∧ (part = 0 → ∃ rest : List Byte, Replied t .done
          ([byte s.kitchen.entries.length, byte s.join.figures.fire,
            byte (min 8 (s.kitchen.entries.length - first))] ++ rest))
      ∧ (part = 1 → ∃ rest : List Byte, Replied t .done (byte s.kitchen.pass.length :: rest))
      ∧ (part = 2 → ∃ rest : List Byte, Replied t .done (byte s.kitchen.lapsed.length :: rest))
      ∧ (part = 3 → ∃ rest : List Byte,
          Replied t .done (byte (PortState.code s.port.state) :: rest))
      ∧ (3 < part → Replied t .field []) := by
  have hpart : part = 0 ∨ part = 1 ∨ part = 2 ∨ part = 3 ∨ 3 < part := by omega
  rcases hpart with rfl | rfl | rfl | rfl | hpart
  · obtain ⟨t, hexec, hlink, hrep⟩ := query_ok (c := .queryQueue 0 first) (s := s) rfl rfl
    refine ⟨t, hexec, by rw [hlink], fun _ => ⟨((((entriesShown s).drop first).take 8).map
      entryFields).flatten, ?_⟩, nofun, nofun, nofun, by omega⟩
    unfold listBytes at hrep
    rw [length_window, length_entriesShown] at hrep
    exact hrep
  · obtain ⟨t, hexec, hlink, hrep⟩ := query_ok (c := .queryQueue 1 first) (s := s) rfl rfl
    rw [listBytes_map] at hrep
    exact ⟨t, hexec, by rw [hlink], nofun, fun _ => ⟨_, hrep⟩, nofun, nofun, by omega⟩
  · obtain ⟨t, hexec, hlink, hrep⟩ := query_ok (c := .queryQueue 2 first) (s := s) rfl rfl
    rw [listBytes_map] at hrep
    exact ⟨t, hexec, by rw [hlink], nofun, nofun, fun _ => ⟨_, hrep⟩, nofun, by omega⟩
  · obtain ⟨t, hexec, hlink, hrep⟩ := query_ok (c := .queryQueue 3 first) (s := s) rfl rfl
    refine ⟨t, hexec, ?_, nofun, nofun, nofun, fun _ => ⟨_, hrep⟩, by omega⟩
    rw [hlink]
    split <;> rfl
  · have hres : queryQueueResult part first s = .error .field := by
      unfold queryQueueResult
      split
      case h_5 => rfl
      all_goals omega
    obtain ⟨t, hexec, hlink, hrep⟩ := query_refused (c := .queryQueue part first) rfl hres
    exact ⟨t, hexec, by rw [hlink], by omega, by omega, by omega, by omega, fun _ => hrep⟩

theorem queryBorrowed_replies (s : State) (n : Nat) : ∃ t : State, exec (.queryBorrowed n) s = .next t
    ∧ t = { s with link := t.link, free := t.free } ∧ (7 < n → Replied t .field [])
    ∧ (n ≤ 7 → s.borrowed.length ≤ n → Replied t .done (be32 s.borrowed.length))
    ∧ ∀ b : Borrowed, n ≤ 7 → s.borrowed[n]? = some b → ∃ rest : List Byte,
        Replied t .done (be32 s.borrowed.length ++ be16 b.code
          ++ [byte b.share, byte b.slot, byte (BorrowedState.code b.state)] ++ rest) := by
  by_cases hn : n ≤ 7
  · cases hb : s.borrowed[n]? with
    | none =>
      have hres : queryBorrowedResult n s = taken (be32 s.borrowed.length) s := by
        unfold queryBorrowedResult
        rw [need_of hn, hb]
      obtain ⟨t, hexec, hlink, hrep⟩ := query_ok (c := .queryBorrowed n) rfl hres
      exact ⟨t, hexec, by rw [hlink], by omega, fun _ _ => hrep, fun _ _ h => by cases h⟩
    | some b =>
      have hres : queryBorrowedResult n s = taken (be32 s.borrowed.length ++ borrowedFields s b)
          (if b.attempts < 256 then s else useFree 1 s) := by
        unfold queryBorrowedResult
        rw [need_of hn, hb]
      obtain ⟨t, hexec, hlink, hrep⟩ := query_ok (c := .queryBorrowed n) rfl hres
      obtain ⟨rest, hbody⟩ := borrowedFields_eq s b
      have hlt := (List.getElem?_eq_some_iff.1 hb).1
      refine ⟨t, hexec, ?_, by omega, by omega, fun b' _ hb' => ⟨rest, ?_⟩⟩
      · rw [hlink]
        split <;> rfl
      · cases hb'
        rw [hbody, ← List.append_assoc, ← List.append_assoc] at hrep
        exact hrep
  · obtain ⟨t, hexec, hlink, hrep⟩ := query_refused (c := .queryBorrowed n) (s := s) rfl
      (need_of_not hn _ _)
    exact ⟨t, hexec, by rw [hlink], fun _ => hrep, by omega, by omega⟩

theorem queryTotals_replies (s : State) (n : Nat) : ∃ t : State, exec (.queryTotals n) s = .next t
    ∧ OnlyLink s t ∧ (3 < n → Replied t .field [])
    ∧ (n ≤ 3 → slotOf s n = none → ∃ rest : List Byte,
        Replied t .done (0#8 :: (List.replicate 37 0#8 ++ be48 s.closed.totals.cash
          ++ be48 s.closed.totals.card ++ be48Int s.closed.totals.rounding
          ++ be32 s.closed.totals.shares ++ be32 s.closed.totals.voids
          ++ be32 s.closed.totals.wastes ++ be32 s.closed.shifts ++ rest)))
    ∧ ∀ r : SlotRecord, n ≤ 3 → slotOf s n = some r → ∃ rest : List Byte,
        Replied t .done (1#8 :: (be16 r.operator ++ [byte r.level] ++ be32 r.since.toNat
          ++ be48 r.totals.cash ++ be48 r.totals.card ++ be48Int r.totals.rounding
          ++ be32 r.totals.shares ++ be32 r.totals.voids ++ be32 r.totals.wastes ++ rest)) := by
  by_cases hn : n ≤ 3
  · obtain ⟨t, hexec, hlink, hrep⟩ := query_ok (c := .queryTotals n) (s := s) rfl (need_of hn _ _)
    refine ⟨t, hexec, hlink, by omega, fun _ hnone => ⟨Totals.bytes (stationTotals s), ?_⟩,
      fun r _ hsome => ?_⟩
    · rw [hnone, ← List.append_nil (_ ++ Totals.bytes (stationTotals s)), totalsFields_none,
        List.append_nil] at hrep
      exact hrep
    · rw [hsome, List.append_assoc, List.append_assoc, totalsFields_some] at hrep
      exact ⟨_, hrep⟩
  · obtain ⟨t, hexec, hlink, hrep⟩ := query_refused (c := .queryTotals n) (s := s) rfl
      (need_of_not hn _ _)
    exact ⟨t, hexec, hlink, fun _ => hrep, by omega, by omega⟩

/-- Settles O60. -/
theorem queriesChangeNothing : Obligations.QueriesChangeNothing := by
  refine ⟨queryState_replies, queryStation_replies, fun s code first i => ⟨fun hno => ⟨?_, ?_⟩, fun tb ht =>
    ⟨?_, fun sh hs => ?_, fun hi => ?_⟩⟩, fun s n => ⟨fun hno => ?_, fun k hk => ?_⟩,
    queryQueue_replies, queryBorrowed_replies, queryTotals_replies⟩
  · exact query_refused rfl (withTab_of_none hno _)
  · exact query_refused rfl (withTab_of_none hno _)
  · obtain ⟨-, -, rfl⟩ := tabIn_of_tabOf ht
    obtain ⟨t, hexec, hlink, hrep⟩ := query_ok (c := .queryTab tb.code first) rfl (withTab_of_some ht _)
    obtain ⟨rest, hbody⟩ := tabFields_eq tb first
    rw [hbody] at hrep
    exact ⟨t, rest, hexec, hlink, hrep⟩
  · have hres : queryShareResult code i s = taken (shareFields sh) s := by
      unfold queryShareResult
      rw [withTab_of_some ht, hs]
    obtain ⟨t, hexec, hlink, hrep⟩ := query_ok (c := .queryShare code i) rfl hres
    obtain ⟨rest, hbody⟩ := shareFields_eq sh
    rw [hbody] at hrep
    exact ⟨t, rest, hexec, hlink, hrep⟩
  · refine query_refused rfl ?_
    unfold queryShareResult
    rw [withTab_of_some ht, List.getElem?_eq_none hi]
  · refine query_refused rfl ?_
    unfold queryTicketResult
    rw [hno]
  · obtain rfl := ticketOf_number hk
    have hres : queryTicketResult k.number s = taken (ticketFields s k) s := by
      unfold queryTicketResult
      rw [hk]
    obtain ⟨t, hexec, hlink, hrep⟩ := query_ok (c := .queryTicket k.number) rfl hres
    obtain ⟨rest, hbody⟩ := ticketFields_eq s k
    rw [hbody] at hrep
    exact ⟨t, rest, hexec, hlink, hrep⟩

end Sys2Proof.Machine
end

section
-- One proof at a time: side by side, their threads' stacks outgrow the check's memory.
set_option Elab.async false
/-! SUPPORT. The terminal link: its edges, the byte that eight of them complete, the request that a
transaction spells, and FETCH (R166 to R168, R171, R173). -/

namespace Sys2Proof.Machine

/-! ## The request that is decoded (R168, R170) -/

/-- Whatever is decoded is handed to the block that its own row names. -/
def HandedOn (o : Option Instr) : Prop := ∀ i, o = some i → ∀ s, takeRequest i s = exec i s

theorem handedOn_none : HandedOn none := fun _ h => by cases h

theorem handedOn_some {i : Instr} (h : ∀ s, takeRequest i s = exec i s) : HandedOn (some i) := by
  rintro _ ⟨⟩
  exact h

theorem handedOn_whole {i : Instr} (h : ∀ s, takeRequest i s = exec i s) (r : List Byte) :
    HandedOn (whole i r) := by
  intro j hj
  obtain ⟨-, rfl⟩ := whole_iff.1 hj
  exact h

theorem handedOn_bind {α β : Type} {o : Option (α × β)} {f : α × β → Option Instr}
    (h : ∀ a b, HandedOn (f (a, b))) : HandedOn (o >>= f) := by
  intro i hi
  obtain ⟨⟨a, b⟩, -, hf⟩ := Option.bind_eq_some_iff.1 hi
  exact h a b i hf

theorem handedOn_bind_slotCode {f : Nat × Nat × List Byte → Option Instr} (bs : List Byte)
    (h : ∀ a b c, HandedOn (f (a, b, c))) : HandedOn (rdSlotCode bs >>= f) := by
  intro i hi
  obtain ⟨⟨a, b, c⟩, -, hf⟩ := Option.bind_eq_some_iff.1 hi
  exact h a b c i hf

/-- A decoded request does what its row does: each row of the decoder reads its fields and names one
request. -/
theorem handedOn_decodeRequest (k : Byte) (body : List Byte) : HandedOn (decodeRequest k body) := by
  unfold decodeRequest
  split
  case h_12 =>
    refine handedOn_bind_slotCode _ fun _ _ _ => handedOn_bind fun _ _ => handedOn_bind fun _ _ =>
      handedOn_bind fun _ _ => ?_
    dsimp only
    split
    · exact handedOn_some fun _ => rfl
    · exact handedOn_none
  all_goals
    repeat first
      | refine handedOn_bind_slotCode _ fun _ _ _ => ?_
      | refine handedOn_bind fun _ _ => ?_
    first | exact handedOn_whole (fun _ => rfl) _ | exact handedOn_none

/-! ## Bits and bytes (R166) -/

/-- The bits of a number below a place, most significant first, after a number read already. -/
theorem foldl_testBits (n : Nat) (w : Nat) (a : Nat) :
    ((List.range w).map fun i => n.testBit (w - 1 - i)).foldl (fun m b => 2 * m + b.toNat) a
      = a * 2 ^ w + n % 2 ^ w := by
  induction w generalizing a with
  | zero => simp [Nat.mod_one]
  | succ w ih =>
    have htail : (List.range w).map ((fun i => n.testBit (w + 1 - 1 - i)) ∘ Nat.succ)
        = (List.range w).map fun i => n.testBit (w - 1 - i) := by
      refine List.map_congr_left fun i _ => ?_
      show n.testBit (w - (i + 1)) = _
      congr 1
      omega
    rw [List.range_succ_eq_map, List.map_cons, List.map_map, htail, List.foldl_cons, ih,
      Nat.mod_pow_succ, Nat.pow_succ]
    simp only [Nat.add_sub_cancel, Nat.sub_zero, Nat.toNat_testBit]
    ring

/-- Eight bits, most significant first, spell their byte. -/
theorem byteOfLink_bits (b : Byte) : byteOfLink ((List.range 8).map fun i => b.getLsbD (7 - i)) = b := by
  have hfold := foldl_testBits b.toNat 8 0
  rw [Nat.zero_mul, Nat.zero_add, Nat.mod_eq_of_lt b.isLt] at hfold
  exact (congrArg byte hfold).trans (byte_toNat_self b)

theorem linkBits_eq (b : Byte) : linkBits b = (List.range 8).map fun i => b.getLsbD (7 - i) := by
  unfold linkBits
  refine List.map_congr_left fun i hi => ?_
  have hlt : i < 8 := List.mem_range.1 hi
  simp [BitVec.getMsbD, hlt]

/-- The link between two edges: SCK high, these bits of a byte sampled, this bit on SDO. -/
def sampling (bits : List Bool) (bit : Bool) (s : State) : State :=
  updLink (fun l => { l with sck := true, bits := bits, sdoBit := bit }) s

/-- The link with a byte just completed: its last bit stands on SDO. -/
def sampled (s : State) : State := sampling [] (((sdo s).getD 0xFF#8).getLsbD 0) s

theorem sdo_sampling (bits : List Bool) (bit : Bool) (s : State) : sdo (sampling bits bit s) = sdo s := rfl

/-- A falling and a rising edge with SCK high. -/
theorem edges_sampling {s : State} (hp : s.link.phase ≠ .rest) {bits : List Bool} (hb : bits.length < 7)
    (bit x : Bool) (es : List ClockEdge) :
    execLinkByteComplete (.fall :: .rise x :: es) (sampling bits bit s)
      = execLinkByteComplete es
        (sampling (bits ++ [x]) (((sdo s).getD 0xFF#8).getMsbD bits.length) s) := by
  have hfall : clockEdge .fall (sampling bits bit s) = .next (updLink (fun l =>
      { l with sck := false, sdoBit := ((sdo s).getD 0xFF#8).getMsbD bits.length })
      (sampling bits bit s)) := if_neg hp
  rw [execLinkByteComplete_cons _ _ _ _ hfall]
  refine execLinkByteComplete_cons _ _ _ _ ?_
  refine (if_neg (by exact hp)).trans ?_
  refine if_pos ?_
  show (bits ++ [x]).length < 8
  rw [List.length_append, List.length_singleton]
  omega

/-- The eighth pair of edges completes the byte. -/
theorem edges_complete {s : State} (hp : s.link.phase ≠ .rest) {bits : List Bool} (hb : bits.length = 7)
    (bit x : Bool) :
    execLinkByteComplete [.fall, .rise x] (sampling bits bit s)
      = byteComplete (byteOfLink (bits ++ [x])) (sampled s) := by
  have hfall : clockEdge .fall (sampling bits bit s) = .next (updLink (fun l =>
      { l with sck := false, sdoBit := ((sdo s).getD 0xFF#8).getLsbD 0 }) (sampling bits bit s)) := by
    refine (if_neg hp).trans ?_
    show Host.Outcome.next (updLink (fun l =>
      { l with sck := false, sdoBit := ((sdo s).getD 0xFF#8).getMsbD bits.length }) _) = _
    rw [hb]
    rfl
  rw [execLinkByteComplete_cons _ _ _ _ hfall]
  have hrise : clockEdge (.rise x) (updLink (fun l =>
      { l with sck := false, sdoBit := ((sdo s).getD 0xFF#8).getLsbD 0 }) (sampling bits bit s))
      = byteComplete (byteOfLink (bits ++ [x])) (sampled s) := by
    refine (if_neg (by exact hp)).trans ?_
    refine if_neg ?_
    show ¬(bits ++ [x]).length < 8
    rw [List.length_append, List.length_singleton]
    omega
  unfold execLinkByteComplete
  rw [hrise]
  cases byteComplete (byteOfLink (bits ++ [x])) (sampled s) <;> rfl

/-- The edges of the rest of a byte, SCK high before them. -/
theorem edges_byte {s : State} (hp : s.link.phase ≠ .rest) (xs : List Bool) (hx : xs ≠ [])
    (bits : List Bool) (hb : bits.length + xs.length = 8) (bit : Bool) :
    execLinkByteComplete (xs.flatMap fun x => [.fall, .rise x]) (sampling bits bit s)
      = byteComplete (byteOfLink (bits ++ xs)) (sampled s) := by
  induction xs generalizing bits bit with
  | nil => exact absurd rfl hx
  | cons x xs ih =>
    rw [List.length_cons] at hb
    by_cases hlast : xs = []
    · subst hlast
      exact edges_complete hp (by simpa using hb) bit x
    · have hpos := List.length_pos_of_ne_nil hlast
      have hnext := ih hlast (bits ++ [x]) (by rw [List.length_append, List.length_singleton]; omega)
      rw [List.flatMap_cons]
      show execLinkByteComplete (.fall :: .rise x :: _) _ = _
      rw [edges_sampling hp (by omega)]
      refine (hnext _).trans ?_
      rw [List.append_assoc, List.singleton_append]

/-- The edges of a whole byte complete it, wherever SCK stands before them (R166). -/
theorem exec_clockByte {s : State} (hp : s.link.phase ≠ .rest) (hb : s.link.bits = []) (b : Byte) :
    exec (.linkByteComplete (clockByte b)) s = byteComplete b (sampled s) := by
  show execLinkByteComplete (clockByte b) s = _
  have hbyte : byteOfLink (linkBits b) = b := by
    rw [linkBits_eq]
    exact byteOfLink_bits b
  cases hc : s.link.sck with
  | true =>
    have hs : s = sampling [] s.link.sdoBit s := by
      unfold sampling updLink
      rw [← hc, ← hb]
    have hall := edges_byte hp (linkBits b) (by simp [linkBits]) [] (by simp [linkBits]) s.link.sdoBit
    rw [← hs, List.nil_append, hbyte] at hall
    exact hall
  | false =>
    have hsplit : linkBits b = b.getMsbD 0 :: ((List.range 7).map fun i => b.getMsbD (i + 1)) := rfl
    have hfall : clockEdge .fall s = .next s := by
      refine (if_neg hp).trans ?_
      rw [hc]
    have hrise : clockEdge (.rise (b.getMsbD 0)) s
        = .next (sampling [b.getMsbD 0] s.link.sdoBit s) := by
      refine (if_neg hp).trans ?_
      rw [hc]
      show clockRise (b.getMsbD 0) s = _
      unfold clockRise
      rw [hb]
      rfl
    have hrest := edges_byte hp ((List.range 7).map fun i => b.getMsbD (i + 1)) (by simp)
      [b.getMsbD 0] (by simp) s.link.sdoBit
    rw [List.singleton_append, ← hsplit, hbyte] at hrest
    unfold clockByte
    rw [hsplit, List.flatMap_cons]
    show execLinkByteComplete (.fall :: .rise (b.getMsbD 0) :: _) s = _
    rw [execLinkByteComplete_cons _ _ _ _ hfall, execLinkByteComplete_cons _ _ _ _ hrise]
    exact hrest

/-- Rows of edges act one after another (log 37). -/
theorem execLinkByteComplete_append (xs ys : List ClockEdge) {s t : State}
    (h : execLinkByteComplete xs s = .next t) :
    execLinkByteComplete (xs ++ ys) s = execLinkByteComplete ys t := by
  induction xs generalizing s with
  | nil =>
    cases h
    rfl
  | cons x xs ih =>
    obtain ⟨u, hu, -⟩ := completes_clockEdge x s
    rw [execLinkByteComplete_cons _ _ _ _ hu] at h
    rw [List.cons_append, execLinkByteComplete_cons _ _ _ _ hu, ih h]

/-- At rest the edges are disregarded. -/
theorem execLinkByteComplete_rest {s : State} (h : s.link.phase = .rest) (es : List ClockEdge) :
    execLinkByteComplete es s = .next s := by
  induction es with
  | nil => rfl
  | cons e es ih =>
    rw [execLinkByteComplete_cons e es s s (if_pos h)]
    exact ih

/-! ## The byte complete, by the phase (R167) -/

theorem byteComplete_kind {s : State} (h : s.link.phase = .kind) (b : Byte) :
    byteComplete b s = .next (updLink (fun l => { l with kind := b, phase := .length }) s) := by
  unfold byteComplete
  rw [h]

theorem byteComplete_length {s : State} (h : s.link.phase = .length) (b : Byte) :
    byteComplete b s = .next (updLink (fun l =>
      { l with length := b.toNat, phase := if b = 0#8 then .turnaround else .body }) s) := by
  unfold byteComplete
  rw [h]

theorem byteComplete_body {s : State} (h : s.link.phase = .body) (b : Byte) :
    byteComplete b s = .next (updLink (fun l =>
      { l with body := l.body ++ [b],
               phase := if l.body.length + 1 < l.length then .body else .turnaround }) s) := by
  unfold byteComplete
  rw [h]

theorem byteComplete_request {s : State} (h : s.link.phase = .turnaround) {i : Instr}
    (hi : decodeRequest s.link.kind s.link.body = some i) (b : Byte) : byteComplete b s = exec i s := by
  unfold byteComplete
  rw [h, hi]
  exact handedOn_decodeRequest _ _ i hi s

theorem byteComplete_none {s : State} (h : s.link.phase = .turnaround)
    (hi : decodeRequest s.link.kind s.link.body = none) (b : Byte) :
    byteComplete b s = .next { s with link := ignoringLink s.link.kind s.link.body } := by
  unfold byteComplete
  rw [h, hi]

theorem byteComplete_over {s : State} (h : s.link.phase = .spent ∨ s.link.phase = .ignoring) (b : Byte) :
    byteComplete b s = .next s := by
  unfold byteComplete
  rcases h with h | h <;> rw [h]

theorem replyLength_of {l : Link} {r : Reply} (h : l.reply = some r) :
    replyLength l = r.body.length + 2 := by
  unfold replyLength
  rw [h]
  rfl

theorem byteComplete_reply_next {s : State} (h : s.link.phase = .reply) {r : Reply}
    (hr : s.link.reply = some r) (hc : s.link.clocked < r.body.length + 1) (b : Byte) :
    byteComplete b s = .next (updLink (fun l => { l with clocked := l.clocked + 1 }) s) := by
  unfold byteComplete
  rw [h, replyLength_of hr]
  exact if_pos (Nat.succ_lt_succ hc)

theorem byteComplete_reply_last {s : State} (h : s.link.phase = .reply) {r : Reply}
    (hr : s.link.reply = some r) (hc : s.link.clocked = r.body.length + 1) (b : Byte) :
    byteComplete b s = .next (replyEnds s) := by
  unfold byteComplete
  rw [h, replyLength_of hr]
  exact if_neg (by omega)

/-! ## SDO (R166, R167) -/

theorem sdo_rest {s : State} (h : s.link.phase = .rest) : sdo s = none := by
  unfold sdo
  rw [h]

theorem sdo_ones {s : State} (h1 : s.link.phase ≠ .rest) (h2 : s.link.phase ≠ .reply) :
    sdo s = some 0xFF#8 := by
  unfold sdo
  cases h : s.link.phase with
  | rest => exact absurd h h1
  | reply => exact absurd h h2
  | _ => rfl

theorem sdo_reply {s : State} (h : s.link.phase = .reply) {r : Reply} (hr : s.link.reply = some r) :
    sdo s = some ((Reply.bytes r)[s.link.clocked]?.getD 0xFF#8) := by
  unfold sdo
  rw [h, hr]
  rfl

/-- In a transaction SDO is driven. -/
theorem sdo_driven {s : State} (h : s.link.phase ≠ .rest) : ∃ x, sdo s = some x := by
  by_cases hr : s.link.phase = .reply
  · unfold sdo
    rw [hr]
    exact ⟨_, rfl⟩
  · exact ⟨_, sdo_ones h hr⟩

theorem sdoLevel_driven {s : State} (h : s.link.phase ≠ .rest) : sdoLevel s = some s.link.sdoBit := by
  unfold sdoLevel
  cases hp : s.link.phase with
  | rest => exact absurd hp h
  | _ => rfl

theorem sampled_eq {s : State} {x : Byte} (hb : s.link.bits = []) (hx : sdo s = some x) :
    sampled s = { s with link := { s.link with sck := true, sdoBit := x.getLsbD 0 } } := by
  unfold sampled sampling updLink
  rw [hx, ← hb]
  rfl

/-- Outside the reply a byte leaves all ones on SDO. -/
theorem sampled_high {s : State} (hb : s.link.bits = []) (h1 : s.link.phase ≠ .rest)
    (h2 : s.link.phase ≠ .reply) :
    sampled s = { s with link := { s.link with sck := true, sdoBit := true } } :=
  sampled_eq hb (sdo_ones h1 h2)

/-! ## FETCH (R171, R173) -/

/-- The last byte of a reply. -/
theorem lastByte_of (r : Reply) :
    (Reply.bytes r)[r.body.length + 1]? = (byte r.body.length :: r.body).getLast?
      ∧ (Reply.bytes r).getLast? = (byte r.body.length :: r.body).getLast? := by
  refine ⟨?_, List.getLast?_cons_cons⟩
  rw [List.getLast?_eq_getElem?]
  rfl

theorem lastBit_of (r : Reply) (x : Byte) :
    ((byte r.body.length :: r.body).getLast?).getD x
      = ((byte r.body.length :: r.body).getLast?).getD 0#8 := by
  rw [List.getLast?_cons]
  rfl

/-- The link once the last bit of a reply has gone out. -/
def spentLink (r : Reply) (l : Link) : Link :=
  { l with
    sck := true, phase := .spent, bits := [], clocked := r.body.length + 2, fetching := none
    sdoBit := (((byte r.body.length :: r.body).getLast?).getD 0#8).getLsbD 0 }

theorem replyEnds_fetch {s : State} {f : Fetching} (h : s.link.fetching = some f) :
    replyEnds s = fetchDone f { s with link := { s.link with
      phase := .spent, bits := [], clocked := replyLength s.link, fetching := none } } := by
  unfold replyEnds
  rw [h]

theorem replyEnds_other {s : State} (h : s.link.fetching = none) :
    replyEnds s = { s with link := { s.link with
      phase := .spent, bits := [], clocked := replyLength s.link, fetching := none } } := by
  unfold replyEnds
  rw [h]

/-- The last bit of a FETCH's reply, by its own row or as the last edge of a byte, removes what the FETCH
returned. -/
theorem fetch_ends {s : State} {f : Fetching} {r : Reply} {b : Byte} {c : Instr}
    (hp : s.link.phase = .reply) (hf : s.link.fetching = some f) (hr : s.link.reply = some r)
    (hc : c = .fetchReplyEnd
      ∨ c = .linkByteComplete (clockByte b) ∧ s.link.bits = [] ∧ s.link.clocked = r.body.length + 1) :
    exec c s = .next (fetchDone f { s with link := spentLink r s.link }) := by
  obtain ⟨hnth, hlast⟩ := lastByte_of r
  rcases hc with rfl | ⟨rfl, hb, hcl⟩
  · have hexec : exec .fetchReplyEnd s
        = .next (replyEnds (updLink (fun l => { l with sck := true, sdoBit := lastReplyBit l }) s)) := by
      show execFetchReplyEnd s = _
      unfold execFetchReplyEnd
      rw [hp, hf]
    have hbit : lastReplyBit s.link
        = (((byte r.body.length :: r.body).getLast?).getD 0#8).getLsbD 0 := by
      unfold lastReplyBit
      rw [hr]
      show (((Reply.bytes r).getLast?).getD 0xFF#8).getLsbD 0 = _
      rw [hlast, lastBit_of]
    have hends := replyEnds_fetch
      (s := updLink (fun l => { l with sck := true, sdoBit := lastReplyBit l }) s) hf
    rw [hexec, hends]
    unfold updLink spentLink
    dsimp only
    rw [hbit, replyLength_of (by exact hr)]
  · have hx : sdo s = some (((byte r.body.length :: r.body).getLast?).getD 0#8) := by
      rw [sdo_reply hp hr, hcl, hnth, lastBit_of]
    have hrest : s.link.phase ≠ .rest := by rw [hp]; nofun
    have hdone := byteComplete_reply_last (s := sampled s) hp hr hcl b
    have hends := replyEnds_fetch (s := sampled s) hf
    rw [exec_clockByte hrest hb, hdone, hends]
    unfold sampled sampling updLink spentLink
    dsimp only
    rw [hx, replyLength_of (by exact hr)]
    rfl

theorem fetchDone_frame (f : Fetching) (s : State) :
    fetchDone f s = { s with notices := (fetchDone f s).notices, overflow := (fetchDone f s).overflow } := by
  cases f <;> rfl

/-- Settles O58. -/
theorem fetchTakesTheOldestNotice : Obligations.FetchTakesTheOldestNotice := by
  refine ⟨fun b s => ⟨notify_of_room b, fun hfull => ?_⟩, fun s => ⟨_, rfl, rfl, rfl, rfl, fun loss hl => ?_,
    fun n rest hl hn => ?_, fun hl hn => ?_⟩, fun s f r b c hp hf hr hc => ?_, fun s h => ?_,
    fun s => ⟨_, rfl, rfl, rfl⟩⟩
  · have hnot : ¬s.notices.length < noticeCapacity := Nat.not_lt.2 hfull
    have hlost : notify b s = { s with
        overflow := some (s.overflow.getD (now s))
        link := { s.link with fetching := s.link.fetching.map (Fetching.noteLoss (now s)) } } :=
      if_neg hnot
    rw [hlost]
    refine ⟨rfl, rfl, fun hf => ?_, fun hf => ?_⟩
    · dsimp only
      rw [hf]
      rfl
    · dsimp only
      match hs : s.link.fetching with
      | none => rfl
      | some .empty => rfl
      | some .notice => rfl
      | some (.overflow (some t)) => rfl
      | some (.overflow none) => exact absurd hs hf
  · unfold fetchTaken
    rw [hl]
    exact ⟨rfl, rfl⟩
  · unfold fetchTaken
    rw [hl, hn]
    exact ⟨rfl, rfl, rfl⟩
  · unfold fetchTaken
    rw [hl, hn]
    exact ⟨rfl, rfl⟩
  · rw [fetch_ends hp hf hr hc]
    refine ⟨_, rfl, ?_, ?_, ?_, ?_, ?_⟩
    · rw [fetchDone_frame]
    · rw [fetchDone_frame]
      rfl
    · rintro rfl
      exact ⟨rfl, rfl⟩
    · rintro rfl
      exact ⟨rfl, rfl⟩
    · rintro later rfl
      exact ⟨rfl, rfl⟩
  · show execFetchReplyEnd s = _
    unfold execFetchReplyEnd
    split
    · next hp hf =>
      rcases h with h | h
      · exact absurd hp h
      · rw [h] at hf
        cases hf
    · rfl

/-! ## The statement -/

/-- The phases before and after the reply, a byte at a time. -/
theorem bytes_in_phases {s : State} (b : Byte) (hb : s.link.bits = []) :
    (s.link.phase = .kind → exec (.linkByteComplete (clockByte b)) s
        = .next { s with link := { s.link with
            sck := true, sdoBit := true, kind := b, phase := .length } })
      ∧ (s.link.phase = .length → exec (.linkByteComplete (clockByte b)) s
        = .next { s with link := { s.link with
            sck := true, sdoBit := true, length := b.toNat
            phase := if b = 0#8 then .turnaround else .body } })
      ∧ (s.link.phase = .body → exec (.linkByteComplete (clockByte b)) s
        = .next { s with link := { s.link with
            sck := true, sdoBit := true, body := s.link.body ++ [b]
            phase := if s.link.body.length + 1 < s.link.length then .body else .turnaround } })
      ∧ (∀ i : Instr, s.link.phase = .turnaround → decodeRequest s.link.kind s.link.body = some i →
        exec (.linkByteComplete (clockByte b)) s
          = exec i { s with link := { s.link with sck := true, sdoBit := true } })
      ∧ (s.link.phase = .turnaround → decodeRequest s.link.kind s.link.body = none →
        exec (.linkByteComplete (clockByte b)) s
          = .next { s with link := ignoringLink s.link.kind s.link.body })
      ∧ (s.link.phase = .spent ∨ s.link.phase = .ignoring → exec (.linkByteComplete (clockByte b)) s
        = .next { s with link := { s.link with sck := true, sdoBit := true } }) := by
  have hbyte : s.link.phase ≠ .rest → s.link.phase ≠ .reply → exec (.linkByteComplete (clockByte b)) s
      = byteComplete b { s with link := { s.link with sck := true, sdoBit := true } } := by
    intro h1 h2
    rw [exec_clockByte h1 hb, sampled_high hb h1 h2]
  refine ⟨fun h => ?_, fun h => ?_, fun h => ?_, fun i h hi => ?_, fun h hi => ?_, fun h => ?_⟩
  · rw [hbyte (by rw [h]; nofun) (by rw [h]; nofun), byteComplete_kind (by exact h)]
    rfl
  · rw [hbyte (by rw [h]; nofun) (by rw [h]; nofun), byteComplete_length (by exact h)]
    rfl
  · rw [hbyte (by rw [h]; nofun) (by rw [h]; nofun), byteComplete_body (by exact h)]
    rfl
  · rw [hbyte (by rw [h]; nofun) (by rw [h]; nofun), byteComplete_request (by exact h) (by exact hi)]
  · rw [hbyte (by rw [h]; nofun) (by rw [h]; nofun), byteComplete_none (by exact h) (by exact hi)]
  · have h1 : s.link.phase ≠ .rest := by rcases h with h | h <;> rw [h] <;> nofun
    have h2 : s.link.phase ≠ .reply := by rcases h with h | h <;> rw [h] <;> nofun
    rw [hbyte h1 h2, byteComplete_over (by exact h)]

/-- A reply byte that is not the last, and the last of a reply that is no FETCH's. -/
theorem bytes_of_reply {s : State} {r : Reply} {x : Byte} (b : Byte) (hb : s.link.bits = [])
    (hp : s.link.phase = .reply) (hr : s.link.reply = some r) (hx : sdo s = some x) :
    (s.link.clocked < r.body.length + 1 → exec (.linkByteComplete (clockByte b)) s
        = .next { s with link := { s.link with
            sck := true, sdoBit := x.getLsbD 0, clocked := s.link.clocked + 1 } })
      ∧ (s.link.clocked = r.body.length + 1 → s.link.fetching = none →
        exec (.linkByteComplete (clockByte b)) s = .next { s with link := { s.link with
          sck := true, sdoBit := x.getLsbD 0, phase := .spent, clocked := r.body.length + 2 } }) := by
  have hbyte : exec (.linkByteComplete (clockByte b)) s = byteComplete b
      { s with link := { s.link with sck := true, sdoBit := x.getLsbD 0 } } := by
    rw [exec_clockByte (by rw [hp]; nofun) hb, sampled_eq hb hx]
  refine ⟨fun hc => ?_, fun hc hf => ?_⟩
  · rw [hbyte, byteComplete_reply_next (by exact hp) (by exact hr) (by exact hc)]
    rfl
  · rw [hbyte, byteComplete_reply_last (by exact hp) (by exact hr) (by exact hc),
      replyEnds_other (by exact hf), replyLength_of (by exact hr)]
    dsimp only
    rw [← hb, ← hf]

theorem clockEdge_of {s : State} (hp : s.link.phase ≠ .rest) (x : Bool) :
    (s.link.sck = false → clockEdge (.rise x) s = clockRise x s ∧ clockEdge .fall s = .next s)
      ∧ (s.link.sck = true → clockEdge (.rise x) s = .next s ∧ clockEdge .fall s = clockFall s) := by
  unfold clockEdge
  refine ⟨fun h => ?_, fun h => ?_⟩ <;> rw [if_neg hp, if_neg hp, h] <;> exact ⟨rfl, rfl⟩

/-- One edge in a transaction. -/
theorem single_edges {s : State} (hp : s.link.phase ≠ .rest) :
    (∀ (b : Byte) (j : Nat), s.link.sck = true → sdo s = some b → s.link.bits.length = j → j < 8 →
        exec (.linkByteComplete [.fall]) s = .next { s with link := { s.link with
          sck := false, sdoBit := b.getLsbD (7 - j) } })
      ∧ (∀ x : Bool, s.link.sck = false → s.link.bits.length < 7 →
        exec (.linkByteComplete [.rise x]) s = .next { s with link := { s.link with
          sck := true, bits := s.link.bits ++ [x] } })
      ∧ (∀ (x : Bool) (b : Byte), s.link.sck = false →
        s.link.bits ++ [x] = (List.range 8).map (fun i => b.getLsbD (7 - i)) →
        s.link.sdoBit = ((sdo s).getD 0#8).getLsbD 0 →
        exec (.linkByteComplete [.rise x]) s
          = exec (.linkByteComplete (clockByte b)) { s with link := { s.link with bits := [] } })
      ∧ (∀ x : Bool, s.link.sck = true → exec (.linkByteComplete [.rise x]) s = .next s)
      ∧ (s.link.sck = false → exec (.linkByteComplete [.fall]) s = .next s) := by
  have hone : ∀ (e : ClockEdge), exec (.linkByteComplete [e]) s = clockEdge e s := by
    intro e
    show execLinkByteComplete [e] s = _
    unfold execLinkByteComplete
    cases clockEdge e s <;> rfl
  refine ⟨fun b j hc hx hj hlt => ?_, fun x hc hlen => ?_, fun x b hc hbits hbit => ?_, fun x hc => ?_,
    fun hc => ?_⟩
  · have hnext : nextSdoBit s = b.getLsbD (7 - j) := by
      unfold nextSdoBit
      rw [hx, hj]
      simp [BitVec.getMsbD, hlt]
    rw [hone, ((clockEdge_of hp true).2 hc).2, clockFall_next, hnext]
    rfl
  · rw [hone, ((clockEdge_of hp x).1 hc).1]
    refine if_pos ?_
    rw [List.length_append, List.length_singleton]
    omega
  · obtain ⟨y, hy⟩ := sdo_driven hp
    have hlen : ¬(s.link.bits ++ [x]).length < 8 := by rw [hbits]; simp
    have hrise : clockEdge (.rise x) s = byteComplete b
        (updLink (fun l => { l with sck := true, bits := [] }) s) := by
      rw [((clockEdge_of hp x).1 hc).1]
      refine (if_neg hlen).trans ?_
      rw [hbits, byteOfLink_bits]
    have hsame : sampled { s with link := { s.link with bits := [] } }
        = updLink (fun l => { l with sck := true, bits := [] }) s := by
      have hy' : sdo { s with link := { s.link with bits := [] } } = some y := hy
      rw [hy] at hbit
      rw [sampled_eq (by rfl) hy']
      unfold updLink
      dsimp only
      rw [hbit]
      rfl
    rw [hone, hrise, exec_clockByte (by exact hp) rfl, hsame]
  · rw [hone, ((clockEdge_of hp x).2 hc).1]
  · rw [hone, ((clockEdge_of hp true).1 hc).2]

theorem exec_ignoredTransaction (s : State) (k : Byte) (body : List Byte) :
    (decodeRequest k body = none →
        exec (.ignoredTransaction k body) s = .next { s with link := ignoringLink k body })
      ∧ (decodeRequest k body ≠ none → exec (.ignoredTransaction k body) s = .next s) := by
  show (_ → execIgnoredTransaction k body s = _) ∧ (_ → execIgnoredTransaction k body s = _)
  unfold execIgnoredTransaction
  cases decodeRequest k body with
  | none => exact ⟨fun _ => rfl, fun h => absurd rfl h⟩
  | some i => exact ⟨nofun, fun _ => rfl⟩

/-- Settles O57. -/
theorem linkMovesThroughItsPhases : Obligations.LinkMovesThroughItsPhases := by
  refine ⟨fun s => ⟨fun h1 h2 => if_pos ⟨h1, h2⟩, fun h => if_neg ?_, rfl, sdo_rest, sdo_ones, fun h => ?_,
      sdoLevel_driven⟩,
    fun s t xs ys h => execLinkByteComplete_append xs ys h, fun s hp => single_edges hp,
    fun s edges h => execLinkByteComplete_rest h edges, fun s b hb => ?_, fun s k body => ?_⟩
  · rintro ⟨h1, h2⟩
    rcases h with h | h
    · exact h h1
    · rw [h2] at h
      cases h
  · unfold sdoLevel
    rw [h]
  · obtain ⟨h1, h2, h3, h4, h5, h6⟩ := bytes_in_phases b hb
    refine ⟨h1, h2, h3, h4, fun hp hi => ⟨_, h5 hp hi, rfl, rfl, rfl, rfl⟩, h6, fun r hp hr =>
      ⟨fun hc => ?_, fun hc => ?_, fun j x hc hx => ?_, fun x hx => (bytes_of_reply b hb hp hr hx).1,
        fun x hx => (bytes_of_reply b hb hp hr hx).2⟩⟩
    · rw [sdo_reply hp hr, hc]
      rfl
    · rw [sdo_reply hp hr, hc]
      rfl
    · rw [sdo_reply hp hr, hc]
      show some ((r.body[j]?).getD 0xFF#8) = _
      rw [hx]
      rfl
  · obtain ⟨h1, h2⟩ := exec_ignoredTransaction s k body
    exact ⟨fun h => ⟨_, h1 h, rfl, rfl, rfl⟩, h2⟩

end Sys2Proof.Machine
end

section
-- One proof at a time: side by side, their threads' stacks outgrow the check's memory.
set_option Elab.async false
/-! SUPPORT. The printer port: the byte handshake, and what its moves make of the port (R106, R112). -/

namespace Sys2Proof.Machine

/-! ## A byte begins (R106) -/

theorem startByte_waits {s : State} {b : Byte} {bs : List Byte} (h : jobBytes s s.port.job = b :: bs)
    (hb : s.port.busyPin = true) :
    startByte s = { s with port := { s.port with stage := .readyWait (now s) } } := by
  unfold startByte
  rw [h]
  exact if_pos hb

theorem startByte_strobes {s : State} {b : Byte} {bs : List Byte} (h : jobBytes s s.port.job = b :: bs)
    (hb : s.port.busyPin = false) :
    startByte s = { s with port := { s.port with stage := .strobe, pd := b } } := by
  unfold startByte
  rw [h]
  exact if_neg (by rw [hb]; decide)

/-- The state in which a release of BUSY acts. -/
def busyLow (s : State) : State := { s with port := { s.port with busyPin := false } }

theorem exec_busyReleased (s : State) : exec .busyReleased s = .next (busyReleased (busyLow s)) := rfl

theorem downExit_of_up {s : State} (h : s.port.state ≠ .down) : downExit s = s :=
  if_neg fun hd => h hd.1

/-- What a release of BUSY does in READY-WAIT, in RELEASE-WAIT, and outside the two. -/
theorem busyReleased_ready {s : State} {start : Time} (h : s.port.stage = .readyWait start)
    (hj : s.port.job ≠ .recovery) : busyReleased s = startByte s := by
  unfold busyReleased
  rw [h]
  cases hjob : s.port.job with
  | recovery => exact absurd hjob hj
  | _ => rfl

theorem busyReleased_release {s : State} {start : Time} (h : s.port.stage = .releaseWait start) :
    busyReleased s = byteAccepted s := by
  unfold busyReleased
  rw [h]

theorem busyReleased_elsewhere {s : State} (h1 : ∀ start, s.port.stage ≠ .readyWait start)
    (h2 : ∀ start, s.port.stage ≠ .releaseWait start) : busyReleased s = downExit s := by
  unfold busyReleased
  cases hs : s.port.stage with
  | readyWait start => exact absurd hs (h1 start)
  | releaseWait start => exact absurd hs (h2 start)
  | _ => rfl

/-- Settles O53. -/
theorem handshakeMovesEachByte : Obligations.HandshakeMovesEachByte := by
  intro s
  refine ⟨fun h => ?_, fun h => ?_, fun start h => ?_, fun h => ?_, fun start b bs h hj => ?_,
    fun start a b bs h hj => ?_, fun b bs h => ?_, fun hd h => ?_⟩
  · show execStrobeReleased s = _
    unfold execStrobeReleased
    rw [h]
    rfl
  · show execStrobeReleased s = _
    unfold execStrobeReleased
    cases hs : s.port.stage with
    | strobe => exact absurd hs h
    | _ => rfl
  · show execBusyAsserted s = _
    unfold execBusyAsserted updPort
    dsimp only
    rw [h]
  · show execBusyAsserted s = _
    unfold execBusyAsserted updPort
    dsimp only
    cases hs : s.port.stage with
    | ackWait start => exact absurd hs (h start)
    | _ => rfl
  · have hbytes : jobBytes (busyLow s) (busyLow s).port.job = b :: bs := by
      show jobBytes (busyLow s) s.port.job = _
      rw [hj]
      rfl
    rw [exec_busyReleased, busyReleased_ready (by exact h) (by show s.port.job ≠ _; rw [hj]; nofun),
      startByte_strobes hbytes rfl]
    rfl
  · have haccept : byteAccepted (busyLow s)
        = startByte (updPort (fun p => { p with job := .line (b :: bs) }) (busyLow s)) := by
      unfold byteAccepted
      have hjob : (busyLow s).port.job = .line (a :: b :: bs) := hj
      rw [hjob]
    rw [exec_busyReleased, busyReleased_release (by exact h), haccept, startByte_strobes rfl rfl]
    rfl
  · have hbytes : ∃ rest, jobBytes s s.port.job = b :: rest := by
      rcases h with h | ⟨h, rfl⟩
      · rw [h]
        exact ⟨bs, rfl⟩
      · rw [h]
        exact ⟨[], rfl⟩
    obtain ⟨rest, hbytes⟩ := hbytes
    exact ⟨startByte_waits hbytes, startByte_strobes hbytes⟩
  · rw [exec_busyReleased, busyReleased_elsewhere, downExit_of_up (by exact hd)]
    · rfl
    · intro start hs
      have hs' : s.port.stage = .readyWait start := hs
      rcases h with h | h <;> rw [h] at hs' <;> cases hs'
    · intro start hs
      have hs' : s.port.stage = .releaseWait start := hs
      rcases h with h | h <;> rw [h] at hs' <;> cases hs'

/-! ## A job and its line (R112, R113) -/

theorem sendJob_strobes {s : State} {j : Job} {b : Byte} {bs : List Byte} (h : jobBytes s j = b :: bs)
    (hb : s.port.busyPin = false) : sendJob j s
      = { s with port := { s.port with state := .sending, job := j, stage := .strobe, pd := b } } :=
  startByte_strobes (s := updPort (fun p => { p with state := .sending, job := j }) s) h hb

theorem sendJob_waits {s : State} {j : Job} {b : Byte} {bs : List Byte} (h : jobBytes s j = b :: bs)
    (hb : s.port.busyPin = true) : sendJob j s
      = { s with port := { s.port with state := .sending, job := j, stage := .readyWait (now s) } } :=
  startByte_waits (s := updPort (fun p => { p with state := .sending, job := j }) s) h hb

/-- The next image line of a lane, none for an idle one. -/
def laneLine (lane : Option LaneTicket) : List Byte := (lane.map LaneTicket.line).getD []

theorem singleLine_eq {s : State} (h : dualLane s = false) (k : LaneTicket) (right : List Byte) :
    singleLine k = lineBytes s (LaneTicket.line k) right := by
  rw [lineBytes, h]
  rfl

theorem doubleLine_eq {s : State} (h : dualLane s = true) (left right : Option LaneTicket) :
    doubleLine left right = lineBytes s (laneLine left) (laneLine right) := by
  rw [lineBytes, h]
  rfl

/-- A printer line has a first byte. -/
theorem lineBytes_cons (s : State) (l r : List Byte) : ∃ b bs, lineBytes s l r = b :: bs := by
  cases h : lineBytes s l r with
  | nil => simp [lineBytes] at h
  | cons b bs => exact ⟨b, bs, rfl⟩

/-! ## Idle lanes (R110) -/

theorem takeItem_of_noItems {s : State} (h : s.port.list = []) (put : LaneTicket → Port → Port) :
    takeItem put s = s := by
  unfold takeItem
  rw [h]

theorem fillLeft_of_taken {s : State} (h : s.port.left.isSome = true) : fillLeft s = s := by
  unfold fillLeft
  rw [if_neg]
  cases hl : s.port.left <;> simp_all

theorem fillRight_of_taken {s : State} (h : s.port.right.isSome = true) : fillRight s = s := by
  unfold fillRight
  rw [if_neg]
  cases hl : s.port.right <;> simp_all

theorem fillLeft_of_noItems {s : State} (h : s.port.list = []) : fillLeft s = s := by
  unfold fillLeft
  rw [takeItem_of_noItems h, ite_self]

theorem fillRight_of_noItems {s : State} (h : s.port.list = []) : fillRight s = s := by
  unfold fillRight
  rw [takeItem_of_noItems h, ite_self]

/-- No idle lane of the port has an item to take. -/
def Filled (s : State) : Prop :=
  s.port.list = [] ∨ s.port.left.isSome = true ∧ (dualLane s = true → s.port.right.isSome = true)

/-- Some lane of the port has a ticket. -/
def Printing (s : State) : Prop :=
  s.port.left.isSome = true ∨ dualLane s = true ∧ s.port.right.isSome = true

theorem fillLeft_of_filled {s : State} (h : Filled s) : fillLeft s = s := by
  rcases h with h | ⟨h, -⟩
  · exact fillLeft_of_noItems h
  · exact fillLeft_of_taken h

theorem fillRight_of_filled {s : State} (h : Filled s) (hd : dualLane s = true) : fillRight s = s := by
  rcases h with h | ⟨-, h⟩
  · exact fillRight_of_noItems h
  · exact fillRight_of_taken (h hd)

/-- A line of the tickets that the lanes hold starts. -/
theorem startLine_prints {s : State} (hf : Filled s) (hp : Printing s) :
    startLine s = sendJob (.line (lineBytes s (laneLine s.port.left) (laneLine s.port.right))) s := by
  unfold startLine
  cases hd : dualLane s with
  | false =>
    rw [if_neg (by decide), fillLeft_of_filled hf]
    have hleft : s.port.left.isSome = true := by
      rcases hp with h | ⟨h, -⟩
      · exact h
      · rw [hd] at h
        cases h
    obtain ⟨k, hk⟩ := Option.isSome_iff_exists.1 hleft
    dsimp only
    rw [hk]
    dsimp only
    rw [singleLine_eq hd k (laneLine s.port.right)]
    rfl
  | true =>
    rw [if_pos rfl, fillLeft_of_filled hf, fillRight_of_filled hf hd]
    dsimp only
    rw [if_neg, doubleLine_eq hd]
    rintro ⟨h1, h2⟩
    rcases hp with h | ⟨-, h⟩
    · cases hl : s.port.left <;> simp_all
    · cases hl : s.port.right <;> simp_all

/-- With no ticket and no item the port sends an owed cut, or is IDLE. -/
theorem startLine_empty {s : State} (hl : s.port.left = none) (hr : s.port.right = none)
    (hlist : s.port.list = []) : startLine s
      = if dualLane s = true ∧ s.port.cutOwed = true then sendJob .cut s else portIdle s := by
  unfold startLine
  rw [fillLeft_of_noItems hlist, fillRight_of_noItems hlist]
  cases hd : dualLane s with
  | false =>
    rw [if_neg (by decide)]
    dsimp only
    rw [hl]
    rfl
  | true =>
    rw [if_pos rfl]
    dsimp only
    rw [hl, hr]
    simp

end Sys2Proof.Machine
end

section
-- One proof at a time: side by side, their threads' stacks outgrow the check's memory.
set_option Elab.async false
/-! SUPPORT. The printer port's faults: the response to one, and what DOWN gives up (R116 to R120). -/

namespace Sys2Proof.Machine

/-! ## The responses to a fault (R116) -/

/-- A fault has arisen: the handshake has stopped, the kind is recorded, the notice queued. -/
def faultNoted (k : FaultKind) (s : State) : State :=
  notify (.printerFault k (responseTo s k))
    (updPort (fun p => { p with job := .none, stage := .rest, faultKind := some k }) s)

theorem faultNoted_frame (k : FaultKind) (s : State) :
    faultNoted k s = { s with
      port := { s.port with job := .none, stage := .rest, faultKind := some k }
      notices := (faultNoted k s).notices, overflow := (faultNoted k s).overflow
      link := (faultNoted k s).link } := by
  unfold faultNoted
  rw [notify_frame]
  rfl

theorem notified_faultNoted (k : FaultKind) (s : State) :
    Notified s (faultNoted k s) (.printerFault k (responseTo s k)) :=
  notified_notify _ rfl rfl rfl rfl

/-- The port is in a state in which a fault arises. -/
def TakesFaults (s : State) : Prop := s.port.state = .idle ∨ s.port.state = .sending

theorem raiseFault_latch {k : FaultKind} {s : State} (h : TakesFaults s)
    (hr : responseTo s k = .latch) :
    raiseFault k s = updPort (fun p => { p with state := .latched }) (faultNoted k s) := by
  unfold raiseFault faultNoted
  rcases h with h | h <;> (rw [h]; dsimp only; rw [hr])

theorem raiseFault_retry {k : FaultKind} {s : State} (h : TakesFaults s)
    (hr : responseTo s k = .retry) :
    raiseFault k s = updPort (fun p =>
      { p with state := .retryWait, retryFrom := some (now (faultNoted k s)) }) (faultNoted k s) := by
  unfold raiseFault faultNoted
  rcases h with h | h <;> (rw [h]; dsimp only; rw [hr])

theorem raiseFault_skip {k : FaultKind} {s : State} (h : TakesFaults s)
    (hr : responseTo s k = .skip) : raiseFault k s = goDown (faultNoted k s) := by
  unfold raiseFault faultNoted
  rcases h with h | h <;> (rw [h]; dsimp only; rw [hr])

theorem raiseFault_elsewhere {k : FaultKind} {s : State}
    (h : s.port.state = .latched ∨ s.port.state = .retryWait ∨ s.port.state = .down) :
    raiseFault k s = s := by
  unfold raiseFault
  rcases h with h | h | h <;> rw [h]

/-! ## What a port that goes DOWN gives up (R120) -/

/-- The entries for which `lost` holds are UNPRINTED, all others as they were. -/
def Unprints (lost : Nat → Nat → Prop) (s t : State) : Prop :=
  ∀ x n : Nat,
    (∀ e : Entry, entryOf s x n = some e →
      (lost x n → entryOf t x n = some { e with print := .unprinted })
        ∧ (¬lost x n → entryOf t x n = some e))
    ∧ (entryOf s x n = none → entryOf t x n = none)

theorem Unprints.of_none {lost : Nat → Nat → Prop} {s t : State} (h : ∀ x n, ¬lost x n)
    (ht : t.kitchen.entries = s.kitchen.entries) : Unprints lost s t := by
  intro x n
  have hsame : entryOf t x n = entryOf s x n := by
    unfold entryOf
    rw [ht]
  rw [hsame]
  exact ⟨fun e he => ⟨fun hl => absurd hl (h x n), fun _ => he⟩, id⟩

theorem Unprints.trans {p q : Nat → Nat → Prop} {s t u : State} (h1 : Unprints p s t)
    (h2 : Unprints q t u) : Unprints (fun x n => p x n ∨ q x n) s u := by
  intro x n
  obtain ⟨g1, n1⟩ := h1 x n
  obtain ⟨g2, n2⟩ := h2 x n
  refine ⟨fun e he => ⟨fun hl => ?_, fun hl => ?_⟩, fun he => n2 (n1 he)⟩
  · by_cases hp : p x n
    · obtain ⟨a, b⟩ := g2 _ ((g1 e he).1 hp)
      by_cases hq : q x n
      · exact a hq
      · exact b hq
    · obtain ⟨a, -⟩ := g2 e ((g1 e he).2 hp)
      exact a (hl.resolve_left hp)
  · rw [not_or] at hl
    exact (g2 e ((g1 e he).2 hl.1)).2 hl.2

theorem Unprints.congr {p q : Nat → Nat → Prop} {s t : State} (h : Unprints p s t)
    (hpq : ∀ x n, p x n ↔ q x n) : Unprints q s t := by
  have : p = q := funext fun x => funext fun n => propext (hpq x n)
  rwa [← this]

/-- The generation and number of an entry outlive its print state. -/
theorem Unprints.ref {p : Nat → Nat → Prop} {s t : State} (h : Unprints p s t) (x n : Nat) :
    (entryOf t x n).map (fun e => (⟨e.number, e.gen⟩ : Ref))
      = (entryOf s x n).map fun e => (⟨e.number, e.gen⟩ : Ref) := by
  obtain ⟨g, hn⟩ := h x n
  cases he : entryOf s x n with
  | none => rw [hn he]
  | some e =>
    by_cases hp : p x n
    · rw [(g e he).1 hp]
      rfl
    · rw [(g e he).2 hp]

theorem unprints_setPrint (o m : Nat) (s : State) :
    Unprints (fun x n => o = x ∧ m = n) s (setPrint o m .unprinted s) := by
  intro x n
  by_cases h : o = x ∧ m = n
  · obtain ⟨rfl, rfl⟩ := h
    have hset : entryOf (setPrint o m .unprinted s) o m
        = (entryOf s o m).map fun e => { e with print := .unprinted } :=
      entryOf_updEntry_self (by exact fun _ h1 h2 => ⟨h1, h2⟩)
    rw [hset]
    refine ⟨fun e he => ⟨fun _ => by rw [he]; rfl, fun hl => absurd ⟨rfl, rfl⟩ hl⟩, fun he => by rw [he]; rfl⟩
  · have hne : x ≠ o ∨ n ≠ m := by
      by_cases hx : x = o
      · exact Or.inr fun hn => h ⟨hx.symm, hn.symm⟩
      · exact Or.inl hx
    have hset : entryOf (setPrint o m .unprinted s) x n = entryOf s x n :=
      entryOf_updEntry_ne (by exact fun _ h1 h2 => ⟨h1, h2⟩) hne
    rw [hset]
    exact ⟨fun e he => ⟨fun hl => absurd hl h, fun _ => he⟩, id⟩

/-- These notices have been queued one after the other, and nothing else. -/
def Told (bs : List NoticeBody) (s t : State) : Prop :=
  t.notices = (bs.foldl (fun u b => notify b u) s).notices
    ∧ t.overflow = (bs.foldl (fun u b => notify b u) s).overflow
    ∧ t.link = (bs.foldl (fun u b => notify b u) s).link

theorem told_congr (bs : List NoticeBody) {s u : State} (hn : u.notices = s.notices)
    (ho : u.overflow = s.overflow) (hl : u.link = s.link) (hc : u.clock = s.clock) :
    Told bs s (bs.foldl (fun u b => notify b u) u) := by
  induction bs generalizing s u with
  | nil => exact ⟨hn, ho, hl⟩
  | cons b bs ih =>
    obtain ⟨h1, h2, h3⟩ := notify_congr b hn ho hl hc
    refine ih h1 h2 h3 ?_
    show (notify b u).clock = (notify b s).clock
    rw [notify_frame b u, notify_frame b s]
    exact hc

theorem Told.trans {a b : List NoticeBody} {s t u : State} (h1 : Told a s t) (h2 : Told b t u)
    (hc : t.clock = s.clock) : Told (a ++ b) s u := by
  obtain ⟨n1, o1, l1⟩ := h1
  obtain ⟨n2, o2, l2⟩ := h2
  have hclock : ∀ (bs : List NoticeBody) (s : State),
      (bs.foldl (fun u b => notify b u) s).clock = s.clock := by
    intro bs
    induction bs with
    | nil => intro _; rfl
    | cons b bs ih =>
      intro s
      rw [List.foldl_cons, ih, notify_frame]
  obtain ⟨n3, o3, l3⟩ := told_congr b n1 o1 l1 (hc.trans (hclock a s).symm)
  unfold Told
  rw [List.foldl_append]
  exact ⟨n2.trans n3, o2.trans o3, l2.trans l3⟩

theorem told_notify (b : NoticeBody) {s u : State} (hn : u.notices = s.notices)
    (ho : u.overflow = s.overflow) (hl : u.link = s.link) (hc : u.clock = s.clock) :
    Told [b] s (notify b u) :=
  told_congr [b] hn ho hl hc

/-- A lane holds the ticket of this origin and number, whose entry is in the queue. -/
def Holds (lane : Option LaneTicket) (x n : Nat) : Prop :=
  ∃ q : LaneTicket, lane = some q ∧ q.held = true ∧ q.origin = x ∧ q.ref.number = n

theorem unprints_giveUpLane (lane : Option LaneTicket) (s : State) :
    Unprints (Holds lane) s (giveUpLane lane s) := by
  unfold giveUpLane
  cases lane with
  | none => exact Unprints.of_none (by rintro x n ⟨q, hq, -⟩; cases hq) rfl
  | some k =>
    dsimp only
    rw [notify_frame]
    by_cases hk : k.held = true
    · rw [if_pos hk]
      refine (unprints_setPrint k.origin k.ref.number s).congr fun x n => ?_
      constructor
      · rintro ⟨h1, h2⟩
        exact ⟨k, rfl, hk, h1, h2⟩
      · rintro ⟨q, hq, -, h1, h2⟩
        cases hq
        exact ⟨h1, h2⟩
    · rw [if_neg hk]
      refine Unprints.of_none ?_ rfl
      rintro x n ⟨q, hq, hheld, -⟩
      cases hq
      exact hk hheld

theorem told_giveUpLane (lane : Option LaneTicket) (s : State) :
    Told (lane.toList.map fun q => .ticketUnprinted q.origin q.ref) s (giveUpLane lane s) := by
  unfold giveUpLane
  cases lane with
  | none => exact ⟨rfl, rfl, rfl⟩
  | some k =>
    dsimp only
    split <;> exact told_notify _ rfl rfl rfl rfl

theorem unprints_giveUpItem (it : PrintItem) (s : State) :
    Unprints (fun x n => it.origin = x ∧ it.number = n) s (giveUpItem s it) := by
  unfold giveUpItem
  cases he : entryOf s it.origin it.number with
  | some e =>
    obtain ⟨-, hnum⟩ := entryOf_name he
    dsimp only
    unfold unprinted
    rw [notify_frame, hnum]
    exact unprints_setPrint it.origin it.number s
  | none =>
    dsimp only
    intro x n
    refine ⟨fun e h => ⟨fun hl => ?_, fun _ => h⟩, id⟩
    obtain ⟨rfl, rfl⟩ := hl
    rw [he] at h
    cases h

/-- The notice of a print list item that is given up, if its entry is in the queue. -/
def givenUp (s : State) (it : PrintItem) : Option NoticeBody :=
  (entryOf s it.origin it.number).map fun e => .ticketUnprinted it.origin ⟨e.number, e.gen⟩

theorem told_giveUpItem (it : PrintItem) (s : State) :
    Told (givenUp s it).toList s (giveUpItem s it) := by
  unfold giveUpItem givenUp
  cases he : entryOf s it.origin it.number with
  | some e => exact told_notify _ rfl rfl rfl rfl
  | none => exact ⟨rfl, rfl, rfl⟩

theorem Unprints.givenUp {p : Nat → Nat → Prop} {s t : State} (h : Unprints p s t) (it : PrintItem) :
    givenUp t it = givenUp s it := by
  have hr := congrArg (Option.map fun r => NoticeBody.ticketUnprinted it.origin r)
    (h.ref it.origin it.number)
  rw [Option.map_map, Option.map_map] at hr
  exact hr

theorem giveUpItem_clock (it : PrintItem) (s : State) : (giveUpItem s it).clock = s.clock :=
  (congrArg State.clock (giveUp_frame [it] s) :)

theorem unprints_giveUpItems (items : List PrintItem) (s : State) :
    Unprints (fun x n => ∃ it, it ∈ items ∧ it.origin = x ∧ it.number = n) s
      (items.foldl giveUpItem s) := by
  induction items generalizing s with
  | nil => exact Unprints.of_none (by rintro x n ⟨it, hit, -⟩; cases hit) rfl
  | cons it items ih =>
    refine ((unprints_giveUpItem it s).trans (ih (giveUpItem s it))).congr fun x n => ?_
    simp only [List.mem_cons]
    constructor
    · rintro (h | ⟨j, hj, h⟩)
      · exact ⟨it, .inl rfl, h⟩
      · exact ⟨j, .inr hj, h⟩
    · rintro ⟨j, rfl | hj, h⟩
      · exact .inl h
      · exact .inr ⟨j, hj, h⟩

theorem told_giveUpItems (items : List PrintItem) (s : State) :
    Told (items.filterMap (givenUp s)) s (items.foldl giveUpItem s) := by
  induction items generalizing s with
  | nil => exact ⟨rfl, rfl, rfl⟩
  | cons it items ih =>
    have hsame : givenUp (giveUpItem s it) = givenUp s :=
      funext fun j => (unprints_giveUpItem it s).givenUp j
    have hrest := ih (giveUpItem s it)
    rw [hsame] at hrest
    have hall := (told_giveUpItem it s).trans hrest (giveUpItem_clock it s)
    have hlist : (it :: items).filterMap (givenUp s)
        = (givenUp s it).toList ++ items.filterMap (givenUp s) := by
      cases h : givenUp s it <;> simp [h]
    rw [hlist]
    exact hall


/-- The port as it enters DOWN: its lanes and its list are empty and no cut is owed. -/
def downed (s : State) : State :=
  updPort (fun p =>
    { p with state := .down, left := none, right := none, list := [], cutOwed := false }) s

/-- What a port that goes DOWN, and stays there, gives up: the left lane, the right one, the list. -/
def givesUp (s : State) : State :=
  s.port.list.foldl giveUpItem (giveUpLane s.port.right (giveUpLane s.port.left
    (downed s)))

theorem givesUp_frame (s : State) : givesUp s = { s with
    kitchen := { s.kitchen with entries := (givesUp s).kitchen.entries }
    port := { s.port with state := .down, left := none, right := none, list := [], cutOwed := false }
    notices := (givesUp s).notices, overflow := (givesUp s).overflow, link := (givesUp s).link } := by
  unfold givesUp
  rw [giveUp_frame, giveUpLane_frame, giveUpLane_frame]
  rfl

theorem goDown_stays {s : State} (h : s.port.busyPin = true ∨ s.port.faultPin = true) :
    goDown s = givesUp s := by
  show downExit (givesUp s) = givesUp s
  unfold downExit
  rw [if_neg]
  rw [givesUp_frame s]
  rintro ⟨-, h1, h2⟩
  have h1' : s.port.faultPin = false := h1
  have h2' : s.port.busyPin = false := h2
  rw [h1', h2'] at h
  rcases h with h | h <;> cases h

theorem unprints_givesUp (s : State) : Unprints (fun x n =>
      (∃ q : LaneTicket, (s.port.left = some q ∨ s.port.right = some q) ∧ q.held = true
        ∧ q.origin = x ∧ q.ref.number = n)
      ∨ ∃ it : PrintItem, it ∈ s.port.list ∧ it.origin = x ∧ it.number = n) s (givesUp s) := by
  have h0 : Unprints (fun _ _ => False) s (downed s) :=
    Unprints.of_none (fun _ _ => id) rfl
  have h1 := h0.trans (unprints_giveUpLane s.port.left _)
  have h2 := h1.trans (unprints_giveUpLane s.port.right _)
  refine (h2.trans (unprints_giveUpItems s.port.list _)).congr fun x n => or_congr_left ?_
  unfold Holds
  constructor
  · rintro ((h | ⟨q, hq, h⟩) | ⟨q, hq, h⟩)
    · exact h.elim
    · exact ⟨q, .inl hq, h⟩
    · exact ⟨q, .inr hq, h⟩
  · rintro ⟨q, hq | hq, h⟩
    · exact .inl (.inr ⟨q, hq, h⟩)
    · exact .inr ⟨q, hq, h⟩

theorem told_givesUp (s : State) :
    Told ((s.port.left.toList ++ s.port.right.toList).map (fun q => .ticketUnprinted q.origin q.ref)
        ++ s.port.list.filterMap (givenUp s)) s (givesUp s) := by
  have h0 : Told [] s (downed s) := ⟨rfl, rfl, rfl⟩
  have h1 := h0.trans (told_giveUpLane s.port.left (downed s)) rfl
  have h2 := h1.trans (told_giveUpLane s.port.right _)
    (congrArg State.clock (giveUpLane_frame s.port.left (downed s)) :)
  have hsame : givenUp (giveUpLane s.port.right (giveUpLane s.port.left (downed s))) = givenUp s :=
    funext fun it => ((unprints_giveUpLane s.port.right _).givenUp it).trans
      ((unprints_giveUpLane s.port.left (downed s)).givenUp it)
  have h3 := told_giveUpItems s.port.list (giveUpLane s.port.right (giveUpLane s.port.left (downed s)))
  rw [hsame] at h3
  have hclock : (giveUpLane s.port.right (giveUpLane s.port.left (downed s))).clock = s.clock := by
    rw [giveUpLane_frame, giveUpLane_frame]
    rfl
  rw [List.map_append]
  exact h2.trans h3 hclock

theorem givesUp_nothing {s : State} (hl : s.port.left = none) (hr : s.port.right = none)
    (hlist : s.port.list = []) : givesUp s = downed s := by
  unfold givesUp
  rw [hl, hr, hlist]
  rfl

/-! ## A fault's event -/

/-- The state in which a fault's event raises it, the deglitch timer as the event leaves it. -/
def glitched (glitch : Deglitch) (s : State) : State :=
  { s with port := { s.port with deglitch := glitch } }

theorem exec_limit {s : State} {start : Time} (hs : s.port.state = .sending)
    (hj : s.port.job ≠ .recovery) (hd : Due s start 2000)
    (hstage : s.port.stage = .ackWait start ∨ s.port.busyPin = true
      ∧ (s.port.stage = .readyWait start ∨ s.port.stage = .releaseWait start)) :
    exec .handshakeLimitExpiry s = .next (raiseFault .noResponse s) := by
  have hlimit : limitStart s = some start := by
    unfold limitStart
    rcases hstage with h | ⟨-, h | h⟩ <;> rw [h]
  have hopen : waitIsOver s.port = false := by
    unfold waitIsOver
    rcases hstage with h | ⟨hb, h | h⟩
    · rw [h]
    · rw [h, hb]
      rfl
    · rw [h, hb]
      rfl
  have hpulse : pulseEnds s = s := by
    unfold pulseEnds
    cases h : s.port.job with
    | recovery => exact absurd h hj
    | _ => rfl
  show execHandshakeLimitExpiry s = _
  unfold execHandshakeLimitExpiry
  rw [hs, hlimit, hopen, hpulse]
  show Host.Outcome.next (raiseFault .noResponse (advanceUntil start 2000 s)) = _
  rw [advanceUntil_of_due hd]

theorem exec_deglitched {s : State} {start : Time} (hd : Due s start 50)
    (hg : s.port.deglitch = .running start) :
    exec .deglitchTimerExpiry s = .next (raiseFault .lineFault (glitched .used s)) := by
  show execDeglitchTimerExpiry s = _
  unfold execDeglitchTimerExpiry
  rw [hg]
  show Host.Outcome.next (raiseFault .lineFault (glitched .used (advanceUntil start 50 s))) = _
  rw [advanceUntil_of_due hd]

/-- The response to a fault raised with the deglitch timer so. -/
theorem faultResponse_states {k : FaultKind} {w : Response} {glitch : Deglitch} {s : State}
    (h : TakesFaults s) (hw : responseTo s k = w) :
    let t := raiseFault k (glitched glitch s)
    (w = .latch →
        t = { s with port := t.port, notices := t.notices, overflow := t.overflow, link := t.link }
          ∧ t.port = { s.port with
              job := .none, stage := .rest, deglitch := glitch, faultKind := some k,
              state := .latched }
          ∧ Notified s t (.printerFault k .latch))
      ∧ (w = .retry →
        t = { s with port := t.port, notices := t.notices, overflow := t.overflow, link := t.link }
          ∧ t.port = { s.port with
              job := .none, stage := .rest, deglitch := glitch, faultKind := some k,
              state := .retryWait, retryFrom := some (now s) }
          ∧ Notified s t (.printerFault k .retry)) := by
  subst hw
  have hn : Notified s (faultNoted k (glitched glitch s)) (.printerFault k (responseTo s k)) :=
    (notified_faultNoted k (glitched glitch s)).congr rfl rfl rfl rfl
  refine ⟨fun hr => ?_, fun hr => ?_⟩
  · rw [hr] at hn
    dsimp only
    rw [raiseFault_latch (s := glitched glitch s) h hr, faultNoted_frame]
    exact ⟨rfl, rfl, hn⟩
  · rw [hr] at hn
    dsimp only
    rw [raiseFault_retry (s := glitched glitch s) h hr, faultNoted_frame]
    exact ⟨rfl, rfl, hn⟩

/-- The state in which the print list and the lanes are given up after a fault's notice. -/
theorem raiseFault_down {k : FaultKind} {glitch : Deglitch} {s : State}
    (h : TakesFaults s) (hw : responseTo s k = .skip)
    (hpin : s.port.busyPin = true ∨ s.port.faultPin = true) :
    raiseFault k (glitched glitch s) = givesUp (faultNoted k (glitched glitch s)) := by
  rw [raiseFault_skip (s := glitched glitch s) h hw, goDown_stays]
  rw [faultNoted_frame]
  exact hpin

theorem Told.after_notice {b : NoticeBody} {bs : List NoticeBody} {s u t : State} (h : Told bs u t)
    (hu : Notified s u b) (hc : u.clock = s.clock) : Told bs (notify b s) t := by
  obtain ⟨⟨h1, h2⟩, h3⟩ := hu
  have hclock : u.clock = (notify b s).clock := by
    rw [notify_frame b s]
    exact hc
  obtain ⟨n, o, l⟩ := told_congr bs h1 h2 h3 hclock
  obtain ⟨hn, ho, hl⟩ := h
  exact ⟨hn.trans n, ho.trans o, hl.trans l⟩

theorem faultResponse_down {k : FaultKind} {glitch : Deglitch} {s : State} (h : TakesFaults s)
    (hw : responseTo s k = .skip) (hpin : s.port.busyPin = true ∨ s.port.faultPin = true) :
    let t := raiseFault k (glitched glitch s)
    t = { s with kitchen := { s.kitchen with entries := t.kitchen.entries }, port := t.port,
                 notices := t.notices, overflow := t.overflow, link := t.link }
      ∧ t.port = { s.port with
          job := .none, stage := .rest, deglitch := glitch, faultKind := some k, state := .down,
          left := none, right := none, list := [], cutOwed := false }
      ∧ (s.port.left = none → s.port.right = none → s.port.list = [] →
          t.kitchen = s.kitchen ∧ Notified s t (.printerFault k .skip))
      ∧ Unprints (fun x n =>
          (∃ q : LaneTicket, (s.port.left = some q ∨ s.port.right = some q) ∧ q.held = true
            ∧ q.origin = x ∧ q.ref.number = n)
          ∨ ∃ it : PrintItem, it ∈ s.port.list ∧ it.origin = x ∧ it.number = n) s t
      ∧ Told ((s.port.left.toList ++ s.port.right.toList).map
            (fun q => .ticketUnprinted q.origin q.ref)
          ++ s.port.list.filterMap (givenUp s)) (notify (.printerFault k .skip) s) t := by
  have hn : Notified s (faultNoted k (glitched glitch s)) (.printerFault k .skip) := by
    have hr : responseTo (glitched glitch s) k = .skip := hw
    have hnoted := notified_faultNoted k (glitched glitch s)
    rw [hr] at hnoted
    exact hnoted.congr rfl rfl rfl rfl
  have hport : (faultNoted k (glitched glitch s)).port = { s.port with
      deglitch := glitch, job := .none, stage := .rest, faultKind := some k } := by
    rw [faultNoted_frame]
    rfl
  have hkitchen : (faultNoted k (glitched glitch s)).kitchen = s.kitchen := by
    rw [faultNoted_frame]
    rfl
  have hclock : (faultNoted k (glitched glitch s)).clock = s.clock := by
    rw [faultNoted_frame]
    rfl
  have hentry : ∀ x n, entryOf (faultNoted k (glitched glitch s)) x n = entryOf s x n := by
    intro x n
    unfold entryOf
    rw [hkitchen]
  have hlost := unprints_givesUp (faultNoted k (glitched glitch s))
  have htold := (told_givesUp (faultNoted k (glitched glitch s))).after_notice hn hclock
  have hgiven : givenUp (faultNoted k (glitched glitch s)) = givenUp s := by
    funext it
    unfold givenUp
    rw [hentry]
  rw [hgiven, hport] at htold
  rw [hport] at hlost
  dsimp only
  rw [raiseFault_down h hw hpin]
  refine ⟨?_, ?_, fun hl hr hlist => ?_, fun x n => ?_, htold⟩
  · rw [givesUp_frame, faultNoted_frame]
    rfl
  · rw [givesUp_frame, faultNoted_frame]
    rfl
  · rw [givesUp_nothing (by rw [hport]; exact hl) (by rw [hport]; exact hr)
      (by rw [hport]; exact hlist)]
    exact ⟨hkitchen, hn⟩
  · rw [← hentry]
    exact hlost x n

/-- Settles O55. -/
theorem printerFaultsTakeTheirResponse : Obligations.PrinterFaultsTakeTheirResponse := by
  refine ⟨fun s start c k w glitch hc => ?_, fun s start hs hj hb hstage => ?_,
    fun s start hg hd hs => ?_, fun s hf => ?_, fun s hs => ?_⟩
  · have hraised : TakesFaults s ∧ responseTo s k = w
        ∧ exec c s = .next (raiseFault k (glitched glitch s)) := by
      rcases hc with ⟨rfl, rfl, rfl, rfl, hs, hj, hd, hstage⟩ | ⟨rfl, rfl, rfl, rfl, hs, hd, hg⟩
      · exact ⟨.inr hs, rfl, exec_limit hs hj hd hstage⟩
      · exact ⟨hs, rfl, exec_deglitched hd hg⟩
    obtain ⟨htakes, hw, hexec⟩ := hraised
    obtain ⟨hlatch, hretry⟩ := faultResponse_states (glitch := glitch) htakes hw
    refine ⟨_, hexec, hlatch, hretry, fun hskip hpin => ?_⟩
    exact faultResponse_down htakes (hw.trans hskip) hpin
  · have hpulse : pulseEnds s = s := by
      unfold pulseEnds
      cases h : s.port.job with
      | recovery => exact absurd h hj
      | _ => rfl
    have hlow : busyLow s = s := by
      unfold busyLow
      rw [← hb]
    have hover : waitIsOver s.port = true := by
      unfold waitIsOver
      rcases hstage with h | h <;> (rw [h, hb]; rfl)
    have hlimit : limitStart s = some start := by
      unfold limitStart
      rcases hstage with h | h <;> rw [h]
    rw [exec_busyReleased, hlow]
    show execHandshakeLimitExpiry s = _
    unfold execHandshakeLimitExpiry
    rw [hs, hlimit, hover, hpulse]
    rfl
  · rw [exec_deglitched hd hg, raiseFault_elsewhere (by exact hs)]
    rfl
  · show execFaultAsserted s = _
    unfold execFaultAsserted
    rw [if_neg (by rw [hf]; decide)]
    unfold portWatches
    simp only [Bool.and_eq_true, beq_iff_eq]
    rfl
  · show Host.Outcome.next _ = _
    rw [downExit_of_up (by exact hs)]
    rfl

end Sys2Proof.Machine
end

section
-- One proof at a time: side by side, their threads' stacks outgrow the check's memory.
set_option Elab.async false
/-! SUPPORT. The recovery of the printer port: its beginning, its limit and its end (R117 to R120). -/

namespace Sys2Proof.Machine

/-! ## The start of a line and the port (R112, R113) -/

/-- A byte, a job and an idle lane leave the fault kind, the PRIME pulse and the pins as they were. -/
def Steady (s t : State) : Prop :=
  t.port.faultKind = s.port.faultKind ∧ t.port.primeLeft = s.port.primeLeft
    ∧ t.port.busyPin = s.port.busyPin

theorem Steady.trans {s t u : State} (h1 : Steady s t) (h2 : Steady t u) : Steady s u :=
  ⟨h2.1.trans h1.1, h2.2.1.trans h1.2.1, h2.2.2.trans h1.2.2⟩

theorem steady_sendJob (j : Job) (s : State) : Steady s (sendJob j s) := by
  unfold sendJob startByte
  split
  · split <;> exact ⟨rfl, rfl, rfl⟩
  · exact ⟨rfl, rfl, rfl⟩

theorem steady_fillLeft (s : State) : Steady s (fillLeft s) := by
  unfold fillLeft takeItem
  split
  · split
    · exact ⟨rfl, rfl, rfl⟩
    · dsimp only
      split <;> exact ⟨rfl, rfl, rfl⟩
  · exact ⟨rfl, rfl, rfl⟩

theorem steady_fillRight (s : State) : Steady s (fillRight s) := by
  unfold fillRight takeItem
  split
  · split
    · exact ⟨rfl, rfl, rfl⟩
    · dsimp only
      split <;> exact ⟨rfl, rfl, rfl⟩
  · exact ⟨rfl, rfl, rfl⟩

theorem steady_startLine (s : State) : Steady s (startLine s) := by
  have hidle : ∀ u : State, Steady u (portIdle u) := fun _ => ⟨rfl, rfl, rfl⟩
  have hl := steady_fillLeft s
  have hr := hl.trans (steady_fillRight (fillLeft s))
  unfold startLine
  split
  · dsimp only
    split
    · split
      · exact hr.trans (steady_sendJob _ _)
      · exact hr.trans (hidle _)
    · exact hr.trans (steady_sendJob _ _)
  · dsimp only
    split
    · exact hl.trans (steady_sendJob _ _)
    · exact hl.trans (hidle _)

theorem sendJob_kitchen (j : Job) (s : State) : (sendJob j s).kitchen = s.kitchen := by
  unfold sendJob startByte
  split
  · split <;> rfl
  · rfl

/-- A line that starts with no item to take leaves the queue as it was. -/
theorem startLine_kitchen {s : State} (h : Filled s) : (startLine s).kitchen = s.kitchen := by
  unfold startLine
  rw [fillLeft_of_filled h]
  split
  · rename_i hd
    rw [fillRight_of_filled h hd]
    dsimp only
    split
    · split
      · exact sendJob_kitchen _ _
      · rfl
    · exact sendJob_kitchen _ _
  · dsimp only
    split
    · exact sendJob_kitchen _ _
    · rfl

/-! ## A recovery begins (R118, R120) -/

/-- The moment at which a PRIME pulse that begins now ends. -/
def pulseEnd (s : State) : Time := (advance (primeHalves s) s).clock.time

theorem pulseEnd_eq {s : State} (h : s.ClockSound) :
    pulseEnd s = if s.clock.msPhase + Straps.halvesPerMs s.straps / 2 < Straps.halvesPerMs s.straps
      then now s else now s + 1 := by
  have hp := halvesPerMs_pos s.straps
  have hphase : s.clock.msPhase < Straps.halvesPerMs s.straps := h
  show s.clock.time + BitVec.ofNat 32
    ((s.clock.msPhase + Straps.halvesPerMs s.straps / 2) / Straps.halvesPerMs s.straps) = _
  split
  · rename_i hlt
    rw [Nat.div_eq_of_lt hlt]
    exact BitVec.add_zero _
  · rename_i hge
    rw [Nat.div_eq_of_lt_le (k := 1) (by omega) (by omega)]
    rfl

theorem beginRecovery_eq (s : State) : beginRecovery s = { s with port := { s.port with
    state := .sending, job := .recovery, stage := .readyWait (pulseEnd s)
    primeLeft := Straps.halvesPerMs s.straps / 2, retryFrom := none } } := rfl

theorem downExit_leaves {s : State} (h : s.port.state = .down) (hf : s.port.faultPin = false)
    (hb : s.port.busyPin = false) : downExit s = beginRecovery s := if_pos ⟨h, hf, hb⟩

/-! ## The limit of a recovery (R107, log 30) -/

theorem exec_recoveryLimit {s : State} {start : Time} (hs : s.port.state = .sending)
    (hj : s.port.job = .recovery) (hstage : s.port.stage = .readyWait start)
    (hb : s.port.busyPin = true) :
    exec .handshakeLimitExpiry s
      = .next (raiseFault .noResponse (advanceUntil start 2000 (advance s.port.primeLeft s))) := by
  show execHandshakeLimitExpiry s = _
  unfold execHandshakeLimitExpiry limitStart pulseEnds waitIsOver
  rw [hs, hj, hstage, hb]
  rfl

theorem exec_recoveryWaitOver {s : State} {start : Time} (hs : s.port.state = .sending)
    (hj : s.port.job = .recovery) (hstage : s.port.stage = .readyWait start)
    (hb : s.port.busyPin = false) :
    exec .handshakeLimitExpiry s = .next (recoveryEnds (advance s.port.primeLeft s)) := by
  have hend : busyReleased (advance s.port.primeLeft s) = recoveryEnds (advance s.port.primeLeft s) := by
    have h1 : (advance s.port.primeLeft s).port.stage = .readyWait start := hstage
    have h2 : (advance s.port.primeLeft s).port.job = .recovery := hj
    have h3 : (advance s.port.primeLeft s).port.primeLeft = 0 := Nat.sub_self _
    unfold busyReleased
    rw [h1, h2]
    exact if_pos h3
  show execHandshakeLimitExpiry s = _
  unfold execHandshakeLimitExpiry limitStart pulseEnds waitIsOver
  rw [hs, hj, hstage, hb]
  exact congrArg Host.Outcome.next hend

theorem raiseFault_clock (k : FaultKind) (s : State) : (raiseFault k s).clock = s.clock :=
  (congrArg State.clock (raiseFault_frame k s) :)

/-- A fault's kind is recorded, and outlives every response that does not begin a recovery (log 25). -/
theorem raiseFault_kind {k : FaultKind} {s : State} (h : TakesFaults s)
    (hpin : s.port.busyPin = true) : (raiseFault k s).port.faultKind = some k := by
  cases hr : responseTo s k with
  | latch => rw [raiseFault_latch h hr, faultNoted_frame]; rfl
  | retry => rw [raiseFault_retry h hr, faultNoted_frame]; rfl
  | skip =>
    rw [raiseFault_skip h hr, goDown_stays (.inl (by rw [faultNoted_frame]; exact hpin)),
      givesUp_frame, faultNoted_frame]

theorem recoveryEnds_clock (s : State) : (recoveryEnds s).clock = s.clock := by
  unfold recoveryEnds
  dsimp only
  rw [startLine_frame]
  show (notify _ _).clock = _
  rw [notify_frame]
  rfl

theorem recoveryEnds_kind (s : State) : (recoveryEnds s).port.faultKind = none := by
  unfold recoveryEnds
  dsimp only
  rw [(steady_startLine _).1]
  show (notify _ _).port.faultKind = _
  rw [notify_frame]
  rfl

/-- A recovery's READY-WAIT, begun as the pulse ends, reaches its limit with BUSY asserted. -/
theorem recoveryLimit_reached {s t : State} (hc : t.clock = s.clock) (hstraps : t.straps = s.straps)
    (hfig : t.join = s.join)
    (hport : t.port = { s.port with
      state := .sending, job := .recovery, stage := .readyWait (pulseEnd s)
      primeLeft := Straps.halvesPerMs s.straps / 2, retryFrom := none })
    (hb : s.port.busyPin = true) :
    ∃ u : State, exec .handshakeLimitExpiry t = .next u ∧ u.clock.time = pulseEnd s + 2000#32
      ∧ u.port.faultKind = some .noResponse
      ∧ (s.join.figures.noResponse = .latch → u.port.state = .latched
        ∧ u.port.stage = .rest ∧ u.port.job = .none) := by
  have htime : now (advance t.port.primeLeft t) = pulseEnd s := by
    show (t.clock.time + BitVec.ofNat 32
      ((t.clock.msPhase + t.port.primeLeft) / Straps.halvesPerMs t.straps)) = _
    rw [hport, hc, hstraps]
    rfl
  have hzero : elapsed (advance t.port.primeLeft t) (pulseEnd s) = 0 := by
    unfold elapsed Time.since
    rw [htime]
    simp
  have hlimit : elapsed (advanceUntil (pulseEnd s) 2000 (advance t.port.primeLeft t)) (pulseEnd s)
      = 2000 :=
    elapsed_advanceUntil (clockSound_advance _ _) (by omega) (by omega)
  have hstate : ∀ v : State, v = advanceUntil (pulseEnd s) 2000 (advance t.port.primeLeft t) →
      v.port.state = .sending ∧ v.port.busyPin = true ∧ v.join = s.join := by
    rintro v rfl
    unfold advanceUntil
    split
    · refine ⟨?_, ?_, hfig⟩
      · show t.port.state = _
        rw [hport]
      · show t.port.busyPin = _
        rw [hport]
        exact hb
    · refine ⟨?_, ?_, hfig⟩
      · show t.port.state = _
        rw [hport]
      · show t.port.busyPin = _
        rw [hport]
        exact hb
  obtain ⟨hsend, hbusy, hjoin⟩ := hstate _ rfl
  refine ⟨_, exec_recoveryLimit (start := pulseEnd s) (by rw [hport]) (by rw [hport]) (by rw [hport])
    (by rw [hport]; exact hb), ?_, raiseFault_kind (.inr hsend) hbusy, fun hr => ?_⟩
  · rw [raiseFault_clock]
    unfold elapsed Time.since now at hlimit
    bv_omega
  · rw [raiseFault_latch (.inr hsend) (by unfold responseTo; rw [hjoin]; exact hr), faultNoted_frame]
    exact ⟨rfl, rfl, rfl⟩

/-- With BUSY released the end of the pulse is the end of the recovery. -/
theorem recoveryWait_over {s t : State} (hc : t.clock = s.clock) (hstraps : t.straps = s.straps)
    (hport : t.port = { s.port with
      state := .sending, job := .recovery, stage := .readyWait (pulseEnd s)
      primeLeft := Straps.halvesPerMs s.straps / 2, retryFrom := none })
    (hb : s.port.busyPin = false) :
    ∃ u : State, exec .handshakeLimitExpiry t = .next u ∧ u.clock.time = pulseEnd s
      ∧ u.port.faultKind = none := by
  refine ⟨_, exec_recoveryWaitOver (start := pulseEnd s) (by rw [hport]) (by rw [hport])
    (by rw [hport]) (by rw [hport]; exact hb), ?_, recoveryEnds_kind _⟩
  rw [recoveryEnds_clock]
  show (t.clock.time + BitVec.ofNat 32
    ((t.clock.msPhase + t.port.primeLeft) / Straps.halvesPerMs t.straps)) = _
  rw [hport, hc, hstraps]
  rfl


/-! ## The end of a recovery (R118, step 3) -/

/-- A retry check that is due. -/
theorem exec_retryCheck {s : State} {start : Time} (hs : s.port.state = .retryWait)
    (hr : s.port.retryFrom = some start) (hd : Due s start 5000) :
    exec .retryCheck s = .next (retryCheckOut s) := by
  show execRetryCheck s = _
  unfold execRetryCheck
  rw [hs, hr]
  show Host.Outcome.next (retryCheckOut (advanceUntil start 5000 s)) = _
  rw [advanceUntil_of_due hd]

/-- The state in which a recovery ends: its pulse is over and BUSY is released. -/
def pulseOver (c : Clock) (l : LineCtl) (s : State) : State :=
  { s with clock := c, line := l, port := { s.port with busyPin := false, primeLeft := 0 } }

theorem exec_recoveryEnd {s : State} (hj : s.port.job = .recovery) :
    exec .recoveryEnd s = .next (recoveryEnds (pulseOver (advance s.port.primeLeft s).clock
      (advance s.port.primeLeft s).line s)) := by
  have hbase : updPort (fun p => { p with busyPin := false }) (advance s.port.primeLeft s)
      = pulseOver (advance s.port.primeLeft s).clock (advance s.port.primeLeft s).line s := by
    have hleft : s.port.primeLeft - s.port.primeLeft = 0 := Nat.sub_self _
    unfold pulseOver updPort advance
    dsimp only
    rw [hleft]
  show execRecoveryEnd s = _
  unfold execRecoveryEnd
  rw [hj, ← hbase]

theorem busyReleased_recovery {s : State} {start : Time} (hj : s.port.job = .recovery)
    (hs : s.port.stage = .readyWait start) :
    busyReleased s = if s.port.primeLeft = 0 then recoveryEnds s else s := by
  unfold busyReleased
  rw [hs, hj]

theorem exec_busyReleased_recovered {s : State} {start : Time} (hj : s.port.job = .recovery)
    (hs : s.port.stage = .readyWait start) (hp : s.port.primeLeft = 0) :
    exec .busyReleased s = .next (recoveryEnds (pulseOver s.clock s.line s)) := by
  have hbase : busyLow s = pulseOver s.clock s.line s := by
    unfold busyLow pulseOver
    rw [← hp]
  rw [exec_busyReleased, busyReleased_recovery (s := busyLow s) hj hs,
    if_pos (show (busyLow s).port.primeLeft = 0 from hp), hbase]

/-- The recovery has ended: PRINTER-RESUMED is queued and each lane's ticket starts again. -/
def resumed (s : State) : State :=
  updPort (fun p =>
    { p with left := p.left.map LaneTicket.restart, right := p.right.map LaneTicket.restart })
    (notify .printerResumed (updPort (fun p => { p with faultKind := none }) s))

theorem recoveryEnds_eq (s : State) : recoveryEnds s = startLine (resumed s) := rfl

theorem resumed_frame (s : State) : resumed s = { s with
    port := { s.port with
      faultKind := none, left := s.port.left.map LaneTicket.restart
      right := s.port.right.map LaneTicket.restart }
    notices := (resumed s).notices, overflow := (resumed s).overflow, link := (resumed s).link } := by
  unfold resumed
  rw [notify_frame]
  rfl

theorem notified_resumed (s : State) : Notified s (resumed s) .printerResumed :=
  notified_notify (u := updPort (fun p => { p with faultKind := none }) s) _ rfl rfl rfl rfl

/-- The header of a ticket that starts again is the next line of its lane. -/
theorem laneLine_restart (lane : Option LaneTicket) :
    laneLine (lane.map LaneTicket.restart)
      = ((lane.map LaneTicket.restart).map fun q => q.image.getD 0 []).getD [] := by
  cases lane <;> rfl

/-- The columns of a printer line depend on the straps alone. -/
theorem lineBytes_congr {s t : State} (h : t.straps = s.straps) (a b : List Byte) :
    lineBytes t a b = lineBytes s a b := by
  unfold lineBytes dualLane
  rw [h]

theorem filled_resumed {c : Clock} {l : LineCtl} {s : State} (h : s.port.list = []
    ∨ s.port.left.isSome = true ∧ (dualLane s = true → s.port.right.isSome = true)) :
    Filled (resumed (pulseOver c l s)) := by
  rw [resumed_frame]
  unfold Filled
  simp only [Option.isSome_map]
  exact h

theorem printing_resumed {c : Clock} {l : LineCtl} {s : State}
    (h : s.port.left.isSome = true ∨ dualLane s = true ∧ s.port.right.isSome = true) :
    Printing (resumed (pulseOver c l s)) := by
  rw [resumed_frame]
  unfold Printing
  simp only [Option.isSome_map]
  exact h

/-- The tickets of the lanes are printed on from their headers. -/
theorem recoveryEnds_prints {c : Clock} {l : LineCtl} {s : State}
    (hf : s.port.list = []
      ∨ s.port.left.isSome = true ∧ (dualLane s = true → s.port.right.isSome = true))
    (hp : s.port.left.isSome = true ∨ dualLane s = true ∧ s.port.right.isSome = true) :
    (recoveryEnds (pulseOver c l s)).port = { s.port with
      busyPin := false, faultKind := none, primeLeft := 0, state := .sending, stage := .strobe
      job := .line (lineBytes s (laneLine (s.port.left.map LaneTicket.restart))
        (laneLine (s.port.right.map LaneTicket.restart)))
      pd := (lineBytes s (laneLine (s.port.left.map LaneTicket.restart))
        (laneLine (s.port.right.map LaneTicket.restart))).head?.getD 0#8
      left := s.port.left.map LaneTicket.restart
      right := s.port.right.map LaneTicket.restart } := by
  rw [recoveryEnds_eq, startLine_prints (filled_resumed hf) (printing_resumed hp)]
  have hframe := resumed_frame (pulseOver c l s)
  have hleft : (resumed (pulseOver c l s)).port.left = s.port.left.map LaneTicket.restart := by
    rw [hframe]
    rfl
  have hright : (resumed (pulseOver c l s)).port.right = s.port.right.map LaneTicket.restart := by
    rw [hframe]
    rfl
  have hstraps : (resumed (pulseOver c l s)).straps = s.straps := by
    rw [hframe]
    rfl
  have hbusy : (resumed (pulseOver c l s)).port.busyPin = false := by
    rw [hframe]
    rfl
  rw [hleft, hright, lineBytes_congr hstraps]
  obtain ⟨b, bs, hline⟩ := lineBytes_cons s (laneLine (s.port.left.map LaneTicket.restart))
    (laneLine (s.port.right.map LaneTicket.restart))
  rw [hline]
  rw [sendJob_strobes (b := b) (bs := bs) rfl hbusy, hframe]
  rfl

/-- With nothing to print the recovery ends with an owed cut, or in IDLE. -/
theorem recoveryEnds_empty {c : Clock} {l : LineCtl} {s : State} (hl : s.port.left = none)
    (hr : s.port.right = none) (hlist : s.port.list = []) :
    (recoveryEnds (pulseOver c l s)).port = if dualLane s = true ∧ s.port.cutOwed = true then { s.port with
        busyPin := false, faultKind := none, primeLeft := 0, state := .sending, job := .cut
        stage := .strobe, pd := s.join.figures.cut }
      else { s.port with
        busyPin := false, faultKind := none, primeLeft := 0, state := .idle, job := .none
        stage := .rest } := by
  have hframe := resumed_frame (pulseOver c l s)
  have hleft : (resumed (pulseOver c l s)).port.left = none := by
    rw [hframe]
    show s.port.left.map _ = _
    rw [hl]
    rfl
  have hright : (resumed (pulseOver c l s)).port.right = none := by
    rw [hframe]
    show s.port.right.map _ = _
    rw [hr]
    rfl
  have hlist' : (resumed (pulseOver c l s)).port.list = [] := by
    rw [hframe]
    exact hlist
  have hbusy : (resumed (pulseOver c l s)).port.busyPin = false := by
    rw [hframe]
    rfl
  have hlsame : s.port.left.map LaneTicket.restart = s.port.left := by
    rw [hl]
    rfl
  have hrsame : s.port.right.map LaneTicket.restart = s.port.right := by
    rw [hr]
    rfl
  have hport : (resumed (pulseOver c l s)).port
      = { s.port with busyPin := false, primeLeft := 0, faultKind := none } := by
    rw [hframe]
    show { s.port with
      busyPin := false, primeLeft := 0, faultKind := none, left := s.port.left.map LaneTicket.restart
      right := s.port.right.map LaneTicket.restart } = _
    rw [hlsame, hrsame]
  have hcond : (dualLane (resumed (pulseOver c l s)) = true
      ∧ (resumed (pulseOver c l s)).port.cutOwed = true)
      ↔ dualLane s = true ∧ s.port.cutOwed = true := by
    rw [hframe]
    rfl
  rw [recoveryEnds_eq, startLine_empty hleft hright hlist']
  by_cases h : dualLane s = true ∧ s.port.cutOwed = true
  · rw [if_pos (hcond.2 h), if_pos h,
      sendJob_strobes (b := (resumed (pulseOver c l s)).join.figures.cut) (bs := []) rfl hbusy]
    dsimp only
    rw [hport, hframe]
    rfl
  · rw [if_neg (fun hc => h (hcond.1 hc)), if_neg h]
    unfold portIdle updPort
    dsimp only
    rw [hport]

theorem recoveryEnds_frame (s : State) :
    recoveryEnds s = { s with
      kitchen := { s.kitchen with entries := (recoveryEnds s).kitchen.entries }
      port := (recoveryEnds s).port, notices := (recoveryEnds s).notices
      overflow := (recoveryEnds s).overflow, link := (recoveryEnds s).link } := by
  rw [recoveryEnds_eq, startLine_frame, resumed_frame]

/-- What holds of every end of a recovery. -/
theorem recoveryEnds_resumes (c : Clock) (l : LineCtl) (s : State) :
    let t := recoveryEnds (pulseOver c l s)
    t = { s with kitchen := { s.kitchen with entries := t.kitchen.entries }, clock := c
                 line := l, port := t.port, notices := t.notices, overflow := t.overflow
                 link := t.link }
      ∧ t.port.faultKind = none ∧ t.port.primeLeft = 0 ∧ t.port.busyPin = false
      ∧ Notified { s with clock := c } t .printerResumed
      ∧ (s.port.list = [] ∨ s.port.left.isSome = true
          ∧ (dualLane s = true → s.port.right.isSome = true) → t.kitchen = s.kitchen) := by
  have hsteady := steady_startLine (resumed (pulseOver c l s))
  have hframe := resumed_frame (pulseOver c l s)
  refine ⟨recoveryEnds_frame _, ?_, ?_, ?_, ?_, fun h => ?_⟩
  · rw [recoveryEnds_eq, hsteady.1, hframe]
  · rw [recoveryEnds_eq, hsteady.2.1, hframe]
    rfl
  · rw [recoveryEnds_eq, hsteady.2.2, hframe]
    rfl
  · rw [recoveryEnds_eq, startLine_frame]
    exact (notified_resumed (pulseOver c l s)).congr rfl rfl rfl rfl
  · rw [recoveryEnds_eq, startLine_kitchen (filled_resumed h), hframe]
    rfl

/-- Settles O56. -/
theorem recoveryRestartsTheTickets : Obligations.RecoveryRestartsTheTickets := by
  refine ⟨fun s slot r h => ⟨fun hl hf => ?_, fun hne => ?_⟩, fun s start hs hr hd => ⟨fun hk hf => ?_,
      fun hne => ?_⟩, fun s c hs hstage hc => ?_, fun s start hs hj hstage => ⟨fun hb => ?_, fun hp => ?_⟩,
    fun s start c hj hc => ?_⟩
  · have hres : clearPrinterResult slot s = taken [] (beginRecovery s) := by
      unfold clearPrinterResult
      rw [need_of h.2.1, withSlot_of_some h.2.2.1, need_of h.2.2.2, need_of hl, need_of hf]
    refine ⟨_, request_ok rfl h.1 hres, rfl, rfl, fun hsound => ⟨pulseEnd s, rfl, pulseEnd_eq hsound,
      fun hb => ?_, fun hb => ?_⟩, rfl, rfl, rfl, rfl⟩
    · exact recoveryLimit_reached rfl rfl rfl rfl hb
    · exact recoveryWait_over rfl rfl rfl hb
  · refine request_refused rfl h.1 ?_
    unfold clearPrinterResult
    rw [need_of h.2.1, withSlot_of_some h.2.2.1, need_of h.2.2.2]
    by_cases hl : s.port.state = .latched
    · rw [need_of hl, need_of_not]
      rw [hne.resolve_left (not_not.2 hl)]
      decide
    · rw [need_of_not hl]
  · have hexec := exec_retryCheck hs hr hd
    rw [hexec]
    unfold retryCheckOut
    rw [if_pos ⟨hk, hf⟩]
    rfl
  · have hout : retryCheckOut s = beginRecovery s := by
      refine if_neg ?_
      rintro ⟨hk, hf⟩
      rcases hne with h | h
      · exact h hk
      · rw [h] at hf
        cases hf
    refine ⟨_, (exec_retryCheck hs hr hd).trans (by rw [hout]), rfl, ⟨_, rfl⟩, rfl⟩
  · have hpins : ∃ v : State, exec c s = .next (downExit v) ∧ v = { s with port := v.port }
        ∧ v.port.state = .down ∧ v.port.faultPin = false ∧ v.port.busyPin = false := by
      rcases hc with ⟨rfl, hb⟩ | ⟨rfl, hf⟩
      · exact ⟨_, rfl, rfl, hs, rfl, hb⟩
      · refine ⟨busyLow s, ?_, rfl, hs, hf, rfl⟩
        have hrest : (busyLow s).port.stage = .rest := hstage
        rw [exec_busyReleased, busyReleased_elsewhere]
        · rw [hrest]
          nofun
        · rw [hrest]
          nofun
    obtain ⟨v, hexec, hv, hdown, hf, hb⟩ := hpins
    refine ⟨_, hexec, ?_⟩
    rw [downExit_leaves hdown hf hb, beginRecovery_eq]
    have hstraps : v.straps = s.straps := (congrArg State.straps hv :)
    refine ⟨?_, rfl, rfl, hb, hf, by rw [← hstraps]⟩
    rw [hv]
  · have hover : advance s.port.primeLeft s = pulseOver (advance s.port.primeLeft s).clock
        (advance s.port.primeLeft s).line s := by
      have hleft : s.port.primeLeft - s.port.primeLeft = 0 := Nat.sub_self _
      unfold pulseOver advance
      dsimp only
      rw [hleft, hb]
    rw [exec_recoveryWaitOver hs hj hstage hb, exec_recoveryEnd hj, ← hover]
  · rw [exec_busyReleased, busyReleased_recovery (s := busyLow s) hj hstage,
      if_neg (show ¬(busyLow s).port.primeLeft = 0 from hp)]
    rfl
  · have hended : ∃ (cl : Clock) (l : LineCtl), exec c s = .next (recoveryEnds (pulseOver cl l s))
        ∧ (c = .busyReleased → cl = s.clock ∧ l = s.line) := by
      rcases hc with rfl | ⟨rfl, hstage, hp⟩
      · exact ⟨_, _, exec_recoveryEnd hj, fun h => by cases h⟩
      · exact ⟨_, _, exec_busyReleased_recovered hj hstage hp, fun _ => ⟨rfl, rfl⟩⟩
    obtain ⟨cl, l, hexec, hsame⟩ := hended
    obtain ⟨hframe, hkind, hprime, hbusy, hnote, hkitchen⟩ := recoveryEnds_resumes cl l s
    have hclock : (recoveryEnds (pulseOver cl l s)).clock = cl := by
      rw [hframe]
    have hline : (recoveryEnds (pulseOver cl l s)).line = l := by
      rw [hframe]
    refine ⟨_, hexec, ?_, hkind, hprime, hbusy, ?_, ?_, hkitchen, fun hp hf => ?_, fun hl hr hlist => ?_⟩
    · rw [hclock, hline]
      exact hframe
    · rw [hclock, hline]
      exact hsame
    · rw [hclock]
      exact hnote
    · rw [recoveryEnds_prints hf hp, laneLine_restart, laneLine_restart]
      rfl
    · exact recoveryEnds_empty hl hr hlist

end Sys2Proof.Machine
end

section
-- One proof at a time: side by side, their threads' stacks outgrow the check's memory.
set_option Elab.async false
/-! SUPPORT. The printer port's lines and cuts: what an accepted line or cut goes on to, the lane that
takes an item, and the print list (R109 to R115). -/

namespace Sys2Proof.Machine

/-! ## Entries by name -/

theorem entryOf_setPrint_self {s : State} {o n : Nat} {e : Entry} {p : PrintState}
    (h : entryOf s o n = some e) : entryOf (setPrint o n p s) o n = some { e with print := p } := by
  have hset : entryOf (setPrint o n p s) o n = (entryOf s o n).map fun e => { e with print := p } :=
    entryOf_updEntry_self (by exact fun _ h1 h2 => ⟨h1, h2⟩)
  rw [hset, h]
  rfl

theorem entryOf_setPrint_ne {s : State} {o n x m : Nat} {p : PrintState} (h : x ≠ o ∨ m ≠ n) :
    entryOf (setPrint o n p s) x m = entryOf s x m :=
  entryOf_updEntry_ne (by exact fun _ h1 h2 => ⟨h1, h2⟩) h

/-- The queue entries that a state like this one holds. -/
theorem entryOf_congr {s t : State} (h : t.kitchen.entries = s.kitchen.entries) (x n : Nat) :
    entryOf t x n = entryOf s x n := by
  unfold entryOf
  rw [h]

theorem onlyEntry_updEntry_of_name {s : State} {o n : Nat} {e : Entry} {f : Entry → Entry}
    (hf : ∀ e : Entry, e.origin = o → e.number = n → (f e).origin = o ∧ (f e).number = n)
    (h : entryOf s o n = some e) : OnlyEntry s (updEntry o n f s) (f e) := by
  obtain ⟨ho, hn⟩ := entryOf_name h
  obtain ⟨fo, fn⟩ := hf e ho hn
  refine ⟨?_, fun x m hx => ?_, List.length_map _⟩
  · rw [fo, fn, entryOf_updEntry_self hf, h]
    rfl
  · rw [fo, fn] at hx
    exact entryOf_updEntry_ne hf hx

theorem onlyEntry_updEntry {s : State} {o n : Nat} {e : Entry} {f : Entry → Entry}
    (hf : ∀ e, (f e).origin = e.origin ∧ (f e).number = e.number) (h : entryOf s o n = some e) :
    OnlyEntry s (updEntry o n f s) (f e) :=
  onlyEntry_updEntry_of_name (fun e h1 h2 => ⟨(hf e).1.trans h1, (hf e).2.trans h2⟩) h

theorem onlyEntry_setPrint {s : State} {o n : Nat} {e : Entry} {p : PrintState}
    (h : entryOf s o n = some e) : OnlyEntry s (setPrint o n p s) { e with print := p } :=
  onlyEntry_updEntry (f := fun e => { e with print := p }) (fun _ => ⟨rfl, rfl⟩) h

/-- What holds of an entry's state and its successor depends on the kitchen's entries alone. -/
theorem OnlyEntry.congr {s s' t t' : State} {e : Entry} (h : OnlyEntry s t e)
    (hs : s'.kitchen.entries = s.kitchen.entries) (ht : t'.kitchen.entries = t.kitchen.entries) :
    OnlyEntry s' t' e := by
  obtain ⟨h1, h2, h3⟩ := h
  refine ⟨(entryOf_congr ht _ _).trans h1, fun x n hx => ?_, by rw [ht, hs, h3]⟩
  rw [entryOf_congr ht, entryOf_congr hs]
  exact h2 x n hx

theorem OnlyEntry.trans {s t u : State} {a b : Entry} (h1 : OnlyEntry s t a) (h2 : OnlyEntry t u b)
    (ho : a.origin = b.origin) (hn : a.number = b.number) : OnlyEntry s u b := by
  obtain ⟨-, o1, l1⟩ := h1
  obtain ⟨e2, o2, l2⟩ := h2
  refine ⟨e2, fun x n hx => (o2 x n hx).trans (o1 x n ?_), l2.trans l1⟩
  rw [ho, hn]
  exact hx

/-! ## A job that starts -/

theorem sendJob_begins {s : State} {j : Job} {b : Byte} {bs : List Byte}
    (h : jobBytes s j = b :: bs) : sendJob j s
      = { s with port := { s.port with
          state := .sending, job := j
          stage := if s.port.busyPin = true then .readyWait (now s) else .strobe
          pd := if s.port.busyPin = true then s.port.pd else b } } := by
  cases hb : s.port.busyPin with
  | true => exact sendJob_waits h hb
  | false => exact sendJob_strobes h hb

theorem startLine_rests {s : State} (hd : dualLane s = false) (hl : s.port.left = none)
    (hlist : s.port.list = []) : startLine s = portIdle s := by
  unfold startLine
  rw [fillLeft_of_noItems hlist, hd, if_neg (by decide)]
  dsimp only
  rw [hl]

/-- In single-lane mode a line carries its left part alone. -/
theorem lineBytes_single {s : State} (h : dualLane s = false) (l r : List Byte) :
    lineBytes s l r = trimSpaces l ++ [0x0D#8, 0x0A#8] := by
  unfold lineBytes
  rw [h]
  rfl

theorem lineBytes_dual {s : State} (h : dualLane s = true) (l r : List Byte) :
    lineBytes s l r = trimSpaces (l ++ List.replicate (20 - l.length) 0x20#8 ++ [0x20#8, 0x20#8]
      ++ r ++ List.replicate (20 - r.length) 0x20#8) ++ [0x0D#8, 0x0A#8] := by
  unfold lineBytes
  rw [h]
  simp only [if_true, List.append_assoc]

/-! ## A lane that takes an item (R110) -/

/-- The left lane has taken the oldest item: its entry is PRINTING. -/
def takenLeft (s : State) (it : PrintItem) (rest : List PrintItem) (e : Entry) : State :=
  { setPrint it.origin it.number .printing s with
    port := { s.port with left := some (laneTicket s it e), list := rest } }

theorem fillLeft_takes {s : State} {it : PrintItem} {rest : List PrintItem} {e : Entry}
    (hl : s.port.left = none) (hlist : s.port.list = it :: rest)
    (he : entryOf s it.origin it.number = some e) : fillLeft s = takenLeft s it rest e := by
  unfold fillLeft
  rw [hl]
  unfold takeItem
  rw [hlist]
  have he' : entryOf (updPort (fun p => { p with list := rest }) s) it.origin it.number = some e := he
  rw [if_pos (by rfl)]
  dsimp only
  rw [he']
  rfl

theorem startLine_fillLeft {s : State} (h : (fillLeft s).port.left.isSome = true) :
    startLine s = startLine (fillLeft s) := by
  have hdual : dualLane (fillLeft s) = dualLane s := by
    unfold fillLeft takeItem
    split
    · split
      · rfl
      · dsimp only
        split <;> rfl
    · rfl
  unfold startLine
  rw [hdual, fillLeft_of_taken h]

/-- An idle left lane takes the item and its ticket's first line starts. -/
theorem startLine_takes {s : State} {it : PrintItem} {rest : List PrintItem} {e : Entry}
    (hl : s.port.left = none) (hlist : s.port.list = it :: rest)
    (he : entryOf s it.origin it.number = some e) (hrest : rest = [] ∨ dualLane s = false) :
    startLine s = sendJob (.line (lineBytes s (LaneTicket.line (laneTicket s it e))
      (laneLine s.port.right))) (takenLeft s it rest e) := by
  have hfill := fillLeft_takes hl hlist he
  have hdual : dualLane (takenLeft s it rest e) = dualLane s := rfl
  have hfilled : Filled (takenLeft s it rest e) := by
    rcases hrest with h | h
    · exact .inl h
    · exact .inr ⟨rfl, fun hd => by rw [hdual, h] at hd; cases hd⟩
  rw [startLine_fillLeft (by rw [hfill]; rfl), hfill, startLine_prints hfilled (.inl rfl)]
  rfl

/-- The first line of a ticket that a lane has just taken is its header. -/
theorem line_laneTicket {s : State} {it : PrintItem} {e : Entry} {header : List Byte}
    (ho : it.origin = e.origin)
    (h : (takenBy s e it.reprint).image.head? = some header) :
    laneTicket s it e = takenBy s e it.reprint
      ∧ LaneTicket.line (laneTicket s it e) = header := by
  have heq : laneTicket s it e = takenBy s e it.reprint := by
    unfold laneTicket
    rw [ho]
  refine ⟨heq, ?_⟩
  rw [heq]
  show (takenBy s e it.reprint).image.getD 0 [] = header
  cases hi : (takenBy s e it.reprint).image with
  | nil =>
    rw [hi] at h
    cases h
  | cons a as =>
    rw [hi] at h
    cases h
    rfl

/-! ## The end of a line or a cut (R112, R113) -/

/-- The state in which a line or a cut ends: BUSY released, its last byte on the data lines. -/
def ended (p : Byte) (s : State) : State := { s with port := { s.port with busyPin := false, pd := p } }

theorem exec_lineAccepted {s : State} {bs : List Byte} (h : s.port.job = .line bs) :
    exec .printerLineAccepted s = .next (lineAccepted (ended (bs.getLast?.getD s.port.pd) s)) := by
  show execPrinterLineAccepted s = _
  unfold execPrinterLineAccepted
  rw [h]
  rfl

theorem exec_cutAccepted {s : State} (h : s.port.job = .cut) :
    exec .cutAccepted s = .next (cutAccepted (ended s.join.figures.cut s)) := by
  show execCutAccepted s = _
  unfold execCutAccepted
  rw [h]
  rfl

theorem lineAccepted_single {s : State} {k : LaneTicket} (hd : dualLane s = false)
    (hl : s.port.left = some k) : lineAccepted s
      = if k.next + 1 < k.image.length then
          startLine { s with port := { s.port with left := some { k with next := k.next + 1 } } }
        else sendJob .cut { s with port := { s.port with left := some { k with next := k.next + 1 } } } := by
  unfold lineAccepted
  rw [hd, if_neg (by decide), hl]
  rfl

theorem cutAccepted_single {s : State} {k : LaneTicket} (hd : dualLane s = false)
    (hl : s.port.left = some k) (hk : k.held = true) : cutAccepted s
      = startLine { setPrint k.origin k.ref.number .printed s with
          port := { s.port with left := none } } := by
  unfold cutAccepted
  rw [hd, if_neg (by decide), hl]
  dsimp only
  unfold completeTicket
  rw [if_pos hk]
  rfl

/-- The next line of a single lane's ticket starts, or after the closing rule its cut. -/
theorem lineAccepted_goes {s : State} {k : LaneTicket} {p : Byte} (hd : dualLane s = false)
    (hs : s.port.state = .sending) (hl : s.port.left = some k) :
    let t := lineAccepted (ended p s)
    t = { s with port := t.port }
      ∧ t.port = { s.port with
          busyPin := false, left := some { k with next := k.next + 1 }, job := t.port.job,
          stage := .strobe, pd := t.port.pd }
      ∧ (∀ l : List Byte, k.image[k.next + 1]? = some l →
          t.port.job = .line (trimSpaces l ++ [0x0D#8, 0x0A#8])
            ∧ (trimSpaces l ++ [0x0D#8, 0x0A#8]).head? = some t.port.pd)
      ∧ (k.image.length ≤ k.next + 1 → t.port.job = .cut ∧ t.port.pd = s.join.figures.cut) := by
  dsimp only
  rw [lineAccepted_single (s := ended p s) hd hl]
  by_cases hlt : k.next + 1 < k.image.length
  · rw [if_pos hlt, startLine_prints (.inr ⟨rfl, fun h => by
      have h' : dualLane s = true := h
      rw [hd] at h'
      cases h'⟩) (.inl rfl), lineBytes_single (by exact hd)]
    have hline : laneLine (some { k with next := k.next + 1 }) = k.image[k.next + 1] := by
      show k.image.getD (k.next + 1) [] = _
      simp [hlt]
    dsimp only
    rw [hline]
    obtain ⟨b, bs, hbytes⟩ : ∃ b bs, trimSpaces k.image[k.next + 1] ++ [0x0D#8, 0x0A#8] = b :: bs := by
      cases trimSpaces k.image[k.next + 1] with
      | nil => exact ⟨_, _, rfl⟩
      | cons b bs => exact ⟨_, _, rfl⟩
    rw [hbytes, sendJob_strobes (b := b) (bs := bs) rfl rfl]
    refine ⟨rfl, ?_, fun l hline' => ?_, fun hge => absurd hlt (by omega)⟩
    · dsimp only [ended]
      rw [hs]
    · rw [List.getElem?_eq_getElem hlt] at hline'
      cases hline'
      rw [hbytes]
      exact ⟨rfl, rfl⟩
  · rw [if_neg hlt, sendJob_strobes (b := s.join.figures.cut) (bs := []) rfl rfl]
    refine ⟨rfl, ?_, fun l hline' => ?_, fun _ => ⟨rfl, rfl⟩⟩
    · dsimp only [ended]
      rw [hs]
    · exact absurd (List.getElem?_eq_some_iff.1 hline').1 hlt

/-- The single lane's ticket completes and nothing waits: the port is IDLE. -/
theorem cutAccepted_rests {s : State} {k : LaneTicket} {e : Entry} {p : Byte} (hd : dualLane s = false)
    (hl : s.port.left = some k) (hlist : s.port.list = []) (hk : k.held = true)
    (he : entryOf s k.origin k.ref.number = some e) :
    let t := cutAccepted (ended p s)
    t = { s with kitchen := { s.kitchen with entries := t.kitchen.entries }, port := t.port }
      ∧ entryOf t k.origin k.ref.number = some { e with print := .printed }
      ∧ (∀ (x n : Nat), x ≠ k.origin ∨ n ≠ k.ref.number → entryOf t x n = entryOf s x n)
      ∧ t.port = { s.port with
          busyPin := false, left := none, state := .idle, job := .none, stage := .rest, pd := p } := by
  dsimp only
  rw [cutAccepted_single (s := ended p s) hd hl hk, startLine_rests (by exact hd) rfl (by exact hlist)]
  exact ⟨rfl, entryOf_setPrint_self (s := s) he, fun x n h => entryOf_setPrint_ne (s := s) h, rfl⟩

/-- A lane's ticket has completed: the left lane is idle, the entry PRINTED. -/
def completed (k : LaneTicket) (s : State) : State :=
  { setPrint k.origin k.ref.number .printed s with port := { s.port with left := none } }

theorem onlyEntry_completed {k : LaneTicket} {s : State} {e : Entry}
    (h : entryOf s k.origin k.ref.number = some e) :
    OnlyEntry s (completed k s) { e with print := .printed } :=
  (onlyEntry_setPrint h).congr rfl rfl

theorem onlyEntry_takenLeft {s : State} {it : PrintItem} {rest : List PrintItem} {e : Entry}
    (h : entryOf s it.origin it.number = some e) :
    OnlyEntry s (takenLeft s it rest e) { e with print := .printing } :=
  (onlyEntry_setPrint h).congr rfl rfl

theorem completed_frame (k : LaneTicket) (s : State) : completed k s = { s with
    kitchen := { s.kitchen with entries := (completed k s).kitchen.entries }
    port := { s.port with left := none } } := rfl

theorem takenLeft_frame (s : State) (it : PrintItem) (rest : List PrintItem) (e : Entry) :
    takenLeft s it rest e = { s with
      kitchen := { s.kitchen with entries := (takenLeft s it rest e).kitchen.entries }
      port := { s.port with left := some (laneTicket s it e), list := rest } } := rfl

/-- One entry becomes `a`, then another one `b`. -/
theorem OnlyEntry.both {s t u : State} {a b : Entry} (h1 : OnlyEntry s t a) (h2 : OnlyEntry t u b)
    (hne : a.origin ≠ b.origin ∨ a.number ≠ b.number) :
    entryOf u a.origin a.number = some a ∧ entryOf u b.origin b.number = some b :=
  ⟨(h2.2.1 _ _ hne).trans h1.1, h2.1⟩

/-- The single lane's ticket completes and the lane takes the next item. -/
theorem cutAccepted_takes {s : State} {k : LaneTicket} {e next : Entry} {it : PrintItem}
    {rest : List PrintItem} {header : List Byte} {p : Byte} (hd : dualLane s = false)
    (hl : s.port.left = some k) (hlist : s.port.list = it :: rest) (hk : k.held = true)
    (he : entryOf s k.origin k.ref.number = some e) (hn : entryOf s it.origin it.number = some next)
    (hne : e.origin ≠ next.origin ∨ e.number ≠ next.number)
    (hh : (takenBy s next it.reprint).image.head? = some header) :
    let t := cutAccepted (ended p s)
    t = { s with kitchen := { s.kitchen with entries := t.kitchen.entries }, port := t.port }
      ∧ entryOf t e.origin e.number = some { e with print := .printed }
      ∧ entryOf t next.origin next.number = some { next with print := .printing }
      ∧ t.port = { s.port with
          busyPin := false, state := .sending, left := some (takenBy s next it.reprint), list := rest
          job := .line (lineBytes s header []), stage := .strobe, pd := t.port.pd }
      ∧ (lineBytes s header []).head? = some t.port.pd := by
  obtain ⟨ko, kn⟩ := entryOf_name he
  obtain ⟨no, nn⟩ := entryOf_name hn
  have hdone : OnlyEntry (ended p s) (completed k (ended p s)) { e with print := .printed } :=
    onlyEntry_completed he
  have hnext : entryOf (completed k (ended p s)) it.origin it.number = some next := by
    refine (hdone.2.1 it.origin it.number ?_).trans hn
    rw [← no, ← nn]
    exact hne.imp Ne.symm Ne.symm
  have htook : OnlyEntry (completed k (ended p s)) (takenLeft (completed k (ended p s)) it rest next)
      { next with print := .printing } := onlyEntry_takenLeft hnext
  obtain ⟨hprinted, hprinting⟩ := OnlyEntry.both hdone htook hne
  obtain ⟨htaken, hheader⟩ := line_laneTicket (s := s) no.symm hh
  have hsame : laneTicket (completed k (ended p s)) it next = laneTicket s it next := rfl
  obtain ⟨b, bs, hbytes⟩ := lineBytes_cons s header []
  have hcut : cutAccepted (ended p s) = { takenLeft (completed k (ended p s)) it rest next with
      port := { (takenLeft (completed k (ended p s)) it rest next).port with
        state := .sending, job := .line (b :: bs), stage := .strobe, pd := b } } := by
    rw [cutAccepted_single (s := ended p s) hd hl hk]
    show startLine (completed k (ended p s)) = _
    rw [startLine_takes rfl (by exact hlist) hnext (.inr hd), hsame, hheader,
      lineBytes_single (by exact hd), ← lineBytes_single hd header [], hbytes,
      sendJob_strobes (b := b) (bs := bs) rfl rfl]
  have hentries : (cutAccepted (ended p s)).kitchen.entries
      = (takenLeft (completed k (ended p s)) it rest next).kitchen.entries := by
    rw [hcut]
  have hframe : cutAccepted (ended p s) = { s with
      kitchen := { s.kitchen with entries := (cutAccepted (ended p s)).kitchen.entries }
      port := (cutAccepted (ended p s)).port } := by
    rw [hcut, takenLeft_frame, completed_frame]
    rfl
  refine ⟨hframe, (entryOf_congr hentries _ _).trans hprinted, (entryOf_congr hentries _ _).trans hprinting,
    ?_, by rw [hcut, hbytes]; rfl⟩
  rw [hcut, hbytes]
  unfold takenLeft
  dsimp only
  rw [hsame, htaken]
  rfl

/-! ## Two lanes (R113) -/

/-- Both lanes go on to the next line of their tickets. -/
theorem lineAccepted_both {s : State} {x y : LaneTicket} {l m : List Byte} {p : Byte}
    (hd : dualLane s = true) (hl : s.port.left = some x) (hr : s.port.right = some y)
    (hx : x.image[x.next + 1]? = some l) (hy : y.image[y.next + 1]? = some m) :
    let t := lineAccepted (ended p s)
    t = { s with port := t.port }
      ∧ t.port = { s.port with
          busyPin := false, state := .sending, stage := .strobe, pd := t.port.pd
          left := some { x with next := x.next + 1 }, right := some { y with next := y.next + 1 }
          job := .line (lineBytes s l m) } := by
  have hxlt := (List.getElem?_eq_some_iff.1 hx).1
  have hylt := (List.getElem?_eq_some_iff.1 hy).1
  have hax : LaneTicket.advance x = some { x with next := x.next + 1 } := if_pos hxlt
  have hay : LaneTicket.advance y = some { y with next := y.next + 1 } := if_pos hylt
  have haccept : lineAccepted (ended p s) = startLine { ended p s with port := { (ended p s).port with
      left := some { x with next := x.next + 1 }
      right := some { y with next := y.next + 1 } } } := by
    unfold lineAccepted
    rw [if_pos (by exact hd)]
    have hleft : (ended p s).port.left = some x := hl
    have hright : (ended p s).port.right = some y := hr
    unfold laneAccepted
    rw [hleft, hright]
    dsimp only
    rw [hax, hay]
    rfl
  have hlinex : laneLine (some { x with next := x.next + 1 }) = l := by
    show x.image.getD (x.next + 1) [] = l
    rw [List.getD_eq_getElem?_getD, hx]
    rfl
  have hliney : laneLine (some { y with next := y.next + 1 }) = m := by
    show y.image.getD (y.next + 1) [] = m
    rw [List.getD_eq_getElem?_getD, hy]
    rfl
  obtain ⟨b, bs, hbytes⟩ := lineBytes_cons s l m
  dsimp only
  rw [haccept, startLine_prints (.inr ⟨rfl, fun _ => rfl⟩) (.inl rfl)]
  dsimp only
  rw [hlinex, hliney, lineBytes_dual (by exact hd), ← lineBytes_dual hd, hbytes,
    sendJob_strobes (b := b) (bs := bs) rfl rfl]
  exact ⟨rfl, rfl⟩

/-- The left lane's ticket completes beside an idle right lane: a cut is owed. -/
theorem lineAccepted_completes {s : State} {x : LaneTicket} {p : Byte}
    (hd : dualLane s = true) (hl : s.port.left = some x) (hr : s.port.right = none)
    (hx : x.image.length ≤ x.next + 1) (hk : x.held = true) :
    lineAccepted (ended p s) = startLine { completed x (ended p s) with
      port := { (completed x (ended p s)).port with cutOwed := true } } := by
  have hax : LaneTicket.advance x = none := if_neg (by omega)
  have hleft : (ended p s).port.left = some x := hl
  have hright : (ended p s).port.right = none := hr
  unfold lineAccepted
  rw [if_pos (by exact hd)]
  unfold laneAccepted
  rw [hleft, hright]
  dsimp only
  rw [hax]
  dsimp only
  unfold completeTicket
  rw [if_pos hk]
  rfl

end Sys2Proof.Machine
end

section
-- One proof at a time: side by side, their threads' stacks outgrow the check's memory.
set_option Elab.async false
/-! SUPPORT. Items that join the print list, an entry that fires, and REPRINT (R96, R110, R115). -/

namespace Sys2Proof.Machine

/-! ## The ticket image (R111) -/

theorem image_eq (cls : Nat) (dual reprint : Bool) (e : Entry) :
    image cls dual reprint e
      = ([0x4B#8, byte (48 + cls), 0x20#8, byte (48 + e.origin / 10 % 10),
            byte (48 + e.origin % 10), 0x2D#8, byte (48 + e.number / 1000 % 10),
            byte (48 + e.number / 100 % 10), byte (48 + e.number / 10 % 10),
            byte (48 + e.number % 10)]
          ++ if e.band = .rush then [0x20#8, 0x52#8, 0x55#8, 0x53#8, 0x48#8] else [])
        :: ((if reprint = true then [[0x52#8, 0x45#8, 0x50#8, 0x52#8, 0x49#8, 0x4E#8, 0x54#8]] else [])
            ++ (e.lines.filter KitchenLine.live).flatMap (fun l =>
              ([if l.item.qty < 10 then 0x20#8 else byte (48 + l.item.qty / 10),
                  byte (48 + l.item.qty % 10), 0x20#8] ++ l.item.label)
                :: (if l.item.note = [] then []
                  else [[0x20#8, 0x20#8, 0x2A#8, 0x20#8] ++ l.item.note]))
            ++ [List.replicate (if dual = true then 20 else 42) 0x2D#8]) := by
  have hheader : headerLine cls e.origin e.number e.band
      = [0x4B#8, byte (48 + cls), 0x20#8, byte (48 + e.origin / 10 % 10),
            byte (48 + e.origin % 10), 0x2D#8, byte (48 + e.number / 1000 % 10),
            byte (48 + e.number / 100 % 10), byte (48 + e.number / 10 % 10),
            byte (48 + e.number % 10)]
          ++ if e.band = .rush then [0x20#8, 0x52#8, 0x55#8, 0x53#8, 0x48#8] else [] := by
    have hthousands : e.number / 100 / 10 % 10 = e.number / 1000 % 10 := by omega
    unfold headerLine digits4 digits2
    rw [hthousands]
    cases e.band <;> rfl
  unfold image
  rw [hheader]
  rfl

/-! ## The print list (R110) -/

/-- An item has joined the list of a port that is not DOWN: its entry is WAITING. -/
def listed (origin : Nat) (ref : Ref) (reprint : Bool) (s : State) : State :=
  setPrint origin ref.number .waiting
    (updPort (fun p => { p with list := p.list ++ [⟨origin, ref.number, reprint⟩] }) s)

theorem listed_frame (origin : Nat) (ref : Ref) (reprint : Bool) (s : State) :
    listed origin ref reprint s = { s with
      kitchen := { s.kitchen with entries := (listed origin ref reprint s).kitchen.entries }
      port := { s.port with list := s.port.list ++ [⟨origin, ref.number, reprint⟩] } } := rfl

theorem onlyEntry_listed {origin : Nat} {ref : Ref} {reprint : Bool} {s : State} {e : Entry}
    (h : entryOf s origin ref.number = some e) :
    OnlyEntry s (listed origin ref reprint s) { e with print := .waiting } :=
  (onlyEntry_setPrint h).congr rfl rfl

theorem joinPrintList_idle {origin : Nat} {ref : Ref} {reprint : Bool} {s : State}
    (h : s.port.state = .idle) :
    joinPrintList origin ref reprint s = startLine (listed origin ref reprint s) := by
  unfold joinPrintList
  rw [h]
  rfl

theorem joinPrintList_waits {origin : Nat} {ref : Ref} {reprint : Bool} {s : State}
    (h : s.port.state ≠ .idle) (hd : s.port.state ≠ .down) :
    joinPrintList origin ref reprint s = listed origin ref reprint s := by
  unfold joinPrintList
  cases hs : s.port.state with
  | down => exact absurd hs hd
  | idle => exact absurd hs h
  | _ => rfl

theorem joinPrintList_down {origin : Nat} {ref : Ref} {reprint : Bool} {s : State}
    (h : s.port.state = .down) : joinPrintList origin ref reprint s = unprinted origin ref s := by
  unfold joinPrintList
  rw [h]

/-- The port once entry `e` has begun to be printed on an IDLE port with nothing else to print. -/
def BeginsPrinting (s t : State) (e : Entry) (reprint : Bool) (header : List Byte) : Prop :=
  t.port = { s.port with
      state := .sending, left := some (takenBy s e reprint)
      job := .line (lineBytes s header [])
      stage := if s.port.busyPin = true then .readyWait (now s) else .strobe, pd := t.port.pd }
    ∧ (s.port.busyPin = true → t.port.pd = s.port.pd)
    ∧ (s.port.busyPin = false → (lineBytes s header []).head? = some t.port.pd)

/-- An item that joins an IDLE port with nothing else to print starts printing. -/
theorem joinPrintList_starts {s : State} {e : Entry} {header : List Byte} {reprint : Bool}
    (hs : s.port.state = .idle) (hl : s.port.left = none) (hr : s.port.right = none)
    (hlist : s.port.list = []) (he : entryOf s e.origin e.number = some e)
    (hh : (takenBy s e reprint).image.head? = some header) :
    let t := joinPrintList e.origin ⟨e.number, e.gen⟩ reprint s
    BeginsPrinting s t e reprint header ∧ OnlyEntry s t { e with print := .printing } := by
  have hwaiting : OnlyEntry s (listed e.origin ⟨e.number, e.gen⟩ reprint s) { e with print := .waiting } :=
    onlyEntry_listed he
  have hitem : (listed e.origin ⟨e.number, e.gen⟩ reprint s).port.list
      = [⟨e.origin, e.number, reprint⟩] := by
    rw [listed_frame]
    show s.port.list ++ _ = _
    rw [hlist]
    rfl
  have hidle : (listed e.origin ⟨e.number, e.gen⟩ reprint s).port.left = none := by
    rw [listed_frame]
    exact hl
  have hright : (listed e.origin ⟨e.number, e.gen⟩ reprint s).port.right = none := by
    rw [listed_frame]
    exact hr
  have hentry : entryOf (listed e.origin ⟨e.number, e.gen⟩ reprint s) e.origin e.number
      = some { e with print := .waiting } := hwaiting.1
  have htaken : laneTicket (listed e.origin ⟨e.number, e.gen⟩ reprint s)
      ⟨e.origin, e.number, reprint⟩ { e with print := .waiting } = takenBy s e reprint := rfl
  have hheader : LaneTicket.line (takenBy s e reprint) = header :=
    (line_laneTicket (s := s) (it := ⟨e.origin, e.number, reprint⟩) rfl hh).2
  have htook : OnlyEntry (listed e.origin ⟨e.number, e.gen⟩ reprint s)
      (takenLeft (listed e.origin ⟨e.number, e.gen⟩ reprint s) ⟨e.origin, e.number, reprint⟩ []
        { e with print := .waiting }) { e with print := .printing } := onlyEntry_takenLeft hentry
  have hsent : joinPrintList e.origin ⟨e.number, e.gen⟩ reprint s
      = sendJob (.line (lineBytes s header [])) (takenLeft (listed e.origin ⟨e.number, e.gen⟩ reprint s)
          ⟨e.origin, e.number, reprint⟩ [] { e with print := .waiting }) := by
    rw [joinPrintList_idle hs, startLine_takes hidle hitem hentry (.inl rfl), htaken, hheader, hright]
    rfl
  obtain ⟨b, bs, hbytes⟩ := lineBytes_cons s header []
  have hport : (takenLeft (listed e.origin ⟨e.number, e.gen⟩ reprint s) ⟨e.origin, e.number, reprint⟩ []
      { e with print := .waiting }).port = { s.port with left := some (takenBy s e reprint) } := by
    rw [takenLeft_frame, htaken, listed_frame]
    dsimp only
    rw [← hlist]
  have hnow : now (takenLeft (listed e.origin ⟨e.number, e.gen⟩ reprint s)
      ⟨e.origin, e.number, reprint⟩ [] { e with print := .waiting }) = now s := by
    rw [takenLeft_frame, listed_frame]
    rfl
  dsimp only
  unfold BeginsPrinting
  rw [hbytes] at hsent ⊢
  rw [hsent, sendJob_begins (b := b) (bs := bs) rfl]
  refine ⟨⟨?_, fun hb => ?_, fun hb => ?_⟩, ?_⟩
  · dsimp only
    rw [hport, hnow]
  · dsimp only
    rw [hport]
    exact if_pos hb
  · dsimp only
    rw [hport]
    show some b = some (if s.port.busyPin = true then s.port.pd else b)
    rw [hb]
    rfl
  · exact (OnlyEntry.trans hwaiting htook rfl rfl).congr rfl rfl

/-! ## An entry that fires (R96) -/

/-- The entry is FIRED, before it joins the print list. -/
def firing (e : Entry) (s : State) : State :=
  updEntry e.origin e.number
    (fun x => { x with state := .fired, firedSeq := s.kitchen.fireSeq + 1 })
    (updKitchen (fun k => { k with fireSeq := s.kitchen.fireSeq + 1 }) s)

theorem firing_frame (e : Entry) (s : State) : firing e s = { s with kitchen := { s.kitchen with
    entries := (firing e s).kitchen.entries, fireSeq := s.kitchen.fireSeq + 1 } } := rfl

theorem onlyEntry_firing {e x : Entry} {s : State} (h : entryOf s e.origin e.number = some x) :
    OnlyEntry s (firing e s) { x with state := .fired, firedSeq := s.kitchen.fireSeq + 1 } :=
  (onlyEntry_updEntry (s := updKitchen (fun k => { k with fireSeq := s.kitchen.fireSeq + 1 }) s)
    (f := fun x => { x with state := .fired, firedSeq := s.kitchen.fireSeq + 1 })
    (fun _ => ⟨rfl, rfl⟩) h).congr rfl rfl

/-- The entry is FIRED and its item on its way to the printer; its PROGRESS and its notice follow. -/
def firedAndListed (e : Entry) (s : State) : State :=
  joinPrintList e.origin (Entry.ref e) false (firing e s)

theorem fireEntry_eq (e : Entry) (s : State) : fireEntry e s
    = notify (.ticketFired e.origin (Entry.ref e))
        (sendProgress e.origin (Entry.ref e) .fired (liveMask e.lines) (firedAndListed e s)) := rfl

theorem firedAndListed_frame (e : Entry) (s : State) : firedAndListed e s = { s with
    kitchen := { s.kitchen with
      entries := (firedAndListed e s).kitchen.entries, fireSeq := s.kitchen.fireSeq + 1 }
    port := (firedAndListed e s).port, notices := (firedAndListed e s).notices
    overflow := (firedAndListed e s).overflow, link := (firedAndListed e s).link } := by
  unfold firedAndListed
  rw [joinPrintList_frame, firing_frame]

/-- The printer port and the queue of a fired entry are those of its item that joins the list. -/
theorem fireEntry_port (e : Entry) (s : State) : (fireEntry e s).port = (firedAndListed e s).port := by
  rw [fireEntry_eq, notify_frame]
  unfold sendProgress
  rw [offerFrame_frame]

theorem fireEntry_kitchen (e : Entry) (s : State) :
    (fireEntry e s).kitchen = (firedAndListed e s).kitchen := by
  rw [fireEntry_eq, notify_frame]
  unfold sendProgress
  rw [offerFrame_frame]

theorem fireEntry_sends {s : State} (e : Entry) (h : CanSend s 1) : Sends s (fireEntry e s) e.origin
    (.progress (Entry.ref e) .fired (liveMask e.lines)) false := by
  have hline : (firedAndListed e s).line = s.line := by rw [firedAndListed_frame]
  have hjoin : (firedAndListed e s).join = s.join := by rw [firedAndListed_frame]
  have hfree : freeTx (firedAndListed e s) = freeTx s := by
    unfold freeTx txCount
    rw [hline]
  have hitem : newItem (firedAndListed e s) e.origin
      (.progress (Entry.ref e) .fired (liveMask e.lines)) false
      = newItem s e.origin (.progress (Entry.ref e) .fired (liveMask e.lines)) false := by
    rw [firedAndListed_frame]
    rfl
  rw [fireEntry_eq, notify_frame]
  unfold sendProgress
  rw [offerFrame_of_free (by rw [hjoin]; exact h.1) (by rw [hfree]; exact h.2), hitem]
  unfold Sends
  dsimp only
  rw [hline]

theorem fireEntry_dropped {s : State} (e : Entry) (h : s.join.state ≠ .onLine ∨ freeTx s = 0) :
    (fireEntry e s).line = s.line := by
  have hline : (firedAndListed e s).line = s.line := by rw [firedAndListed_frame]
  have hjoin : (firedAndListed e s).join = s.join := by rw [firedAndListed_frame]
  have hfree : freeTx (firedAndListed e s) = freeTx s := by
    unfold freeTx txCount
    rw [hline]
  rw [fireEntry_eq, notify_frame]
  unfold sendProgress
  rw [offerFrame_of_dropped (by rw [hjoin, hfree]; exact h), frameEnded_of_no_wait rfl]
  exact hline

/-- Where the item's joining raises no notice, TICKET-FIRED is the only one. -/
theorem fireEntry_notified {s : State} (e : Entry) (h : s.port.state ≠ .down) :
    Notified s (fireEntry e s) (.ticketFired e.origin (Entry.ref e)) := by
  have hquiet : firedAndListed e s = { s with
      kitchen := { s.kitchen with
        entries := (firedAndListed e s).kitchen.entries, fireSeq := s.kitchen.fireSeq + 1 }
      port := (firedAndListed e s).port } := by
    unfold firedAndListed
    by_cases hi : s.port.state = .idle
    · rw [joinPrintList_idle (by exact hi), startLine_frame, listed_frame, firing_frame]
    · rw [joinPrintList_waits (by exact hi) (by exact h), listed_frame, firing_frame]
  have hrest : sendProgress e.origin (Entry.ref e) .fired (liveMask e.lines) (firedAndListed e s)
      = { firedAndListed e s with line := { (firedAndListed e s).line with
          waiting := (sendProgress e.origin (Entry.ref e) .fired (liveMask e.lines)
            (firedAndListed e s)).line.waiting } } := offerFrame_frame _ _ _
  rw [fireEntry_eq]
  refine notified_notify _ ?_ ?_ ?_ ?_ <;> rw [hrest, hquiet]


/-- An entry that fires on an IDLE port with nothing else to print starts printing. -/
theorem fireEntry_starts {s : State} {e : Entry} {header : List Byte} (hs : s.port.state = .idle)
    (hl : s.port.left = none) (hr : s.port.right = none) (hlist : s.port.list = [])
    (he : entryOf s e.origin e.number = some e)
    (hh : (takenBy s e false).image.head? = some header) :
    BeginsPrinting s (fireEntry e s) e false header
      ∧ fireEntry e s
        = { s with kitchen := (fireEntry e s).kitchen, port := (fireEntry e s).port
                   line := (fireEntry e s).line, notices := (fireEntry e s).notices
                   overflow := (fireEntry e s).overflow, link := (fireEntry e s).link }
      ∧ (fireEntry e s).kitchen = { s.kitchen with
          entries := (fireEntry e s).kitchen.entries, fireSeq := s.kitchen.fireSeq + 1 }
      ∧ OnlyEntry s (fireEntry e s)
          { e with state := .fired, firedSeq := s.kitchen.fireSeq + 1, print := .printing }
      ∧ (CanSend s 1 → Sends s (fireEntry e s) e.origin
          (.progress ⟨e.number, e.gen⟩ .fired (liveMask e.lines)) false)
      ∧ (freeTx s = 0 → (fireEntry e s).line = s.line)
      ∧ Notified s (fireEntry e s) (.ticketFired e.origin ⟨e.number, e.gen⟩) := by
  have hfired : OnlyEntry s (firing e s)
      { e with state := .fired, firedSeq := s.kitchen.fireSeq + 1 } := onlyEntry_firing he
  have hstarts := joinPrintList_starts (s := firing e s) (reprint := false) hs hl hr hlist hfired.1 hh
  have hjoined : OnlyEntry (firing e s) (firedAndListed e s)
      { e with state := .fired, firedSeq := s.kitchen.fireSeq + 1, print := .printing } := hstarts.2
  refine ⟨?_, fireEntry_frame e s, ?_, ?_, fireEntry_sends e, fun h => fireEntry_dropped e (.inr h),
    fireEntry_notified e (by rw [hs]; nofun)⟩
  · have hbegins := hstarts.1
    unfold BeginsPrinting at hbegins ⊢
    rw [fireEntry_port]
    exact hbegins
  · rw [fireEntry_kitchen, firedAndListed_frame]
  · exact (OnlyEntry.trans hfired hjoined rfl rfl).congr rfl (by rw [fireEntry_kitchen])

/-! ## REPRINT (R115) -/

theorem reprintResult_of {s : State} {slot origin n : Nat} {r : SlotRecord} {e : Entry}
    (h : KitchenSlot s slot r) (he : entryOf s origin n = some e) (hf : e.state = .fired)
    (hp : inPrint s origin n = false) (hd : s.port.state ≠ .down) :
    reprintResult slot origin n s = taken [] (joinPrintList origin ⟨n, e.gen⟩ true s) := by
  unfold reprintResult
  rw [kitchenRequest_of h he, need_of hf, need_of hp, need_of hd]

theorem reprintResult_refused {s : State} {slot origin n : Nat} {r : SlotRecord} {e : Entry}
    (h : KitchenSlot s slot r) (he : entryOf s origin n = some e) (hf : e.state = .fired)
    (hp : inPrint s origin n = true ∨ s.port.state = .down) :
    reprintResult slot origin n s = .error .state := by
  unfold reprintResult
  rw [kitchenRequest_of h he, need_of hf]
  by_cases hin : inPrint s origin n = false
  · rw [need_of hin, need_of_not]
    intro hd
    rcases hp with h | h
    · rw [hin] at h
      cases h
    · exact hd h
  · rw [need_of_not hin]

/-- With nothing in the lanes and the list no entry is in print. -/
theorem inPrint_of_nothing {s : State} (hl : s.port.left = none) (hr : s.port.right = none)
    (hlist : s.port.list = []) (origin n : Nat) : inPrint s origin n = false := by
  unfold inPrint
  rw [hl, hr, hlist]
  rfl

/-- What joins the print list of a port that is not DOWN raises no notice. -/
theorem joinPrintList_quiet {origin : Nat} {ref : Ref} {reprint : Bool} {s : State}
    (h : s.port.state ≠ .down) : joinPrintList origin ref reprint s = { s with
      kitchen := { s.kitchen with entries := (joinPrintList origin ref reprint s).kitchen.entries }
      port := (joinPrintList origin ref reprint s).port } := by
  by_cases hi : s.port.state = .idle
  · rw [joinPrintList_idle hi, startLine_frame, listed_frame]
  · rw [joinPrintList_waits hi h, listed_frame]

/-- REPRINT on an IDLE port with nothing to print. -/
theorem reprint_starts {s : State} {e : Entry} {header : List Byte} {slot : Nat} {r : SlotRecord}
    (hs : s.port.state = .idle) (hl : s.port.left = none) (hr : s.port.right = none)
    (hlist : s.port.list = []) (he : entryOf s e.origin e.number = some e)
    (hh : (takenBy s e true).image.head? = some header) (h : KitchenSlot s slot r)
    (hf : e.state = .fired) :
    ∃ t : State, exec (.reprint slot e.origin e.number) s = .next t
      ∧ BeginsPrinting s t e true header
      ∧ t = { s with kitchen := { s.kitchen with entries := t.kitchen.entries },
                     port := t.port, link := t.link }
      ∧ OnlyEntry s t { e with print := .printing } ∧ Replied t .done [] := by
  have hup : s.port.state ≠ .down := by
    rw [hs]
    nofun
  have hres := reprintResult_of h he hf (inPrint_of_nothing hl hr hlist _ _) hup
  obtain ⟨hbegins, hentry⟩ := joinPrintList_starts hs hl hr hlist he hh
  refine ⟨_, request_ok rfl h.1 hres, hbegins, ?_, hentry.congr rfl rfl, rfl, rfl, rfl, rfl⟩
  rw [joinPrintList_quiet hup]

/-- REPRINT on a port that is sending: the item waits in the list. -/
theorem reprint_waits {s : State} {slot origin n : Nat} {r : SlotRecord} {e : Entry}
    (h : KitchenSlot s slot r) (he : entryOf s origin n = some e) (hf : e.state = .fired)
    (hp : inPrint s origin n = false) (hs : s.port.state = .sending) :
    ∃ t : State, exec (.reprint slot origin n) s = .next t
      ∧ t = { s with kitchen := { s.kitchen with entries := t.kitchen.entries },
                     port := t.port, link := t.link }
      ∧ entryOf t origin n = some { e with print := .waiting }
      ∧ (∀ (x m : Nat), x ≠ origin ∨ m ≠ n → entryOf t x m = entryOf s x m)
      ∧ t.port = { s.port with list := s.port.list ++ [⟨origin, n, true⟩] }
      ∧ Replied t .done [] := by
  have hup : s.port.state ≠ .down := by
    rw [hs]
    nofun
  have hres := reprintResult_of h he hf hp hup
  rw [joinPrintList_waits (by rw [hs]; nofun) hup] at hres
  refine ⟨_, request_ok rfl h.1 hres, rfl, ?_, fun x m hx => ?_, rfl, rfl, rfl, rfl, rfl⟩
  · exact (entryOf_congr rfl _ _).trans (entryOf_setPrint_self (s := s) he)
  · exact (entryOf_congr rfl _ _).trans (entryOf_setPrint_ne (s := s) hx)

/-! ## A completed lane of two (R113) -/

/-- The left lane's ticket is complete and a cut is owed. -/
def cutOwedAfter (x : LaneTicket) (p : Byte) (s : State) : State :=
  { completed x (ended p s) with port := { (completed x (ended p s)).port with cutOwed := true } }

theorem cutOwedAfter_frame (x : LaneTicket) (p : Byte) (s : State) : cutOwedAfter x p s = { s with
    kitchen := { s.kitchen with entries := (cutOwedAfter x p s).kitchen.entries }
    port := { s.port with busyPin := false, pd := p, left := none, cutOwed := true } } := rfl

theorem onlyEntry_cutOwedAfter {x : LaneTicket} {p : Byte} {s : State} {e : Entry}
    (h : entryOf s x.origin x.ref.number = some e) :
    OnlyEntry s (cutOwedAfter x p s) { e with print := .printed } :=
  (onlyEntry_completed (s := ended p s) h).congr rfl rfl

/-- Both lanes idle and the list empty: the owed cut is sent. -/
theorem lineAccepted_cuts {s : State} {x : LaneTicket} {e : Entry} {p : Byte}
    (hd : dualLane s = true) (hl : s.port.left = some x) (hr : s.port.right = none)
    (hx : x.image.length ≤ x.next + 1) (hk : x.held = true)
    (he : entryOf s x.origin x.ref.number = some e) (hlist : s.port.list = []) :
    let t := lineAccepted (ended p s)
    t = { s with kitchen := { s.kitchen with entries := t.kitchen.entries }, port := t.port }
      ∧ OnlyEntry s t { e with print := .printed }
      ∧ t.port = { s.port with
          busyPin := false, state := .sending, left := none, cutOwed := true, job := .cut,
          stage := .strobe, pd := s.join.figures.cut } := by
  have hcut : lineAccepted (ended p s) = { cutOwedAfter x p s with
      port := { (cutOwedAfter x p s).port with
        state := .sending, job := .cut, stage := .strobe, pd := s.join.figures.cut } } := by
    rw [lineAccepted_completes hd hl hr hx hk]
    show startLine (cutOwedAfter x p s) = _
    rw [startLine_empty rfl (by exact hr) (by exact hlist), if_pos ⟨hd, rfl⟩,
      sendJob_strobes (b := s.join.figures.cut) (bs := []) rfl rfl]
  have hentries : (lineAccepted (ended p s)).kitchen.entries = (cutOwedAfter x p s).kitchen.entries := by
    rw [hcut]
  refine ⟨?_, (onlyEntry_cutOwedAfter (p := p) he).congr rfl hentries, ?_⟩
  · rw [hcut, cutOwedAfter_frame]
  · rw [hcut, cutOwedAfter_frame]

/-- The lane whose ticket is complete takes the only item of the list. -/
theorem lineAccepted_takes {s : State} {x : LaneTicket} {e next : Entry} {it : PrintItem}
    {header : List Byte} {p : Byte} (hd : dualLane s = true) (hl : s.port.left = some x)
    (hr : s.port.right = none) (hx : x.image.length ≤ x.next + 1) (hk : x.held = true)
    (he : entryOf s x.origin x.ref.number = some e) (hlist : s.port.list = [it])
    (hn : entryOf s it.origin it.number = some next)
    (hne : e.origin ≠ next.origin ∨ e.number ≠ next.number)
    (hh : (takenBy s next it.reprint).image.head? = some header) :
    let t := lineAccepted (ended p s)
    t = { s with kitchen := { s.kitchen with entries := t.kitchen.entries }, port := t.port }
      ∧ entryOf t e.origin e.number = some { e with print := .printed }
      ∧ entryOf t next.origin next.number = some { next with print := .printing }
      ∧ t.port = { s.port with
          busyPin := false, state := .sending, left := some (takenBy s next it.reprint), list := []
          cutOwed := true, job := .line (lineBytes s header []), stage := .strobe
          pd := t.port.pd } := by
  obtain ⟨no, nn⟩ := entryOf_name hn
  have hdone : OnlyEntry s (cutOwedAfter x p s) { e with print := .printed } := onlyEntry_cutOwedAfter he
  have hnext : entryOf (cutOwedAfter x p s) it.origin it.number = some next := by
    refine (hdone.2.1 it.origin it.number ?_).trans hn
    rw [← no, ← nn]
    exact hne.imp Ne.symm Ne.symm
  have htook : OnlyEntry (cutOwedAfter x p s) (takenLeft (cutOwedAfter x p s) it [] next)
      { next with print := .printing } := onlyEntry_takenLeft hnext
  obtain ⟨hprinted, hprinting⟩ := OnlyEntry.both hdone htook hne
  obtain ⟨htaken, hheader⟩ := line_laneTicket (s := s) no.symm hh
  have hsame : laneTicket (cutOwedAfter x p s) it next = laneTicket s it next := rfl
  have hright : (cutOwedAfter x p s).port.right = none := hr
  have hbytes' : ∀ a b, lineBytes (cutOwedAfter x p s) a b = lineBytes s a b :=
    lineBytes_congr rfl
  obtain ⟨b, bs, hbytes⟩ := lineBytes_cons s header []
  have hline : lineAccepted (ended p s) = { takenLeft (cutOwedAfter x p s) it [] next with
      port := { (takenLeft (cutOwedAfter x p s) it [] next).port with
        state := .sending, job := .line (b :: bs), stage := .strobe, pd := b } } := by
    rw [lineAccepted_completes hd hl hr hx hk]
    show startLine (cutOwedAfter x p s) = _
    rw [startLine_takes rfl (by exact hlist) hnext (.inl rfl), hsame, hheader, hright, hbytes']
    show sendJob (.line (lineBytes s header [])) _ = _
    rw [hbytes, sendJob_strobes (b := b) (bs := bs) rfl rfl]
  have hentries : (lineAccepted (ended p s)).kitchen.entries
      = (takenLeft (cutOwedAfter x p s) it [] next).kitchen.entries := by
    rw [hline]
  refine ⟨?_, (entryOf_congr hentries _ _).trans hprinted, (entryOf_congr hentries _ _).trans hprinting,
    ?_⟩
  · rw [hline, takenLeft_frame, cutOwedAfter_frame]
  · rw [hline, hbytes, takenLeft_frame, hsame, htaken, cutOwedAfter_frame]

/-- Settles O54. -/
theorem linesAndCutsAreSent : Obligations.LinesAndCutsAreSent := by
  refine ⟨fun s k b bs start c hd hs hl hj hc => ?_, fun s k e start c hd hl hj hlist hk he hc => ?_,
    fun s x y bs l m hd hl hr hj hx hy => ?_, image_eq, fun s e header reprint hs hl hr hlist he hh => ?_,
    fun s k e next it rest header hd hl hj hlist hk he hn hne hh => ?_,
    fun s x e bs hd hl hr hj hx hk he => ⟨fun hlist => ?_, fun it next header hlist hn hne hh => ?_⟩,
    fun s hd hl hr hlist hj => ?_, fun s slot origin n r e h he hf => ⟨fun hp hs => ?_, fun hp => ?_⟩⟩
  · have hexec : ∃ p, exec c s = .next (lineAccepted (ended p s)) := by
      rcases hc with rfl | ⟨rfl, rfl, hstage⟩
      · exact ⟨_, exec_lineAccepted hj⟩
      · refine ⟨s.port.pd, ?_⟩
        have hjob : (busyLow s).port.job = .line [b] := hj
        rw [exec_busyReleased, busyReleased_release (s := busyLow s) hstage]
        unfold byteAccepted
        rw [hjob]
        rfl
    obtain ⟨p, hexec⟩ := hexec
    exact ⟨_, hexec, lineAccepted_goes hd hs hl⟩
  · have hexec : exec c s = .next (cutAccepted (ended s.join.figures.cut s)) := by
      rcases hc with rfl | ⟨rfl, hstage, hpd⟩
      · exact exec_cutAccepted hj
      · have hlow : busyLow s = ended s.join.figures.cut s := by
          unfold busyLow ended
          rw [← hpd]
        have hjob : (busyLow s).port.job = .cut := hj
        rw [exec_busyReleased, busyReleased_release (s := busyLow s) hstage]
        unfold byteAccepted
        rw [hjob, hlow]
    exact ⟨_, hexec, cutAccepted_rests hd hl hlist hk he⟩
  · obtain ⟨hframe, hport⟩ := lineAccepted_both (p := bs.getLast?.getD s.port.pd) hd hl hr hx hy
    rw [lineBytes_dual hd] at hport
    exact ⟨_, exec_lineAccepted hj, hframe, hport⟩
  · refine ⟨fun slot r hrep h hf => ?_, fun hrep => ?_⟩
    · subst hrep
      exact reprint_starts hs hl hr hlist he hh h hf
    · subst hrep
      exact fireEntry_starts hs hl hr hlist he hh
  · exact ⟨_, exec_cutAccepted hj, cutAccepted_takes hd hl hlist hk he hn hne hh⟩
  · exact ⟨_, exec_lineAccepted hj, lineAccepted_cuts hd hl hr hx hk he hlist⟩
  · exact ⟨_, exec_lineAccepted hj, lineAccepted_takes hd hl hr hx hk he hlist hn hne hh⟩
  · have hcut : cutAccepted (ended s.join.figures.cut s)
        = startLine { ended s.join.figures.cut s with
            port := { (ended s.join.figures.cut s).port with cutOwed := false } } := if_pos hd
    rw [exec_cutAccepted hj, hcut, startLine_empty (by exact hl) (by exact hr) (by exact hlist),
      if_neg (by rintro ⟨-, h⟩; cases h)]
    rfl
  · exact reprint_waits h he hf hp hs
  · exact request_refused rfl h.1 (reprintResult_refused h he hf hp)

end Sys2Proof.Machine
end

section
-- One proof at a time: side by side, their threads' stacks outgrow the check's memory.
set_option Elab.async false
/-! SUPPORT. Auto-fire: the entry that is next to fire, and what firing makes of the queue (R84, R96). -/

namespace Sys2Proof.Machine

/-! ## Band order (R84) -/

theorem before_irrefl (s : State) (a : Entry) : before s a a = false := by
  unfold before
  cases a.band <;> simp

theorem before_of_same {s : State} {a b : Entry} (h : a.band = b.band) : before s a b
    = (decide (elapsed s (b.arrival.getD 0#32) < elapsed s (a.arrival.getD 0#32))
      || (elapsed s (a.arrival.getD 0#32) == elapsed s (b.arrival.getD 0#32) && decide (a.seq < b.seq))) := by
  unfold before
  rw [h]
  cases b.band <;> rfl

theorem before_rush {s : State} {a b : Entry} (ha : a.band = .rush) (hb : b.band = .normal) :
    before s a b = true := by
  unfold before
  rw [ha, hb]

theorem before_normal {s : State} {a b : Entry} (ha : a.band = .normal) (hb : b.band = .rush) :
    before s a b = false := by
  unfold before
  rw [ha, hb]

theorem before_trans {s : State} {a b c : Entry} (h1 : before s a b = true) (h2 : before s b c = true) :
    before s a c = true := by
  by_cases hab : a.band = b.band
  · by_cases hbc : b.band = c.band
    · rw [before_of_same hab] at h1
      rw [before_of_same hbc] at h2
      rw [before_of_same (hab.trans hbc)]
      simp only [Bool.or_eq_true, Bool.and_eq_true, decide_eq_true_eq, beq_iff_eq] at h1 h2 ⊢
      omega
    · cases hb : b.band with
      | rush =>
        cases hc : c.band with
        | rush => exact absurd (hb.trans hc.symm) hbc
        | normal => exact before_rush (hab.trans hb) hc
      | normal =>
        cases hc : c.band with
        | rush =>
          rw [before_normal hb hc] at h2
          cases h2
        | normal => exact absurd (hb.trans hc.symm) hbc
  · cases ha : a.band with
    | normal =>
      cases hb : b.band with
      | normal => exact absurd (ha.trans hb.symm) hab
      | rush =>
        rw [before_normal ha hb] at h1
        cases h1
    | rush =>
      cases hb : b.band with
      | rush => exact absurd (ha.trans hb.symm) hab
      | normal =>
        cases hc : c.band with
        | normal => exact before_rush ha hc
        | rush =>
          rw [before_normal hb hc] at h2
          cases h2

/-- The better of the best entry so far and another one. -/
def sooner (s : State) (best : Option Entry) (e : Entry) : Option Entry :=
  match best with
  | none => some e
  | some b => if before s e b then some e else some b

theorem nextToFire_eq (s : State) : nextToFire s
    = (s.kitchen.entries.filter fun e => e.state == .queued).foldl (sooner s) none := rfl

/-- The best of some entries is one of them, and none of them stands before it. -/
def Best (s : State) (es : List Entry) (b : Option Entry) : Prop :=
  (b = none ↔ es = []) ∧ ∀ e, b = some e → e ∈ es ∧ ∀ x ∈ es, before s x e = false

theorem Best.sooner {s : State} {es : List Entry} {b : Option Entry} (h : Best s es b) (e : Entry) :
    Best s (es ++ [e]) (sooner s b e) := by
  obtain ⟨hnone, hbest⟩ := h
  cases b with
  | none =>
    rw [hnone.1 rfl]
    refine ⟨⟨fun h => (by cases h), fun h => (by simp at h)⟩, fun x hx => ?_⟩
    cases hx
    refine ⟨by simp, fun y hy => ?_⟩
    obtain rfl : y = e := by simpa using hy
    exact before_irrefl s y
  | some b =>
    obtain ⟨hmem, hfirst⟩ := hbest b rfl
    unfold Machine.sooner
    dsimp only
    by_cases hb : before s e b = true
    · rw [if_pos hb]
      refine ⟨⟨fun h => (by cases h), fun h => (by simp at h)⟩, fun x hx => ?_⟩
      cases hx
      refine ⟨by simp, fun y hy => ?_⟩
      rcases List.mem_append.1 hy with hy | hy
      · by_contra hye
        have := before_trans (Bool.not_eq_false _ ▸ hye) hb
        rw [hfirst y hy] at this
        cases this
      · obtain rfl : y = e := by simpa using hy
        exact before_irrefl s y
    · rw [if_neg hb]
      refine ⟨⟨fun h => (by cases h), fun h => (by simp at h)⟩, fun x hx => ?_⟩
      cases hx
      refine ⟨List.mem_append_left _ hmem, fun y hy => ?_⟩
      rcases List.mem_append.1 hy with hy | hy
      · exact hfirst y hy
      · obtain rfl : y = e := by simpa using hy
        exact Bool.not_eq_true _ ▸ hb

theorem best_foldl (s : State) (es : List Entry) {done : List Entry} {b : Option Entry}
    (h : Best s done b) : Best s (done ++ es) (es.foldl (sooner s) b) := by
  induction es generalizing done b with
  | nil => simpa using h
  | cons e es ih =>
    have := ih (h.sooner e)
    rwa [List.append_assoc] at this

theorem best_nextToFire (s : State) :
    Best s (s.kitchen.entries.filter fun e => e.state == .queued) (nextToFire s) := by
  rw [nextToFire_eq]
  have h0 : Best s [] none := ⟨⟨fun _ => rfl, fun _ => rfl⟩, fun e h => by cases h⟩
  exact best_foldl s _ h0

theorem nextToFire_eq_none {s : State} :
    nextToFire s = none ↔ ∀ e : Entry, e ∈ s.kitchen.entries → e.state ≠ .queued := by
  rw [(best_nextToFire s).1, List.filter_eq_nil_iff]
  simp

theorem nextToFire_mem {s : State} {e : Entry} (h : nextToFire s = some e) :
    e ∈ s.kitchen.entries ∧ e.state = .queued := by
  obtain ⟨hmem, -⟩ := (best_nextToFire s).2 e h
  simpa using hmem

theorem nextToFire_first {s : State} {e x : Entry} (h : nextToFire s = some e)
    (hx : x ∈ s.kitchen.entries) (hq : x.state = .queued) : before s x e = false :=
  ((best_nextToFire s).2 e h).2 x (by simp [hx, hq])

theorem nextToFire_band {s : State} {e x : Entry} (h : nextToFire s = some e) (hb : e.band = .normal)
    (hx : x ∈ s.kitchen.entries) (hq : x.state = .queued) : x.band = .normal := by
  cases hxb : x.band with
  | normal => rfl
  | rush =>
    have := nextToFire_first h hx hq
    rw [before_rush hxb hb] at this
    cases this

theorem nextToFire_order {s : State} {e x : Entry} (h : nextToFire s = some e)
    (hx : x ∈ s.kitchen.entries) (hq : x.state = .queued) (hb : x.band = e.band) :
    elapsed s (x.arrival.getD 0#32) ≤ elapsed s (e.arrival.getD 0#32)
      ∧ (elapsed s (x.arrival.getD 0#32) = elapsed s (e.arrival.getD 0#32) → e.seq ≤ x.seq) := by
  have hfirst := nextToFire_first h hx hq
  rw [before_of_same hb] at hfirst
  simp only [Bool.or_eq_false_iff, Bool.and_eq_false_imp, decide_eq_false_iff_not, beq_iff_eq] at hfirst
  omega

/-! ## Entries but for their print state -/

/-- The entry with its print state put aside. -/
def plain (e : Entry) : Entry := { e with print := .none }

/-- The entries are those they were, but for their print states. -/
def SameButPrint (s t : State) : Prop :=
  t.kitchen.entries.map plain = s.kitchen.entries.map plain

theorem sameButPrint_setPrint (o n : Nat) (p : PrintState) (s : State) :
    SameButPrint s (setPrint o n p s) := by
  unfold SameButPrint setPrint updEntry
  dsimp only
  rw [List.map_map]
  refine List.map_congr_left fun e _ => ?_
  show plain (if e.origin = o ∧ e.number = n then { e with print := p } else e) = plain e
  split <;> rfl

theorem SameButPrint.trans {s t u : State} (h1 : SameButPrint s t) (h2 : SameButPrint t u) :
    SameButPrint s u := Eq.trans h2 h1

theorem SameButPrint.of_entries {s t : State} (h : t.kitchen.entries = s.kitchen.entries) :
    SameButPrint s t := congrArg (List.map plain) h

theorem sameButPrint_takeItem (put : LaneTicket → Port → Port) (s : State) :
    SameButPrint s (takeItem put s) := by
  unfold takeItem
  split
  · rfl
  · rename_i it rest _
    dsimp only
    split
    · exact sameButPrint_setPrint it.origin it.number .printing s
    · rfl

theorem sameButPrint_startLine (s : State) : SameButPrint s (startLine s) := by
  have hfl : ∀ u : State, SameButPrint u (fillLeft u) := by
    intro u
    unfold fillLeft
    split
    · exact sameButPrint_takeItem _ u
    · rfl
  have hfr : ∀ u : State, SameButPrint u (fillRight u) := by
    intro u
    unfold fillRight
    split
    · exact sameButPrint_takeItem _ u
    · rfl
  have hsend : ∀ (j : Job) (u : State), SameButPrint u (sendJob j u) :=
    fun j u => .of_entries (congrArg Kitchen.entries (sendJob_kitchen j u))
  have hboth := (hfl s).trans (hfr (fillLeft s))
  unfold startLine
  split
  · dsimp only
    split
    · split
      · exact hboth.trans (hsend _ _)
      · exact hboth
    · exact hboth.trans (hsend _ _)
  · dsimp only
    split
    · exact (hfl s).trans (hsend _ _)
    · exact hfl s

theorem sameButPrint_joinPrintList (origin : Nat) (ref : Ref) (reprint : Bool) (s : State) :
    SameButPrint s (joinPrintList origin ref reprint s) := by
  have hlisted : SameButPrint s (listed origin ref reprint s) :=
    sameButPrint_setPrint origin ref.number .waiting s
  by_cases hd : s.port.state = .down
  · rw [joinPrintList_down hd]
    unfold unprinted
    refine SameButPrint.trans (sameButPrint_setPrint origin ref.number .unprinted s) (.of_entries ?_)
    rw [notify_frame]
  · by_cases hi : s.port.state = .idle
    · rw [joinPrintList_idle hi]
      exact hlisted.trans (sameButPrint_startLine _)
    · rw [joinPrintList_waits hi hd]
      exact hlisted

/-- What an entry is but for its print state. -/
theorem SameButPrint.map {s t : State} (h : SameButPrint s t) {α : Type} {g : Entry → α}
    (hg : ∀ e, g (plain e) = g e) : t.kitchen.entries.map g = s.kitchen.entries.map g := by
  have hfactor : ∀ es : List Entry, es.map g = (es.map plain).map g := by
    intro es
    rw [List.map_map]
    exact List.map_congr_left fun e _ => (hg e).symm
  rw [hfactor, hfactor s.kitchen.entries, h]

theorem SameButPrint.countP {s t : State} (h : SameButPrint s t) {p : Entry → Bool}
    (hp : ∀ e, p (plain e) = p e) : t.kitchen.entries.countP p = s.kitchen.entries.countP p := by
  have hmap := congrArg (List.countP id) (h.map hp)
  rwa [List.countP_map, List.countP_map] at hmap

/-! ## One entry among uniquely named ones -/

/-- The names of the queue's entries are unique. -/
abbrev UniqueNames (s : State) : Prop := (s.kitchen.entries.map fun e => (e.origin, e.number)).Nodup

/-- Among uniquely named entries one entry is changed, or taken out, by its name alone. -/
theorem named_split {es : List Entry} {e : Entry} (h : (es.map fun x => (x.origin, x.number)).Nodup)
    (he : e ∈ es) : ∃ l r : List Entry, es = l ++ e :: r
      ∧ (∀ f : Entry → Entry,
          es.map (fun x => if x.origin = e.origin ∧ x.number = e.number then f x else x)
            = l ++ f e :: r)
      ∧ es.filter (fun x => !(x.origin == e.origin && x.number == e.number)) = l ++ r := by
  obtain ⟨l, r, rfl⟩ := List.append_of_mem he
  have hother : ∀ x, x ∈ l ∨ x ∈ r → ¬(x.origin = e.origin ∧ x.number = e.number) := by
    intro x hx hname
    rw [List.map_append, List.map_cons, List.nodup_append] at h
    obtain ⟨-, hr, hlr⟩ := h
    have hpair : (x.origin, x.number) = (e.origin, e.number) := by rw [hname.1, hname.2]
    rcases hx with hx | hx
    · exact hlr _ (List.mem_map.2 ⟨x, hx, hpair⟩) _ List.mem_cons_self rfl
    · exact (List.nodup_cons.1 hr).1 (List.mem_map.2 ⟨x, hx, hpair⟩)
  refine ⟨l, r, rfl, fun f => ?_, ?_⟩
  · rw [List.map_append, List.map_cons, if_pos ⟨rfl, rfl⟩]
    have hl : l.map (fun x => if x.origin = e.origin ∧ x.number = e.number then f x else x) = l :=
      (List.map_congr_left fun x hx => if_neg (hother x (.inl hx))).trans (List.map_id l)
    have hr : r.map (fun x => if x.origin = e.origin ∧ x.number = e.number then f x else x) = r :=
      (List.map_congr_left fun x hx => if_neg (hother x (.inr hx))).trans (List.map_id r)
    rw [hl, hr]
  · have hkeep : ∀ x, x ∈ l ∨ x ∈ r → (!(x.origin == e.origin && x.number == e.number)) = true := by
      intro x hx
      have := hother x hx
      rw [not_and] at this
      simpa only [Bool.not_eq_true', Bool.and_eq_false_imp, beq_iff_eq, beq_eq_false_iff_ne] using this
    rw [List.filter_append, List.filter_cons, if_neg (by simp),
      List.filter_eq_self.2 fun x hx => hkeep x (.inl hx),
      List.filter_eq_self.2 fun x hx => hkeep x (.inr hx)]

/-! ## Firing -/

theorem firing_entries (e : Entry) (s : State) : (firing e s).kitchen.entries
    = s.kitchen.entries.map fun x => if x.origin = e.origin ∧ x.number = e.number then
        { x with state := .fired, firedSeq := s.kitchen.fireSeq + 1 } else x := rfl

theorem sameButPrint_fireEntry (e : Entry) (s : State) : SameButPrint (firing e s) (fireEntry e s) := by
  refine (sameButPrint_joinPrintList e.origin (Entry.ref e) false (firing e s)).trans (.of_entries ?_)
  rw [fireEntry_kitchen]
  rfl

/-- Firing keeps what an entry is but for its state, its firing sequence and its print state. -/
theorem map_fireEntry {α : Type} {g : Entry → α} (hp : ∀ e, g (plain e) = g e)
    (hf : ∀ (e : Entry) (n : Nat), g { e with state := .fired, firedSeq := n } = g e) (e : Entry)
    (s : State) : (fireEntry e s).kitchen.entries.map g = s.kitchen.entries.map g := by
  rw [(sameButPrint_fireEntry e s).map hp, firing_entries, List.map_map]
  refine List.map_congr_left fun x _ => ?_
  show g (if x.origin = e.origin ∧ x.number = e.number then _ else x) = g x
  split
  · exact hf x _
  · rfl

theorem uniqueNames_fireEntry {s : State} (h : UniqueNames s) (e : Entry) :
    UniqueNames (fireEntry e s) := by
  unfold UniqueNames
  rw [map_fireEntry (fun _ => rfl) (fun _ _ => rfl)]
  exact h

/-- How many entries are QUEUED. -/
def queuedCount (s : State) : Nat := s.kitchen.entries.countP fun e => e.state == .queued

theorem cookingCount_eq (s : State) : cookingCount s = s.kitchen.entries.countP Entry.cooking :=
  List.countP_eq_length_filter.symm

/-- An entry that fires is one QUEUED entry less, and one more that counts against the capacity. -/
theorem counts_fireEntry {s : State} {e : Entry} (h : UniqueNames s) (he : e ∈ s.kitchen.entries)
    (hq : e.state = .queued) : queuedCount (fireEntry e s) + 1 = queuedCount s
      ∧ cookingCount (fireEntry e s) = cookingCount s + 1 := by
  obtain ⟨l, r, hes, hmap, -⟩ := named_split h he
  have hfired : (firing e s).kitchen.entries
      = l ++ { e with state := .fired, firedSeq := s.kitchen.fireSeq + 1 } :: r := hmap _
  constructor
  · unfold queuedCount
    rw [(sameButPrint_fireEntry e s).countP (fun _ => rfl), hfired, hes]
    simp [hq]
    omega
  · rw [cookingCount_eq, cookingCount_eq, (sameButPrint_fireEntry e s).countP (fun _ => rfl), hfired,
      hes]
    simp [Entry.cooking, hq]
    omega

theorem fireEntry_join (e : Entry) (s : State) : (fireEntry e s).join = s.join := by
  rw [fireEntry_frame]

theorem queuedCount_eq_zero {s : State} : queuedCount s = 0 ↔ nextToFire s = none := by
  rw [nextToFire_eq_none]
  unfold queuedCount
  rw [List.countP_eq_zero]
  simp

/-! ## Auto-fire (R96) -/

theorem fireUpTo_full {n : Nat} {fired : List Entry} {s : State}
    (h : s.join.figures.fire ≤ cookingCount s) : fireUpTo n fired s = (fired, s) := by
  cases n with
  | zero => rfl
  | succ n =>
    unfold fireUpTo
    rw [if_neg (by omega)]

theorem fireUpTo_none {n : Nat} {fired : List Entry} {s : State} (h : nextToFire s = none) :
    fireUpTo n fired s = (fired, s) := by
  cases n with
  | zero => rfl
  | succ n =>
    unfold fireUpTo
    rw [h]
    exact ite_self _

theorem fireUpTo_fires {n : Nat} {fired : List Entry} {s : State} {e : Entry}
    (hroom : cookingCount s < s.join.figures.fire) (h : nextToFire s = some e) :
    fireUpTo (n + 1) fired s = fireUpTo n (fired ++ [e]) (fireEntry e s) := by
  rw [fireUpTo, if_pos hroom, h]

theorem autoFire_of_none {s : State} (h : nextToFire s = none) : autoFire s = s :=
  congrArg Prod.snd (fireUpTo_none h)

/-- With as many firings allowed as entries are QUEUED, more of them change nothing. -/
theorem fireUpTo_enough {n m : Nat} {fired fired' : List Entry} {s : State} (h : UniqueNames s)
    (hn : queuedCount s ≤ n) (hm : queuedCount s ≤ m) :
    (fireUpTo n fired s).2 = (fireUpTo m fired' s).2 := by
  induction n generalizing m fired fired' s with
  | zero =>
    have hnone := queuedCount_eq_zero.1 (Nat.le_zero.1 hn)
    rw [fireUpTo_none hnone, fireUpTo_none hnone]
  | succ n ih =>
    cases hnext : nextToFire s with
    | none => rw [fireUpTo_none hnext, fireUpTo_none hnext]
    | some e =>
      by_cases hroom : cookingCount s < s.join.figures.fire
      · obtain ⟨he, hq⟩ := nextToFire_mem hnext
        have hless := (counts_fireEntry h he hq).1
        obtain ⟨k, rfl⟩ : ∃ k, m = k + 1 := ⟨m - 1, by omega⟩
        rw [fireUpTo_fires hroom hnext, fireUpTo_fires hroom hnext]
        exact ih (uniqueNames_fireEntry h e) (by omega) (by omega)
      · rw [fireUpTo_full (by omega), fireUpTo_full (by omega)]

/-- At the end of auto-fire the capacity is taken or nothing is QUEUED. -/
theorem fireUpTo_ends {n : Nat} {fired : List Entry} {s : State} (h : UniqueNames s)
    (hn : queuedCount s ≤ n) :
    s.join.figures.fire ≤ cookingCount (fireUpTo n fired s).2
      ∨ nextToFire (fireUpTo n fired s).2 = none := by
  induction n generalizing fired s with
  | zero => exact .inr (queuedCount_eq_zero.1 (Nat.le_zero.1 hn))
  | succ n ih =>
    cases hnext : nextToFire s with
    | none =>
      rw [fireUpTo_none hnext]
      exact .inr hnext
    | some e =>
      by_cases hroom : cookingCount s < s.join.figures.fire
      · obtain ⟨he, hq⟩ := nextToFire_mem hnext
        have hless := (counts_fireEntry h he hq).1
        rw [fireUpTo_fires hroom hnext, ← fireEntry_join e s]
        exact ih (uniqueNames_fireEntry h e) (by omega)
      · rw [fireUpTo_full (by omega)]
        exact .inl (Nat.not_lt.1 hroom)

/-- Auto-fire does not go beyond the fire capacity. -/
theorem fireUpTo_within {n : Nat} {fired : List Entry} {s : State} (h : UniqueNames s)
    (hc : cookingCount s ≤ s.join.figures.fire) :
    cookingCount (fireUpTo n fired s).2 ≤ s.join.figures.fire := by
  induction n generalizing fired s with
  | zero => exact hc
  | succ n ih =>
    cases hnext : nextToFire s with
    | none =>
      rw [fireUpTo_none hnext]
      exact hc
    | some e =>
      by_cases hroom : cookingCount s < s.join.figures.fire
      · obtain ⟨he, hq⟩ := nextToFire_mem hnext
        have hmore := (counts_fireEntry h he hq).2
        rw [fireUpTo_fires hroom hnext, ← fireEntry_join e s]
        refine ih (uniqueNames_fireEntry h e) ?_
        rw [fireEntry_join]
        omega
      · rw [fireUpTo_full (by omega)]
        exact hc

/-- Auto-fire keeps what every firing keeps. -/
theorem fireUpTo_keeps {α : Type} {g : State → α} (hg : ∀ e s, g (fireEntry e s) = g s) (n : Nat)
    (fired : List Entry) (s : State) : g (fireUpTo n fired s).2 = g s := by
  induction n generalizing fired s with
  | zero => rfl
  | succ n ih =>
    cases hnext : nextToFire s with
    | none => rw [fireUpTo_none hnext]
    | some e =>
      by_cases hroom : cookingCount s < s.join.figures.fire
      · rw [fireUpTo_fires hroom hnext, ih, hg]
      · rw [fireUpTo_full (by omega)]

theorem queuedCount_le (s : State) : queuedCount s ≤ s.kitchen.entries.length := List.countP_le_length

theorem fireEntry_length (e : Entry) (s : State) :
    (fireEntry e s).kitchen.entries.length = s.kitchen.entries.length := by
  have h := congrArg List.length
    (map_fireEntry (g := fun e : Entry => e.origin) (fun _ => rfl) (fun _ _ => rfl) e s)
  rwa [List.length_map, List.length_map] at h

theorem fireEntry_lists (e : Entry) (s : State) :
    (fireEntry e s).kitchen.lapsed = s.kitchen.lapsed ∧ (fireEntry e s).kitchen.pass = s.kitchen.pass := by
  rw [fireEntry_kitchen, firedAndListed_frame]
  exact ⟨rfl, rfl⟩

/-- Below the capacity auto-fire fires the entry next to fire and goes on from there. -/
theorem autoFire_fires {s : State} {e : Entry} (h : UniqueNames s)
    (hroom : cookingCount s < s.join.figures.fire) (hnext : nextToFire s = some e) :
    autoFire s = autoFire (fireEntry e s) := by
  obtain ⟨he, hq⟩ := nextToFire_mem hnext
  have hless := (counts_fireEntry h he hq).1
  have hlen : s.kitchen.entries.length ≠ 0 := by
    intro h0
    rw [List.eq_nil_of_length_eq_zero h0] at he
    cases he
  obtain ⟨k, hk⟩ : ∃ k, s.kitchen.entries.length = k + 1 := ⟨s.kitchen.entries.length - 1, by omega⟩
  have hq1 := queuedCount_le s
  have hq2 := queuedCount_le (fireEntry e s)
  unfold autoFire autoFireList
  rw [hk, fireUpTo_fires hroom hnext]
  exact fireUpTo_enough (uniqueNames_fireEntry h e) (by omega) hq2


/-! ## An entry that fires on a port that prints nothing at once (R96, R120) -/

/-- What every firing keeps, and how its PROGRESS and its notice follow. -/
theorem fireEntry_counts (e : Entry) (s : State) : (fireEntry e s).kitchen = { s.kitchen with
    entries := (fireEntry e s).kitchen.entries, fireSeq := s.kitchen.fireSeq + 1 } := by
  rw [fireEntry_kitchen, firedAndListed_frame]

theorem fireEntry_down {s : State} {e : Entry} (he : entryOf s e.origin e.number = some e)
    (hd : s.port.state = .down) :
    (fireEntry e s).port = s.port
      ∧ OnlyEntry s (fireEntry e s)
          { e with state := .fired, firedSeq := s.kitchen.fireSeq + 1, print := .unprinted }
      ∧ Notified (notify (.ticketUnprinted e.origin ⟨e.number, e.gen⟩) s) (fireEntry e s)
          (.ticketFired e.origin ⟨e.number, e.gen⟩) := by
  have hlisted : firedAndListed e s = notify (.ticketUnprinted e.origin (Entry.ref e))
      (setPrint e.origin e.number .unprinted (firing e s)) := joinPrintList_down (by exact hd)
  have hprint : OnlyEntry (firing e s) (setPrint e.origin e.number .unprinted (firing e s))
      { e with state := .fired, firedSeq := s.kitchen.fireSeq + 1, print := .unprinted } :=
    onlyEntry_setPrint (onlyEntry_firing he).1
  have hentries : (fireEntry e s).kitchen.entries
      = (setPrint e.origin e.number .unprinted (firing e s)).kitchen.entries := by
    rw [fireEntry_kitchen, hlisted, notify_frame]
  have hsent : sendProgress e.origin (Entry.ref e) .fired (liveMask e.lines) (firedAndListed e s)
      = { firedAndListed e s with line := { (firedAndListed e s).line with
          waiting := (sendProgress e.origin (Entry.ref e) .fired (liveMask e.lines)
            (firedAndListed e s)).line.waiting } } := offerFrame_frame _ _ _
  obtain ⟨hn, ho, hl⟩ := notify_congr (s := s)
    (t := setPrint e.origin e.number .unprinted (firing e s))
    (.ticketUnprinted e.origin (Entry.ref e)) rfl rfl rfl rfl
  have hclock : ∀ (b : NoticeBody) (u : State), (notify b u).clock = u.clock := by
    intro b u
    rw [notify_frame]
  refine ⟨?_, (OnlyEntry.trans (onlyEntry_firing he) hprint rfl rfl).congr rfl hentries, ?_⟩
  · rw [fireEntry_port, hlisted, notify_frame]
    rfl
  · rw [fireEntry_eq]
    refine notified_notify _ ?_ ?_ ?_ ?_
    · rw [hsent, hlisted]
      exact hn
    · rw [hsent, hlisted]
      exact ho
    · rw [hsent, hlisted]
      exact hl
    · rw [hsent, hlisted]
      exact Eq.trans (b := s.clock) (hclock _ _) (hclock _ s).symm

/-- The port has something else to do than to print a new item at once. -/
abbrev PortBusy (s : State) : Prop :=
  s.port.state = .sending ∨ s.port.state = .latched ∨ s.port.state = .retryWait

theorem PortBusy.waits {s : State} (h : PortBusy s) : s.port.state ≠ .idle ∧ s.port.state ≠ .down := by
  rcases h with h | h | h <;> rw [h] <;> exact ⟨nofun, nofun⟩

theorem fireEntry_busy {s : State} {e : Entry} (he : entryOf s e.origin e.number = some e)
    (hb : PortBusy s) :
    (fireEntry e s).port = { s.port with list := s.port.list ++ [⟨e.origin, e.number, false⟩] }
      ∧ OnlyEntry s (fireEntry e s)
          { e with state := .fired, firedSeq := s.kitchen.fireSeq + 1, print := .waiting }
      ∧ Notified s (fireEntry e s) (.ticketFired e.origin ⟨e.number, e.gen⟩) := by
  obtain ⟨hi, hd⟩ := hb.waits
  have hjoined : firedAndListed e s = listed e.origin (Entry.ref e) false (firing e s) :=
    joinPrintList_waits (by exact hi) (by exact hd)
  have hfired : OnlyEntry s (firing e s)
      { e with state := .fired, firedSeq := s.kitchen.fireSeq + 1 } := onlyEntry_firing he
  have hprint : OnlyEntry (firing e s) (listed e.origin (Entry.ref e) false (firing e s))
      { e with state := .fired, firedSeq := s.kitchen.fireSeq + 1, print := .waiting } :=
    onlyEntry_listed (ref := Entry.ref e) hfired.1
  refine ⟨?_, (OnlyEntry.trans hfired hprint rfl rfl).congr rfl ?_,
    fireEntry_notified e hd⟩
  · rw [fireEntry_port, hjoined]
    rfl
  · rw [fireEntry_kitchen, hjoined]

/-- Settles O51. -/
theorem autoFireFillsTheCapacity : Obligations.AutoFireFillsTheCapacity := by
  refine ⟨fun s h => ⟨?_, fireUpTo_within h, ?_, ?_, ?_, fun e => autoFire_fires h, fun hc => ?_,
      nextToFire_eq_none⟩,
    fun s e h => ⟨(nextToFire_mem h).1, (nextToFire_mem h).2, fun hb x hx hq => nextToFire_band h hb hx hq,
      fun x hx hq hb => nextToFire_order h hx hq hb⟩,
    fun s e he hd => ?_, fun s e he hb => ?_⟩
  · have hends := fireUpTo_ends (n := s.kitchen.entries.length) (fired := []) h (queuedCount_le s)
    rwa [nextToFire_eq_none] at hends
  · exact fireUpTo_keeps
      (g := fun s => s.kitchen.entries.map fun e => (e.origin, e.number, e.gen, e.lines))
      (map_fireEntry (fun _ => rfl) (fun _ _ => rfl)) _ _ s
  · exact fireUpTo_keeps (g := fun s => s.kitchen.lapsed) (fun e s => (fireEntry_lists e s).1) _ _ s
  · exact fireUpTo_keeps (g := fun s => s.kitchen.pass) (fun e s => (fireEntry_lists e s).2) _ _ s
  · rcases hc with hc | hc
    · exact autoFire_of_full hc
    · exact autoFire_of_none hc
  · obtain ⟨hport, hentry, hnote⟩ := fireEntry_down he hd
    refine ⟨?_, fireEntry_counts e s, hentry, fireEntry_sends e, fun h => fireEntry_dropped e (.inr h),
      hnote⟩
    have hframe := fireEntry_frame e s
    rw [hport] at hframe
    exact hframe
  · obtain ⟨hport, hentry, hnote⟩ := fireEntry_busy he hb
    exact ⟨fireEntry_frame e s, hport, fireEntry_counts e s, hentry, fireEntry_sends e,
      fun h => fireEntry_dropped e (.inr h), hnote⟩

end Sys2Proof.Machine
end

section
-- One proof at a time: side by side, their threads' stacks outgrow the check's memory.
set_option Elab.async false
/-! SUPPORT. The timers of an entry, the pass list, and BUMP (R97 to R101). -/

namespace Sys2Proof.Machine

/-! ## Records with unique names -/

/-- Among uniquely named records the one of a name is found by it. -/
theorem find?_of_nodup {α β : Type} {g : α → β} {xs : List α} {x : α} {p : α → Bool}
    (h : (xs.map g).Nodup) (hx : x ∈ xs) (hp : ∀ y, p y = true ↔ g y = g x) : xs.find? p = some x := by
  cases hf : xs.find? p with
  | none =>
    rw [List.find?_eq_none] at hf
    exact absurd ((hp x).2 rfl) (hf x hx)
  | some y =>
    have hy := (hp y).1 (List.find?_some hf)
    rw [List.inj_on_of_nodup_map h (List.mem_of_find?_eq_some hf) hx hy]

/-- What depends on a name among unique ones holds of the one record that has it. -/
theorem nodup_name_iff {α β : Type} {g : α → β} {xs : List α} {x y : α} (h : (xs.map g).Nodup)
    (hx : x ∈ xs) (hy : y ∈ xs) : g y = g x ↔ y = x :=
  ⟨fun hg => List.inj_on_of_nodup_map h hy hx hg, fun he => by rw [he]⟩

/-! ## Counts that a change of entries leaves -/

theorem cookingCount_updEntry {o n : Nat} {f : Entry → Entry} (hf : ∀ e, (f e).state = e.state)
    (s : State) : cookingCount (updEntry o n f s) = cookingCount s := by
  rw [cookingCount_eq, cookingCount_eq]
  show (s.kitchen.entries.map _).countP _ = _
  rw [List.countP_map]
  refine List.countP_congr fun e _ => ?_
  show Entry.cooking (if e.origin = o ∧ e.number = n then f e else e) = true ↔ _
  split
  · unfold Entry.cooking
    rw [hf e]
  · rfl

theorem cookingCount_congr {s t : State} (h : t.kitchen.entries = s.kitchen.entries) :
    cookingCount t = cookingCount s := by
  unfold cookingCount
  rw [h]

/-! ## The warn and the late timer (R97, R98) -/

theorem timed_of {e : Entry} (h : e.state = .queued ∨ e.state = .fired) : Entry.timed e = true := by
  unfold Entry.timed
  rcases h with h | h <;> rw [h] <;> rfl

theorem exec_warn {s : State} {origin n : Nat} {e : Entry} {arrival : Time}
    (he : entryOf s origin n = some e) (ha : e.arrival = some arrival)
    (hs : e.state = .queued ∨ e.state = .fired) (hw : e.warn = false)
    (hd : Due s arrival (1000 * s.join.figures.warn)) :
    exec (.warnTimerExpiry origin n) s = .next (notify (.warn origin (Entry.ref e) e.state arrival)
      (updEntry origin n (fun e => { e with warn := true }) s)) := by
  have hdue : Due s arrival (s.join.figures.warn * 1000) := by
    rw [Nat.mul_comm]
    exact hd
  show execWarnTimerExpiry origin n s = _
  unfold execWarnTimerExpiry
  rw [he]
  dsimp only
  rw [ha]
  dsimp only
  rw [if_pos ⟨timed_of hs, hw⟩, advanceUntil_of_due hdue]

theorem exec_late {s : State} {origin n : Nat} {e : Entry} {arrival : Time}
    (he : entryOf s origin n = some e) (ha : e.arrival = some arrival)
    (hs : e.state = .queued ∨ e.state = .fired) (hl : e.late = false)
    (hd : Due s arrival (1000 * s.join.figures.late)) :
    exec (.lateTimerExpiry origin n) s = .next (lateOut e s) := by
  have hdue : Due s arrival (s.join.figures.late * 1000) := by
    rw [Nat.mul_comm]
    exact hd
  show execLateTimerExpiry origin n s = _
  unfold execLateTimerExpiry
  rw [he]
  dsimp only
  rw [ha]
  dsimp only
  rw [if_pos ⟨timed_of hs, hl⟩, advanceUntil_of_due hdue]

/-- A PROGRESS that joins the transmit queue. -/
theorem sendProgress_of {s : State} (h : CanSend s 1) (o : Nat) (ref : Ref) (k : KitchenState) (m : Byte) :
    sendProgress o ref k m s = { s with line := { s.line with
      waiting := joinQueue (newItem s o (.progress ref k m) false) s.line.waiting } } :=
  offerFrame_of_free h.1 h.2

theorem updEntry_updEntry {o n : Nat} {f g : Entry → Entry}
    (hf : ∀ e, (f e).origin = e.origin ∧ (f e).number = e.number) (s : State) :
    updEntry o n g (updEntry o n f s) = updEntry o n (fun e => g (f e)) s := by
  unfold updEntry
  dsimp only
  rw [List.map_map]
  congr 2
  refine List.map_congr_left fun e _ => ?_
  show (if (if e.origin = o ∧ e.number = n then f e else e).origin = o
      ∧ (if e.origin = o ∧ e.number = n then f e else e).number = n
    then g (if e.origin = o ∧ e.number = n then f e else e)
    else if e.origin = o ∧ e.number = n then f e else e) = _
  by_cases hn : e.origin = o ∧ e.number = n
  · rw [if_pos hn, if_pos hn, if_pos]
    rw [(hf e).1, (hf e).2]
    exact hn
  · rw [if_neg hn, if_neg hn, if_neg hn]

theorem lateOut_fired {s : State} {e : Entry} (hs : e.state = .fired) (hc : CanSend s 1) :
    lateOut e s = { updEntry e.origin e.number (fun e => { e with late := true }) s with
      line := { s.line with
        waiting := joinQueue
          (newItem s e.origin (.progress (Entry.ref e) .late (liveMask e.lines)) false)
          s.line.waiting } } := by
  unfold lateOut
  dsimp only
  rw [if_neg (by rintro ⟨h, -⟩; rw [hs] at h; cases h), sendProgress_of (by exact hc)]
  rfl

/-- The queue and the frames of a promotion, before auto-fire. -/
def promoted (e : Entry) (s : State) : State :=
  { updEntry e.origin e.number (fun e => { e with late := true, band := .rush }) s with
    line := { s.line with
      waiting := joinQueue
        (newItem s e.origin (.progress (Entry.ref e) .late (liveMask e.lines)) false)
        s.line.waiting } }

theorem lateOut_queued {s : State} {e : Entry} (hs : e.state = .queued) (hb : e.band = .normal)
    (hc : CanSend s 1) : lateOut e s = autoFire (promoted e s) := by
  unfold lateOut
  dsimp only
  rw [if_pos ⟨hs, hb⟩, sendProgress_of (by exact hc)]
  refine congrArg autoFire ?_
  have htwice := updEntry_updEntry (o := e.origin) (n := e.number)
    (f := fun e => { e with late := true }) (g := fun e => { e with band := Band.rush })
    (fun _ => ⟨rfl, rfl⟩) s
  unfold promoted
  rw [← htwice]
  rfl

/-! ## The pass list (R101) -/

theorem passOf_of_nodup {s : State} {p : PassEntry} (hp : p ∈ s.kitchen.pass)
    (h : (s.kitchen.pass.map fun x => (x.origin, x.number)).Nodup) :
    passOf s p.origin p.number = some p :=
  find?_of_nodup h hp (by simp)

theorem exec_passReady {s : State} {p : PassEntry} (hp : passOf s p.origin p.number = some p)
    (hj : s.join.state = .onLine) (hstop : p.stopped = false)
    (hd : p.sends = 1 ∧ Due s p.bumped 2000 ∨ p.sends = 2 ∧ Due s p.bumped 6000) :
    exec (.passReadyRepeat p.origin p.number) s = .next (passRepeat p s) := by
  have hsends : p.sends < 3 := by omega
  have hdue : Due s p.bumped (if p.sends = 1 then passSecond else passThird) := by
    rcases hd with ⟨h, hd⟩ | ⟨h, hd⟩
    · rw [if_pos h]
      exact hd
    · rw [if_neg (by omega)]
      exact hd
  show execPassReadyRepeat p.origin p.number s = _
  unfold execPassReadyRepeat
  rw [hp]
  dsimp only
  rw [if_pos ⟨hj, hstop, hsends⟩, advanceUntil_of_due hdue]

/-- Settles O50. -/
theorem entryTimersAndPassRepeats : Obligations.EntryTimersAndPassRepeats := by
  refine ⟨fun s origin n e arrival he ha => ⟨fun hs hw hd => ?_, fun hs hl hd hc => ?_,
      fun hs hb hl hd hc => ?_⟩,
    fun s origin n p hp ho hn h => ?_⟩
  · obtain ⟨rfl, rfl⟩ := entryOf_name he
    have hentry : OnlyEntry s (updEntry e.origin e.number (fun e => { e with warn := true }) s)
        { e with warn := true } := onlyEntry_updEntry (f := fun e => { e with warn := true })
      (fun _ => ⟨rfl, rfl⟩) he
    refine ⟨_, exec_warn he ha hs hw hd, ?_, ?_, ?_, notified_notify _ rfl rfl rfl rfl⟩
    · rw [notify_frame]
      rfl
    · rw [notify_frame]
      exact (entryOf_congr rfl _ _).trans hentry.1
    · intro x m hx
      rw [notify_frame]
      exact (entryOf_congr rfl _ _).trans (hentry.2.1 x m hx)
  · obtain ⟨rfl, rfl⟩ := entryOf_name he
    have hentry : OnlyEntry s (updEntry e.origin e.number (fun e => { e with late := true }) s)
        { e with late := true } := onlyEntry_updEntry (f := fun e => { e with late := true })
      (fun _ => ⟨rfl, rfl⟩) he
    exact ⟨_, (exec_late he ha (.inr hs) hl hd).trans
        (congrArg Host.Outcome.next (lateOut_fired hs hc)), rfl,
      (entryOf_congr rfl _ _).trans hentry.1,
      fun x m hx => (entryOf_congr rfl _ _).trans (hentry.2.1 x m hx), rfl⟩
  · obtain ⟨rfl, rfl⟩ := entryOf_name he
    have hentry : OnlyEntry s
        (updEntry e.origin e.number (fun e => { e with late := true, band := .rush }) s)
        { e with late := true, band := .rush } :=
      onlyEntry_updEntry (f := fun e => { e with late := true, band := .rush }) (fun _ => ⟨rfl, rfl⟩) he
    have hcount : cookingCount (promoted e s) = cookingCount s :=
      (cookingCount_congr rfl).trans (cookingCount_updEntry
        (f := fun e => { e with late := true, band := .rush }) (fun _ => rfl) s)
    refine ⟨promoted e s, (exec_late he ha (.inl hs) hl hd).trans
        (congrArg Host.Outcome.next (lateOut_queued hs hb hc)),
      fun hfull => autoFire_of_full ?_, rfl, (entryOf_congr rfl _ _).trans hentry.1,
      fun x m hx => (entryOf_congr rfl _ _).trans (hentry.2.1 x m hx), rfl⟩
    rw [hcount]
    exact hfull
  · subst ho hn
    have hfound := passOf_of_nodup hp h
    have hname : ∀ x ∈ s.kitchen.pass, (x.origin = p.origin ∧ x.number = p.number) ↔ x = p := by
      intro x hx
      rw [← nodup_name_iff h hp hx, Prod.mk.injEq]
    refine ⟨fun hstop hc hd => ?_, fun hno => ?_, fun hd => ?_⟩
    · refine ⟨_, exec_passReady hfound hc.1 hstop hd, ?_, ?_, ?_⟩
      · unfold passRepeat
        rw [sendProgress_of (by exact hc)]
        rfl
      · unfold passRepeat
        rw [sendProgress_of (by exact hc)]
        refine List.map_congr_left fun x hx => ?_
        by_cases hxp : x = p
        · rw [if_pos ((hname x hx).2 hxp), if_pos hxp, hxp]
        · rw [if_neg (fun hn => hxp ((hname x hx).1 hn)), if_neg hxp]
      · unfold passRepeat
        rw [sendProgress_of (by exact hc)]
        rfl
    · show execPassReadyRepeat p.origin p.number s = _
      unfold execPassReadyRepeat
      rw [hfound]
      dsimp only
      rw [if_neg]
      rintro ⟨hj, hstop, hsends⟩
      rcases hno with h | h | h
      · rw [h] at hstop
        cases hstop
      · exact h hj
      · omega
    · have hexec : exec (.passExpiry p.origin p.number) s
          = .next (notify (.passExpired p.origin ⟨p.number, p.gen⟩) (dropPass p.origin p.number s)) := by
        show execPassExpiry p.origin p.number s = _
        unfold execPassExpiry
        rw [hfound]
        show Host.Outcome.next (notify _ (dropPass _ _ (advanceUntil p.bumped 600000 s))) = _
        rw [advanceUntil_of_due hd]
      refine ⟨_, hexec, ?_, ?_, notified_notify _ rfl rfl rfl rfl⟩
      · rw [notify_frame]
        rfl
      · rw [notify_frame]
        refine List.filter_congr fun x hx => ?_
        have := hname x hx
        by_cases hxp : x = p
        · subst hxp
          simp
        · have hne : ¬(x.origin = p.origin ∧ x.number = p.number) := fun hn => hxp (this.1 hn)
          rw [not_and] at hne
          rw [bne_iff_ne.2 hxp]
          simpa only [Bool.not_eq_true', Bool.and_eq_false_imp, beq_iff_eq, beq_eq_false_iff_ne] using hne

end Sys2Proof.Machine
end

section
-- One proof at a time: side by side, their threads' stacks outgrow the check's memory.
set_option Elab.async false
/-! SUPPORT. BUMP, and how an entry leaves the queue (R100, R101). -/

namespace Sys2Proof.Machine

/-! ## An entry leaves the queue -/

theorem dropEntry_eq (o n : Nat) (s : State) :
    dropEntry o n s = { s with kitchen := WithoutEntry s o n } := by
  have hfilter : s.kitchen.entries.filter (fun e => !(e.origin == o && e.number == n))
      = s.kitchen.entries.filter fun e => e.origin != o || e.number != n :=
    List.filter_congr fun e _ => Bool.not_and _ _
  unfold dropEntry
  rw [hfilter]

theorem leaveQueue_frame (o n : Nat) (s : State) : leaveQueue o n s = { s with
    kitchen := WithoutEntry s o n, port := (leaveQueue o n s).port } := by
  unfold leaveQueue
  rw [dropEntry_eq]
  rfl

theorem portTold_leaveQueue (o n : Nat) (s : State) : PortTold s (leaveQueue o n s) o n := by
  have hfilter : s.port.list.filter (fun x => !(x.origin == o && x.number == n))
      = s.port.list.filter fun x => x.origin != o || x.number != n :=
    List.filter_congr fun x _ => Bool.not_and _ _
  show { s.port with
      list := s.port.list.filter fun x => !(x.origin == o && x.number == n)
      left := s.port.left.map (LaneTicket.release o n)
      right := s.port.right.map (LaneTicket.release o n) } = _
  rw [hfilter]
  rfl

/-- What PortTold says of a port it says of every state with that port. -/
theorem PortTold.congr {s t u : State} {o n : Nat} (h : PortTold s t o n) (hu : u.port = t.port) :
    PortTold s u o n := hu.trans h

/-! ## The pass list (R101) -/

theorem pass_filter (o n : Nat) (ps : List PassEntry) :
    ps.filter (fun x => !(x.origin == o && x.number == n))
      = ps.filter fun x => x.origin != o || x.number != n :=
  List.filter_congr fun _ _ => Bool.not_and _ _

theorem addPass_of_room {p : PassEntry} {s : State}
    (h : (s.kitchen.pass.filter fun x => x.origin != p.origin || x.number != p.number).length < 12) :
    addPass p s = { s with kitchen := { s.kitchen with
      pass := s.kitchen.pass.filter (fun x => x.origin != p.origin || x.number != p.number) ++ [p] } } := by
  rw [← pass_filter] at h ⊢
  unfold addPass
  dsimp only
  rw [if_pos (by exact h)]
  have hdrop : (s.kitchen.pass.filter fun x => !(x.origin == p.origin && x.number == p.number)).length
      + 1 - passCapacity = 0 := by
    show _ + 1 - 12 = 0
    omega
  rw [hdrop, List.drop_zero]
  rfl

theorem addPass_full {p x : PassEntry} {others : List PassEntry} {s : State}
    (h : s.kitchen.pass.filter (fun x => x.origin != p.origin || x.number != p.number) = x :: others)
    (hlen : others.length = 11) :
    addPass p s = { notify (.passDropped x.origin ⟨x.number, x.gen⟩) s with kitchen := { s.kitchen with
      pass := others ++ [p] } } := by
  rw [← pass_filter] at h
  have hfull : ¬(x :: others).length < passCapacity := by
    rw [List.length_cons, hlen]
    decide
  have hdrop : (x :: others).length + 1 - passCapacity = 1 := by
    rw [List.length_cons, hlen]
    rfl
  unfold addPass
  rw [h]
  dsimp only
  rw [if_neg hfull, hdrop]
  unfold updKitchen
  rw [notify_frame]
  rfl

/-! ## The queue with one entry next -/

theorem nextToFire_single {s : State} {x : Entry} (hx : x ∈ s.kitchen.entries) (hq : x.state = .queued)
    (h : ∀ y : Entry, y ∈ s.kitchen.entries → y.state = .queued → y = x) : nextToFire s = some x := by
  cases hnext : nextToFire s with
  | none => exact absurd hq (nextToFire_eq_none.1 hnext x hx)
  | some e =>
    obtain ⟨he, heq⟩ := nextToFire_mem hnext
    rw [h e he heq]

/-- Below the capacity the only QUEUED entry fires, and no other one. -/
theorem autoFireList_single {s : State} {x : Entry} (hn : UniqueNames s) (hx : x ∈ s.kitchen.entries)
    (hq : x.state = .queued) (h : ∀ y : Entry, y ∈ s.kitchen.entries → y.state = .queued → y = x)
    (hroom : cookingCount s < s.join.figures.fire) : autoFireList s = ([x], fireEntry x s) := by
  have hnext := nextToFire_single hx hq h
  have hlen : s.kitchen.entries.length ≠ 0 := by
    intro h0
    rw [List.eq_nil_of_length_eq_zero h0] at hx
    cases hx
  obtain ⟨k, hk⟩ : ∃ k, s.kitchen.entries.length = k + 1 := ⟨s.kitchen.entries.length - 1, by omega⟩
  have hless := (counts_fireEntry hn hx hq).1
  have hone : queuedCount s = 1 := by
    obtain ⟨l, r, hes, -⟩ := named_split hn hx
    have hnone : ∀ y, y ∈ l ∨ y ∈ r → (y.state == .queued) = false := by
      intro y hy
      by_contra hyq
      have hyq' : y.state = .queued := by simpa using hyq
      have hyx := h y (by rw [hes]; rcases hy with hy | hy <;> simp [hy]) hyq'
      subst hyx
      have hdup := hn
      unfold UniqueNames at hdup
      rw [hes, List.map_append, List.map_cons, List.nodup_append] at hdup
      obtain ⟨-, hr, hlr⟩ := hdup
      rcases hy with hy | hy
      · exact hlr _ (List.mem_map_of_mem hy) _ List.mem_cons_self rfl
      · exact (List.nodup_cons.1 hr).1 (List.mem_map_of_mem hy)
    unfold queuedCount
    rw [hes, List.countP_append, List.countP_cons,
      List.countP_eq_zero.2 fun y hy => by rw [hnone y (.inl hy)]; decide,
      List.countP_eq_zero.2 fun y hy => by rw [hnone y (.inr hy)]; decide, hq]
    rfl
  unfold autoFireList
  rw [hk, fireUpTo_fires hroom hnext, fireUpTo_none (queuedCount_eq_zero.1 (by omega))]
  rfl

theorem autoFireList_none {s : State} (h : nextToFire s = none) : autoFireList s = ([], s) :=
  fireUpTo_none h

/-! ## BUMP (R100) -/

theorem bumpResult_fired {s : State} {slot o n : Nat} {r : SlotRecord} {e : Entry}
    (h : KitchenSlot s slot r) (he : entryOf s o n = some e) (hs : e.state = .fired) :
    bumpResult slot o n s = needFrames s (1 + (autoFireList (bumpReady e (leaveQueue o n s))).1.length)
      (taken (refsBytes (autoFireList (bumpReady e (leaveQueue o n s))).1)
        (autoFireList (bumpReady e (leaveQueue o n s))).2) := by
  unfold bumpResult
  rw [kitchenRequest_of h he, hs]

theorem bumpResult_revoked {s : State} {slot o n : Nat} {r : SlotRecord} {e : Entry}
    (h : KitchenSlot s slot r) (he : entryOf s o n = some e) (hs : e.state = .revokedFired) :
    bumpResult slot o n s = needFrames s (autoFireList (leaveQueue o n s)).1.length
      (taken (refsBytes (autoFireList (leaveQueue o n s)).1) (autoFireList (leaveQueue o n s)).2) := by
  unfold bumpResult
  rw [kitchenRequest_of h he, hs]

theorem bumpResult_refused {s : State} {slot o n : Nat} {r : SlotRecord} {e : Entry}
    (h : KitchenSlot s slot r) (he : entryOf s o n = some e)
    (hs : e.state = .tentative ∨ e.state = .queued) : bumpResult slot o n s = .error .state := by
  unfold bumpResult
  rw [kitchenRequest_of h he]
  rcases hs with hs | hs <;> rw [hs]

/-- The pass entry that a bumped entry becomes (R101). -/
def bumpedPass (e : Entry) (s : State) : PassEntry :=
  { origin := e.origin, mark := e.mark, number := e.number, gen := e.gen
    live := liveMask e.lines, bumped := now s, sends := 1, stopped := false }

/-- The state after a bump to the pass list, its READY in the transmit queue, before auto-fire. -/
def bumped (e : Entry) (ps : List PassEntry) (s : State) : State :=
  { s with
    kitchen := { WithoutEntry s e.origin e.number with pass := ps ++ [bumpedPass e s] }
    port := (leaveQueue e.origin e.number s).port
    line := { s.line with
      waiting := joinQueue
        (newItem s e.origin (.progress (Entry.ref e) .ready (liveMask e.lines)) false)
        s.line.waiting } }

theorem bumpReady_of_room {s : State} {e : Entry} (hc : CanSend s 1)
    (h : (s.kitchen.pass.filter fun x => x.origin != e.origin || x.number != e.number).length < 12) :
    bumpReady e (leaveQueue e.origin e.number s) = bumped e
      (s.kitchen.pass.filter fun x => x.origin != e.origin || x.number != e.number) s := by
  unfold bumpReady
  rw [leaveQueue_frame, addPass_of_room (by exact h), sendProgress_of (by exact hc)]
  rfl

/-- The same with the oldest pass entry dropped. -/
theorem bumpReady_full {s : State} {e : Entry} {x : PassEntry} {others : List PassEntry}
    (hc : CanSend s 1)
    (h : s.kitchen.pass.filter (fun x => x.origin != e.origin || x.number != e.number) = x :: others)
    (hlen : others.length = 11) :
    bumpReady e (leaveQueue e.origin e.number s) = { bumped e others s with
      notices := (notify (.passDropped x.origin ⟨x.number, x.gen⟩) (leaveQueue e.origin e.number s)).notices
      overflow := (notify (.passDropped x.origin ⟨x.number, x.gen⟩) (leaveQueue e.origin e.number s)).overflow
      link := (notify (.passDropped x.origin ⟨x.number, x.gen⟩) (leaveQueue e.origin e.number s)).link } := by
  unfold bumpReady
  rw [leaveQueue_frame, addPass_full (by exact h) hlen, notify_frame, sendProgress_of (by exact hc)]
  rfl


/-- One frame more in the transmit queue leaves room for the others. -/
theorem canSend_joined {s t : State} {x : TxItem} {n : Nat} (h : CanSend s (n + 1))
    (hj : t.join = s.join) (hs : t.line.sending = s.line.sending)
    (hw : t.line.waiting = joinQueue x s.line.waiting) : CanSend t n := by
  obtain ⟨h1, h2⟩ := h
  refine ⟨by rw [hj]; exact h1, ?_⟩
  unfold freeTx txCount at h2 ⊢
  rw [hs, hw, joinQueue_length]
  omega

/-- The queue of a port that prints nothing at once, after an entry of unique name has fired. -/
theorem fireEntry_entries {s : State} {e : Entry} (hn : UniqueNames s) (he : e ∈ s.kitchen.entries)
    (hb : PortBusy s) : (fireEntry e s).kitchen.entries = s.kitchen.entries.map fun y =>
      if y = e then { e with state := .fired, firedSeq := s.kitchen.fireSeq + 1, print := .waiting }
      else y := by
  obtain ⟨hi, hd⟩ := hb.waits
  have hjoined : firedAndListed e s = listed e.origin (Entry.ref e) false (firing e s) :=
    joinPrintList_waits (by exact hi) (by exact hd)
  have htwice := updEntry_updEntry (o := e.origin) (n := e.number)
    (f := fun x => { x with state := .fired, firedSeq := s.kitchen.fireSeq + 1 })
    (g := fun x => { x with print := .waiting }) (fun _ => ⟨rfl, rfl⟩)
    (updKitchen (fun k => { k with fireSeq := s.kitchen.fireSeq + 1 }) s)
  have hentries : (fireEntry e s).kitchen.entries = (updEntry e.origin e.number
      (fun x => { x with state := .fired, firedSeq := s.kitchen.fireSeq + 1, print := .waiting })
      (updKitchen (fun k => { k with fireSeq := s.kitchen.fireSeq + 1 }) s)).kitchen.entries := by
    rw [fireEntry_kitchen, hjoined, ← htwice]
    rfl
  rw [hentries]
  refine List.map_congr_left fun y hy => ?_
  have hname : (y.origin = e.origin ∧ y.number = e.number) ↔ y = e := by
    rw [← nodup_name_iff hn he hy, Prod.mk.injEq]
  by_cases hye : y = e
  · rw [if_pos (hname.2 hye), if_pos hye, hye]
  · rw [if_neg (fun h => hye (hname.1 h)), if_neg hye]

theorem mem_withoutEntry {s : State} {o n : Nat} {x : Entry} :
    x ∈ (WithoutEntry s o n).entries ↔ x ∈ s.kitchen.entries ∧ (x.origin ≠ o ∨ x.number ≠ n) := by
  show x ∈ s.kitchen.entries.filter _ ↔ _
  rw [List.mem_filter]
  simp [bne_iff_ne]

/-- An entry that counts against the capacity and leaves the queue makes room. -/
theorem cookingCount_withoutEntry {s t : State} {e : Entry} (hn : UniqueNames s)
    (he : e ∈ s.kitchen.entries) (hc : Entry.cooking e = true)
    (ht : t.kitchen.entries = (WithoutEntry s e.origin e.number).entries) :
    cookingCount t + 1 = cookingCount s := by
  obtain ⟨l, r, hes, -, hdrop⟩ := named_split hn he
  have hdropped : t.kitchen.entries = l ++ r := by
    rw [ht, ← hdrop]
    exact List.filter_congr fun x _ => (Bool.not_and _ _).symm
  rw [cookingCount_eq, cookingCount_eq, hdropped, hes]
  simp [hc]
  omega

theorem uniqueNames_withoutEntry {s t : State} {o n : Nat} (hn : UniqueNames s)
    (ht : t.kitchen.entries = (WithoutEntry s o n).entries) : UniqueNames t := by
  unfold UniqueNames
  rw [ht]
  exact hn.sublist (List.filter_sublist.map _)

/-- A bump after which the only QUEUED entry fires. -/
theorem bump_fires {s : State} {slot : Nat} {r : SlotRecord} {e x : Entry} (h : KitchenSlot s slot r)
    (he : entryOf s e.origin e.number = some e) (hs : e.state = .fired) (hx : x ∈ s.kitchen.entries)
    (hq : x.state = .queued) (huniq : ∀ y : Entry, y ∈ s.kitchen.entries → y.state = .queued → y = x)
    (hn : UniqueNames s) (hfull : cookingCount s ≤ s.join.figures.fire)
    (hpass : s.kitchen.pass.length < 12) (hc : CanSend s 2) (hport : s.port.state = .sending) :
    let ps := s.kitchen.pass.filter fun x => x.origin != e.origin || x.number != e.number
    bumpResult slot e.origin e.number s
        = taken (refsBytes [x]) (fireEntry x (bumped e ps s))
      ∧ UniqueNames (bumped e ps s) ∧ x ∈ (bumped e ps s).kitchen.entries
      ∧ CanSend (bumped e ps s) 1 ∧ PortBusy (bumped e ps s) := by
  intro ps
  have hmem := List.mem_of_find?_eq_some he
  have hone : CanSend s 1 := ⟨hc.1, by have := hc.2; omega⟩
  have hbumped := bumpReady_of_room (e := e) hone (lt_of_le_of_lt (List.length_filter_le _ _) hpass)
  have hnames : UniqueNames (bumped e ps s) := uniqueNames_withoutEntry hn rfl
  have hxin : x ∈ (bumped e ps s).kitchen.entries := by
    refine mem_withoutEntry.2 ⟨hx, ?_⟩
    by_contra hname
    rw [not_or, not_not, not_not] at hname
    rw [entryOf_unique he hn hx hname, hs] at hq
    cases hq
  have hroom : cookingCount (bumped e ps s) < (bumped e ps s).join.figures.fire := by
    have hless := cookingCount_withoutEntry (t := bumped e ps s) hn hmem
      (by unfold Entry.cooking; rw [hs]; rfl) rfl
    show cookingCount (bumped e ps s) < s.join.figures.fire
    omega
  have hfires := autoFireList_single hnames hxin hq
    (fun y hy => huniq y (mem_withoutEntry.1 hy).1) hroom
  refine ⟨?_, hnames, hxin, canSend_joined hc rfl rfl rfl, .inl hport⟩
  rw [bumpResult_fired h he hs, hbumped, hfires]
  exact needFrames_of hc _

/-- Settles O52. -/
theorem bumpMovesToThePass : Obligations.BumpMovesToThePass := by
  intro s slot origin n r e h he
  obtain ⟨rfl, rfl⟩ := entryOf_name he
  refine ⟨fun hnone => ⟨fun hs hc hroom => ?_, fun x others hs hc hrest hlen => ?_, fun hs => ?_⟩,
    fun x hs hx hq huniq hn hfull hpass hc hport => ?_, fun hs => ?_⟩
  · have hbumped := bumpReady_of_room hc hroom
    have hnext : nextToFire (bumped e
        (s.kitchen.pass.filter fun x => x.origin != e.origin || x.number != e.number) s) = none :=
      nextToFire_eq_none.2 fun x hx => hnone x (mem_withoutEntry.1 hx).1
    have hres := bumpResult_fired h he hs
    rw [hbumped, autoFireList_none hnext] at hres
    have hdone := hres.trans (needFrames_of hc _)
    exact ⟨_, request_ok rfl h.1 hdone, rfl, rfl, rfl,
      (portTold_leaveQueue e.origin e.number s).congr rfl, rfl, rfl, rfl, rfl⟩
  · have hbumped := bumpReady_full hc hrest hlen
    have hnext : nextToFire (bumpReady e (leaveQueue e.origin e.number s)) = none := by
      rw [hbumped]
      exact nextToFire_eq_none.2 fun x hx => hnone x (mem_withoutEntry.1 hx).1
    have hres := bumpResult_fired h he hs
    rw [autoFireList_none hnext, hbumped] at hres
    have hdone := hres.trans (needFrames_of hc _)
    obtain ⟨hnotices, hoverflow, -⟩ := notify_congr (s := s) (t := leaveQueue e.origin e.number s)
      (.passDropped x.origin ⟨x.number, x.gen⟩) rfl rfl rfl rfl
    exact ⟨_, request_ok rfl h.1 hdone, rfl, rfl, rfl,
      (portTold_leaveQueue e.origin e.number s).congr rfl, ⟨hnotices, hoverflow⟩, rfl, rfl, rfl, rfl⟩
  · have hnext : nextToFire (leaveQueue e.origin e.number s) = none := by
      rw [leaveQueue_frame]
      exact nextToFire_eq_none.2 fun x hx => hnone x (mem_withoutEntry.1 hx).1
    have hres := bumpResult_revoked h he hs
    rw [autoFireList_none hnext] at hres
    refine ⟨_, request_ok rfl h.1 hres, ?_, ?_, (portTold_leaveQueue e.origin e.number s).congr rfl,
      rfl, rfl, rfl, rfl⟩
    · rw [leaveQueue_frame]
    · rw [leaveQueue_frame]
  · obtain ⟨hdone, hnames, hxin, hroom, hbusy⟩ :=
      bump_fires h he hs hx hq huniq hn hfull hpass hc hport
    generalize (s.kitchen.pass.filter fun x => x.origin != e.origin || x.number != e.number) = ps at *
    have hxname : entryOf (bumped e ps s) x.origin x.number = some x :=
      find?_of_nodup hnames hxin (by simp)
    obtain ⟨hlist, -, hnote⟩ := fireEntry_busy hxname hbusy
    have hfired : Notified s (fireEntry x (bumped e ps s)) (.ticketFired x.origin ⟨x.number, x.gen⟩) :=
      hnote.congr rfl rfl rfl rfl
    have hsends := fireEntry_sends x hroom
    have hentries := fireEntry_entries hnames hxin hbusy
    have hframe := fireEntry_frame x (bumped e ps s)
    have hkitchen := fireEntry_counts x (bumped e ps s)
    refine ⟨_, request_ok rfl h.1 hdone, ?_, ?_, ?_, ?_, ?_, hfired.1, rfl, rfl, rfl, rfl⟩
    · rw [hframe]
      rfl
    · dsimp only
      rw [hkitchen, hentries]
      rfl
    · show (fireEntry x (bumped e ps s)).line = _
      rw [hsends]
      rfl
    · show (fireEntry x (bumped e ps s)).line.waiting = _
      rw [hsends]
      rfl
    · show (fireEntry x (bumped e ps s)).port.list = _
      rw [hlist]
      exact congrArg (· ++ [⟨x.origin, x.number, false⟩])
        (congrArg Port.list (portTold_leaveQueue e.origin e.number s))
  · exact request_refused rfl h.1 (bumpResult_refused h he hs)

end Sys2Proof.Machine
end

section
-- One proof at a time: side by side, their threads' stacks outgrow the check's memory.
set_option Elab.async false
/-! SUPPORT. Bids at the kitchen queue: how one starts, ends and lapses (R85 to R90). -/

namespace Sys2Proof.Machine

/-! ## Frames of the kitchen queue (R13) -/

/-- A frame delivered to a kitchen reaches its owner there. -/
theorem deliverFrame_atKitchen {s : State} {f : Frame} (h : KitchenDelivers s f) (owner : State → State) :
    deliverFrame f (atKitchen owner) s = owner (arrived f s) := by
  obtain ⟨hd, hr, -⟩ := h
  rw [deliverFrame_of hd]
  exact if_pos ((role_arrived f s).trans hr)

theorem entryOf_arrived (f : Frame) (s : State) (o n : Nat) :
    entryOf (arrived f s) o n = entryOf s o n := by
  rw [arrived_eq]
  rfl

theorem port_arrived (f : Frame) (s : State) : (arrived f s).port = s.port := by
  rw [arrived_eq]

theorem join_arrived (f : Frame) (s : State) : (arrived f s).join = s.join := by
  rw [arrived_eq]

theorem ownClass_arrived (f : Frame) (s : State) : ownClass (arrived f s) = ownClass s := by
  rw [arrived_eq]
  rfl

theorem onlyEntry_arrived {f : Frame} {s t : State} {e : Entry} (h : OnlyEntry (arrived f s) t e) :
    OnlyEntry s t e :=
  h.congr (by rw [arrived_kitchen]) rfl

theorem entries_filter (o n : Nat) (es : List Entry) :
    es.filter (fun x => !(x.origin == o && x.number == n))
      = es.filter fun x => x.origin != o || x.number != n :=
  List.filter_congr fun _ _ => Bool.not_and _ _

theorem lapsed_filter (o n : Nat) (ls : List Lapsed) :
    ls.filter (fun x => !(x.origin == o && x.number == n))
      = ls.filter fun x => x.origin != o || x.number != n :=
  List.filter_congr fun _ _ => Bool.not_and _ _

/-! ## A bid starts (R85, R86) -/

theorem bidDelay_eq (counted : Nat) (p : Band) :
    bidDelay counted p = if p = .rush then 2 + 3 * counted else 4 + 6 * counted := by
  cases p <;> rfl

/-- The stage in which a bid starts. -/
def bidStage (src : Nat) (o : OfferFields) (s : State) : BidStage :=
  .delay (now s) (if o.priority = .rush
    then 2 + 3 * (s.kitchen.entries.filter fun x => x.origin != src || x.number != o.ref.number).length
    else 4 + 6 * (s.kitchen.entries.filter fun x => x.origin != src || x.number != o.ref.number).length)

/-- The bid that an OFFER starts, with these lines of its own. -/
def startedBid (src : Nat) (o : OfferFields) (lines : List KitchenLine) (s : State) : Bid :=
  { gen := o.ref.gen, priority := o.priority, lines := lines, seq := s.kitchen.bidSeq + 1
    stage := bidStage src o s }

/-- The queue as a bid starts, before an entry takes it: its stamp counted, the lapsed item gone. -/
def bidCounted (src : Nat) (o : OfferFields) (s : State) : State :=
  { s with kitchen := { s.kitchen with
      bidSeq := s.kitchen.bidSeq + 1
      lapsed := s.kitchen.lapsed.filter fun l => l.origin != src || l.number != o.ref.number } }

theorem bidCounted_eq (src : Nat) (o : OfferFields) (s : State) :
    updKitchen (fun k => { k with
      bidSeq := s.kitchen.bidSeq + 1
      lapsed := k.lapsed.filter fun l => !(l.origin == src && l.number == o.ref.number) }) s
      = bidCounted src o s := by
  unfold updKitchen
  dsimp only
  rw [lapsed_filter]
  rfl

theorem entryOf_bidCounted (src : Nat) (o : OfferFields) (s : State) (x n : Nat) :
    entryOf (bidCounted src o s) x n = entryOf s x n := rfl

/-- How the queue takes the bid of an OFFER: with a new entry, instead of the TENTATIVE entry of the
ticket, or as the replacement bid of its entry. -/
theorem placeBid_new {src : Nat} {o : OfferFields} {s : State}
    (h : entryOf s src o.ref.number = none) : placeBid src o s
      = updKitchen (fun k => { k with
          entries := k.entries ++ [tentative s src o (startedBid src o [] s)] }) (bidCounted src o s) := by
  unfold placeBid
  dsimp only
  rw [entries_filter, bidDelay_eq, bidCounted_eq, entryOf_bidCounted, h]
  rfl

theorem placeBid_tentative {src : Nat} {o : OfferFields} {s : State} {e : Entry}
    (h : entryOf s src o.ref.number = some e) (hs : e.state = .tentative) : placeBid src o s
      = updEntry src o.ref.number (fun _ => tentative s src o (startedBid src o [] s))
          (cancelBidOf e (bidCounted src o s)) := by
  unfold placeBid
  dsimp only
  rw [entries_filter, bidDelay_eq, bidCounted_eq, entryOf_bidCounted, h]
  dsimp only
  rw [hs]
  dsimp only
  unfold cancelBidOf
  cases e.bid <;> rfl

theorem placeBid_replaces {src : Nat} {o : OfferFields} {s : State} {e : Entry}
    (h : entryOf s src o.ref.number = some e) (hs : e.state ≠ .tentative) : placeBid src o s
      = updEntry src o.ref.number (fun e => { e with bid := some (startedBid src o (offeredLines o) s) })
          (bidCounted src o s) := by
  unfold placeBid
  dsimp only
  rw [entries_filter, bidDelay_eq, bidCounted_eq, entryOf_bidCounted, h]
  dsimp only
  cases hst : e.state with
  | tentative => exact absurd hst hs
  | _ => rfl

/-- The kitchen can take the OFFER (R85). -/
theorem kitchenOffer_of {src : Nat} {o : OfferFields} {s : State} (hj : s.join.state = .onLine)
    (hc : o.cls = ownClass s) (hroom : s.kitchen.entries.length < 24) (hp : s.port.state ≠ .latched)
    (hb : bidAllowed (entryOf s src o.ref.number) o.ref.gen = true) :
    kitchenOffer src o s = startBid src o s := by
  have hslot : 1 ≤ freeSlots s := by
    show 1 ≤ 24 - s.kitchen.entries.length
    omega
  exact if_pos ⟨hj, hc, hslot, hp, hb⟩

theorem bidAllowed_of {e : Entry} {gen : Nat} (h1 : e.gen ≠ gen) (h2 : newer e.gen gen = false)
    (h3 : e.bid.map Bid.gen ≠ some gen) : bidAllowed (some e) gen = true := by
  unfold bidAllowed
  simp [h1, h2, h3]

theorem bidAllowed_not {e : Entry} {gen : Nat}
    (h : e.gen = gen ∨ newer e.gen gen = true ∨ e.bid.map Bid.gen = some gen) :
    bidAllowed (some e) gen = false := by
  unfold bidAllowed
  rcases h with h | h | h <;> simp [h]

theorem kitchenOffer_not {src : Nat} {o : OfferFields} {s : State}
    (h : o.cls ≠ ownClass s ∨ 24 ≤ s.kitchen.entries.length ∨ s.port.state = .latched
      ∨ bidAllowed (entryOf s src o.ref.number) o.ref.gen = false) : kitchenOffer src o s = s := by
  refine if_neg ?_
  rintro ⟨-, hc, hslot, hp, hb⟩
  rcases h with h | h | h | h
  · exact h hc
  · have hnone : freeSlots s = 0 := by
      show 24 - s.kitchen.entries.length = 0
      omega
    omega
  · exact hp h
  · rw [h] at hb
    cases hb

theorem exec_offer {s : State} {dest src : Nat} {o : OfferFields}
    (h : KitchenDelivers s ⟨dest, src, .offer o⟩) :
    exec (.offer dest src o) s = .next (kitchenOffer src o (arrived ⟨dest, src, .offer o⟩ s)) :=
  congrArg Host.Outcome.next (deliverFrame_atKitchen h _)

/-- A bid of an earlier generation is one of the BIDs that a new bid lets go. -/
theorem bidFrame_le_bidOf (o n gen : Nat) (x : TxItem) :
    (bidFrame o n gen x || bidOf o n x) = bidOf o n x := by
  cases h : bidFrame o n gen x with
  | false => rfl
  | true =>
    unfold bidFrame at h
    unfold bidOf
    cases hb : x.frame.body <;> simp_all

theorem disown_bidOf_bidFrame (o n gen : Nat) (x : Option TxItem) :
    (x.map (TxItem.disown (bidFrame o n gen))).map (TxItem.disown (bidOf o n))
      = x.map (TxItem.disown (bidOf o n)) := by
  cases x with
  | none => rfl
  | some x =>
    show some _ = some _
    rw [disown_disown]
    simp only [bidFrame_le_bidOf]

/-- Settles O46. -/
theorem offersStartBids : Obligations.OffersStartBids := by
  intro s dest src o h
  have hexec := exec_offer h
  have hjoin : (arrived ⟨dest, src, .offer o⟩ s).join.state = .onLine := by
    rw [join_arrived]
    exact h.2.2
  have hkitchen := arrived_kitchen ⟨dest, src, .offer o⟩ s
  have hentry := entryOf_arrived ⟨dest, src, .offer o⟩ s src o.ref.number
  have hline : (arrived ⟨dest, src, .offer o⟩ s).line.waiting = s.line.waiting
      ∧ (arrived ⟨dest, src, .offer o⟩ s).line.sending = s.line.sending := by
    rw [arrived_line]
    exact ⟨rfl, rfl⟩
  have hmark := markOf_arrived ⟨dest, src, .offer o⟩ s src
  have hnow := now_arrived ⟨dest, src, .offer o⟩ s
  have hclass := ownClass_arrived ⟨dest, src, .offer o⟩ s
  have hport := port_arrived ⟨dest, src, .offer o⟩ s
  dsimp only
  generalize arrived ⟨dest, src, .offer o⟩ s = v at *
  obtain ⟨hwaiting, hsending⟩ := hline
  have hstage : bidStage src o v = .delay (now s) (if o.priority = .rush
      then 2 + 3 * (s.kitchen.entries.filter fun x => x.origin != src || x.number != o.ref.number).length
      else 4 + 6 * (s.kitchen.entries.filter fun x => x.origin != src || x.number != o.ref.number).length) := by
    unfold bidStage
    rw [hnow, hkitchen]
  refine ⟨fun hc hroom hp => ⟨fun hnone => ?_, fun e he hg hnew hb => ⟨fun hs => ?_, fun b hs heb => ?_⟩⟩,
    fun hno => ?_⟩
  · have hoffer : kitchenOffer src o v = startBid src o v :=
      kitchenOffer_of hjoin (by rw [hclass]; exact hc) (by rw [hkitchen]; exact hroom)
        (by rw [hport]; exact hp) (by rw [hentry, hnone]; rfl)
    have hplace := placeBid_new (src := src) (o := o) (hentry.trans hnone)
    refine ⟨_, hexec.trans (congrArg _ hoffer), ⟨?_, ?_, ?_⟩, ?_, ?_⟩
    · unfold startBid
      rw [hplace]
      rfl
    · unfold startBid
      rw [hplace, ← hkitchen]
      rfl
    · unfold startBid
      rw [hplace, ← hsending]
      rfl
    · unfold startBid
      rw [hplace, ← hwaiting]
      rfl
    · unfold startBid
      rw [hplace]
      show v.kitchen.entries ++ [tentative v src o (startedBid src o [] v)] = _
      unfold tentative startedBid
      rw [hstage, hmark, hkitchen]
      rfl
  · have hoffer : kitchenOffer src o v = startBid src o v :=
      kitchenOffer_of hjoin (by rw [hclass]; exact hc) (by rw [hkitchen]; exact hroom)
        (by rw [hport]; exact hp) (by rw [hentry, he]; exact bidAllowed_of hg hnew hb)
    have hplace := placeBid_replaces (src := src) (o := o) (hentry.trans he) hs
    have honly : OnlyEntry v (startBid src o v)
        { e with bid := some (startedBid src o (offeredLines o) v) } := by
      refine (onlyEntry_updEntry (s := bidCounted src o v)
        (f := fun e => { e with bid := some (startedBid src o (offeredLines o) v) })
        (fun _ => ⟨rfl, rfl⟩) (hentry.trans he)).congr rfl ?_
      unfold startBid
      rw [hplace]
      rfl
    have honly := honly.congr (congrArg Kitchen.entries hkitchen).symm rfl
    refine ⟨_, hexec.trans (congrArg _ hoffer), ⟨?_, ?_, ?_⟩, ?_, ?_⟩
    · unfold startBid
      rw [hplace]
      rfl
    · unfold startBid
      rw [hplace, ← hkitchen]
      rfl
    · unfold startBid
      rw [hplace, ← hsending]
      rfl
    · unfold startBid
      rw [hplace, ← hwaiting]
      rfl
    · have hbid : startedBid src o (offeredLines o) v =
          { gen := o.ref.gen, priority := o.priority, lines := offeredLines o, stage := bidStage src o v
            seq := s.kitchen.bidSeq + 1 } := by
        unfold startedBid
        rw [hkitchen]
      rw [hbid, hstage] at honly
      exact honly
  · have hoffer : kitchenOffer src o v = startBid src o v :=
      kitchenOffer_of hjoin (by rw [hclass]; exact hc) (by rw [hkitchen]; exact hroom)
        (by rw [hport]; exact hp) (by rw [hentry, he]; exact bidAllowed_of hg hnew hb)
    have hplace := placeBid_tentative (src := src) (o := o) (hentry.trans he) hs
    obtain ⟨heo, hen⟩ := entryOf_name he
    have hcancel : cancelBidOf e (bidCounted src o v)
        = cancelFrames (bidFrame src o.ref.number b.gen) (bidCounted src o v) := by
      unfold cancelBidOf
      rw [heb, heo, hen]
    rw [hcancel] at hplace
    have honly : OnlyEntry v (startBid src o v) (tentative v src o (startedBid src o [] v)) := by
      refine (onlyEntry_updEntry_of_name (s := bidCounted src o v)
        (f := fun _ => tentative v src o (startedBid src o [] v))
        (fun _ _ _ => ⟨rfl, rfl⟩) (hentry.trans he)).congr rfl ?_
      unfold startBid
      rw [hplace]
      rfl
    have honly := honly.congr (congrArg Kitchen.entries hkitchen).symm rfl
    refine ⟨_, hexec.trans (congrArg _ hoffer), ⟨?_, ?_, ?_⟩, ?_, ?_⟩
    · unfold startBid
      rw [hplace]
      rfl
    · unfold startBid
      rw [hplace, ← hkitchen]
      rfl
    · unfold startBid
      rw [hplace, ← hsending, ← disown_bidOf_bidFrame src o.ref.number b.gen]
      rfl
    · unfold startBid
      rw [hplace, ← hwaiting]
      rfl
    · unfold tentative startedBid at honly
      rw [hstage, hmark, hkitchen] at honly
      exact honly
  · refine hexec.trans (congrArg _ (kitchenOffer_not ?_))
    rw [hclass, hkitchen, hport, hentry]
    refine hno.imp id (.imp id (.imp id ?_))
    rintro ⟨e, he, hbid⟩
    rw [he]
    exact bidAllowed_not hbid

end Sys2Proof.Machine
end

section
-- One proof at a time: side by side, their threads' stacks outgrow the check's memory.
set_option Elab.async false
/-! SUPPORT. The end of a bid: its delay, its lapse, and another kitchen's BID (R86 to R89). -/

namespace Sys2Proof.Machine

/-! ## A bid that is found, and one that goes -/

theorem bidAt_of {s : State} {o : Nat} {ref : Ref} {e : Entry} {b : Bid}
    (he : entryOf s o ref.number = some e) (hb : e.bid = some b) (hg : b.gen = ref.gen) :
    bidAt s o ref = some (e, b) := by
  unfold bidAt
  rw [he]
  dsimp only
  rw [hb]
  exact if_pos hg

theorem bidAt_of_other {s : State} {o : Nat} {ref : Ref} {e : Entry}
    (he : entryOf s o ref.number = some e) (hb : ∀ b : Bid, e.bid = some b → b.gen ≠ ref.gen) :
    bidAt s o ref = none := by
  unfold bidAt
  rw [he]
  dsimp only
  cases heb : e.bid with
  | none => rfl
  | some b => exact if_neg (hb b heb)

theorem bidAt_of_none {s : State} {o : Nat} {ref : Ref} (he : entryOf s o ref.number = none) :
    bidAt s o ref = none := by
  unfold bidAt
  rw [he]

theorem withoutEntry_congr {s t : State} (h : t.kitchen = s.kitchen) {o n : Nat} :
    WithoutEntry t o n = WithoutEntry s o n := by
  unfold WithoutEntry
  rw [h]

theorem removeBid_tentative {s : State} {e : Entry} (hs : e.state = .tentative) :
    removeBid e s = { s with kitchen := WithoutEntry s e.origin e.number } := by
  unfold removeBid
  rw [if_pos hs, dropEntry_eq]

theorem removeBid_other {s : State} {e : Entry} (hs : e.state ≠ .tentative) :
    removeBid e s = updEntry e.origin e.number (fun e => { e with bid := none }) s := if_neg hs

theorem onlyEntry_withoutBid {s : State} {e : Entry} (he : entryOf s e.origin e.number = some e) :
    OnlyEntry s (updEntry e.origin e.number (fun e => { e with bid := none }) s)
      { e with bid := none } :=
  onlyEntry_updEntry (f := fun e => { e with bid := none }) (fun _ => ⟨rfl, rfl⟩) he

theorem cancelBidOf_of {e : Entry} {b : Bid} (hb : e.bid = some b) (s : State) :
    cancelBidOf e s = cancelFrames (bidFrame e.origin e.number b.gen) s := by
  unfold cancelBidOf
  rw [hb]

theorem cancelBidOf_none {e : Entry} (hb : e.bid = none) (s : State) : cancelBidOf e s = s := by
  unfold cancelBidOf
  rw [hb]

/-! ## The bid delay (R86) -/

theorem exec_bidDelay {s : State} {o n len : Nat} {e : Entry} {b : Bid} {start : Time}
    (he : entryOf s o n = some e) (hb : e.bid = some b) (hs : b.stage = .delay start len)
    (hd : Due s start len) : exec (.bidDelayExpiry o n) s = .next (bidDelayOut o n b s) := by
  show execBidDelayExpiry o n s = _
  unfold execBidDelayExpiry
  rw [he]
  dsimp only [Option.bind]
  rw [hb]
  dsimp only
  rw [hs]
  dsimp only
  rw [advanceUntil_of_due hd]

theorem bidDelayOut_of {s : State} {o n : Nat} {b : Bid} (hc : CanSend s 1) : bidDelayOut o n b s
    = { updEntry o n (fun e => { e with bid := some { b with stage := .queued } }) s with
        line := { s.line with
          waiting := joinQueue
            (newItem s (64 + ownClass s) (.bid o ⟨n, b.gen⟩ s.kitchen.entries.length) true)
            s.line.waiting } } := by
  have hdepth : depth (updEntry o n (fun e => { e with bid := some { b with stage := .queued } }) s)
      = s.kitchen.entries.length := List.length_map _
  unfold bidDelayOut
  dsimp only
  rw [hdepth, offerFrame_of_free (by exact hc.1) (by exact hc.2)]
  rfl

/-! ## A bid lapses (R87, R88) -/

theorem exec_tentative {s : State} {o n : Nat} {e : Entry} {b : Bid} {start : Time}
    (he : entryOf s o n = some e) (hb : e.bid = some b) (hs : b.stage = .awaiting start)
    (hd : Due s start 400) : exec (.tentativeExpiry o n) s = .next (lapse e b s) := by
  show execTentativeExpiry o n s = _
  unfold execTentativeExpiry
  rw [he]
  dsimp only
  rw [hb]
  dsimp only
  rw [hs]
  show Host.Outcome.next (lapse e b (advanceUntil start 400 s)) = _
  rw [advanceUntil_of_due hd]

theorem lapsed_length (rest : List Lapsed) (l : Lapsed) :
    (rest.drop (rest.length + 1 - lapsedCapacity) ++ [l]).length ≤ 4 := by
  rw [List.length_append, List.length_drop]
  show rest.length - (rest.length + 1 - 4) + 1 ≤ 4
  omega

/-- The item of a lapsed bid. -/
def lapsedItem (e : Entry) (b : Bid) (s : State) : Lapsed :=
  { origin := e.origin, mark := e.mark, number := e.number, gen := b.gen, priority := b.priority
    lines := if e.state = .tentative then e.lines else b.lines, time := now s }

/-- A bid that lapses goes with its TENTATIVE entry, or leaves its entry, and an item follows it. -/
theorem lapse_lapses {s : State} {e : Entry} (b : Bid) (he : entryOf s e.origin e.number = some e) :
    lapse e b s = { s with kitchen := { s.kitchen with
        entries := (lapse e b s).kitchen.entries, lapsed := (lapse e b s).kitchen.lapsed } }
      ∧ (e.state = .tentative → entryOf (lapse e b s) e.origin e.number = none)
      ∧ (e.state ≠ .tentative →
          entryOf (lapse e b s) e.origin e.number = some { e with bid := none })
      ∧ (∀ (x m : Nat), x ≠ e.origin ∨ m ≠ e.number → entryOf (lapse e b s) x m = entryOf s x m)
      ∧ (lapse e b s).kitchen.lapsed.length ≤ 4
      ∧ (lapse e b s).kitchen.lapsed.getLast? = some (lapsedItem e b s) := by
  by_cases hs : e.state = .tentative
  · have hgone : lapse e b s = addLapsed (lapsedItem e b s) (dropEntry e.origin e.number s) := by
      have hremove : removeBid e s = dropEntry e.origin e.number s := if_pos hs
      rw [← hremove]
      rfl
    rw [hgone]
    exact ⟨rfl, fun _ => entryOf_dropEntry_self s _ _, fun h => absurd hs h,
      fun x m hx => entryOf_dropEntry_ne hx, lapsed_length _ _, List.getLast?_concat⟩
  · have hgone : lapse e b s = addLapsed (lapsedItem e b s)
        (updEntry e.origin e.number (fun e => { e with bid := none }) s) := by
      rw [← removeBid_other hs]
      rfl
    obtain ⟨hself, hother, -⟩ := onlyEntry_withoutBid he
    rw [hgone]
    exact ⟨rfl, fun h => absurd h hs, fun _ => hself, hother, lapsed_length _ _, List.getLast?_concat⟩

/-! ## Another kitchen's BID (R89) -/

theorem exec_bidHeard {s : State} {dest src o depth : Nat} {ref : Ref}
    (h : KitchenDelivers s ⟨dest, src, .bid o ref depth⟩) :
    exec (.bidHeardAtKitchen dest src o ref depth) s
      = .next (kitchenBid o ref (arrived ⟨dest, src, .bid o ref depth⟩ s)) := by
  obtain ⟨hd, hr, -⟩ := h
  exact congrArg Host.Outcome.next ((if_pos hr).trans (deliverFrame_of hd _))

theorem kitchenBid_cancels {s : State} {o : Nat} {ref : Ref} {e : Entry} {b : Bid}
    (he : entryOf s o ref.number = some e) (hb : e.bid = some b) (hg : b.gen = ref.gen)
    (hs : ∀ start : Time, b.stage ≠ .awaiting start) :
    kitchenBid o ref s = removeBid e (cancelFrames (bidFrame o ref.number ref.gen) s) := by
  obtain ⟨ho, hn⟩ := entryOf_name he
  unfold kitchenBid
  rw [bidAt_of he hb hg]
  dsimp only
  cases hst : b.stage with
  | awaiting start => exact absurd hst (hs start)
  | _ => rw [cancelBidOf_of hb, ho, hn, hg]

theorem kitchenBid_stays {s : State} {o : Nat} {ref : Ref} {e : Entry} {b : Bid} {start : Time}
    (he : entryOf s o ref.number = some e) (hb : e.bid = some b) (hg : b.gen = ref.gen)
    (hs : b.stage = .awaiting start) : kitchenBid o ref s = s := by
  unfold kitchenBid
  rw [bidAt_of he hb hg]
  dsimp only
  rw [hs]

/-- The bid and its waiting frame go: with a TENTATIVE entry, or from another one. -/
theorem removeBid_cancels {f : Frame} {s : State} {p : TxItem → Bool} {o n : Nat} {e : Entry}
    (he : entryOf s o n = some e) :
    let t := removeBid e (cancelFrames p (arrived f s))
    t = { arrived f s with kitchen := t.kitchen, line := t.line }
      ∧ Cancels (arrived f s) t p
      ∧ (e.state = .tentative → t.kitchen = WithoutEntry s o n)
      ∧ (e.state ≠ .tentative →
        t.kitchen = { s.kitchen with entries := t.kitchen.entries }
          ∧ OnlyEntry s t { e with bid := none }) := by
  obtain ⟨rfl, rfl⟩ := entryOf_name he
  by_cases hs : e.state = .tentative
  · dsimp only
    rw [removeBid_tentative hs]
    exact ⟨rfl, rfl, fun _ => withoutEntry_congr (arrived_kitchen f s), fun h => absurd hs h⟩
  · have hgone : OnlyEntry s (removeBid e (cancelFrames p (arrived f s))) { e with bid := none } := by
      rw [removeBid_other hs]
      exact (onlyEntry_withoutBid he).congr rfl (by
        show (updEntry _ _ _ (arrived f s)).kitchen.entries = _
        unfold updEntry
        rw [arrived_kitchen])
    dsimp only
    refine ⟨?_, ?_, fun h => absurd h hs, fun _ => ⟨?_, hgone⟩⟩
    · rw [removeBid_other hs]
      rfl
    · rw [removeBid_other hs]
      rfl
    · rw [removeBid_other hs, ← arrived_kitchen f s]
      rfl

/-- Settles O47. -/
theorem bidsRunOut : Obligations.BidsRunOut := by
  refine ⟨fun s o n len e b start he hb hs hd hc => ?_, fun s o n e b start he hb hs hd _ => ?_,
    fun s o n l hl ho hn h hd => ?_, fun s dest src o depth ref e b h he hb hg => ⟨fun hs => ?_,
      fun start hs => ?_⟩⟩
  · obtain ⟨rfl, rfl⟩ := entryOf_name he
    have honly : OnlyEntry s (updEntry e.origin e.number
        (fun e => { e with bid := some { b with stage := .queued } }) s)
        { e with bid := some { b with stage := .queued } } :=
      onlyEntry_updEntry (f := fun e => { e with bid := some { b with stage := .queued } })
        (fun _ => ⟨rfl, rfl⟩) he
    exact ⟨_, (exec_bidDelay he hb hs hd).trans (congrArg Host.Outcome.next (bidDelayOut_of hc)), rfl,
      (entryOf_congr rfl _ _).trans honly.1,
      fun x m hx => (entryOf_congr rfl _ _).trans (honly.2.1 x m hx), honly.2.2, rfl⟩
  · obtain ⟨rfl, rfl⟩ := entryOf_name he
    exact ⟨_, exec_tentative he hb hs hd, lapse_lapses b he⟩
  · subst ho hn
    have hfound : s.kitchen.lapsed.find? (fun x => x.origin == l.origin && x.number == l.number) = some l :=
      find?_of_nodup h hl (by simp)
    have hexec : exec (.lapsedItemExpiry l.origin l.number) s
        = .next (dropLapsed l.origin l.number s) := by
      show execLapsedItemExpiry l.origin l.number s = _
      unfold execLapsedItemExpiry
      rw [hfound]
      show Host.Outcome.next (dropLapsed _ _ (advanceUntil l.time 2000 s)) = _
      rw [advanceUntil_of_due hd]
    exact ⟨_, hexec, rfl, lapsed_filter _ _ _⟩
  · have he' := (entryOf_arrived ⟨dest, src, .bid o ref depth⟩ s o ref.number).trans he
    exact ⟨_, (exec_bidHeard h).trans (congrArg Host.Outcome.next (kitchenBid_cancels he' hb hg hs)),
      removeBid_cancels he⟩
  · have he' := (entryOf_arrived ⟨dest, src, .bid o ref depth⟩ s o ref.number).trans he
    exact (exec_bidHeard h).trans (congrArg Host.Outcome.next (kitchenBid_stays he' hb hg hs))

end Sys2Proof.Machine
end

section
-- One proof at a time: side by side, their threads' stacks outgrow the check's memory.
set_option Elab.async false
/-! SUPPORT. Awards at the kitchen queue: lines and their mask, the acceptance of an entry and its refusal,
and the firing that may follow (R91, R92, R94, R96). -/

namespace Sys2Proof.Machine

/-! ## Lines and their mask (R91) -/

theorem maskLines_items (m : Byte) (lines : List KitchenLine) :
    (maskLines m lines).map KitchenLine.item = lines.map KitchenLine.item := by
  unfold maskLines
  rw [List.map_map]
  have hfst : lines.map KitchenLine.item
      = (lines.zipIdx.map Prod.fst).map KitchenLine.item := by rw [List.zipIdx_map_fst]
  rw [hfst, List.map_map]
  rfl

theorem maskLines_live {m : Byte} {lines : List KitchenLine} {p : Nat} {l : KitchenLine}
    (h : (maskLines m lines)[p]? = some l) : l.live = m.getLsbD p := by
  unfold maskLines at h
  rw [List.getElem?_map, List.getElem?_zipIdx] at h
  cases hl : lines[p]? with
  | none =>
    rw [hl] at h
    cases h
  | some x =>
    rw [hl] at h
    cases h
    show m.getLsbD (0 + p) = _
    rw [Nat.zero_add]

theorem anyLive_iff {lines : List KitchenLine} :
    anyLive lines = true ↔ (lines.filter KitchenLine.live).length ≠ 0 := by
  rw [← List.countP_eq_length_filter, ← Nat.pos_iff_ne_zero, List.countP_pos_iff]
  exact List.any_eq_true

theorem anyLive_eq_false {lines : List KitchenLine} :
    anyLive lines = false ↔ (lines.filter KitchenLine.live).length = 0 := by
  rw [← Bool.not_eq_true, anyLive_iff, not_not]

/-! ## An entry that is changed by its name -/

theorem updEntry_split {s : State} {o n : Nat} {e : Entry} (f : Entry → Entry) (hn : UniqueNames s)
    (he : entryOf s o n = some e) : ∃ l r : List Entry, s.kitchen.entries = l ++ e :: r
      ∧ (updEntry o n f s).kitchen.entries = l ++ f e :: r := by
  obtain ⟨rfl, rfl⟩ := entryOf_name he
  obtain ⟨l, r, hes, hmap, -⟩ := named_split hn (List.mem_of_find?_eq_some he)
  exact ⟨l, r, hes, hmap f⟩

theorem uniqueNames_updEntry {s : State} {o n : Nat} {f : Entry → Entry} (hn : UniqueNames s)
    (hf : ∀ e : Entry, e.origin = o → e.number = n → (f e).origin = o ∧ (f e).number = n) :
    UniqueNames (updEntry o n f s) := by
  have hmap := map_named_eq (f := f) (fun e : Entry => (e.origin, e.number))
    (fun e => e.origin = o ∧ e.number = n)
    (fun e he => by rw [(hf e he.1 he.2).1, (hf e he.1 he.2).2, he.1, he.2]) s.kitchen.entries
  unfold UniqueNames updEntry
  dsimp only
  rw [hmap]
  exact hn

/-- An entry that does not start or cease to cook leaves the count. -/
theorem cookingCount_changed {s : State} {o n : Nat} {e : Entry} {f : Entry → Entry}
    (hn : UniqueNames s) (he : entryOf s o n = some e) (hc : Entry.cooking (f e) = Entry.cooking e) :
    cookingCount (updEntry o n f s) = cookingCount s := by
  obtain ⟨l, r, hes, hmap⟩ := updEntry_split f hn he
  rw [cookingCount_eq, cookingCount_eq, hmap, hes]
  simp [List.countP_cons, hc]

/-! ## PROGRESS and TICKET-ACCEPTED, and a refusal (R91, R92, R94) -/

/-- The PROGRESS of an award that is accepted, and its notice. -/
def toldAccepted (k : KitchenState) (src : Nat) (ref : Ref) (band : Band) (lines : List KitchenLine)
    (s : State) : State :=
  ticketAccepted src ref band lines (sendProgress src ref k (liveMask lines) s)

theorem toldAccepted_of {s : State} {k : KitchenState} {src : Nat} {ref : Ref} {band : Band}
    {lines : List KitchenLine} (hc : CanSend s 1) : toldAccepted k src ref band lines s = { s with
      line := { s.line with
        waiting := joinQueue (newItem s src (.progress ref k (liveMask lines)) false) s.line.waiting }
      notices := (toldAccepted k src ref band lines s).notices
      overflow := (toldAccepted k src ref band lines s).overflow
      link := (toldAccepted k src ref band lines s).link } := by
  unfold toldAccepted ticketAccepted
  rw [sendProgress_of hc, notify_frame]

theorem notified_toldAccepted {s : State} {k : KitchenState} {src : Nat} {ref : Ref} {band : Band}
    {lines : List KitchenLine} (hc : CanSend s 1) : Notified s (toldAccepted k src ref band lines s)
      (.ticketAccepted src ref band (lines.filter KitchenLine.live).length) := by
  unfold toldAccepted ticketAccepted
  rw [sendProgress_of hc]
  exact notified_notify _ rfl rfl rfl rfl

theorem refuseAward_of {s : State} {src : Nat} {ref : Ref} (hc : CanSend s 1) :
    refuseAward src ref s = { s with
      line := { s.line with
        waiting := joinQueue (newItem s src (.progress ref .refused 0#8) false) s.line.waiting }
      notices := (refuseAward src ref s).notices, overflow := (refuseAward src ref s).overflow
      link := (refuseAward src ref s).link } := by
  unfold refuseAward
  rw [sendProgress_of hc, notify_frame]

theorem notified_refuseAward {s : State} {src : Nat} {ref : Ref} (hc : CanSend s 1) :
    Notified s (refuseAward src ref s) (.ticketRefused src ref) := by
  unfold refuseAward
  rw [sendProgress_of hc]
  exact notified_notify _ rfl rfl rfl rfl

/-- An award is refused: nothing but the queue, its answer and its notice is new. -/
def Refuses (s s' t : State) (src : Nat) (ref : Ref) : Prop :=
  t = { s' with kitchen := t.kitchen, line := t.line, notices := t.notices,
                overflow := t.overflow, link := t.link }
    ∧ Sends s' t src (.progress ref .refused 0#8) false ∧ Notified s t (.ticketRefused src ref)

theorem refuses_of {f : Frame} {s v : State} {src : Nat} {ref : Ref} (hc : CanSend s 1)
    (hv : v = { arrived f s with kitchen := v.kitchen }) :
    Refuses s (arrived f s) (refuseAward src ref v) src ref
      ∧ (refuseAward src ref v).kitchen = v.kitchen := by
  have hcan : CanSend v 1 := by
    rw [hv]
    exact canSend_arrived hc f
  have hnote := notified_refuseAward (src := src) (ref := ref) hcan
  have hfields : v.notices = s.notices ∧ v.overflow = s.overflow ∧ v.link = s.link ∧ v.clock = s.clock := by
    rw [hv]
    exact ⟨arrived_notices f s, arrived_overflow f s, arrived_link f s, arrived_clock f s⟩
  obtain ⟨h1, h2, h3, h4⟩ := hfields
  refine ⟨⟨?_, ?_, hnote.congr h1 h2 h3 h4⟩, by rw [refuseAward_of hcan]⟩
  · rw [refuseAward_of hcan, hv]
  · rw [refuseAward_of hcan, hv]
    rfl


/-! ## The rows of an AWARD naming this station (R91) -/

theorem passAt_arrived (f : Frame) (s : State) (o : Nat) (ref : Ref) :
    passAt (arrived f s) o ref = passAt s o ref := by
  rw [arrived_eq]
  rfl

theorem lapsedAt_arrived (f : Frame) (s : State) (o : Nat) (ref : Ref) :
    lapsedAt (arrived f s) o ref = lapsedAt s o ref := by
  rw [arrived_eq]
  rfl

theorem exec_award {s : State} {dest src other : Nat} {ref : Ref} {m : Byte}
    (h : KitchenDelivers s ⟨dest, src, .award ref other m⟩) : exec (.award dest src ref other m) s
      = .next (kitchenAward src ref other m (arrived ⟨dest, src, .award ref other m⟩ s)) :=
  congrArg Host.Outcome.next (deliverFrame_atKitchen h _)

theorem exec_awardHere {s : State} {dest src : Nat} {ref : Ref} {m : Byte}
    (h : KitchenDelivers s ⟨dest, src, .award ref (station s) m⟩) :
    exec (.award dest src ref (station s) m) s
      = .next (awardHere src ref m (arrived ⟨dest, src, .award ref (station s) m⟩ s)) := by
  rw [exec_award h]
  refine congrArg Host.Outcome.next ?_
  unfold kitchenAward
  rw [if_pos (station_arrived _ s).symm, if_pos (by rw [join_arrived]; exact h.2.2)]

/-- No entry that is held at the generation and no pass entry answers the AWARD. -/
theorem awardHere_unheld {s : State} {src : Nat} {ref : Ref} {m : Byte}
    (he : ∀ e, entryOf s src ref.number = some e → e.gen = ref.gen → e.state = .tentative)
    (hp : passAt s src ref = none) : awardHere src ref m s = unheldAward src ref m s := by
  unfold awardHere
  rw [hp]
  cases hentry : entryOf s src ref.number with
  | none => rfl
  | some e =>
    dsimp only
    rw [if_neg]
    rintro ⟨hg, hs⟩
    exact hs (he e hentry hg)

theorem awardHere_held {s : State} {src : Nat} {ref : Ref} {m : Byte} {e : Entry}
    (he : entryOf s src ref.number = some e) (hg : e.gen = ref.gen) (hs : e.state ≠ .tentative) :
    awardHere src ref m s = repeatAnswer src ref e s := by
  unfold awardHere
  rw [he]
  dsimp only
  rw [if_pos ⟨hg, hs⟩]

theorem awardHere_pass {s : State} {src : Nat} {ref : Ref} {m : Byte} {p : PassEntry}
    (he : entryOf s src ref.number = none) (hp : passAt s src ref = some p) :
    awardHere src ref m s = sendProgress src ref .ready p.live s := by
  unfold awardHere
  rw [he, hp]

/-- What an AWARD of this ticket finds in the queue, and what it then does (R91, rows 2 to 7). -/
theorem unheldAward_tentative {s : State} {src : Nat} {ref : Ref} {m : Byte} {e : Entry}
    (he : entryOf s src ref.number = some e) (hg : e.gen = ref.gen) :
    unheldAward src ref m s = acceptTentative src ref m e s := by
  unfold unheldAward
  rw [he]
  exact if_pos hg

theorem unheldAward_newer {s : State} {src : Nat} {ref : Ref} {m : Byte} {e : Entry}
    (he : entryOf s src ref.number = some e) (hg : e.gen ≠ ref.gen) (hn : newer e.gen ref.gen = true) :
    unheldAward src ref m s = s := by
  unfold unheldAward
  rw [he]
  dsimp only
  rw [if_neg hg, if_pos hn]

theorem unheldAward_bid {s : State} {src : Nat} {ref : Ref} {m : Byte} {e : Entry} {b : Bid}
    (he : entryOf s src ref.number = some e) (hg : e.gen ≠ ref.gen) (hn : newer e.gen ref.gen = false)
    (hb : e.bid = some b) (hbg : b.gen = ref.gen) :
    unheldAward src ref m s = replaceEntry src ref m e b.priority b.lines s := by
  unfold unheldAward
  rw [he]
  dsimp only
  rw [if_neg hg, if_neg (by rw [hn]; decide), bidAt_of he hb hbg]

theorem unheldAward_lapsed {s : State} {src : Nat} {ref : Ref} {m : Byte} {e : Entry} {l : Lapsed}
    (he : entryOf s src ref.number = some e) (hg : e.gen ≠ ref.gen) (hn : newer e.gen ref.gen = false)
    (hb : ∀ b : Bid, e.bid = some b → b.gen ≠ ref.gen) (hl : lapsedAt s src ref = some l) :
    unheldAward src ref m s = replaceEntry src ref m e l.priority l.lines s := by
  unfold unheldAward
  rw [he]
  dsimp only
  rw [if_neg hg, if_neg (by rw [hn]; decide), bidAt_of_other he hb]
  dsimp only
  rw [hl]

theorem unheldAward_nothing {s : State} {src : Nat} {ref : Ref} {m : Byte} {e : Entry}
    (he : entryOf s src ref.number = some e) (hg : e.gen ≠ ref.gen) (hn : newer e.gen ref.gen = false)
    (hb : ∀ b : Bid, e.bid = some b → b.gen ≠ ref.gen) (hl : lapsedAt s src ref = none) :
    unheldAward src ref m s = refuseAward src ref s := by
  unfold unheldAward
  rw [he]
  dsimp only
  rw [if_neg hg, if_neg (by rw [hn]; decide), bidAt_of_other he hb]
  dsimp only
  rw [hl]

theorem unheldAward_noEntry {s : State} {src : Nat} {ref : Ref} {m : Byte} {l : Lapsed}
    (he : entryOf s src ref.number = none) (hl : lapsedAt s src ref = some l) :
    unheldAward src ref m s = acceptLapsed src ref m l s := by
  unfold unheldAward
  rw [he]
  dsimp only
  rw [hl]

theorem unheldAward_none {s : State} {src : Nat} {ref : Ref} {m : Byte}
    (he : entryOf s src ref.number = none) (hl : lapsedAt s src ref = none) :
    unheldAward src ref m s = refuseAward src ref s := by
  unfold unheldAward
  rw [he]
  dsimp only
  rw [hl]

/-! ## What every acceptance tells (R91, R92) -/

theorem canSend_cancelled {f : Frame} {s w : State} {p : TxItem → Bool} {n : Nat} (hc : CanSend s n)
    (hw : w = { arrived f s with kitchen := w.kitchen, line := w.line })
    (hl : w.line = (cancelFrames p (arrived f s)).line) : CanSend w n := by
  obtain ⟨h1, h2⟩ := canSend_arrived hc f
  refine ⟨by rw [hw]; exact h1, h2.trans ((freeTx_cancelFrames p (arrived f s)).trans ?_)⟩
  unfold freeTx txCount
  rw [hl]

/-- The bid's waiting frame is gone; the award's PROGRESS and notice follow. -/
theorem accepts_of {f : Frame} {s w : State} {p : TxItem → Bool} {k : KitchenState} {src : Nat} {ref : Ref}
    {band : Band} {lines : List KitchenLine} (hc : CanSend s 1)
    (hw : w = { arrived f s with kitchen := w.kitchen, line := w.line })
    (hl : w.line = (cancelFrames p (arrived f s)).line) :
    let t := toldAccepted k src ref band lines w
    t = { arrived f s with kitchen := t.kitchen, line := t.line, notices := t.notices,
                           overflow := t.overflow, link := t.link }
      ∧ t.kitchen = w.kitchen
      ∧ Notified s t (.ticketAccepted src ref band (lines.filter KitchenLine.live).length)
      ∧ t.line = { (arrived f s).line with
          waiting := joinQueue (newItem s src (.progress ref k (liveMask lines)) false)
            (s.line.waiting.filter fun x => !p x)
          sending := s.line.sending.map (TxItem.disown p) } := by
  have hcan := canSend_cancelled hc hw hl
  have hnote := notified_toldAccepted (k := k) (src := src) (ref := ref) (band := band) (lines := lines) hcan
  have hfields : w.notices = s.notices ∧ w.overflow = s.overflow ∧ w.link = s.link ∧ w.clock = s.clock := by
    rw [hw]
    exact ⟨arrived_notices f s, arrived_overflow f s, arrived_link f s, arrived_clock f s⟩
  obtain ⟨h1, h2, h3, h4⟩ := hfields
  have hitem : newItem w = newItem s := by
    rw [hw, ← newItem_arrived f s]
    rfl
  dsimp only
  refine ⟨?_, by rw [toldAccepted_of hcan], hnote.congr h1 h2 h3 h4, ?_⟩
  · rw [toldAccepted_of hcan]
    rw [hw]
  · rw [toldAccepted_of hcan]
    dsimp only
    rw [hitem, hl]
    unfold cancelFrames
    rw [arrived_line]

/-- The queue after an acceptance: one entry QUEUED, its arrival counted, the lapsed item gone. -/
theorem acceptance_autoFire {s t : State} (hj : t.join = s.join)
    (hc : cookingCount t = cookingCount s) (hfull : s.join.figures.fire ≤ cookingCount s) :
    autoFire t = t :=
  autoFire_of_full (by rw [hj, hc]; exact hfull)

/-- The queue in which a TENTATIVE entry has been accepted (R91), before its frame and its notice. -/
def acceptedHere (src : Nat) (ref : Ref) (e : Entry) (lines : List KitchenLine) (s : State) : State :=
  dropLapsed src ref.number (updKitchen (fun k => { k with arrivalSeq := k.arrivalSeq + 1 })
    (updEntry src ref.number (fun e => acceptedEntry s e lines) (cancelBidOf e s)))

theorem acceptTentative_accepts {s : State} {src : Nat} {ref : Ref} {m : Byte} {e : Entry}
    (h : anyLive (maskLines m e.lines) = true) : acceptTentative src ref m e s
      = autoFire (toldAccepted .queued src ref e.priority (maskLines m e.lines)
          (acceptedHere src ref e (maskLines m e.lines) s)) := if_pos h

theorem acceptTentative_refuses {s : State} {src : Nat} {ref : Ref} {m : Byte} {e : Entry}
    (h : anyLive (maskLines m e.lines) = false) : acceptTentative src ref m e s
      = refuseAward src ref (dropEntry src ref.number s) := if_neg (by rw [h]; decide)

theorem acceptedHere_of {f : Frame} {s : State} {src : Nat} {ref : Ref} {e : Entry} {b : Bid}
    {lines : List KitchenLine} (he : entryOf s src ref.number = some e) (hb : e.bid = some b) :
    let w := acceptedHere src ref e lines (arrived f s)
    w = { arrived f s with kitchen := w.kitchen, line := w.line }
      ∧ w.line = (cancelFrames (bidFrame src ref.number b.gen) (arrived f s)).line
      ∧ w.kitchen = { s.kitchen with
          entries := (updEntry src ref.number (fun e => acceptedEntry (arrived f s) e lines) s).kitchen.entries
          arrivalSeq := s.kitchen.arrivalSeq + 1
          lapsed := s.kitchen.lapsed.filter fun l => l.origin != src || l.number != ref.number } := by
  obtain ⟨ho, hn⟩ := entryOf_name he
  dsimp only
  unfold acceptedHere
  rw [cancelBidOf_of hb, ho, hn]
  refine ⟨rfl, rfl, ?_⟩
  rw [← lapsed_filter]
  unfold dropLapsed updKitchen updEntry cancelFrames
  dsimp only
  rw [arrived_kitchen]


end Sys2Proof.Machine
end

section
-- One proof at a time: side by side, their threads' stacks outgrow the check's memory.
set_option Elab.async false
/-! SUPPORT. Awards of what the kitchen queue holds: a TENTATIVE entry, a lapsed-bid item, a replacement
(R91, R92). -/

namespace Sys2Proof.Machine

theorem acceptedEntry_arrived (f : Frame) (s : State) (e : Entry) (lines : List KitchenLine) :
    acceptedEntry (arrived f s) e lines = acceptedEntry s e lines := by
  unfold acceptedEntry
  rw [now_arrived, arrived_kitchen]

/-- The lapsed-bid list without the item of a ticket. -/
abbrev WithoutLapsed (s : State) (o n : Nat) : List Lapsed :=
  s.kitchen.lapsed.filter fun l => l.origin != o || l.number != n

/-! ## A TENTATIVE entry (R91, row 2) -/

/-- The entries once a TENTATIVE entry has been accepted. -/
theorem acceptedHere_entries {f : Frame} {s : State} {src : Nat} {ref : Ref} {e : Entry} {b : Bid}
    {lines : List KitchenLine} (he : entryOf s src ref.number = some e) (hb : e.bid = some b) :
    (acceptedHere src ref e lines (arrived f s)).kitchen = { s.kitchen with
      entries := (updEntry src ref.number (fun e => acceptedEntry s e lines) s).kitchen.entries
      arrivalSeq := s.kitchen.arrivalSeq + 1, lapsed := WithoutLapsed s src ref.number } := by
  obtain ⟨-, -, hk⟩ := acceptedHere_of (f := f) (lines := lines) he hb
  rw [hk]
  simp only [acceptedEntry_arrived]

/-- The acceptance of a TENTATIVE entry, up to auto-fire. -/
theorem tentative_accepted {f : Frame} {s : State} {src : Nat} {ref : Ref} {e : Entry} {b : Bid}
    {lines : List KitchenLine} (he : entryOf s src ref.number = some e) (hb : e.bid = some b)
    (hs : e.state = .tentative) (hn : UniqueNames s) (hc : CanSend s 1) :
    let t := toldAccepted .queued src ref e.priority lines (acceptedHere src ref e lines (arrived f s))
    (s.join.figures.fire ≤ cookingCount s → autoFire t = t)
      ∧ t = { arrived f s with kitchen := t.kitchen, line := t.line, notices := t.notices,
                               overflow := t.overflow, link := t.link }
      ∧ t.kitchen = { s.kitchen with
          entries := t.kitchen.entries, arrivalSeq := s.kitchen.arrivalSeq + 1
          lapsed := WithoutLapsed s src ref.number }
      ∧ OnlyEntry s t { e with
          state := .queued, lines := lines, band := e.priority,
          arrival := some (now s), seq := s.kitchen.arrivalSeq + 1, warn := false, late := false,
          print := .none, bid := none }
      ∧ Notified s t (.ticketAccepted src ref e.priority (lines.filter KitchenLine.live).length)
      ∧ t.line = { (arrived f s).line with
          waiting := joinQueue (newItem s src (.progress ref .queued (liveMask lines)) false)
            (s.line.waiting.filter fun x => !bidFrame src ref.number b.gen x)
          sending := s.line.sending.map (TxItem.disown (bidFrame src ref.number b.gen)) } := by
  obtain ⟨hw, hl, -⟩ := acceptedHere_of (f := f) (lines := lines) he hb
  have hk := acceptedHere_entries (f := f) (lines := lines) he hb
  obtain ⟨hframe, hkitchen, hnote, hline⟩ :=
    accepts_of (k := .queued) (src := src) (ref := ref) (band := e.priority) (lines := lines) hc hw hl
  dsimp only
  generalize toldAccepted .queued src ref e.priority lines (acceptedHere src ref e lines (arrived f s))
    = t at *
  rw [hk] at hkitchen
  have hentries : t.kitchen.entries
      = (updEntry src ref.number (fun e => acceptedEntry s e lines) s).kitchen.entries := by
    rw [hkitchen]
  refine ⟨fun hfull => acceptance_autoFire ?_ ?_ hfull, hframe, ?_, ?_, hnote, hline⟩
  · rw [hframe]
    exact join_arrived f s
  · refine (cookingCount_congr hentries).trans (cookingCount_changed hn he ?_)
    unfold Entry.cooking acceptedEntry
    rw [hs]
    rfl
  · rw [hkitchen]
  · exact (onlyEntry_updEntry (f := fun e => acceptedEntry s e lines) (fun _ => ⟨rfl, rfl⟩) he).congr rfl
      hentries

theorem canSend_toldAccepted {s : State} {n : Nat} {k : KitchenState} {src : Nat} {ref : Ref} {band : Band}
    {lines : List KitchenLine} (hc : CanSend s (n + 1)) :
    CanSend (toldAccepted k src ref band lines s) n := by
  have htold := toldAccepted_of (k := k) (src := src) (ref := ref) (band := band) (lines := lines)
    (s := s) ⟨hc.1, by have := hc.2; omega⟩
  refine canSend_joined (x := newItem s src (.progress ref k (liveMask lines)) false) hc ?_ ?_ ?_
  · rw [htold]
  · rw [htold]
  · rw [htold]

/-- With room and nothing else QUEUED the accepted entry fires at once. -/
theorem tentative_fires {f : Frame} {s : State} {src : Nat} {ref : Ref} {e : Entry} {b : Bid}
    {lines : List KitchenLine} (he : entryOf s src ref.number = some e) (hb : e.bid = some b)
    (hs : e.state = .tentative) (hg : e.gen = ref.gen) (hn : UniqueNames s)
    (hroom : cookingCount s < s.join.figures.fire)
    (hnone : ∀ x : Entry, x ∈ s.kitchen.entries → x.state ≠ .queued) (hc : CanSend s 2)
    (hport : PortBusy s) :
    let t := autoFire (toldAccepted .queued src ref e.priority lines
      (acceptedHere src ref e lines (arrived f s)))
    t = { arrived f s with
        kitchen := t.kitchen, line := t.line, notices := t.notices, overflow := t.overflow
        port := { s.port with list := s.port.list ++ [⟨src, ref.number, false⟩] }
        link := t.link }
      ∧ t.kitchen = { s.kitchen with
          entries := t.kitchen.entries, arrivalSeq := s.kitchen.arrivalSeq + 1
          fireSeq := s.kitchen.fireSeq + 1, lapsed := WithoutLapsed s src ref.number }
      ∧ OnlyEntry s t { e with
          state := .fired, lines := lines, band := e.priority,
          arrival := some (now s), seq := s.kitchen.arrivalSeq + 1, warn := false, late := false,
          print := .waiting, bid := none, firedSeq := s.kitchen.fireSeq + 1 }
      ∧ Notified (notify (.ticketAccepted src ref e.priority (lines.filter KitchenLine.live).length) s) t
          (.ticketFired src ref)
      ∧ t.line = { (arrived f s).line with
          waiting := joinQueue (newItem s src (.progress ref .fired (liveMask lines)) false)
            (joinQueue (newItem s src (.progress ref .queued (liveMask lines)) false)
              (s.line.waiting.filter fun x => !bidFrame src ref.number b.gen x))
          sending := s.line.sending.map (TxItem.disown (bidFrame src ref.number b.gen)) } := by
  have hone : CanSend s 1 := ⟨hc.1, by have := hc.2; omega⟩
  obtain ⟨hw, hl, -⟩ := acceptedHere_of (f := f) (lines := lines) he hb
  have hk := acceptedHere_entries (f := f) (lines := lines) he hb
  obtain ⟨hframe, hkitchen, hnote, hline⟩ :=
    accepts_of (k := .queued) (src := src) (ref := ref) (band := e.priority) (lines := lines) hone hw hl
  have hcan := canSend_cancelled hc hw hl
  have hroom1 := canSend_toldAccepted (k := .queued) (src := src) (ref := ref) (band := e.priority)
    (lines := lines) hcan
  dsimp only
  generalize toldAccepted .queued src ref e.priority lines (acceptedHere src ref e lines (arrived f s))
    = t at *
  rw [hk] at hkitchen
  have hentries : t.kitchen.entries
      = (updEntry src ref.number (fun e => acceptedEntry s e lines) s).kitchen.entries := by
    rw [hkitchen]
  obtain ⟨ho, hnum⟩ := entryOf_name he
  obtain ⟨l, r, hes, hmap⟩ := updEntry_split (fun e => acceptedEntry s e lines) hn he
  rw [hmap] at hentries
  have hnames : UniqueNames t := by
    have hupd := uniqueNames_updEntry (o := src) (n := ref.number)
      (f := fun e => acceptedEntry s e lines) hn (by exact fun _ h1 h2 => ⟨h1, h2⟩)
    unfold UniqueNames at hupd ⊢
    rw [hentries]
    rwa [hmap] at hupd
  have hjoin : t.join = s.join := by
    rw [hframe]
    exact join_arrived f s
  have hportt : t.port = s.port := by
    rw [hframe]
    exact port_arrived f s
  have hxin : acceptedEntry s e lines ∈ t.kitchen.entries := by
    rw [hentries]
    simp
  have huniq : ∀ y : Entry, y ∈ t.kitchen.entries → y.state = .queued → y = acceptedEntry s e lines := by
    intro y hy hq
    rw [hentries] at hy
    rcases List.mem_append.1 hy with hy | hy
    · exact absurd hq (hnone y (by rw [hes]; exact List.mem_append_left _ hy))
    · rcases List.mem_cons.1 hy with hy | hy
      · exact hy
      · exact absurd hq (hnone y (by rw [hes]; exact List.mem_append_right _ (List.mem_cons_of_mem _ hy)))
  have hcount : cookingCount t = cookingCount s := by
    rw [cookingCount_eq, cookingCount_eq, hentries, hes]
    have hsame : Entry.cooking (acceptedEntry s e lines) = Entry.cooking e := by
      unfold Entry.cooking acceptedEntry
      rw [hs]
      rfl
    simp [List.countP_cons, hsame]
  have hfires : autoFire t = fireEntry (acceptedEntry s e lines) t :=
    congrArg Prod.snd (autoFireList_single hnames hxin rfl huniq (by rw [hcount, hjoin]; exact hroom))
  have hxname : entryOf t (acceptedEntry s e lines).origin (acceptedEntry s e lines).number
      = some (acceptedEntry s e lines) := find?_of_nodup hnames hxin (by simp)
  obtain ⟨hlist, honly, hfirenote⟩ := fireEntry_busy hxname
    (by unfold PortBusy; rw [hportt]; exact hport)
  have hsends := fireEntry_sends (acceptedEntry s e lines) hroom1
  have hfframe := fireEntry_frame (acceptedEntry s e lines) t
  have hfkitchen := fireEntry_counts (acceptedEntry s e lines) t
  have haccepted : OnlyEntry s t (acceptedEntry s e lines) :=
    (onlyEntry_updEntry (f := fun e => acceptedEntry s e lines) (fun _ => ⟨rfl, rfl⟩) he).congr rfl
      (hentries.trans hmap.symm)
  rw [hfires]
  have hseq : t.kitchen.fireSeq = s.kitchen.fireSeq := by rw [hkitchen]
  have hitem : newItem t = newItem s := by
    rw [hframe, ← newItem_arrived f s]
    rfl
  have hnumacc : (acceptedEntry s e lines).number = ref.number := hnum
  have href : Entry.ref (acceptedEntry s e lines) = ref := by
    show (⟨e.number, e.gen⟩ : Ref) = ref
    rw [hnum, hg]
  have horigacc : (acceptedEntry s e lines).origin = src := ho
  refine ⟨?_, ?_, ?_, ?_, ?_⟩
  · rw [hfframe, hlist, horigacc, hnumacc, hportt, hframe]
  · rw [hfkitchen, hkitchen]
  · rw [hseq] at honly
    exact haccepted.trans honly rfl rfl
  · obtain ⟨⟨h1, h2⟩, h3⟩ := hnote
    have hfired : Notified t (fireEntry (acceptedEntry s e lines) t) (.ticketFired src ref) := by
      have hthis := hfirenote
      rw [horigacc] at hthis
      rw [← href]
      exact hthis
    exact hfired.congr (s := notify (.ticketAccepted src ref e.priority
      (lines.filter KitchenLine.live).length) s) h1 h2 h3 (by
        rw [notify_frame, hframe]
        exact arrived_clock f s)
  · rw [hsends, hitem, hline, horigacc, href]
    rfl

end Sys2Proof.Machine
end

section
-- One proof at a time: side by side, their threads' stacks outgrow the check's memory.
set_option Elab.async false
/-! SUPPORT. Awards that make or replace an entry: from a lapsed-bid item, and with a replacement bid
(R91, R92); awards elsewhere (R95). -/

namespace Sys2Proof.Machine

/-! ## A lapsed-bid item (R91) -/

/-- The entry that a lapsed-bid item becomes. -/
def itemEntry (l : Lapsed) (lines : List KitchenLine) (s : State) : Entry :=
  { origin := l.origin, mark := l.mark, number := l.number, gen := l.gen
    priority := l.priority, band := l.priority, state := .queued, lines := lines
    arrival := some (now s), seq := s.kitchen.arrivalSeq + 1, warn := false, late := false
    print := .none, bid := none, firedSeq := 0 }

/-- The queue in which a lapsed-bid item has been accepted, before its frame and its notice. -/
def acceptedItem (src : Nat) (ref : Ref) (l : Lapsed) (lines : List KitchenLine) (s : State) : State :=
  dropLapsed src ref.number (updKitchen (fun k =>
    { k with entries := k.entries ++ [itemEntry l lines s], arrivalSeq := k.arrivalSeq + 1 }) s)

theorem acceptLapsed_accepts {s : State} {src : Nat} {ref : Ref} {m : Byte} {l : Lapsed}
    (hroom : s.kitchen.entries.length < 24) (h : anyLive (maskLines m l.lines) = true) :
    acceptLapsed src ref m l s = autoFire (toldAccepted .queued src ref l.priority (maskLines m l.lines)
      (acceptedItem src ref l (maskLines m l.lines) s)) := by
  have hslot : 1 ≤ freeSlots s := by
    show 1 ≤ 24 - s.kitchen.entries.length
    omega
  exact if_pos ⟨hslot, h⟩

theorem acceptLapsed_refuses {s : State} {src : Nat} {ref : Ref} {m : Byte} {l : Lapsed}
    (h : anyLive (maskLines m l.lines) = false ∨ 24 ≤ s.kitchen.entries.length) :
    acceptLapsed src ref m l s = refuseAward src ref s := by
  refine if_neg ?_
  rintro ⟨h1, h2⟩
  rcases h with h | h
  · rw [h] at h2
    cases h2
  · have h1' : 1 ≤ 24 - s.kitchen.entries.length := h1
    omega

/-- Frames are as the arrival left them. -/
theorem line_uncancelled {f : Frame} {s w : State} (hw : w = { arrived f s with kitchen := w.kitchen }) :
    w = { arrived f s with kitchen := w.kitchen, line := w.line }
      ∧ w.line = (cancelFrames (fun _ => false) (arrived f s)).line := by
  rw [cancelFrames_none fun _ => rfl]
  constructor
  · rw [hw]
  · rw [hw]

theorem filter_all (xs : List TxItem) : (xs.filter fun _ => !false) = xs :=
  List.filter_eq_self.2 fun _ _ => rfl

theorem disown_nothing (x : Option TxItem) : x.map (TxItem.disown fun _ => false) = x := by
  cases x <;> rfl

/-- The acceptance of a lapsed-bid item, up to auto-fire. -/
theorem item_accepted {f : Frame} {s : State} {src : Nat} {ref : Ref} {l : Lapsed}
    {lines : List KitchenLine} (hl : lapsedAt s src ref = some l) (hc : CanSend s 1) :
    let t := toldAccepted .queued src ref l.priority lines (acceptedItem src ref l lines (arrived f s))
    (s.join.figures.fire ≤ cookingCount s → autoFire t = t)
      ∧ t = { arrived f s with kitchen := t.kitchen, line := t.line, notices := t.notices,
                               overflow := t.overflow, link := t.link }
      ∧ t.kitchen = { s.kitchen with
          arrivalSeq := s.kitchen.arrivalSeq + 1, lapsed := WithoutLapsed s src ref.number
          entries := s.kitchen.entries ++ [
            { origin := src, mark := l.mark, number := ref.number, gen := ref.gen
              priority := l.priority, band := l.priority, state := .queued
              lines := lines, arrival := some (now s)
              seq := s.kitchen.arrivalSeq + 1, warn := false, late := false, print := .none
              bid := none, firedSeq := 0 }] }
      ∧ Notified s t (.ticketAccepted src ref l.priority (lines.filter KitchenLine.live).length)
      ∧ Sends (arrived f s) t src (.progress ref .queued (liveMask lines)) false := by
  obtain ⟨hlo, hln, hlg⟩ := lapsedAt_name hl
  have hw0 : acceptedItem src ref l lines (arrived f s)
      = { arrived f s with kitchen := (acceptedItem src ref l lines (arrived f s)).kitchen } := rfl
  have hk : (acceptedItem src ref l lines (arrived f s)).kitchen = { s.kitchen with
      arrivalSeq := s.kitchen.arrivalSeq + 1, lapsed := WithoutLapsed s src ref.number
      entries := s.kitchen.entries ++ [itemEntry l lines s] } := by
    unfold WithoutLapsed
    rw [← lapsed_filter]
    unfold acceptedItem dropLapsed updKitchen itemEntry
    dsimp only
    rw [now_arrived, arrived_kitchen]
  obtain ⟨hw, hline0⟩ := line_uncancelled hw0
  obtain ⟨hframe, hkitchen, hnote, hline⟩ :=
    accepts_of (k := .queued) (src := src) (ref := ref) (band := l.priority) (lines := lines) hc hw hline0
  dsimp only
  generalize toldAccepted .queued src ref l.priority lines (acceptedItem src ref l lines (arrived f s))
    = t at *
  rw [hk] at hkitchen
  refine ⟨fun hfull => acceptance_autoFire ?_ ?_ hfull, hframe, ?_, hnote, ?_⟩
  · rw [hframe]
    exact join_arrived f s
  · rw [cookingCount_eq, cookingCount_eq, hkitchen]
    show (s.kitchen.entries ++ [itemEntry l lines s]).countP _ = _
    rw [List.countP_append]
    rfl
  · rw [hkitchen]
    unfold itemEntry
    rw [hlo, hln, hlg]
  · rw [filter_all, disown_nothing] at hline
    unfold Sends
    rw [hline, arrived_line, newItem_arrived]

/-! ## A replacement (R92) -/

/-- The entry as a replacement gives it the awarded generation, before its new state. -/
def replacing (src : Nat) (ref : Ref) (e : Entry) (priority : Band) (lines : List KitchenLine)
    (s : State) : Entry :=
  { e with gen := ref.gen, mark := markOf s src, priority := priority, lines := lines, bid := none }

/-- The queue in which the bid of an entry that is replaced, and the lapsed item, are gone. -/
def replaceCleared (src : Nat) (ref : Ref) (e : Entry) (s : State) : State :=
  dropLapsed src ref.number (cancelBidOf e s)

/-- The queue in which a QUEUED entry has been replaced. -/
def requeued (src : Nat) (ref : Ref) (e : Entry) (priority : Band) (lines : List KitchenLine)
    (s : State) : State :=
  updKitchen (fun k => { k with arrivalSeq := k.arrivalSeq + 1 })
    (updEntry src ref.number (fun _ => acceptedEntry (replaceCleared src ref e s)
      (replacing src ref e priority lines s) lines) (replaceCleared src ref e s))

/-- The queue in which a FIRED or REVOKED-FIRED entry has been replaced. -/
def refired (src : Nat) (ref : Ref) (e : Entry) (priority : Band) (lines : List KitchenLine)
    (s : State) : State :=
  updEntry src ref.number (fun _ => { replacing src ref e priority lines s with state := .fired })
    (replaceCleared src ref e s)

theorem replaceEntry_requeues {s : State} {src : Nat} {ref : Ref} {m : Byte} {e : Entry} {priority : Band}
    {offered : List KitchenLine} (h : anyLive (maskLines m offered) = true) (hs : e.state = .queued) :
    replaceEntry src ref m e priority offered s
      = autoFire (toldAccepted .queued src ref priority (maskLines m offered)
          (requeued src ref e priority (maskLines m offered) s)) := by
  unfold replaceEntry
  dsimp only
  rw [if_pos h, hs]
  unfold requeued replacing
  rw [hs]
  rfl

theorem replaceEntry_refires {s : State} {src : Nat} {ref : Ref} {m : Byte} {e : Entry} {priority : Band}
    {offered : List KitchenLine} (h : anyLive (maskLines m offered) = true)
    (hs : e.state = .fired ∨ e.state = .revokedFired) :
    replaceEntry src ref m e priority offered s
      = toldAccepted .fired src ref e.band (maskLines m offered)
          (refired src ref e priority (maskLines m offered) s) := by
  unfold replaceEntry
  dsimp only
  rw [if_pos h]
  rcases hs with hs | hs <;> rw [hs] <;> rfl

theorem replaceEntry_refuses {s : State} {src : Nat} {ref : Ref} {m : Byte} {e : Entry} {priority : Band}
    {offered : List KitchenLine} (h : anyLive (maskLines m offered) = false) :
    replaceEntry src ref m e priority offered s
      = refuseAward src ref (updEntry src ref.number (fun e => { e with bid := none }) s) :=
  if_neg (by rw [h]; decide)

/-- An award replaces entry `x`, which is told as `k`; the frames that satisfy `p` are gone. -/
def Replaces (f : Frame) (s t : State) (src : Nat) (ref : Ref) (x : Entry) (k : KitchenState)
    (p : TxItem → Bool) : Prop :=
  t = { arrived f s with kitchen := t.kitchen, line := t.line, notices := t.notices,
                         overflow := t.overflow, link := t.link }
    ∧ t.kitchen = { s.kitchen with
        entries := t.kitchen.entries, arrivalSeq := t.kitchen.arrivalSeq
        lapsed := WithoutLapsed s src ref.number }
    ∧ OnlyEntry s t x
    ∧ Notified s t (.ticketAccepted src ref x.band (x.lines.filter KitchenLine.live).length)
    ∧ t.line = { (arrived f s).line with
        waiting := joinQueue (newItem s src (.progress ref k (liveMask x.lines)) false)
          (s.line.waiting.filter fun y => !p y)
        sending := s.line.sending.map (TxItem.disown p) }

/-- What replacing an entry in a cleared queue makes of it, once told. -/
theorem replaces_of {f : Frame} {s w : State} {p : TxItem → Bool} {src : Nat} {ref : Ref} {e x : Entry}
    {k : KitchenState} {n : Nat} (he : entryOf s src ref.number = some e) (hc : CanSend s 1)
    (hx : x.origin = e.origin ∧ x.number = e.number)
    (hw : w = { arrived f s with kitchen := w.kitchen, line := w.line })
    (hl : w.line = (cancelFrames p (arrived f s)).line)
    (hk : w.kitchen = { s.kitchen with
      entries := (updEntry src ref.number (fun _ => x) s).kitchen.entries, arrivalSeq := n
      lapsed := WithoutLapsed s src ref.number }) :
    let t := toldAccepted k src ref x.band x.lines w
    t.kitchen.arrivalSeq = n
      ∧ (UniqueNames s → Entry.cooking x = Entry.cooking e → s.join.figures.fire ≤ cookingCount s →
          autoFire t = t)
      ∧ Replaces f s t src ref x k p := by
  obtain ⟨hframe, hkitchen, hnote, hline⟩ :=
    accepts_of (k := k) (src := src) (ref := ref) (band := x.band) (lines := x.lines) hc hw hl
  obtain ⟨ho, hnum⟩ := entryOf_name he
  dsimp only
  generalize toldAccepted k src ref x.band x.lines w = t at *
  rw [hk] at hkitchen
  have hentries : t.kitchen.entries = (updEntry src ref.number (fun _ => x) s).kitchen.entries := by
    rw [hkitchen]
  refine ⟨by rw [hkitchen], fun hn hcook hfull => acceptance_autoFire ?_ ?_ hfull, hframe, ?_, ?_, hnote,
    hline⟩
  · rw [hframe]
    exact join_arrived f s
  · exact (cookingCount_congr hentries).trans (cookingCount_changed hn he hcook)
  · rw [hkitchen]
  · exact (onlyEntry_updEntry_of_name (f := fun _ => x)
      (by exact fun _ _ _ => ⟨hx.1.trans ho, hx.2.trans hnum⟩) he).congr rfl hentries

theorem replaceCleared_of {f : Frame} {s : State} {p : TxItem → Bool} {src : Nat} {ref : Ref} {e : Entry}
    (hp : cancelBidOf e (arrived f s) = cancelFrames p (arrived f s)) :
    let w := replaceCleared src ref e (arrived f s)
    w = { arrived f s with kitchen := w.kitchen, line := w.line }
      ∧ w.line = (cancelFrames p (arrived f s)).line
      ∧ w.kitchen = { s.kitchen with lapsed := WithoutLapsed s src ref.number } := by
  dsimp only
  unfold replaceCleared WithoutLapsed
  rw [hp, ← lapsed_filter]
  refine ⟨rfl, rfl, ?_⟩
  unfold dropLapsed updKitchen cancelFrames
  dsimp only
  rw [arrived_kitchen]

/-- The new entry of a replaced QUEUED one. -/
def requeuedEntry (src : Nat) (ref : Ref) (e : Entry) (priority : Band) (lines : List KitchenLine)
    (s : State) : Entry :=
  { e with
    gen := ref.gen, mark := markOf s src, priority := priority, lines := lines, state := .queued
    band := priority, arrival := some (now s), seq := s.kitchen.arrivalSeq + 1, warn := false
    late := false, print := .none, bid := none }

theorem requeued_of {f : Frame} {s : State} {p : TxItem → Bool} {src : Nat} {ref : Ref} {e : Entry}
    {priority : Band} {lines : List KitchenLine}
    (hp : cancelBidOf e (arrived f s) = cancelFrames p (arrived f s)) :
    let w := requeued src ref e priority lines (arrived f s)
    w = { arrived f s with kitchen := w.kitchen, line := w.line }
      ∧ w.line = (cancelFrames p (arrived f s)).line
      ∧ w.kitchen = { s.kitchen with
          entries := (updEntry src ref.number
            (fun _ => requeuedEntry src ref e priority lines s) s).kitchen.entries
          arrivalSeq := s.kitchen.arrivalSeq + 1, lapsed := WithoutLapsed s src ref.number } := by
  obtain ⟨hw, hl, hk⟩ := replaceCleared_of (src := src) (ref := ref) hp
  have hentry : acceptedEntry (replaceCleared src ref e (arrived f s))
      (replacing src ref e priority lines (arrived f s)) lines
      = requeuedEntry src ref e priority lines s := by
    have hnow : now (replaceCleared src ref e (arrived f s)) = now s := by
      rw [hw, ← now_arrived f s]
      rfl
    unfold acceptedEntry replacing requeuedEntry
    rw [hnow, hk, markOf_arrived]
    rfl
  dsimp only
  unfold requeued
  rw [hentry]
  refine ⟨?_, hl, ?_⟩
  · unfold updKitchen updEntry
    dsimp only
    rw [hw]
  · unfold updKitchen updEntry
    dsimp only
    rw [hk]

/-- The new entry of a replaced FIRED or REVOKED-FIRED one. -/
def refiredEntry (src : Nat) (ref : Ref) (e : Entry) (priority : Band) (lines : List KitchenLine)
    (s : State) : Entry :=
  { e with gen := ref.gen, mark := markOf s src, priority := priority, lines := lines, state := .fired
           bid := none }

theorem refired_of {f : Frame} {s : State} {p : TxItem → Bool} {src : Nat} {ref : Ref} {e : Entry}
    {priority : Band} {lines : List KitchenLine}
    (hp : cancelBidOf e (arrived f s) = cancelFrames p (arrived f s)) :
    let w := refired src ref e priority lines (arrived f s)
    w = { arrived f s with kitchen := w.kitchen, line := w.line }
      ∧ w.line = (cancelFrames p (arrived f s)).line
      ∧ w.kitchen = { s.kitchen with
          entries := (updEntry src ref.number
            (fun _ => refiredEntry src ref e priority lines s) s).kitchen.entries
          arrivalSeq := s.kitchen.arrivalSeq, lapsed := WithoutLapsed s src ref.number } := by
  obtain ⟨hw, hl, hk⟩ := replaceCleared_of (src := src) (ref := ref) hp
  have hentry : { replacing src ref e priority lines (arrived f s) with state := .fired }
      = refiredEntry src ref e priority lines s := by
    unfold replacing refiredEntry
    rw [markOf_arrived]
  dsimp only
  unfold refired
  rw [hentry]
  refine ⟨?_, hl, ?_⟩
  · unfold updEntry
    dsimp only
    rw [hw]
  · unfold updEntry
    dsimp only
    rw [hk]

end Sys2Proof.Machine
end

section
-- One proof at a time: side by side, their threads' stacks outgrow the check's memory.
set_option Elab.async false
/-! The answers of the kitchen queue to an AWARD (R91 to R95). -/

namespace Sys2Proof.Machine

theorem exec_award_unheld {s : State} {dest src : Nat} {ref : Ref} {m : Byte}
    (h : KitchenDelivers s ⟨dest, src, .award ref (station s) m⟩)
    (he : ∀ e, entryOf s src ref.number = some e → e.gen = ref.gen → e.state = .tentative)
    (hp : passAt s src ref = none) : exec (.award dest src ref (station s) m) s
      = .next (unheldAward src ref m (arrived ⟨dest, src, .award ref (station s) m⟩ s)) := by
  rw [exec_awardHere h, awardHere_unheld]
  · rw [entryOf_arrived]
    exact he
  · rw [passAt_arrived]
    exact hp

/-- An award that finds nothing to accept is refused, and the queue stays. -/
theorem refuses_stays {f : Frame} {s : State} {src : Nat} {ref : Ref} (hc : CanSend s 1) :
    Refuses s (arrived f s) (refuseAward src ref (arrived f s)) src ref
      ∧ (refuseAward src ref (arrived f s)).kitchen = s.kitchen := by
  obtain ⟨h1, h2⟩ := refuses_of (f := f) (src := src) (ref := ref) (v := arrived f s) hc rfl
  exact ⟨h1, h2.trans (arrived_kitchen f s)⟩

/-- An award of a TENTATIVE entry without a live line left takes the entry out and is refused. -/
theorem tentative_refused {f : Frame} {s : State} {src : Nat} {ref : Ref} (hc : CanSend s 1) :
    Refuses s (arrived f s) (refuseAward src ref (dropEntry src ref.number (arrived f s))) src ref
      ∧ (refuseAward src ref (dropEntry src ref.number (arrived f s))).kitchen
        = WithoutEntry s src ref.number := by
  obtain ⟨h1, h2⟩ := refuses_of (f := f) (src := src) (ref := ref)
    (v := dropEntry src ref.number (arrived f s)) hc rfl
  refine ⟨h1, h2.trans ?_⟩
  rw [dropEntry_eq]
  exact withoutEntry_congr (arrived_kitchen f s)

/-- An award with a replacement without a live line ends the bid and is refused. -/
theorem replacement_refused {f : Frame} {s : State} {src : Nat} {ref : Ref} {e : Entry}
    (he : entryOf s src ref.number = some e) (hc : CanSend s 1) :
    let t := refuseAward src ref (updEntry src ref.number (fun e => { e with bid := none }) (arrived f s))
    Refuses s (arrived f s) t src ref ∧ t.kitchen = { s.kitchen with entries := t.kitchen.entries }
      ∧ OnlyEntry s t { e with bid := none } := by
  obtain ⟨h1, h2⟩ := refuses_of (f := f) (src := src) (ref := ref)
    (v := updEntry src ref.number (fun e => { e with bid := none }) (arrived f s)) hc rfl
  have hk : (updEntry src ref.number (fun e => { e with bid := none }) (arrived f s)).kitchen
      = { s.kitchen with
        entries := (updEntry src ref.number (fun e => { e with bid := none }) s).kitchen.entries } := by
    unfold updEntry
    dsimp only
    rw [arrived_kitchen]
  rw [hk] at h2
  refine ⟨h1, by rw [h2], ?_⟩
  exact (onlyEntry_updEntry (f := fun e => { e with bid := none }) (fun _ => ⟨rfl, rfl⟩) he).congr rfl
    (by rw [h2])

theorem requeuedEntry_eq {s : State} {src : Nat} {ref : Ref} {e : Entry} (priority : Band)
    (lines : List KitchenLine) (hs : e.state = .queued) : requeuedEntry src ref e priority lines s
      = { e with
          gen := ref.gen, mark := markOf s src, priority := priority, lines := lines
          band := priority, arrival := some (now s), seq := s.kitchen.arrivalSeq + 1, warn := false
          late := false, print := .none, bid := none } := by
  unfold requeuedEntry
  rw [hs]

/-- A QUEUED entry is replaced (R92). -/
theorem replaced_queued {f : Frame} {s : State} {p : TxItem → Bool} {src : Nat} {ref : Ref} {e : Entry}
    {priority : Band} {lines : List KitchenLine} (he : entryOf s src ref.number = some e)
    (hp : cancelBidOf e (arrived f s) = cancelFrames p (arrived f s)) (hs : e.state = .queued)
    (hn : UniqueNames s) (hc : CanSend s 1) :
    let t := toldAccepted .queued src ref priority lines (requeued src ref e priority lines (arrived f s))
    t.kitchen.arrivalSeq = s.kitchen.arrivalSeq + 1
      ∧ (s.join.figures.fire ≤ cookingCount s → autoFire t = t)
      ∧ Replaces f s t src ref (requeuedEntry src ref e priority lines s) .queued p := by
  obtain ⟨hw, hl, hk⟩ := requeued_of (src := src) (ref := ref) (priority := priority) (lines := lines) hp
  obtain ⟨hseq, hfull, hrep⟩ := replaces_of (k := .queued)
    (x := requeuedEntry src ref e priority lines s) he hc ⟨rfl, rfl⟩ hw hl hk
  refine ⟨hseq, hfull hn ?_, hrep⟩
  unfold Entry.cooking requeuedEntry
  rw [hs]

/-- A FIRED or REVOKED-FIRED entry is replaced (R92). -/
theorem replaced_fired {f : Frame} {s : State} {p : TxItem → Bool} {src : Nat} {ref : Ref} {e : Entry}
    {priority : Band} {lines : List KitchenLine} (he : entryOf s src ref.number = some e)
    (hp : cancelBidOf e (arrived f s) = cancelFrames p (arrived f s)) (hc : CanSend s 1) :
    let t := toldAccepted .fired src ref e.band lines (refired src ref e priority lines (arrived f s))
    t.kitchen.arrivalSeq = s.kitchen.arrivalSeq
      ∧ Replaces f s t src ref (refiredEntry src ref e priority lines s) .fired p := by
  obtain ⟨hw, hl, hk⟩ := refired_of (src := src) (ref := ref) (priority := priority) (lines := lines) hp
  obtain ⟨hseq, -, hrep⟩ := replaces_of (k := .fired)
    (x := refiredEntry src ref e priority lines s) he hc ⟨rfl, rfl⟩ hw hl hk
  exact ⟨hseq, hrep⟩

/-- A PROGRESS is all that an answer adds (R93). -/
theorem answers_of {f : Frame} {s : State} {src : Nat} {ref : Ref} {k : KitchenState} {m : Byte}
    (hc : CanSend s 1) :
    let t := sendProgress src ref k m (arrived f s)
    t = { arrived f s with line := t.line } ∧ Sends (arrived f s) t src (.progress ref k m) false := by
  dsimp only
  rw [sendProgress_of (canSend_arrived hc f)]
  exact ⟨rfl, rfl⟩

/-! ## An AWARD elsewhere (R95) -/

theorem kitchenAward_elsewhere {s : State} {src other : Nat} {ref : Ref} {m : Byte}
    (h : other ≠ station s) : kitchenAward src ref other m s = awardElsewhere src ref s := if_neg h

theorem lapsedAt_congr {s t : State} (h : t.kitchen.lapsed = s.kitchen.lapsed) (o : Nat) (ref : Ref) :
    lapsedAt t o ref = lapsedAt s o ref := by
  unfold lapsedAt
  rw [h]

theorem awardElsewhere_bid {s : State} {src : Nat} {ref : Ref} {e : Entry} {b : Bid}
    (he : entryOf s src ref.number = some e) (hb : e.bid = some b) (hg : b.gen = ref.gen)
    (hl : lapsedAt s src ref = none) (hs : ∀ start : Time, b.stage ≠ .awaiting start) :
    awardElsewhere src ref s = removeBid e (cancelFrames (bidFrame src ref.number ref.gen) s) := by
  obtain ⟨ho, hn⟩ := entryOf_name he
  have hgone : lapsedAt (removeBid e (cancelFrames (bidFrame src ref.number ref.gen) s)) src ref = none := by
    refine (lapsedAt_congr ?_ src ref).trans hl
    unfold removeBid
    split <;> rfl
  unfold awardElsewhere
  rw [bidAt_of he hb hg]
  dsimp only
  cases hst : b.stage with
  | awaiting start => exact absurd hst (hs start)
  | _ =>
    dsimp only
    rw [cancelBidOf_of hb, ho, hn, hg, hgone]

theorem awardElsewhere_awaiting {s : State} {src : Nat} {ref : Ref} {e : Entry} {b : Bid} {start : Time}
    (he : entryOf s src ref.number = some e) (hb : e.bid = some b) (hg : b.gen = ref.gen)
    (hl : lapsedAt s src ref = none) (hs : b.stage = .awaiting start) :
    awardElsewhere src ref s = removeBid e s := by
  have hgone : lapsedAt (removeBid e s) src ref = none := by
    refine (lapsedAt_congr ?_ src ref).trans hl
    unfold removeBid
    split <;> rfl
  unfold awardElsewhere
  rw [bidAt_of he hb hg]
  dsimp only
  rw [hs]
  dsimp only
  rw [hgone]

theorem awardElsewhere_item {s : State} {src : Nat} {ref : Ref} {l : Lapsed}
    (he : entryOf s src ref.number = none) (hl : lapsedAt s src ref = some l) :
    awardElsewhere src ref s = dropLapsed src ref.number s := by
  unfold awardElsewhere
  rw [bidAt_of_none he]
  dsimp only
  rw [hl]

theorem awardElsewhere_nothing {s : State} {src : Nat} {ref : Ref}
    (he : entryOf s src ref.number = none) (hl : lapsedAt s src ref = none) :
    awardElsewhere src ref s = s := by
  unfold awardElsewhere
  rw [bidAt_of_none he]
  dsimp only
  rw [hl]

/-- An AWARD elsewhere, acted on at this kitchen (R95). -/
theorem award_elsewhere {s : State} {dest src other : Nat} {ref : Ref} {m : Byte}
    (h : KitchenDelivers s ⟨dest, src, .award ref other m⟩) (hother : other ≠ station s) :
    let s' := arrived ⟨dest, src, .award ref other m⟩ s
    (∀ (e : Entry) (b : Bid), entryOf s src ref.number = some e → e.bid = some b →
      b.gen = ref.gen → lapsedAt s src ref = none →
      ∃ t : State, exec (.award dest src ref other m) s = .next t
        ∧ t = { s' with kitchen := t.kitchen, line := t.line }
        ∧ ((∀ start : Time, b.stage ≠ .awaiting start) →
            Cancels s' t (bidFrame src ref.number ref.gen))
        ∧ ((∃ start : Time, b.stage = .awaiting start) → t.line = s'.line)
        ∧ (e.state = .tentative → t.kitchen = WithoutEntry s src ref.number)
        ∧ (e.state ≠ .tentative →
          t.kitchen = { s.kitchen with entries := t.kitchen.entries }
            ∧ OnlyEntry s t { e with bid := none }))
    ∧ (∀ l : Lapsed, entryOf s src ref.number = none → lapsedAt s src ref = some l →
      exec (.award dest src ref other m) s = .next { s' with kitchen := { s.kitchen with
        lapsed := s.kitchen.lapsed.filter fun l =>
          l.origin != src || l.number != ref.number } })
    ∧ (entryOf s src ref.number = none → lapsedAt s src ref = none →
      exec (.award dest src ref other m) s = .next s') := by
  have hexec : exec (.award dest src ref other m) s
      = .next (awardElsewhere src ref (arrived ⟨dest, src, .award ref other m⟩ s)) := by
    rw [exec_award h, kitchenAward_elsewhere (by rw [station_arrived]; exact hother)]
  have hentry := entryOf_arrived ⟨dest, src, .award ref other m⟩ s src ref.number
  have hlapsed := lapsedAt_arrived ⟨dest, src, .award ref other m⟩ s src ref
  refine ⟨fun e b he hb hg hl => ?_, fun l he hl => ?_, fun he hl => ?_⟩
  · by_cases hs : ∃ start : Time, b.stage = .awaiting start
    · obtain ⟨start, hst⟩ := hs
      have hgone := removeBid_cancels (f := ⟨dest, src, .award ref other m⟩) (p := fun _ => false) he
      rw [cancelFrames_none fun _ => rfl] at hgone
      obtain ⟨hframe, hline, hten, hoth⟩ := hgone
      rw [awardElsewhere_awaiting (hentry.trans he) hb hg (hlapsed.trans hl) hst] at hexec
      refine ⟨_, hexec, hframe, fun h => absurd hst (h start), fun _ => ?_, hten, hoth⟩
      unfold removeBid
      split <;> rfl
    · rw [not_exists] at hs
      obtain ⟨hframe, hline, hten, hoth⟩ := removeBid_cancels (f := ⟨dest, src, .award ref other m⟩)
        (p := bidFrame src ref.number ref.gen) he
      rw [awardElsewhere_bid (hentry.trans he) hb hg (hlapsed.trans hl) hs] at hexec
      exact ⟨_, hexec, hframe, fun _ => hline, fun ⟨start, hst⟩ => absurd hst (hs start), hten, hoth⟩
  · rw [hexec, awardElsewhere_item (hentry.trans he) (hlapsed.trans hl), ← lapsed_filter]
    unfold dropLapsed updKitchen
    dsimp only
    rw [arrived_kitchen]
  · rw [hexec, awardElsewhere_nothing (hentry.trans he) (hlapsed.trans hl)]

/-- Outside ON-LINE an AWARD is not acted on (R91). -/
theorem award_offLine {s : State} {dest src : Nat} {ref : Ref} {m : Byte}
    (h : Delivers s ⟨dest, src, .award ref (station s) m⟩) (hj : s.join.state ≠ .onLine) :
    exec (.award dest src ref (station s) m) s
      = .next (arrived ⟨dest, src, .award ref (station s) m⟩ s) := by
  refine congrArg Host.Outcome.next ((deliverFrame_of h _).trans ?_)
  unfold atKitchen
  split
  · unfold kitchenAward
    rw [if_pos (station_arrived _ s).symm, if_neg (by rw [join_arrived]; exact hj)]
  · rfl


/-- A replacement bid at the awarded generation (R92). -/
theorem award_replacementBid {s : State} {dest src : Nat} {ref : Ref} {m : Byte} {e : Entry} {b : Bid}
    (h : KitchenDelivers s ⟨dest, src, .award ref (station s) m⟩) (hc : CanSend s 1)
    (he : entryOf s src ref.number = some e) (hg : e.gen ≠ ref.gen) (hnew : newer e.gen ref.gen = false)
    (hb : e.bid = some b) (hbg : b.gen = ref.gen) (hp : passAt s src ref = none) :
    let f : Frame := ⟨dest, src, .award ref (station s) m⟩
    let lines := maskLines m b.lines
    (e.state = .queued → (lines.filter KitchenLine.live).length ≠ 0 → UniqueNames s →
      ∃ t : State, exec (.award dest src ref (station s) m) s = .next (autoFire t)
        ∧ t.kitchen.arrivalSeq = s.kitchen.arrivalSeq + 1
        ∧ (s.join.figures.fire ≤ cookingCount s → autoFire t = t)
        ∧ Replaces f s t src ref (requeuedEntry src ref e b.priority lines s) .queued
            (bidFrame src ref.number b.gen))
    ∧ (e.state = .fired ∨ e.state = .revokedFired → (lines.filter KitchenLine.live).length ≠ 0 →
      ∃ t : State, exec (.award dest src ref (station s) m) s = .next t
        ∧ t.kitchen.arrivalSeq = s.kitchen.arrivalSeq
        ∧ Replaces f s t src ref (refiredEntry src ref e b.priority lines s) .fired
            (bidFrame src ref.number b.gen))
    ∧ ((lines.filter KitchenLine.live).length = 0 →
      ∃ t : State, exec (.award dest src ref (station s) m) s = .next t ∧ Refuses s (arrived f s) t src ref
        ∧ t.kitchen = { s.kitchen with entries := t.kitchen.entries }
        ∧ OnlyEntry s t { e with bid := none }) := by
  have hexec := exec_award_unheld h (fun x hx hxg => by rw [he] at hx; cases hx; exact absurd hxg hg) hp
  rw [unheldAward_bid ((entryOf_arrived _ s src ref.number).trans he) hg hnew hb hbg] at hexec
  obtain ⟨ho, hn⟩ := entryOf_name he
  have hcancel : cancelBidOf e (arrived ⟨dest, src, .award ref (station s) m⟩ s) = cancelFrames
      (bidFrame src ref.number b.gen) (arrived ⟨dest, src, .award ref (station s) m⟩ s) := by
    rw [cancelBidOf_of hb, ho, hn]
  refine ⟨fun hs hlive hnames => ?_, fun hs hlive => ?_, fun hdead => ?_⟩
  · rw [replaceEntry_requeues (anyLive_iff.2 hlive) hs] at hexec
    exact ⟨_, hexec, replaced_queued he hcancel hs hnames hc⟩
  · rw [replaceEntry_refires (anyLive_iff.2 hlive) hs] at hexec
    exact ⟨_, hexec, replaced_fired he hcancel hc⟩
  · rw [replaceEntry_refuses (anyLive_eq_false.2 hdead)] at hexec
    exact ⟨_, hexec, replacement_refused he hc⟩

/-- A lapsed-bid item at the awarded generation beside an entry without a bid (R92). -/
theorem award_lapsedBeside {s : State} {dest src : Nat} {ref : Ref} {m : Byte} {e : Entry} {l : Lapsed}
    (h : KitchenDelivers s ⟨dest, src, .award ref (station s) m⟩) (hc : CanSend s 1)
    (he : entryOf s src ref.number = some e) (hg : e.gen ≠ ref.gen) (hnew : newer e.gen ref.gen = false)
    (hb : e.bid = none) (hl : lapsedAt s src ref = some l) (hp : passAt s src ref = none) :
    let f : Frame := ⟨dest, src, .award ref (station s) m⟩
    let lines := maskLines m l.lines
    (e.state = .queued → (lines.filter KitchenLine.live).length ≠ 0 → UniqueNames s →
      ∃ t : State, exec (.award dest src ref (station s) m) s = .next (autoFire t)
        ∧ t.kitchen.arrivalSeq = s.kitchen.arrivalSeq + 1
        ∧ (s.join.figures.fire ≤ cookingCount s → autoFire t = t)
        ∧ Replaces f s t src ref (requeuedEntry src ref e l.priority lines s) .queued (fun _ => false))
    ∧ (e.state = .fired ∨ e.state = .revokedFired → (lines.filter KitchenLine.live).length ≠ 0 →
      ∃ t : State, exec (.award dest src ref (station s) m) s = .next t
        ∧ t.kitchen.arrivalSeq = s.kitchen.arrivalSeq
        ∧ Replaces f s t src ref (refiredEntry src ref e l.priority lines s) .fired (fun _ => false))
    ∧ ((lines.filter KitchenLine.live).length = 0 →
      ∃ t : State, exec (.award dest src ref (station s) m) s = .next t ∧ Refuses s (arrived f s) t src ref
        ∧ t.kitchen = { s.kitchen with entries := t.kitchen.entries } ∧ OnlyEntry s t e) := by
  have hexec := exec_award_unheld h (fun x hx hxg => by rw [he] at hx; cases hx; exact absurd hxg hg) hp
  rw [unheldAward_lapsed ((entryOf_arrived _ s src ref.number).trans he) hg hnew
    (fun b hbid => by rw [hb] at hbid; cases hbid) ((lapsedAt_arrived _ s src ref).trans hl)] at hexec
  have hcancel : cancelBidOf e (arrived ⟨dest, src, .award ref (station s) m⟩ s) = cancelFrames
      (fun _ => false) (arrived ⟨dest, src, .award ref (station s) m⟩ s) := by
    rw [cancelBidOf_none hb, cancelFrames_none fun _ => rfl]
  have hbare : { e with bid := none } = e := by rw [← hb]
  refine ⟨fun hs hlive hnames => ?_, fun hs hlive => ?_, fun hdead => ?_⟩
  · rw [replaceEntry_requeues (anyLive_iff.2 hlive) hs] at hexec
    exact ⟨_, hexec, replaced_queued he hcancel hs hnames hc⟩
  · rw [replaceEntry_refires (anyLive_iff.2 hlive) hs] at hexec
    exact ⟨_, hexec, replaced_fired he hcancel hc⟩
  · rw [replaceEntry_refuses (anyLive_eq_false.2 hdead)] at hexec
    obtain ⟨hrefuses, hk, honly⟩ := replacement_refused
      (f := ⟨dest, src, .award ref (station s) m⟩) he hc
    rw [hbare] at honly
    exact ⟨_, hexec, hrefuses, hk, honly⟩

/-- Without cancelled frames the waiting ones are those of the queue. -/
theorem Replaces.uncancelled {f : Frame} {s t : State} {src : Nat} {ref : Ref} {x : Entry}
    {k : KitchenState} (h : Replaces f s t src ref x k (fun _ => false)) :
    t.line = { (arrived f s).line with
      waiting := joinQueue (newItem s src (.progress ref k (liveMask x.lines)) false) s.line.waiting
      sending := s.line.sending.map (TxItem.disown fun _ => false) } := by
  obtain ⟨-, -, -, -, hline⟩ := h
  rw [filter_all] at hline
  exact hline

/-- Settles O48. -/
theorem awardsAreAnswered : Obligations.AwardsAreAnswered := by
  refine ⟨fun m lines => ⟨maskLines_items m lines, fun p l => maskLines_live⟩,
    fun s dest src ref m h hc => ⟨fun e b he hg hs hb hp => ⟨fun hlive hnames => ?_,
        fun hlive hnames hroom hnone hc2 hport => ?_, fun hdead => ?_⟩,
      fun l he hp hl => ⟨fun hlive hroom => ?_, fun hno => ?_⟩,
      fun e b he hg hnew hb hbg hp => ⟨fun hs hlive hnames => ?_, fun hs hlive => ?_, fun hdead => ?_⟩,
      fun e l he hg hnew hb hl hp => ⟨fun hs hlive hnames => ?_, fun hs hlive => ?_,
        fun hs hdead => ?_⟩,
      fun e he hg hnew hb hl hp => ?_, fun he hp hl => ?_, fun e he hp hg hnew => ?_,
      fun e he hg => ⟨fun hs => ?_, fun hs => ?_⟩, fun x he hp => ?_⟩,
    fun s dest src ref m => award_offLine, fun s dest src other ref m => award_elsewhere⟩
  · have hexec := exec_award_unheld h (fun x hx _ => by rw [he] at hx; cases hx; exact hs) hp
    rw [unheldAward_tentative ((entryOf_arrived _ s src ref.number).trans he) hg,
      acceptTentative_accepts (anyLive_iff.2 hlive)] at hexec
    exact ⟨_, hexec, tentative_accepted he hb hs hnames hc⟩
  · have hexec := exec_award_unheld h (fun x hx _ => by rw [he] at hx; cases hx; exact hs) hp
    rw [unheldAward_tentative ((entryOf_arrived _ s src ref.number).trans he) hg,
      acceptTentative_accepts (anyLive_iff.2 hlive)] at hexec
    have hfires := tentative_fires (f := ⟨dest, src, .award ref (station s) m⟩) (ref := ref)
      (lines := maskLines m e.lines) he hb hs hg hnames hroom hnone hc2 hport
    exact ⟨_, hexec, hfires⟩
  · have hexec := exec_award_unheld h (fun x hx _ => by rw [he] at hx; cases hx; exact hs) hp
    rw [unheldAward_tentative ((entryOf_arrived _ s src ref.number).trans he) hg,
      acceptTentative_refuses (anyLive_eq_false.2 hdead)] at hexec
    exact ⟨_, hexec, tentative_refused hc⟩
  · have hexec := exec_award_unheld h (fun x hx _ => by rw [he] at hx; cases hx) hp
    rw [unheldAward_noEntry ((entryOf_arrived _ s src ref.number).trans he)
      ((lapsedAt_arrived _ s src ref).trans hl),
      acceptLapsed_accepts (by rw [arrived_kitchen]; exact hroom) (anyLive_iff.2 hlive)] at hexec
    exact ⟨_, hexec, item_accepted hl hc⟩
  · have hexec := exec_award_unheld h (fun x hx _ => by rw [he] at hx; cases hx) hp
    rw [unheldAward_noEntry ((entryOf_arrived _ s src ref.number).trans he)
      ((lapsedAt_arrived _ s src ref).trans hl),
      acceptLapsed_refuses (by rw [arrived_kitchen, anyLive_eq_false]; exact hno)] at hexec
    exact ⟨_, hexec, refuses_stays hc⟩
  · obtain ⟨hqueued, -, -⟩ := award_replacementBid h hc he hg hnew hb hbg hp
    rw [requeuedEntry_eq b.priority (maskLines m b.lines) hs] at hqueued
    exact hqueued hs hlive hnames
  · obtain ⟨-, hfired, -⟩ := award_replacementBid h hc he hg hnew hb hbg hp
    exact hfired hs hlive
  · obtain ⟨-, -, hdeadly⟩ := award_replacementBid h hc he hg hnew hb hbg hp
    exact hdeadly hdead
  · obtain ⟨hqueued, -, -⟩ := award_lapsedBeside h hc he hg hnew hb hl hp
    obtain ⟨t, hexec, hseq, hfull, hrep⟩ := hqueued hs hlive hnames
    have hline := hrep.uncancelled
    rw [requeuedEntry_eq l.priority (maskLines m l.lines) hs, ← hb] at hrep
    obtain ⟨h1, h2, h3, h4, -⟩ := hrep
    exact ⟨t, hexec, hseq, hfull, h1, h2, h3, h4, hline⟩
  · obtain ⟨-, hfired, -⟩ := award_lapsedBeside h hc he hg hnew hb hl hp
    obtain ⟨t, hexec, hseq, hrep⟩ := hfired hs hlive
    have hline := hrep.uncancelled
    unfold refiredEntry at hrep
    rw [← hb] at hrep
    obtain ⟨h1, h2, h3, h4, -⟩ := hrep
    exact ⟨t, hexec, hseq, h1, h2, h3, h4, hline⟩
  · obtain ⟨-, -, hdeadly⟩ := award_lapsedBeside h hc he hg hnew hb hl hp
    exact hdeadly hdead
  · have hexec := exec_award_unheld h (fun x hx hxg => by rw [he] at hx; cases hx; exact absurd hxg hg) hp
    rw [unheldAward_nothing ((entryOf_arrived _ s src ref.number).trans he) hg hnew hb
      ((lapsedAt_arrived _ s src ref).trans hl)] at hexec
    exact ⟨_, hexec, refuses_stays hc⟩
  · have hexec := exec_award_unheld h (fun x hx _ => by rw [he] at hx; cases hx) hp
    rw [unheldAward_none ((entryOf_arrived _ s src ref.number).trans he)
      ((lapsedAt_arrived _ s src ref).trans hl)] at hexec
    exact ⟨_, hexec, refuses_stays hc⟩
  · have hexec := exec_award_unheld h (fun x hx hxg => by rw [he] at hx; cases hx; exact absurd hxg hg) hp
    rw [unheldAward_newer ((entryOf_arrived _ s src ref.number).trans he) hg hnew] at hexec
    exact hexec
  · have hexec := exec_awardHere h
    rw [awardHere_held ((entryOf_arrived _ s src ref.number).trans he) hg
      (by rcases hs with hs | hs <;> rw [hs] <;> nofun)] at hexec
    rcases hs with hs | hs
    · have hrepeat : ∀ v, repeatAnswer src ref e v = sendProgress src ref .queued (liveMask e.lines) v := by
        intro v
        unfold repeatAnswer
        rw [hs]
      rw [hrepeat] at hexec
      rw [if_pos hs]
      exact ⟨_, hexec, answers_of hc⟩
    · have hrepeat : ∀ v, repeatAnswer src ref e v = sendProgress src ref .fired (liveMask e.lines) v := by
        intro v
        unfold repeatAnswer
        rw [hs]
      rw [hrepeat] at hexec
      rw [if_neg (by rw [hs]; nofun)]
      exact ⟨_, hexec, answers_of hc⟩
  · have hexec := exec_awardHere h
    rw [awardHere_held ((entryOf_arrived _ s src ref.number).trans he) hg (by rw [hs]; nofun)] at hexec
    unfold repeatAnswer at hexec
    rw [hs] at hexec
    exact hexec
  · have hexec := exec_awardHere h
    rw [awardHere_pass ((entryOf_arrived _ s src ref.number).trans he)
      ((passAt_arrived _ s src ref).trans hp)] at hexec
    exact ⟨_, hexec, answers_of hc⟩

end Sys2Proof.Machine
end

section
-- One proof at a time: side by side, their threads' stacks outgrow the check's memory.
set_option Elab.async false
/-! The answers of the kitchen queue to a WITHDRAW (R102). -/

namespace Sys2Proof.Machine

/-! ## Lines -/

theorem clearLine_eq {p : Nat} {lines : List KitchenLine} {l : KitchenLine} (h : lines[p]? = some l) :
    clearLine p lines = lines.set p { l with live := false } := by
  refine List.ext_getElem? fun i => ?_
  unfold clearLine
  rw [List.getElem?_map, List.getElem?_zipIdx, List.getElem?_set]
  by_cases hi : p = i
  · subst hi
    have hlt : p < lines.length := (List.getElem?_eq_some_iff.1 h).1
    rw [h, if_pos rfl, if_pos hlt]
    simp
  · rw [if_neg hi, Option.map_map]
    cases lines[i]? with
    | none => rfl
    | some x => simp [Ne.symm hi]

/-- Some line at another position than `p` is live. -/
def OtherLive (p : Nat) (lines : List KitchenLine) : Prop :=
  ∃ (q : Nat) (x : KitchenLine), q ≠ p ∧ lines[q]? = some x ∧ x.live = true

theorem anyLive_clearLine {p : Nat} {lines : List KitchenLine} {l : KitchenLine}
    (h : lines[p]? = some l) : anyLive (clearLine p lines) = true ↔ OtherLive p lines := by
  rw [clearLine_eq h]
  unfold anyLive OtherLive
  rw [List.any_eq_true]
  constructor
  · rintro ⟨x, hx, hl⟩
    obtain ⟨q, hq⟩ := List.mem_iff_getElem?.1 hx
    rw [List.getElem?_set] at hq
    split at hq
    · split at hq
      · cases hq
        cases hl
      · cases hq
    · exact ⟨q, x, Ne.symm ‹_›, hq, hl⟩
  · rintro ⟨q, x, hne, hq, hl⟩
    refine ⟨x, List.mem_iff_getElem?.2 ⟨q, ?_⟩, hl⟩
    rw [List.getElem?_set_ne hne.symm, hq]

theorem anyLive_clearLine_false {p : Nat} {lines : List KitchenLine} {l : KitchenLine}
    (h : lines[p]? = some l) (hn : ¬ OtherLive p lines) : anyLive (clearLine p lines) = false :=
  Bool.eq_false_iff.2 fun ht => hn ((anyLive_clearLine h).1 ht)

/-! ## The rows of R102 -/

theorem exec_withdraw {s : State} {dest src p : Nat} {ref : Ref}
    (h : KitchenDelivers s ⟨dest, src, .withdraw ref p⟩) : exec (.withdraw dest src ref p) s
      = .next (kitchenWithdraw src ref p (arrived ⟨dest, src, .withdraw ref p⟩ s)) :=
  congrArg Host.Outcome.next (deliverFrame_atKitchen h _)

/-- The line withdrawn is one of a TENTATIVE or QUEUED entry (the first row). -/
theorem kitchenWithdraw_entry {s : State} {src p : Nat} {ref : Ref} {e : Entry}
    (he : entryOf s src ref.number = some e) (hg : e.gen = ref.gen)
    (hs : e.state = .tentative ∨ e.state = .queued) (hp : p < e.lines.length) :
    kitchenWithdraw src ref p s = replyWithdraw src ref p .removed (withdrawFromEntry e ref p s).2
      (withdrawFromEntry e ref p s).1 := by
  have hc : Entry.cooking e = false := by
    unfold Entry.cooking
    rcases hs with hs | hs <;> rw [hs] <;> rfl
  unfold kitchenWithdraw
  rw [he]
  exact if_pos ⟨hg, hc, hp⟩

/-- The line withdrawn is one of a replacement bid (the second row). -/
theorem kitchenWithdraw_bid {s : State} {src p : Nat} {ref : Ref} {e : Entry} {b : Bid}
    (he : entryOf s src ref.number = some e) (hg : e.gen ≠ ref.gen) (hs : e.state ≠ .tentative)
    (hb : e.bid = some b) (hbg : b.gen = ref.gen) (hp : p < b.lines.length) :
    kitchenWithdraw src ref p s = replyWithdraw src ref p .removed (withdrawFromBid e b p s).2
      (withdrawFromBid e b p s).1 := by
  unfold kitchenWithdraw
  rw [he]
  dsimp only
  rw [if_neg (fun h => hg h.1), hb]
  exact if_pos ⟨hs, hbg, hp⟩

/-- The queue or the pass holds the ticket with its food fired (the third row). -/
def heldFired (s : State) (src : Nat) (ref : Ref) : Bool :=
  (entryOf s src ref.number).any (fun e => e.gen == ref.gen && Entry.cooking e)
    || (passAt s src ref).isSome

/-- No line is withdrawn: FIRED or UNKNOWN is the answer (the last rows). -/
theorem kitchenWithdraw_other {s : State} {src p : Nat} {ref : Ref}
    (h : ∀ e : Entry, entryOf s src ref.number = some e →
      ¬(e.gen = ref.gen ∧ Entry.cooking e = false ∧ p < e.lines.length)
        ∧ ∀ b : Bid, e.bid = some b → ¬(e.state ≠ .tentative ∧ b.gen = ref.gen ∧ p < b.lines.length)) :
    kitchenWithdraw src ref p s
      = replyWithdraw src ref p (if heldFired s src ref then .fired else .unknown) false s := by
  unfold kitchenWithdraw heldFired
  cases he : entryOf s src ref.number with
  | none => exact (apply_ite (fun o => replyWithdraw src ref p o false s) _ _ _).symm
  | some e =>
    obtain ⟨h1, h2⟩ := h e he
    dsimp only
    rw [if_neg h1]
    cases hb : e.bid with
    | none => exact (apply_ite (fun o => replyWithdraw src ref p o false s) _ _ _).symm
    | some b =>
      dsimp only
      rw [if_neg (h2 b hb)]
      exact (apply_ite (fun o => replyWithdraw src ref p o false s) _ _ _).symm

/-! ## The reply -/

theorem replyWithdraw_of {s : State} {src p : Nat} {ref : Ref} {o : WithdrawOutcome} {empty : Bool}
    (hc : CanSend s 1) : replyWithdraw src ref p o empty s = { s with line := { s.line with
      waiting := joinQueue (newItem s src (.withdrawReply ref p o empty) false) s.line.waiting } } :=
  offerFrame_of_free hc.1 hc.2

theorem replyWithdraw_dropped {s : State} {src p : Nat} {ref : Ref} {o : WithdrawOutcome} {empty : Bool}
    (hf : freeTx s = 0) : replyWithdraw src ref p o empty s = s :=
  (offerFrame_of_dropped (.inr hf)).trans (frameEnded_of_no_wait rfl s)

/-- What a reply adds to a state that differs from the delivery's in its entries and notices. -/
theorem withdrawReplies {f : Frame} {s w : State} {src p : Nat} {ref : Ref} {o : WithdrawOutcome}
    {empty : Bool} (hc : CanSend s 1)
    (hw : w = { arrived f s with kitchen := { s.kitchen with entries := w.kitchen.entries },
                                 notices := w.notices, overflow := w.overflow, link := w.link }) :
    let t := replyWithdraw src ref p o empty w
    t = { arrived f s with kitchen := { s.kitchen with entries := t.kitchen.entries }, line := t.line,
                           notices := t.notices, overflow := t.overflow, link := t.link }
      ∧ Sends (arrived f s) t src (.withdrawReply ref p o empty) false
      ∧ t.kitchen.entries = w.kitchen.entries
      ∧ t.notices = w.notices ∧ t.overflow = w.overflow ∧ t.link = w.link := by
  have hcan : CanSend w 1 := by
    rw [hw]
    exact canSend_arrived hc f
  dsimp only
  rw [replyWithdraw_of hcan]
  refine ⟨?_, ?_, rfl, rfl, rfl, rfl⟩
  · rw [hw]
  · rw [hw]
    rfl

/-- A reply alone. -/
theorem quietReply {f : Frame} {s : State} {src p : Nat} {ref : Ref} {o : WithdrawOutcome}
    (hc : CanSend s 1) :
    let t := replyWithdraw src ref p o false (arrived f s)
    t = { arrived f s with line := t.line }
      ∧ Sends (arrived f s) t src (.withdrawReply ref p o false) false := by
  dsimp only
  rw [replyWithdraw_of (canSend_arrived hc f)]
  exact ⟨rfl, rfl⟩

/-! ## A line of an entry -/

/-- LINE-WITHDRAWN follows for a line whose live flag was set. -/
def noteWithdrawn (was : Bool) (src : Nat) (ref : Ref) (p : Nat) (s : State) : State :=
  if was then notify (.lineWithdrawn src ref p) s else s

theorem noteWithdrawn_frame (was : Bool) (src : Nat) (ref : Ref) (p : Nat) (s : State) :
    noteWithdrawn was src ref p s = { s with
      notices := (noteWithdrawn was src ref p s).notices
      overflow := (noteWithdrawn was src ref p s).overflow
      link := (noteWithdrawn was src ref p s).link } := by
  cases was with
  | true => exact notify_frame _ s
  | false => rfl

/-- What the delivery and the notice of a withdrawn line leave in the notices. -/
def ToldWithdrawn (s t : State) (was : Bool) (src : Nat) (ref : Ref) (p : Nat) : Prop :=
  if was then Notified s t (.lineWithdrawn src ref p)
  else t.notices = s.notices ∧ t.overflow = s.overflow ∧ t.link = s.link

theorem toldWithdrawn_noteWithdrawn {f : Frame} {s t : State} {was : Bool} {src p : Nat} {ref : Ref}
    (hn : t.notices = (noteWithdrawn was src ref p (arrived f s)).notices)
    (ho : t.overflow = (noteWithdrawn was src ref p (arrived f s)).overflow)
    (hl : t.link = (noteWithdrawn was src ref p (arrived f s)).link) :
    ToldWithdrawn s t was src ref p := by
  cases was with
  | true =>
    obtain ⟨⟨h1, h2⟩, h3⟩ := notified_notify (.lineWithdrawn src ref p)
      (arrived_notices f s) (arrived_overflow f s) (arrived_link f s) (arrived_clock f s)
    exact ⟨⟨hn.trans h1, ho.trans h2⟩, hl.trans h3⟩
  | false =>
    exact ⟨hn.trans (arrived_notices f s), ho.trans (arrived_overflow f s), hl.trans (arrived_link f s)⟩

/-- The entry keeps its other lines. -/
def lineCleared (e : Entry) (ref : Ref) (p : Nat) (l : KitchenLine) (s : State) : State :=
  updEntry e.origin e.number (fun x => { x with lines := e.lines.set p { l with live := false } })
    (noteWithdrawn l.live e.origin ref p s)

theorem withdrawFromEntry_kept {s : State} {e : Entry} {ref : Ref} {p : Nat} {l : KitchenLine}
    (hl : e.lines[p]? = some l) (ho : OtherLive p e.lines) :
    withdrawFromEntry e ref p s = (lineCleared e ref p l s, false) := by
  unfold withdrawFromEntry
  dsimp only
  rw [if_pos ((anyLive_clearLine hl).2 ho), clearLine_eq hl, hl]
  rfl

theorem withdrawFromEntry_emptied {s : State} {e : Entry} {ref : Ref} {p : Nat} {l : KitchenLine}
    (hl : e.lines[p]? = some l) (ho : ¬ OtherLive p e.lines) : withdrawFromEntry e ref p s
      = (autoFire (dropEntry e.origin e.number (noteWithdrawn l.live e.origin ref p s)), true) := by
  unfold withdrawFromEntry
  dsimp only
  rw [if_neg (by rw [anyLive_clearLine_false hl ho]; decide), hl]
  rfl

theorem withdrawFromBid_kept {s : State} {e : Entry} {b : Bid} {p : Nat} {l : KitchenLine}
    (hl : b.lines[p]? = some l) (ho : OtherLive p b.lines) : withdrawFromBid e b p s
      = (updEntry e.origin e.number (fun x => { x with
          bid := some { b with lines := b.lines.set p { l with live := false } } }) s, false) := by
  unfold withdrawFromBid
  dsimp only
  rw [if_pos ((anyLive_clearLine hl).2 ho), clearLine_eq hl]

theorem withdrawFromBid_emptied {s : State} {e : Entry} {b : Bid} {p : Nat} {l : KitchenLine}
    (hl : b.lines[p]? = some l) (ho : ¬ OtherLive p b.lines) : withdrawFromBid e b p s
      = (updEntry e.origin e.number (fun x => { x with bid := none }) s, true) := by
  unfold withdrawFromBid
  dsimp only
  rw [if_neg (by rw [anyLive_clearLine_false hl ho]; decide)]

/-! ## What a WITHDRAW does, row by row -/

/-- A WITHDRAW changed entries of the queue alone, and was answered. -/
def WithdrawReplied (f : Frame) (s t : State) (src p : Nat) (ref : Ref) (o : WithdrawOutcome)
    (empty : Bool) : Prop :=
  t = { arrived f s with kitchen := { s.kitchen with entries := t.kitchen.entries }, line := t.line,
                         notices := t.notices, overflow := t.overflow, link := t.link }
    ∧ Sends (arrived f s) t src (.withdrawReply ref p o empty) false

theorem updEntry_frame (o n : Nat) (f : Entry → Entry) (s : State) :
    updEntry o n f s = { s with kitchen := { s.kitchen with
      entries := (updEntry o n f s).kitchen.entries } } := rfl

theorem updEntry_entries_congr {s t : State} (h : t.kitchen = s.kitchen) (o n : Nat) (f : Entry → Entry) :
    (updEntry o n f t).kitchen.entries = (updEntry o n f s).kitchen.entries := by
  unfold updEntry
  rw [h]

/-- A line of a TENTATIVE or QUEUED entry goes, and another stays live. -/
theorem withdraw_line {s : State} {dest src p : Nat} {ref : Ref} {e : Entry} {l : KitchenLine}
    (h : KitchenDelivers s ⟨dest, src, .withdraw ref p⟩) (hc : CanSend s 1)
    (he : entryOf s src ref.number = some e) (hg : e.gen = ref.gen)
    (hs : e.state = .tentative ∨ e.state = .queued) (hl : e.lines[p]? = some l)
    (ho : OtherLive p e.lines) :
    ∃ t : State, exec (.withdraw dest src ref p) s = .next t
      ∧ WithdrawReplied ⟨dest, src, .withdraw ref p⟩ s t src p ref .removed false
      ∧ ToldWithdrawn s t l.live src ref p
      ∧ OnlyEntry s t { e with lines := e.lines.set p { l with live := false } } := by
  have he' := (entryOf_arrived ⟨dest, src, .withdraw ref p⟩ s src ref.number).trans he
  have hlt : p < e.lines.length := (List.getElem?_eq_some_iff.1 hl).1
  have hx := exec_withdraw h
  rw [kitchenWithdraw_entry he' hg hs hlt, withdrawFromEntry_kept hl ho] at hx
  obtain ⟨rfl, hn⟩ := entryOf_name he
  have hframe := noteWithdrawn_frame l.live e.origin ref p (arrived ⟨dest, e.origin, .withdraw ref p⟩ s)
  have hk : (noteWithdrawn l.live e.origin ref p
      (arrived ⟨dest, e.origin, .withdraw ref p⟩ s)).kitchen = s.kitchen :=
    (congrArg State.kitchen hframe :).trans (arrived_kitchen _ s)
  have hw : lineCleared e ref p l (arrived ⟨dest, e.origin, .withdraw ref p⟩ s)
      = { arrived ⟨dest, e.origin, .withdraw ref p⟩ s with
          kitchen := { s.kitchen with
            entries := (lineCleared e ref p l
              (arrived ⟨dest, e.origin, .withdraw ref p⟩ s)).kitchen.entries }
          notices := (lineCleared e ref p l (arrived ⟨dest, e.origin, .withdraw ref p⟩ s)).notices
          overflow := (lineCleared e ref p l (arrived ⟨dest, e.origin, .withdraw ref p⟩ s)).overflow
          link := (lineCleared e ref p l (arrived ⟨dest, e.origin, .withdraw ref p⟩ s)).link } := by
    unfold lineCleared
    rw [updEntry_frame, hk]
    rw [hframe]
  obtain ⟨h1, h2, hent, hnot, hov, hlink⟩ := withdrawReplies (src := e.origin) (p := p) (ref := ref)
    (o := .removed) (empty := false) hc hw
  refine ⟨_, hx, ⟨h1, h2⟩, toldWithdrawn_noteWithdrawn hnot hov hlink, ?_⟩
  rw [← hn] at he
  exact (onlyEntry_updEntry (f := fun x => { x with lines := e.lines.set p { l with live := false } })
    (fun _ => ⟨rfl, rfl⟩) he).congr rfl (hent.trans (updEntry_entries_congr hk _ _ _))

/-- The last live line of a TENTATIVE or QUEUED entry goes, and the entry with it. -/
theorem withdraw_lastLine {s : State} {dest src p : Nat} {ref : Ref} {e : Entry} {l : KitchenLine}
    (h : KitchenDelivers s ⟨dest, src, .withdraw ref p⟩)
    (he : entryOf s src ref.number = some e) (hg : e.gen = ref.gen)
    (hs : e.state = .tentative ∨ e.state = .queued) (hl : e.lines[p]? = some l)
    (ho : ¬ OtherLive p e.lines) :
    let s' := arrived ⟨dest, src, .withdraw ref p⟩ s
    ∃ u t : State, exec (.withdraw dest src ref p) s = .next t
      ∧ u = { s' with kitchen := WithoutEntry s src ref.number, notices := u.notices
                      overflow := u.overflow, link := u.link }
      ∧ ToldWithdrawn s u l.live src ref p
      ∧ (CanSend (autoFire u) 1 → t = { autoFire u with line := t.line }
        ∧ Sends (autoFire u) t src (.withdrawReply ref p .removed true) false)
      ∧ (freeTx (autoFire u) = 0 → t = autoFire u)
      ∧ ((∀ x : Entry, x ∈ s.kitchen.entries → x.state = .queued →
          x.origin = src ∧ x.number = ref.number) → autoFire u = u) := by
  have he' := (entryOf_arrived ⟨dest, src, .withdraw ref p⟩ s src ref.number).trans he
  have hlt : p < e.lines.length := (List.getElem?_eq_some_iff.1 hl).1
  have hx := exec_withdraw h
  rw [kitchenWithdraw_entry he' hg hs hlt, withdrawFromEntry_emptied hl ho] at hx
  obtain ⟨hsrc, hn⟩ := entryOf_name he
  rw [hsrc, hn] at hx
  have hframe := noteWithdrawn_frame l.live src ref p (arrived ⟨dest, src, .withdraw ref p⟩ s)
  have hk : (noteWithdrawn l.live src ref p
      (arrived ⟨dest, src, .withdraw ref p⟩ s)).kitchen = s.kitchen :=
    (congrArg State.kitchen hframe :).trans (arrived_kitchen _ s)
  have hu := dropEntry_eq src ref.number
    (noteWithdrawn l.live src ref p (arrived ⟨dest, src, .withdraw ref p⟩ s))
  rw [withoutEntry_congr hk] at hu
  refine ⟨dropEntry src ref.number
    (noteWithdrawn l.live src ref p (arrived ⟨dest, src, .withdraw ref p⟩ s)), _, hx, ?_,
    toldWithdrawn_noteWithdrawn (f := ⟨dest, src, .withdraw ref p⟩) rfl rfl rfl, fun hc => ?_, fun hf => ?_,
    fun hidle => ?_⟩
  · rw [hu, hframe]
  · rw [replyWithdraw_of hc]
    exact ⟨rfl, rfl⟩
  · exact replyWithdraw_dropped hf
  · refine autoFire_of_none (nextToFire_eq_none.2 fun x hmem hq => ?_)
    rw [hu] at hmem
    obtain ⟨hin, hne⟩ := mem_withoutEntry.1 hmem
    obtain ⟨h1, h2⟩ := hidle x hin hq
    exact hne.elim (fun h => h h1) fun h => h h2

/-- A line of a replacement bid goes: the bid stays while another of its lines is live. -/
theorem withdraw_bidLine {s : State} {dest src p : Nat} {ref : Ref} {e : Entry} {b : Bid}
    {l : KitchenLine} (h : KitchenDelivers s ⟨dest, src, .withdraw ref p⟩) (hc : CanSend s 1)
    (he : entryOf s src ref.number = some e) (hg : e.gen ≠ ref.gen) (hs : e.state ≠ .tentative)
    (hb : e.bid = some b) (hbg : b.gen = ref.gen) (hl : b.lines[p]? = some l) :
    (OtherLive p b.lines →
      ∃ t : State, exec (.withdraw dest src ref p) s = .next t
        ∧ WithdrawReplied ⟨dest, src, .withdraw ref p⟩ s t src p ref .removed false
        ∧ ToldWithdrawn s t false src ref p
        ∧ OnlyEntry s t { e with
            bid := some { b with lines := b.lines.set p { l with live := false } } })
    ∧ (¬OtherLive p b.lines →
      ∃ t : State, exec (.withdraw dest src ref p) s = .next t
        ∧ WithdrawReplied ⟨dest, src, .withdraw ref p⟩ s t src p ref .removed true
        ∧ ToldWithdrawn s t false src ref p
        ∧ OnlyEntry s t { e with bid := none }) := by
  have he' := (entryOf_arrived ⟨dest, src, .withdraw ref p⟩ s src ref.number).trans he
  have hlt : p < b.lines.length := (List.getElem?_eq_some_iff.1 hl).1
  have hx := exec_withdraw h
  rw [kitchenWithdraw_bid he' hg hs hb hbg hlt] at hx
  obtain ⟨rfl, hn⟩ := entryOf_name he
  rw [← hn] at he
  have hk := arrived_kitchen ⟨dest, e.origin, .withdraw ref p⟩ s
  have changed : ∀ (g : Entry → Entry) (empty : Bool),
      (∀ x, (g x).origin = x.origin ∧ (g x).number = x.number) →
      let f : Frame := ⟨dest, e.origin, .withdraw ref p⟩
      let t := replyWithdraw e.origin ref p .removed empty (updEntry e.origin e.number g (arrived f s))
      WithdrawReplied f s t e.origin p ref .removed empty ∧ ToldWithdrawn s t false e.origin ref p
        ∧ OnlyEntry s t (g e) := by
    intro g empty hname f t
    have hw : updEntry e.origin e.number g (arrived f s) = { arrived f s with
        kitchen := { s.kitchen with
          entries := (updEntry e.origin e.number g (arrived f s)).kitchen.entries }
        notices := (updEntry e.origin e.number g (arrived f s)).notices
        overflow := (updEntry e.origin e.number g (arrived f s)).overflow
        link := (updEntry e.origin e.number g (arrived f s)).link } := by
      rw [updEntry_frame, hk]
    obtain ⟨h1, h2, hent, hnot, hov, hlink⟩ := withdrawReplies (src := e.origin) (p := p) (ref := ref)
      (o := .removed) (empty := empty) hc hw
    exact ⟨⟨h1, h2⟩, toldWithdrawn_noteWithdrawn hnot hov hlink,
      (onlyEntry_updEntry hname he).congr rfl (hent.trans (updEntry_entries_congr hk _ _ _))⟩
  refine ⟨fun ho => ⟨_, ?_, changed (fun x => { x with
    bid := some { b with lines := b.lines.set p { l with live := false } } }) false
      fun _ => ⟨rfl, rfl⟩⟩, fun ho => ⟨_, ?_, changed (fun x => { x with bid := none }) true
      fun _ => ⟨rfl, rfl⟩⟩⟩
  · rw [hx, withdrawFromBid_kept hl ho]
  · rw [hx, withdrawFromBid_emptied hl ho]

/-- A WITHDRAW that finds no line to withdraw is answered FIRED or UNKNOWN. -/
theorem withdraw_other {s : State} {dest src p : Nat} {ref : Ref} {o : WithdrawOutcome}
    (h : KitchenDelivers s ⟨dest, src, .withdraw ref p⟩) (hc : CanSend s 1)
    (ho : (if heldFired s src ref then WithdrawOutcome.fired else .unknown) = o)
    (hno : ∀ e : Entry, entryOf s src ref.number = some e →
      ¬(e.gen = ref.gen ∧ Entry.cooking e = false ∧ p < e.lines.length)
        ∧ ∀ b : Bid, e.bid = some b → ¬(e.state ≠ .tentative ∧ b.gen = ref.gen ∧ p < b.lines.length)) :
    let s' := arrived ⟨dest, src, .withdraw ref p⟩ s
    ∃ t : State, exec (.withdraw dest src ref p) s = .next t
      ∧ t = { s' with line := t.line } ∧ Sends s' t src (.withdrawReply ref p o false) false := by
  refine ⟨_, ?_, quietReply hc⟩
  rw [exec_withdraw h, kitchenWithdraw_other]
  · unfold heldFired at ho ⊢
    rw [entryOf_arrived, passAt_arrived, ho]
  · rw [entryOf_arrived]
    exact hno

/-- What a WITHDRAW that names an entry of another generation finds. -/
theorem heldFired_eq_pass {s : State} {src : Nat} {ref : Ref}
    (h : ∀ e : Entry, entryOf s src ref.number = some e → e.gen ≠ ref.gen ∨ Entry.cooking e = false) :
    heldFired s src ref = (passAt s src ref).isSome := by
  unfold heldFired
  cases he : entryOf s src ref.number with
  | none => rfl
  | some e =>
    rcases h e he with hg | hk
    · rw [Option.any_some, beq_eq_false_iff_ne.2 hg]
      rfl
    · rw [Option.any_some, hk, Bool.and_false, Bool.false_or]

theorem heldFired_of_cooking {s : State} {src : Nat} {ref : Ref} {e : Entry}
    (he : entryOf s src ref.number = some e) (hg : e.gen = ref.gen) (hk : Entry.cooking e = true) :
    heldFired s src ref = true := by
  unfold heldFired
  rw [he, Option.any_some, hk, hg, beq_self_eq_true]
  rfl

/-- The pass alone decides between FIRED and UNKNOWN. -/
theorem withdraw_byPass {s : State} {dest src p : Nat} {ref : Ref}
    (h : KitchenDelivers s ⟨dest, src, .withdraw ref p⟩) (hc : CanSend s 1)
    (hkeep : ∀ e : Entry, entryOf s src ref.number = some e → e.gen ≠ ref.gen ∨ Entry.cooking e = false)
    (hno : ∀ e : Entry, entryOf s src ref.number = some e →
      ¬(e.gen = ref.gen ∧ Entry.cooking e = false ∧ p < e.lines.length)
        ∧ ∀ b : Bid, e.bid = some b → ¬(e.state ≠ .tentative ∧ b.gen = ref.gen ∧ p < b.lines.length)) :
    let s' := arrived ⟨dest, src, .withdraw ref p⟩ s
    (∀ x : PassEntry, passAt s src ref = some x →
      ∃ t : State, exec (.withdraw dest src ref p) s = .next t
        ∧ t = { s' with line := t.line } ∧ Sends s' t src (.withdrawReply ref p .fired false) false)
    ∧ (passAt s src ref = none →
      ∃ t : State, exec (.withdraw dest src ref p) s = .next t
        ∧ t = { s' with line := t.line }
        ∧ Sends s' t src (.withdrawReply ref p .unknown false) false) := by
  refine ⟨fun x hx => withdraw_other h hc ?_ hno, fun hx => withdraw_other h hc ?_ hno⟩
  · rw [heldFired_eq_pass hkeep, hx]
    rfl
  · rw [heldFired_eq_pass hkeep, hx]
    rfl

end Sys2Proof.Machine
end

section
-- One proof at a time: side by side, their threads' stacks outgrow the check's memory.
set_option Elab.async false
/-! What a REVOKE does at the kitchen queue (R103). -/

namespace Sys2Proof.Machine

/-- The pass list and the lapsed-bid items that a REVOKE leaves. -/
def revokedPass (s : State) (src : Nat) (ref : Ref) : List PassEntry :=
  if passAt s src ref = none then s.kitchen.pass
  else s.kitchen.pass.filter fun x => x.origin != src || x.number != ref.number

def revokedLapsed (s : State) (src : Nat) (ref : Ref) : List Lapsed :=
  if lapsedAt s src ref = none then s.kitchen.lapsed
  else s.kitchen.lapsed.filter fun x => x.origin != src || x.number != ref.number

/-- What the queue did of a REVOKE, with the pass entry and the lapsed-bid item gone. -/
def unlisted (s : State) (src : Nat) (ref : Ref) (t : State) : State :=
  { t with kitchen := { t.kitchen with pass := revokedPass s src ref, lapsed := revokedLapsed s src ref } }

/-! ## The queue keeps the pass list and the lapsed-bid items -/

/-- The two lists of a kitchen besides its queue. -/
def sideLists (s : State) : List PassEntry × List Lapsed := (s.kitchen.pass, s.kitchen.lapsed)

theorem sideLists_notify (b : NoticeBody) (s : State) : sideLists (notify b s) = sideLists s := by
  rw [notify_frame]
  rfl

theorem sideLists_autoFire (s : State) : sideLists (autoFire s) = sideLists s :=
  fireUpTo_keeps (g := sideLists)
    (fun e s => Prod.ext (fireEntry_lists e s).2 (fireEntry_lists e s).1) _ _ s

theorem sideLists_cancelBidOf (e : Entry) (s : State) : sideLists (cancelBidOf e s) = sideLists s := by
  unfold cancelBidOf
  split <;> rfl

theorem sideLists_removeBid (e : Entry) (s : State) : sideLists (removeBid e s) = sideLists s := by
  unfold removeBid
  split <;> rfl

theorem sideLists_revokeEntry (e : Entry) (ref : Ref) (s : State) :
    sideLists (revokeEntry e ref s) = sideLists s := by
  unfold revokeEntry
  cases e.state with
  | tentative => exact (sideLists_notify _ _).trans (sideLists_cancelBidOf e s)
  | queued =>
    dsimp only
    rw [sideLists_autoFire, sideLists_notify]
    cases e.bid <;> rfl
  | fired => exact sideLists_notify _ _
  | revokedFired => rfl

theorem sideLists_revokeQueue (src : Nat) (ref : Ref) (s : State) :
    sideLists (revokeQueue src ref s) = sideLists s := by
  unfold revokeQueue
  cases entryOf s src ref.number with
  | none => rfl
  | some e =>
    dsimp only
    split
    · exact sideLists_revokeEntry e ref s
    · cases bidAt s src ref with
      | none => rfl
      | some x => exact (sideLists_removeBid _ _).trans (sideLists_cancelBidOf _ s)

/-! ## The rows of R103 -/

/-- The pass list after its step of a REVOKE. -/
theorem pass_step {s w : State} {src : Nat} {ref : Ref} (h : w.kitchen.pass = s.kitchen.pass) :
    (if (passAt w src ref).isSome then dropPass src ref.number w else w)
      = { w with kitchen := { w.kitchen with pass := revokedPass s src ref } } := by
  have hat : passAt w src ref = passAt s src ref := by
    unfold passAt
    rw [h]
  unfold revokedPass
  rw [hat]
  cases passAt s src ref with
  | none =>
    rw [if_pos rfl, ← h]
    rfl
  | some x =>
    rw [if_neg (Option.some_ne_none x), ← pass_filter, ← h]
    rfl

/-- The lapsed-bid items after their step of a REVOKE. -/
theorem lapsed_step {s w : State} {src : Nat} {ref : Ref} (h : w.kitchen.lapsed = s.kitchen.lapsed) :
    (if (lapsedAt w src ref).isSome then dropLapsed src ref.number w else w)
      = { w with kitchen := { w.kitchen with lapsed := revokedLapsed s src ref } } := by
  unfold revokedLapsed
  rw [lapsedAt_congr h]
  cases lapsedAt s src ref with
  | none =>
    rw [if_pos rfl, ← h]
    rfl
  | some x =>
    rw [if_neg (Option.some_ne_none x), ← lapsed_filter, ← h]
    rfl

/-- A REVOKE acts on the queue, and then takes the pass entry and the lapsed-bid item (R103). -/
theorem kitchenRevoke_eq (src : Nat) (ref : Ref) (s : State) :
    kitchenRevoke src ref s = unlisted s src ref (revokeQueue src ref s) := by
  obtain ⟨hp, hl⟩ := Prod.mk.inj (sideLists_revokeQueue src ref s)
  unfold kitchenRevoke
  dsimp only
  rw [pass_step hp, lapsed_step (s := s) (by exact hl)]
  rfl

theorem exec_revoke {s : State} {dest src : Nat} {ref : Ref}
    (h : KitchenDelivers s ⟨dest, src, .revoke ref⟩) : exec (.revoke dest src ref) s
      = .next (unlisted s src ref (revokeQueue src ref (arrived ⟨dest, src, .revoke ref⟩ s))) := by
  refine congrArg Host.Outcome.next ((deliverFrame_atKitchen h _).trans ?_)
  rw [kitchenRevoke_eq]
  unfold unlisted revokedPass revokedLapsed
  rw [passAt_arrived, lapsedAt_arrived, arrived_kitchen]

theorem revokeQueue_entry {s : State} {src : Nat} {ref : Ref} {e : Entry}
    (he : entryOf s src ref.number = some e) (hg : e.gen = ref.gen) :
    revokeQueue src ref s = revokeEntry e ref s := by
  unfold revokeQueue
  rw [he]
  exact if_pos hg

theorem revokeQueue_bid {s : State} {src : Nat} {ref : Ref} {e : Entry} {b : Bid}
    (he : entryOf s src ref.number = some e) (hg : e.gen ≠ ref.gen) (hb : e.bid = some b)
    (hbg : b.gen = ref.gen) : revokeQueue src ref s
      = removeBid e (cancelFrames (bidFrame src ref.number b.gen) s) := by
  unfold revokeQueue
  rw [he]
  dsimp only
  rw [if_neg hg, bidAt_of he hb hbg]
  dsimp only
  obtain ⟨ho, hn⟩ := entryOf_name he
  rw [cancelBidOf_of hb, ho, hn]

/-- Neither the entry nor its bid is of the generation named. -/
theorem revokeQueue_nothing {s : State} {src : Nat} {ref : Ref}
    (h : ∀ e : Entry, entryOf s src ref.number = some e →
      e.gen ≠ ref.gen ∧ ∀ b : Bid, e.bid = some b → b.gen ≠ ref.gen) : revokeQueue src ref s = s := by
  unfold revokeQueue
  cases he : entryOf s src ref.number with
  | none => rfl
  | some e =>
    obtain ⟨hg, hb⟩ := h e he
    dsimp only
    rw [if_neg hg, bidAt_of_other he hb]

theorem revokeEntry_tentative {s : State} {e : Entry} {b : Bid} {ref : Ref} (hs : e.state = .tentative)
    (hb : e.bid = some b) : revokeEntry e ref s = notify (.revoked e.origin ref .revoke)
      (dropEntry e.origin e.number (cancelFrames (bidFrame e.origin e.number b.gen) s)) := by
  unfold revokeEntry
  rw [hs]
  dsimp only
  rw [cancelBidOf_of hb]

theorem revokeEntry_queued {s : State} {e : Entry} {ref : Ref} (hs : e.state = .queued)
    (hb : e.bid = none) : revokeEntry e ref s = autoFire (notify (.revoked e.origin ref .revoke)
      (dropEntry e.origin e.number s)) := by
  unfold revokeEntry
  rw [hs, hb]

/-- A QUEUED entry whose ticket is revoked becomes the TENTATIVE entry of its replacement bid. -/
def revokedToBid (b : Bid) (e : Entry) : Entry :=
  { e with
    state := .tentative, gen := b.gen, priority := b.priority, band := b.priority
    lines := b.lines, arrival := none, warn := false, late := false
    bid := some { b with lines := [] } }

theorem revokeEntry_replaced {s : State} {e : Entry} {b : Bid} {ref : Ref} (hs : e.state = .queued)
    (hb : e.bid = some b) : revokeEntry e ref s = autoFire (notify (.revoked e.origin ref .revoke)
      (updEntry e.origin e.number (revokedToBid b) s)) := by
  unfold revokeEntry
  rw [hs, hb]
  rfl

theorem revokeEntry_fired {s : State} {e : Entry} {ref : Ref} (hs : e.state = .fired) :
    revokeEntry e ref s = notify (.revokedWhileFired e.origin ref .revoke)
      (updEntry e.origin e.number (fun e => { e with state := .revokedFired }) s) := by
  unfold revokeEntry
  rw [hs]

theorem revokeEntry_revokedFired {s : State} {e : Entry} {ref : Ref} (hs : e.state = .revokedFired) :
    revokeEntry e ref s = s := by
  unfold revokeEntry
  rw [hs]

/-! ## What a REVOKE does, row by row -/

/-- A REVOKE changed entries of the queue, and the lists it may change. -/
def RevokeChanged (f : Frame) (s t : State) (src : Nat) (ref : Ref) : Prop :=
  t = { arrived f s with
    kitchen := { s.kitchen with
      entries := t.kitchen.entries, pass := revokedPass s src ref, lapsed := revokedLapsed s src ref }
    line := t.line, notices := t.notices, overflow := t.overflow, link := t.link }

theorem revokeChanged_of {f : Frame} {s w : State} {src : Nat} {ref : Ref}
    (hw : w = { arrived f s with
      kitchen := { s.kitchen with entries := w.kitchen.entries }
      line := w.line, notices := w.notices, overflow := w.overflow, link := w.link }) :
    RevokeChanged f s (unlisted s src ref w) src ref := by
  unfold RevokeChanged unlisted
  rw [hw]

/-- The notice that a REVOKE queues, over any change of entries. -/
theorem notified_revoke {f : Frame} {s w : State} (b : NoticeBody)
    (hw : w = { arrived f s with kitchen := w.kitchen, line := w.line }) :
    Notified s (notify b w) b := by
  refine notified_notify b ?_ ?_ ?_ ?_
  · rw [hw]
    exact arrived_notices f s
  · rw [hw]
    exact arrived_overflow f s
  · rw [hw]
    exact arrived_link f s
  · rw [hw]
    exact arrived_clock f s

theorem revokeChanged_notify {f : Frame} {s w : State} {src : Nat} {ref : Ref} (b : NoticeBody)
    (hw : w = { arrived f s with
      kitchen := { s.kitchen with entries := w.kitchen.entries }, line := w.line }) :
    RevokeChanged f s (unlisted s src ref (notify b w)) src ref := by
  refine revokeChanged_of ?_
  rw [notify_frame]
  dsimp only
  rw [hw]

/-- A FIRED entry becomes REVOKED-FIRED. -/
theorem revoke_fired {s : State} {dest src : Nat} {ref : Ref} {e : Entry}
    (h : KitchenDelivers s ⟨dest, src, .revoke ref⟩) (he : entryOf s src ref.number = some e)
    (hg : e.gen = ref.gen) (hs : e.state = .fired) :
    ∃ t : State, exec (.revoke dest src ref) s = .next t
      ∧ RevokeChanged ⟨dest, src, .revoke ref⟩ s t src ref
      ∧ t.line = (arrived ⟨dest, src, .revoke ref⟩ s).line
      ∧ OnlyEntry s t { e with state := .revokedFired }
      ∧ Notified s t (.revokedWhileFired src ref .revoke) := by
  have hx := exec_revoke h
  rw [revokeQueue_entry ((entryOf_arrived _ s _ _).trans he) hg, revokeEntry_fired hs] at hx
  obtain ⟨rfl, hn⟩ := entryOf_name he
  rw [← hn] at he
  have hk := arrived_kitchen ⟨dest, e.origin, .revoke ref⟩ s
  have hw : updEntry e.origin e.number (fun e => { e with state := .revokedFired })
      (arrived ⟨dest, e.origin, .revoke ref⟩ s) = _ := updEntry_frame _ _ _ _
  rw [hk] at hw
  refine ⟨_, hx, revokeChanged_notify _ hw, ?_, ?_, notified_revoke _ rfl⟩
  · exact (congrArg State.line (notify_frame _ _) :)
  · refine (onlyEntry_updEntry (f := fun e => { e with state := .revokedFired })
      (fun _ => ⟨rfl, rfl⟩) he).congr rfl ?_
    exact (congrArg (fun t => t.kitchen.entries) (notify_frame _ _) :).trans
      (updEntry_entries_congr hk _ _ _)

/-- A TENTATIVE entry leaves, its waiting BID cancelled. -/
theorem revoke_tentative {s : State} {dest src : Nat} {ref : Ref} {e : Entry} {b : Bid}
    (h : KitchenDelivers s ⟨dest, src, .revoke ref⟩) (he : entryOf s src ref.number = some e)
    (hg : e.gen = ref.gen) (hs : e.state = .tentative) (hb : e.bid = some b) :
    ∃ t : State, exec (.revoke dest src ref) s = .next t
      ∧ RevokeChanged ⟨dest, src, .revoke ref⟩ s t src ref
      ∧ Cancels (arrived ⟨dest, src, .revoke ref⟩ s) t (bidFrame src ref.number b.gen)
      ∧ t.kitchen.entries = (WithoutEntry s src ref.number).entries
      ∧ Notified s t (.revoked src ref .revoke) := by
  have hx := exec_revoke h
  obtain ⟨ho, hn⟩ := entryOf_name he
  rw [revokeQueue_entry ((entryOf_arrived _ s _ _).trans he) hg, revokeEntry_tentative hs hb, ho, hn,
    dropEntry_eq] at hx
  have hk := withoutEntry_congr (o := src) (n := ref.number)
    (t := cancelFrames (bidFrame src ref.number b.gen) (arrived ⟨dest, src, .revoke ref⟩ s))
    (arrived_kitchen ⟨dest, src, .revoke ref⟩ s)
  rw [hk] at hx
  refine ⟨_, hx, revokeChanged_notify _ rfl, ?_, ?_, notified_revoke _ rfl⟩
  · exact (congrArg State.line (notify_frame _ _) :)
  · exact (congrArg (fun t => t.kitchen.entries) (notify_frame _ _) :)

/-- What a REVOKE of a QUEUED entry leads to: the state `u` of which auto-fire makes the next one. -/
def RevokeFires (dest src : Nat) (ref : Ref) (s u : State) : Prop :=
  u = { arrived ⟨dest, src, .revoke ref⟩ s with
      kitchen := { s.kitchen with entries := u.kitchen.entries }
      notices := u.notices, overflow := u.overflow, link := u.link }
    ∧ exec (.revoke dest src ref) s = .next (unlisted s src ref (autoFire u))
    ∧ ((∀ x : Entry, x ∈ s.kitchen.entries → x.state = .queued →
        x.origin = src ∧ x.number = ref.number) → autoFire u = u)

/-- A QUEUED entry without a replacement bid leaves. -/
theorem revoke_queued {s : State} {dest src : Nat} {ref : Ref} {e : Entry}
    (h : KitchenDelivers s ⟨dest, src, .revoke ref⟩) (he : entryOf s src ref.number = some e)
    (hg : e.gen = ref.gen) (hs : e.state = .queued) (hb : e.bid = none) :
    ∃ u : State, RevokeFires dest src ref s u
      ∧ u.kitchen.entries = (WithoutEntry s src ref.number).entries
      ∧ Notified s u (.revoked src ref .revoke) := by
  have hx := exec_revoke h
  obtain ⟨ho, hn⟩ := entryOf_name he
  rw [revokeQueue_entry ((entryOf_arrived _ s _ _).trans he) hg, revokeEntry_queued hs hb, ho, hn,
    dropEntry_eq, withoutEntry_congr (arrived_kitchen ⟨dest, src, .revoke ref⟩ s)] at hx
  have hframe := notify_frame (.revoked src ref .revoke)
    { arrived ⟨dest, src, .revoke ref⟩ s with kitchen := WithoutEntry s src ref.number }
  have hent := (congrArg (fun t => t.kitchen.entries) hframe :)
  refine ⟨_, ⟨?_, hx, fun hidle => ?_⟩, hent, notified_revoke _ rfl⟩
  · rw [hframe]
  · refine autoFire_of_none (nextToFire_eq_none.2 fun x hmem hq => ?_)
    rw [hent] at hmem
    obtain ⟨hin, hne⟩ := mem_withoutEntry.1 hmem
    obtain ⟨h1, h2⟩ := hidle x hin hq
    exact hne.elim (fun h => h h1) fun h => h h2

/-- A QUEUED entry with a replacement bid becomes TENTATIVE with that bid. -/
theorem revoke_replaced {s : State} {dest src : Nat} {ref : Ref} {e : Entry} {b : Bid}
    (h : KitchenDelivers s ⟨dest, src, .revoke ref⟩) (he : entryOf s src ref.number = some e)
    (hg : e.gen = ref.gen) (hs : e.state = .queued) (hb : e.bid = some b) :
    ∃ u : State, RevokeFires dest src ref s u ∧ OnlyEntry s u (revokedToBid b e)
      ∧ Notified s u (.revoked src ref .revoke) := by
  have hx := exec_revoke h
  obtain ⟨ho, hn⟩ := entryOf_name he
  rw [revokeQueue_entry ((entryOf_arrived _ s _ _).trans he) hg, revokeEntry_replaced hs hb, ho, hn] at hx
  have hk := arrived_kitchen ⟨dest, src, .revoke ref⟩ s
  have hframe := notify_frame (.revoked src ref .revoke)
    (updEntry src ref.number (revokedToBid b) (arrived ⟨dest, src, .revoke ref⟩ s))
  have hent := (congrArg (fun t => t.kitchen.entries) hframe :).trans
    (updEntry_entries_congr hk src ref.number (revokedToBid b))
  refine ⟨_, ⟨?_, hx, fun hidle => ?_⟩, ?_, notified_revoke _ rfl⟩
  · rw [hframe]
    dsimp only
    rw [updEntry_frame, hk]
  · refine autoFire_of_none (nextToFire_eq_none.2 fun x hmem hq => ?_)
    rw [hent] at hmem
    obtain ⟨y, hin, hy⟩ := List.mem_map.1 hmem
    split at hy
    · rw [← hy] at hq
      cases hq
    · rw [hy] at hin
      exact absurd (hidle x hin hq) (hy ▸ ‹_›)
  · exact (onlyEntry_updEntry (f := revokedToBid b) (fun _ => ⟨rfl, rfl⟩) he).congr rfl hent

/-- A replacement bid of the generation named goes, with its waiting BID. -/
theorem revoke_bid {s : State} {dest src : Nat} {ref : Ref} {e : Entry} {b : Bid}
    (h : KitchenDelivers s ⟨dest, src, .revoke ref⟩) (he : entryOf s src ref.number = some e)
    (hg : e.gen ≠ ref.gen) (hs : e.state ≠ .tentative) (hb : e.bid = some b) (hbg : b.gen = ref.gen) :
    ∃ t : State, exec (.revoke dest src ref) s = .next t
      ∧ RevokeChanged ⟨dest, src, .revoke ref⟩ s t src ref
      ∧ Cancels (arrived ⟨dest, src, .revoke ref⟩ s) t (bidFrame src ref.number b.gen)
      ∧ t.notices = s.notices ∧ t.overflow = s.overflow ∧ t.link = s.link
      ∧ OnlyEntry s t { e with bid := none } := by
  have hx := exec_revoke h
  rw [revokeQueue_bid ((entryOf_arrived _ s _ _).trans he) hg hb hbg] at hx
  obtain ⟨hw, hcancel, -, hrest⟩ := removeBid_cancels (f := ⟨dest, src, .revoke ref⟩)
    (p := bidFrame src ref.number b.gen) he
  obtain ⟨hk, honly⟩ := hrest hs
  refine ⟨_, hx, revokeChanged_of ?_, hcancel, ?_, ?_, ?_, honly.congr rfl rfl⟩
  · rw [← hk]
    exact hw.trans (by rw [hw])
  · exact (congrArg State.notices hw :).trans (arrived_notices _ s)
  · exact (congrArg State.overflow hw :).trans (arrived_overflow _ s)
  · exact (congrArg State.link hw :).trans (arrived_link _ s)

/-- A REVOKE that changes nothing in the queue takes the pass entry and the lapsed-bid item alone. -/
theorem revoke_lists {s : State} {dest src : Nat} {ref : Ref}
    (h : KitchenDelivers s ⟨dest, src, .revoke ref⟩)
    (hq : revokeQueue src ref (arrived ⟨dest, src, .revoke ref⟩ s)
      = arrived ⟨dest, src, .revoke ref⟩ s) :
    exec (.revoke dest src ref) s = .next { arrived ⟨dest, src, .revoke ref⟩ s with
      kitchen := { s.kitchen with pass := revokedPass s src ref, lapsed := revokedLapsed s src ref } } := by
  rw [exec_revoke h, hq]
  unfold unlisted
  rw [arrived_kitchen]

end Sys2Proof.Machine
end

section
-- One proof at a time: side by side, their threads' stacks outgrow the check's memory.
set_option Elab.async false
/-! What a COLLECT does at the kitchen queue (R104). -/

namespace Sys2Proof.Machine

/-- The pass entry that a COLLECT names is gone. -/
def unpassed (src : Nat) (ref : Ref) (s : State) : State :=
  { s with kitchen := { s.kitchen with pass := revokedPass s src ref } }

theorem unpassed_kitchen (src : Nat) (ref : Ref) (f : Frame) (s : State) :
    (unpassed src ref (arrived f s)).kitchen = { s.kitchen with pass := revokedPass s src ref } := by
  unfold unpassed revokedPass
  dsimp only
  rw [passAt_arrived, arrived_kitchen]

theorem exec_collect {s : State} {dest src : Nat} {ref : Ref}
    (h : KitchenDelivers s ⟨dest, src, .collect ref⟩) : exec (.collectFrame dest src ref) s
      = .next (kitchenCollect src ref (arrived ⟨dest, src, .collect ref⟩ s)) :=
  congrArg Host.Outcome.next (deliverFrame_atKitchen h _)

/-- A COLLECT of an entry takes the pass entry, the entry, and then auto-fires. -/
theorem kitchenCollect_entry {s : State} {src : Nat} {ref : Ref} {e : Entry}
    (he : entryOf s src ref.number = some e) (hg : e.gen = ref.gen) : kitchenCollect src ref s
      = autoFire (notify (.ticketCollected src ref) (collectEntry e (unpassed src ref s))) := by
  unfold kitchenCollect
  dsimp only
  rw [he, pass_step (s := s) rfl]
  exact if_pos hg

/-- A COLLECT that names no entry takes the pass entry. -/
theorem kitchenCollect_pass {s : State} {src : Nat} {ref : Ref} {x : PassEntry}
    (h : ∀ e : Entry, entryOf s src ref.number = some e → e.gen ≠ ref.gen)
    (hx : passAt s src ref = some x) : kitchenCollect src ref s
      = autoFire (notify (.ticketCollected src ref) (unpassed src ref s)) := by
  unfold kitchenCollect
  dsimp only
  rw [pass_step (s := s) rfl, hx]
  cases he : entryOf s src ref.number with
  | none => exact if_pos rfl
  | some e => exact (if_neg (h e he)).trans (if_pos rfl)

theorem kitchenCollect_nothing {s : State} {src : Nat} {ref : Ref}
    (h : ∀ e : Entry, entryOf s src ref.number = some e → e.gen ≠ ref.gen)
    (hx : passAt s src ref = none) : kitchenCollect src ref s = s := by
  unfold kitchenCollect
  dsimp only
  rw [hx]
  cases he : entryOf s src ref.number with
  | none => exact if_neg (by decide)
  | some e => exact (if_neg (h e he)).trans (if_neg (by decide))

/-- How an entry that is collected leaves the queue. -/
theorem collectEntry_tentative {s : State} {e : Entry} (hs : e.state = .tentative) :
    collectEntry e s = { s with
      kitchen := WithoutEntry s e.origin e.number, line := (cancelBidOf e s).line } := by
  have hcancel : cancelBidOf e s = { s with line := (cancelBidOf e s).line } := by
    unfold cancelBidOf
    split <;> rfl
  unfold collectEntry
  rw [if_pos hs, dropEntry_eq, withoutEntry_congr (congrArg State.kitchen hcancel :)]
  rw [hcancel]

theorem collectEntry_other {s : State} {e : Entry} (hs : e.state ≠ .tentative) :
    collectEntry e s = leaveQueue e.origin e.number s := if_neg hs

/-- What a collected entry leaves of the queue, the port and the transmit queue. -/
theorem collectEntry_of {f : Frame} {s : State} {src : Nat} {ref : Ref} {e : Entry}
    (he : entryOf s src ref.number = some e) :
    let w := collectEntry e (unpassed src ref (arrived f s))
    w = { arrived f s with kitchen := w.kitchen, port := w.port, line := w.line }
      ∧ w.kitchen = { WithoutEntry s src ref.number with pass := revokedPass s src ref }
      ∧ (e.state ≠ .tentative → PortTold s w src ref.number ∧ w.line = (arrived f s).line)
      ∧ (∀ b : Bid, e.state = .tentative → e.bid = some b →
          w.port = s.port ∧ Cancels (arrived f s) w (bidFrame src ref.number b.gen)) := by
  obtain ⟨ho, hn⟩ := entryOf_name he
  have hk : WithoutEntry (unpassed src ref (arrived f s)) src ref.number
      = { WithoutEntry s src ref.number with pass := revokedPass s src ref } := by
    unfold WithoutEntry
    rw [unpassed_kitchen]
  dsimp only
  by_cases hs : e.state = .tentative
  · rw [collectEntry_tentative hs, ho, hn, hk]
    refine ⟨rfl, rfl, fun h => absurd hs h, fun b _ hb => ⟨port_arrived f s, ?_⟩⟩
    dsimp only [Cancels]
    rw [cancelBidOf_of hb, ho, hn]
    rfl
  · have hframe := leaveQueue_frame src ref.number (unpassed src ref (arrived f s))
    have htold := portTold_leaveQueue src ref.number (unpassed src ref (arrived f s))
    rw [collectEntry_other hs, ho, hn]
    rw [hk] at hframe
    refine ⟨?_, (congrArg State.kitchen hframe :), fun _ => ⟨?_, (congrArg State.line hframe :)⟩,
      fun _ h => absurd h hs⟩
    · rw [hframe]
      rfl
    · dsimp only [PortTold] at htold ⊢
      rw [htold, ← port_arrived f s]
      rfl

/-- The notice of a COLLECT, over what the queue did. -/
theorem notified_collect {f : Frame} {s w : State} (b : NoticeBody)
    (hw : w = { arrived f s with kitchen := w.kitchen, port := w.port, line := w.line }) :
    Notified s (notify b w) b := by
  refine notified_notify b ?_ ?_ ?_ ?_
  · rw [hw]
    exact arrived_notices f s
  · rw [hw]
    exact arrived_overflow f s
  · rw [hw]
    exact arrived_link f s
  · rw [hw]
    exact arrived_clock f s

theorem collect_entry {s : State} {dest src : Nat} {ref : Ref} {e : Entry}
    (h : KitchenDelivers s ⟨dest, src, .collect ref⟩) (he : entryOf s src ref.number = some e)
    (hg : e.gen = ref.gen) :
    let s' := arrived ⟨dest, src, .collect ref⟩ s
    ∃ t : State, exec (.collectFrame dest src ref) s = .next (autoFire t)
      ∧ ((∀ x : Entry, x ∈ s.kitchen.entries → x.state = .queued →
          x.origin = src ∧ x.number = ref.number) → autoFire t = t)
      ∧ t = { s' with kitchen := t.kitchen, port := t.port, line := t.line,
                      notices := t.notices, overflow := t.overflow, link := t.link }
      ∧ t.kitchen = { WithoutEntry s src ref.number with pass := revokedPass s src ref }
      ∧ (e.state ≠ .tentative → PortTold s t src ref.number ∧ t.line = s'.line)
      ∧ (∀ b : Bid, e.state = .tentative → e.bid = some b →
          t.port = s.port ∧ Cancels s' t (bidFrame src ref.number b.gen))
      ∧ Notified s t (.ticketCollected src ref) := by
  have hx := exec_collect h
  rw [kitchenCollect_entry ((entryOf_arrived _ s _ _).trans he) hg] at hx
  obtain ⟨hw, hk, htold, hcancel⟩ := collectEntry_of (f := ⟨dest, src, .collect ref⟩) he
  have hframe := notify_frame (.ticketCollected src ref)
    (collectEntry e (unpassed src ref (arrived ⟨dest, src, .collect ref⟩ s)))
  have hkitchen := (congrArg State.kitchen hframe :).trans hk
  have hport := (congrArg State.port hframe :)
  have hline := (congrArg State.line hframe :)
  refine ⟨_, hx, fun hidle => ?_, ?_, hkitchen, fun hs => ?_, fun b hs hb => ?_, notified_collect _ hw⟩
  · refine autoFire_of_none (nextToFire_eq_none.2 fun x hmem hq => ?_)
    rw [hkitchen] at hmem
    obtain ⟨hin, hne⟩ := mem_withoutEntry.1 hmem
    obtain ⟨h1, h2⟩ := hidle x hin hq
    exact hne.elim (fun h => h h1) fun h => h h2
  · rw [hframe]
    dsimp only
    rw [hw]
  · obtain ⟨h1, h2⟩ := htold hs
    exact ⟨h1.congr hport, hline.trans h2⟩
  · obtain ⟨h1, h2⟩ := hcancel b hs hb
    exact ⟨hport.trans h1, hline.trans h2⟩

theorem collect_pass {s : State} {dest src : Nat} {ref : Ref} {p : PassEntry}
    (h : KitchenDelivers s ⟨dest, src, .collect ref⟩) (hp : passAt s src ref = some p)
    (he : ∀ e : Entry, entryOf s src ref.number = some e → e.gen ≠ ref.gen) :
    let s' := arrived ⟨dest, src, .collect ref⟩ s
    ∃ t : State, exec (.collectFrame dest src ref) s = .next (autoFire t)
      ∧ ((∀ x : Entry, x ∈ s.kitchen.entries → x.state ≠ .queued) → autoFire t = t)
      ∧ t = { s' with kitchen := t.kitchen, notices := t.notices, overflow := t.overflow,
                      link := t.link }
      ∧ t.kitchen = { s.kitchen with pass := revokedPass s src ref }
      ∧ Notified s t (.ticketCollected src ref) := by
  have hx := exec_collect h
  rw [kitchenCollect_pass (by rw [entryOf_arrived]; exact he) ((passAt_arrived _ s _ _).trans hp)] at hx
  have hframe := notify_frame (.ticketCollected src ref)
    (unpassed src ref (arrived ⟨dest, src, .collect ref⟩ s))
  have hkitchen := (congrArg State.kitchen hframe :).trans (unpassed_kitchen src ref _ s)
  refine ⟨_, hx, fun hidle => ?_, ?_, hkitchen, notified_collect _ rfl⟩
  · refine autoFire_of_none (nextToFire_eq_none.2 fun x hmem => ?_)
    rw [hkitchen] at hmem
    exact hidle x hmem
  · rw [hframe]
    rfl

/-- Settles O49. -/
theorem withdrawRevokeCollect : Obligations.WithdrawRevokeCollect := by
  unfold Obligations.WithdrawRevokeCollect
  refine ⟨fun s dest src p ref h hc => ⟨fun e he => ⟨?_, ?_, ?_, ?_, ?_⟩, fun he => ?_⟩,
    fun s dest src ref h => ⟨fun e he => ⟨?_, ?_, ?_, ?_, ?_, ?_⟩, fun he => ?_⟩,
    fun s dest src ref h => ⟨fun p hp he => ?_, fun e he hg => ?_, fun hp he => ?_⟩⟩
  · exact fun l hg hs hl => ⟨fun ho =>
      have ⟨t, hx, hr, ht, honly⟩ := withdraw_line h hc he hg hs hl ho
      ⟨t, hx, hr, ht, honly⟩, fun ho => withdraw_lastLine h he hg hs hl ho⟩
  · exact fun b l hg hs hb hbg hl => withdraw_bidLine h hc he hg hs hb hbg hl
  · intro hg hb hs
    have hk : Entry.cooking e = true := by
      unfold Entry.cooking
      rcases hs with hs | hs <;> rw [hs] <;> rfl
    refine withdraw_other h hc (by rw [heldFired_of_cooking he hg hk]; rfl) fun x hx => ?_
    obtain rfl := Option.some.inj (he.symm.trans hx)
    exact ⟨fun hrow => Bool.noConfusion (hk.symm.trans hrow.2.1),
      fun b hbb hrow => hb b hbb hrow.2.1⟩
  · intro hg hs hlen hpass
    have hk : Entry.cooking e = false := by
      unfold Entry.cooking
      rcases hs with hs | ⟨hs, -⟩ <;> rw [hs] <;> rfl
    refine (withdraw_byPass h hc (fun x hx => .inr ?_) fun x hx => ?_).2 hpass
    · obtain rfl := Option.some.inj (he.symm.trans hx)
      exact hk
    · obtain rfl := Option.some.inj (he.symm.trans hx)
      refine ⟨fun hrow => absurd hrow.2.2 (by omega), fun b hb hrow => ?_⟩
      exact hs.elim hrow.1 fun hs => hs.2 b hb hrow.2.1
  · intro hg hb
    have hrows := withdraw_byPass h hc (fun x hx => .inl ?_) fun x hx => ?_
    · exact ⟨hrows.2, hrows.1⟩
    · obtain rfl := Option.some.inj (he.symm.trans hx)
      exact hg
    · obtain rfl := Option.some.inj (he.symm.trans hx)
      refine ⟨fun hrow => hg hrow.1, fun b hbb hrow => ?_⟩
      exact (hb b hbb).elim (fun h => h hrow.2.1) fun h => absurd hrow.2.2 (by omega)
  · refine withdraw_byPass h hc (fun x hx => ?_) fun x hx => ?_
    · cases he.symm.trans hx
    · cases he.symm.trans hx
  · exact fun hg hs => revoke_fired h he hg hs
  · intro hrow
    refine revoke_lists h ?_
    have he' := (entryOf_arrived ⟨dest, src, .revoke ref⟩ s src ref.number).trans he
    rcases hrow with ⟨hg, hs⟩ | ⟨hg, hb⟩
    · rw [revokeQueue_entry he' hg, revokeEntry_revokedFired hs]
    · refine revokeQueue_nothing fun x hx => ?_
      obtain rfl := Option.some.inj (he'.symm.trans hx)
      exact ⟨hg, hb⟩
  · exact fun b hg hs hb => revoke_tentative h he hg hs hb
  · exact fun hg hs hb => revoke_queued h he hg hs hb
  · exact fun b hg hs hb _ => revoke_replaced h he hg hs hb
  · exact fun b hg hs hb hbg => revoke_bid h he hg hs hb hbg
  · refine revoke_lists h (revokeQueue_nothing fun x hx => ?_)
    cases (((entryOf_arrived ⟨dest, src, .revoke ref⟩ s src ref.number).trans he).symm.trans hx)
  · obtain ⟨t, hx, hidle, ht, hk, hnote⟩ := collect_pass h hp he
    refine ⟨t, hx, hidle, ht, hk.trans ?_, hnote⟩
    unfold revokedPass
    rw [hp, if_neg (Option.some_ne_none p)]
  · exact collect_entry h he hg
  · rw [exec_collect h, kitchenCollect_nothing (by rw [entryOf_arrived]; exact he)
      ((passAt_arrived _ s _ _).trans hp)]

end Sys2Proof.Machine
end

section
-- One proof at a time: side by side, their threads' stacks outgrow the check's memory.
set_option Elab.async false
/-! A PROGRESS at the ticket table (R71, R72, Table 4-3). -/

namespace Sys2Proof.Machine

/-! ## The frame and the record it names -/

theorem exec_progress {s : State} {dest src : Nat} {ref : Ref} {ks : KitchenState} {m : Byte}
    (h : TillDelivers s ⟨dest, src, .progress ref ks m⟩) : exec (.progress dest src ref ks m) s
      = .next (ticketProgress src ref ks m (arrived ⟨dest, src, .progress ref ks m⟩ s)) :=
  congrArg Host.Outcome.next (deliverFrame_atTill h _)

theorem exec_withdrawReply {s : State} {dest src p : Nat} {ref : Ref} {o : WithdrawOutcome} {e : Bool}
    (h : TillDelivers s ⟨dest, src, .withdrawReply ref p o e⟩) :
    exec (.withdrawReply dest src ref p o e) s = .next (ticketWithdrawReply src ref p o e
      (arrived ⟨dest, src, .withdrawReply ref p o e⟩ s)) :=
  congrArg Host.Outcome.next (deliverFrame_atTill h _)

theorem fromAwardee_of {k : Ticket} {a : Awardee} (ha : k.awardee = some a) :
    Ticket.fromAwardee k a.station ⟨k.number, k.gen⟩ = true := by
  unfold Ticket.fromAwardee
  rw [ha, beq_self_eq_true]
  exact beq_self_eq_true _

theorem fromAwardee_of_stale {k : Ticket} {src : Nat} {ref : Ref}
    (h : k.gen ≠ ref.gen ∨ k.awardee.map Awardee.station ≠ some src) :
    Ticket.fromAwardee k src ref = false := by
  unfold Ticket.fromAwardee
  rcases h with h | h
  · rw [beq_eq_false_iff_ne.2 h, Bool.false_and]
  · rw [beq_eq_false_iff_ne.2 h, Bool.and_false]

/-- The record with the kitchen mask that a PROGRESS carries. -/
def masked (m : Byte) (k : Ticket) : Ticket := { k with kmask := m }

theorem ticketProgress_of {s : State} {ks : KitchenState} {m : Byte} {k : Ticket} {a : Awardee}
    (hk : ticketOf s k.number = some k) (ha : k.awardee = some a) :
    ticketProgress a.station ⟨k.number, k.gen⟩ ks m s
      = takeProgress (masked m k) ks (updTicket k.number (masked m) s) := by
  unfold ticketProgress
  rw [hk]
  exact if_pos (fromAwardee_of ha)

/-- The changes of the record by a PROGRESS (Table 4-3). -/
def toPlaced (moment : Time) (k : Ticket) : Ticket :=
  { k with state := .placed, wait := .none, placed := some moment }

def toFired (placed : Option Time) (k : Ticket) : Ticket :=
  { k with state := .fired, wait := .none, placed := placed }

def toReady (placed : Option Time) (moment : Time) (k : Ticket) : Ticket :=
  { k with state := .ready, wait := .none, placed := placed, ready := some moment }

def toLate (k : Ticket) : Ticket := { k with late := true }

/-! ## One record changed, lines reported, notices queued -/

/-- One record has become `k'`; besides the other blocks, every other record is as it was. -/
def ProgressTo (s t : State) (k k' : Ticket) : Prop :=
  t = { s with tickets := t.tickets, tabs := t.tabs, notices := t.notices, overflow := t.overflow,
               link := t.link }
    ∧ ticketOf t k.number = some k' ∧ ∀ n : Nat, n ≠ k.number → ticketOf t n = ticketOf s n

theorem progressTo_updTicket {s : State} {k : Ticket} {f : Ticket → Ticket}
    (hk : ticketOf s k.number = some k) (hf : ∀ t, (f t).number = t.number) :
    ProgressTo s (updTicket k.number f s) k (f k) := by
  obtain ⟨h1, h2⟩ := ticketOf_updTicket_of hk hf
  exact ⟨rfl, h1, h2⟩

/-- A report that frees no tab touches the tabs alone. -/
theorem ticketReport_lives_frame {r : Report} (hr : Report.lives r) (k : Ticket) (ps : List Nat) (s : State) :
    ticketReport k ps r s = { s with tabs := (ticketReport k ps r s).tabs } := by
  cases ht : tabIn s k.slot with
  | none => rw [ticketReport_of_noTab ht]
  | some tb =>
    rw [ticketReport_of_lives hr ht]
    exact putTab_frame _ _ _

theorem ProgressTo.report {s t : State} {k k' : Ticket} (h : ProgressTo s t k k') {r : Report}
    (hr : Report.lives r) (x : Ticket) (ps : List Nat) : ProgressTo s (ticketReport x ps r t) k k' := by
  obtain ⟨h1, h2, h3⟩ := h
  have hf := ticketReport_lives_frame hr x ps t
  have htick := (congrArg State.tickets hf :)
  refine ⟨?_, ?_, fun n hn => ?_⟩
  · rw [hf, h1]
  · unfold ticketOf at h2 ⊢
    rw [htick]
    exact h2
  · unfold ticketOf at h3 ⊢
    rw [htick]
    exact h3 n hn

theorem ProgressTo.notify {s t : State} {k k' : Ticket} (h : ProgressTo s t k k') (b : NoticeBody) :
    ProgressTo s (notify b t) k k' := by
  obtain ⟨h1, h2, h3⟩ := h
  have hf := notify_frame b t
  have htick := (congrArg State.tickets hf :)
  refine ⟨?_, ?_, fun n hn => ?_⟩
  · rw [hf, h1]
  · unfold ticketOf at h2 ⊢
    rw [htick]
    exact h2
  · unfold ticketOf at h3 ⊢
    rw [htick]
    exact h3 n hn

/-- Changes of the record commute with the notices. -/
theorem updTicket_notify (n : Nat) (f : Ticket → Ticket) (b : NoticeBody) (s : State) :
    updTicket n f (notify b s) = notify b (updTicket n f s) := by
  unfold notify updTicket
  dsimp only
  split <;> rfl

/-! ## The rows of Table 4-3 -/

theorem livesFired : Report.lives .fired := .inr (.inl rfl)

theorem livesReady : Report.lives .ready := .inr (.inr rfl)

theorem becomePlaced_of {s : State} {k : Ticket} {a : Awardee} (ha : k.awardee = some a) :
    becomePlaced k s = notify (.placed (Ticket.ref k) (ticketCode s k) a.station a.depth k.kmask)
      (updTicket k.number (toPlaced (now s)) s) := by
  unfold becomePlaced placedNotice
  rw [ha]
  rfl

theorem becomeFired_of (k : Ticket) (placed : Option Time) (s : State) : becomeFired k placed s
    = ticketReport k (Ticket.livePositions k) .fired (updTicket k.number (toFired placed) s) := rfl

theorem becomeReady_of {s : State} {k : Ticket} {a : Awardee} (ha : k.awardee = some a)
    (placed : Option Time) : becomeReady k placed s
      = notify (.ready (Ticket.ref k) (ticketCode s k) a.station k.kmask)
        (ticketReport k (Ticket.livePositions k) .ready
          (updTicket k.number (toReady placed (now s)) s)) := by
  have hf := ticketReport_lives_frame livesReady k (Ticket.livePositions k)
    (updTicket k.number (toReady placed (now s)) s)
  have hcode : ticketCode (ticketReport k (Ticket.livePositions k) .ready
      (updTicket k.number (toReady placed (now s)) s)) k = ticketCode s k := by
    unfold ticketCode station
    rw [hf]
    rfl
  rw [← hcode]
  unfold becomeReady readyNotice
  rw [ha]
  rfl

theorem setLate_first {s : State} {k : Ticket} {a : Awardee} (ha : k.awardee = some a)
    (hl : k.late = false) : setLate k s
      = notify (.late (Ticket.ref k) (ticketCode s k) a.station k.kmask) (updTicket k.number toLate s) := by
  unfold setLate
  rw [ha]
  dsimp only
  rw [if_neg (by rw [hl]; decide)]
  rfl

theorem setLate_again {s : State} {k : Ticket} (hl : k.late = true) :
    setLate k s = updTicket k.number toLate s := by
  unfold setLate
  cases k.awardee with
  | none => rfl
  | some a => exact if_pos hl

theorem takeProgress_placed {s : State} {k : Ticket} (hs : k.state = .placing) :
    takeProgress k .queued s = becomePlaced k s := by
  unfold takeProgress
  rw [hs]

/-- The placed time after a report that may be the first (Table 4-3). -/
def placedAfter (k : Ticket) (moment : Time) : Option Time :=
  if k.state = .placing then some moment else k.placed

theorem takeProgress_fired {s : State} {k : Ticket} (hs : k.state = .placing ∨ k.state = .placed) :
    takeProgress k .fired s = becomeFired k (placedAfter k (now s)) s := by
  unfold takeProgress placedAfter
  rcases hs with hs | hs <;> rw [hs] <;> rfl

theorem takeProgress_ready {s : State} {k : Ticket}
    (hs : k.state = .placing ∨ k.state = .placed ∨ k.state = .fired) :
    takeProgress k .ready s = becomeReady k (placedAfter k (now s)) s := by
  unfold takeProgress placedAfter
  rcases hs with hs | hs | hs <;> rw [hs] <;> rfl

theorem takeProgress_latePlacing {s : State} {k : Ticket} (hs : k.state = .placing) :
    takeProgress k .late s = setLate k (becomePlaced k s) := by
  unfold takeProgress
  rw [hs]

theorem takeProgress_late {s : State} {k : Ticket}
    (hs : k.state = .placed ∨ k.state = .fired ∨ k.state = .ready) :
    takeProgress k .late s = setLate k s := by
  unfold takeProgress
  rcases hs with hs | hs | hs <;> rw [hs]

theorem takeProgress_refused {s : State} {k : Ticket} (hs : k.state = .placing ∨ k.state = .placed) :
    takeProgress k .refused s = reissue k.number true none .refused s := by
  unfold takeProgress
  rcases hs with hs | hs <;> rw [hs]

theorem takeProgress_refusedLate {s : State} {k : Ticket} (hs : k.state = .fired ∨ k.state = .ready) :
    takeProgress k .refused s = s := by
  unfold takeProgress
  rcases hs with hs | hs <;> rw [hs]

theorem takeProgress_again {s : State} {k : Ticket} {ks : KitchenState}
    (h : k.state = .ready ∧ ks ≠ .late ∨ k.state = .fired ∧ (ks = .queued ∨ ks = .fired)
      ∨ k.state = .placed ∧ ks = .queued) : takeProgress k ks s = s := by
  unfold takeProgress
  rcases h with ⟨hs, hne⟩ | ⟨hs, rfl | rfl⟩ | ⟨hs, rfl⟩
  · rw [hs]
    cases ks with
    | late => exact absurd rfl hne
    | _ => rfl
  all_goals rw [hs]

/-- Every PROGRESS but REFUSED leaves the other records and blocks as they were. -/
theorem progressTo_setLate {s t : State} {k k' : Ticket} (h : ProgressTo s t k k') (x : Ticket)
    (hx : x.number = k.number) : ProgressTo s (setLate x t) k (toLate k') := by
  obtain ⟨h1, h2, h3⟩ := h
  obtain ⟨hself, hother⟩ := ticketOf_updTicket_of (f := toLate) h2 (by exact fun _ => rfl)
  have hupd : ProgressTo s (updTicket x.number toLate t) k (toLate k') := by
    rw [hx]
    refine ⟨?_, hself, fun n hn => (hother n hn).trans (h3 n hn)⟩
    unfold updTicket
    dsimp only
    rw [h1]
  cases hl : x.late with
  | true =>
    rw [setLate_again hl]
    exact hupd
  | false =>
    cases ha : x.awardee with
    | none =>
      unfold setLate
      rw [ha]
      exact hupd
    | some a =>
      rw [setLate_first ha hl]
      exact hupd.notify _

theorem progressTo_becomePlaced {s : State} {k : Ticket} (hk : ticketOf s k.number = some k) :
    ProgressTo s (becomePlaced k s) k (toPlaced (now s) k) := by
  have hupd := progressTo_updTicket (f := toPlaced (now s)) hk (by exact fun _ => rfl)
  unfold becomePlaced placedNotice
  cases k.awardee with
  | none => exact hupd
  | some a => exact hupd.notify _

theorem progressTo_becomeFired {s : State} {k : Ticket} (hk : ticketOf s k.number = some k)
    (placed : Option Time) : ProgressTo s (becomeFired k placed s) k (toFired placed k) :=
  (progressTo_updTicket (f := toFired placed) hk (by exact fun _ => rfl)).report livesFired _ _

theorem progressTo_becomeReady {s : State} {k : Ticket} (hk : ticketOf s k.number = some k)
    (placed : Option Time) : ProgressTo s (becomeReady k placed s) k (toReady placed (now s) k) := by
  have hupd := (progressTo_updTicket (f := toReady placed (now s)) hk (by exact fun _ => rfl)).report
    livesReady k (Ticket.livePositions k)
  unfold becomeReady readyNotice
  cases k.awardee with
  | none => exact hupd
  | some a => exact hupd.notify _

theorem progressTo_self {s : State} {k : Ticket} (hk : ticketOf s k.number = some k) :
    ProgressTo s s k k := ⟨rfl, hk, fun _ _ => rfl⟩

/-- Every PROGRESS but REFUSED changes the record, reports lines and queues notices, no more. -/
theorem progressTo_takeProgress {s : State} {k : Ticket} {ks : KitchenState}
    (hk : ticketOf s k.number = some k) (hks : ks ≠ .refused) :
    ∃ k', ProgressTo s (takeProgress k ks s) k k' := by
  unfold takeProgress
  split
  · exact ⟨_, progressTo_becomePlaced hk⟩
  · exact ⟨_, progressTo_becomeFired hk _⟩
  · exact ⟨_, progressTo_becomeFired hk _⟩
  · exact ⟨_, progressTo_becomeReady hk _⟩
  · exact ⟨_, progressTo_becomeReady hk _⟩
  · exact ⟨_, progressTo_becomeReady hk _⟩
  · exact ⟨_, progressTo_setLate (progressTo_becomePlaced hk) k rfl⟩
  · exact ⟨_, progressTo_setLate (progressTo_self hk) k rfl⟩
  · exact ⟨_, progressTo_setLate (progressTo_self hk) k rfl⟩
  · exact ⟨_, progressTo_setLate (progressTo_self hk) k rfl⟩
  · exact absurd rfl hks
  · exact absurd rfl hks
  · exact ⟨k, progressTo_self hk⟩

end Sys2Proof.Machine
end

section
-- One proof at a time: side by side, their threads' stacks outgrow the check's memory.
set_option Elab.async false
/-! What each row of Table 4-3 leaves. -/

namespace Sys2Proof.Machine

theorem ProgressTo.trans {s t u : State} {k x y : Ticket} (h : ProgressTo s t k x)
    (hn : x.number = k.number) (h' : ProgressTo t u x y) : ProgressTo s u k y := by
  obtain ⟨h1, -, h3⟩ := h
  obtain ⟨h1', h2', h3'⟩ := h'
  rw [hn] at h2' h3'
  refine ⟨?_, h2', fun n hne => (h3' n hne).trans (h3 n hne)⟩
  rw [h1', h1]

theorem tabIn_congr {s t : State} (h : t.tabs = s.tabs) (i : Nat) : tabIn t i = tabIn s i := by
  unfold tabIn
  rw [h]

/-- The lines that a report of a ticket's live positions reaches. -/
theorem line_reported {s : State} {k : Ticket} {tb : Tab} {l : TabLine} {i p : Nat} {r : Report}
    (hr : Report.lives r) (ht : tabIn s k.slot = some tb) (hp : k.positions[p]? = some i)
    (hlive : k.live.getLsbD p = true) (hl : tb.lines[i]? = some l) :
    ((tabIn (ticketReport k (Ticket.livePositions k) r s) k.slot).bind fun tb' => tb'.lines[i]?)
      = some (lineAfter r l) := by
  have hmem : i ∈ Ticket.linesAt k (Ticket.livePositions k) := mem_liveLines.2 ⟨p, hp, hlive⟩
  rw [ticketReport_of_lives hr ht, (putTab_changes ht _).2, Option.bind_some, getElem?_reports, hl,
    Option.map_some, if_pos hmem]

/-- PLACING ends with PROGRESS QUEUED. -/
theorem row_placed {s : State} {k : Ticket} {a : Awardee} (hk : ticketOf s k.number = some k)
    (ha : k.awardee = some a) (hs : k.state = .placing) :
    let t := takeProgress k .queued s
    ticketOf t k.number = some (toPlaced (now s) k) ∧ t.tabs = s.tabs
      ∧ Notified s t (.placed (Ticket.ref k) (ticketCode s k) a.station a.depth k.kmask) := by
  dsimp only
  rw [takeProgress_placed hs]
  refine ⟨(progressTo_becomePlaced hk).2.1, ?_, ?_⟩
  · rw [becomePlaced_of ha, notify_frame]
    rfl
  · rw [becomePlaced_of ha]
    exact notified_notify _ rfl rfl rfl rfl

/-- PROGRESS FIRED before the ticket was FIRED. -/
theorem row_fired {s : State} {k : Ticket} (hk : ticketOf s k.number = some k)
    (hs : k.state = .placing ∨ k.state = .placed) :
    let t := takeProgress k .fired s
    ticketOf t k.number = some (toFired (placedAfter k (now s)) k)
      ∧ (t.notices = s.notices ∧ t.overflow = s.overflow ∧ t.link = s.link)
      ∧ ∀ (tb : Tab) (i p : Nat) (l : TabLine), tabIn s k.slot = some tb →
          k.positions[p]? = some i → k.live.getLsbD p = true → tb.lines[i]? = some l →
          l.state = .sent →
          ((tabIn t k.slot).bind fun tb' => tb'.lines[i]?) = some { l with state := .fired } := by
  dsimp only
  rw [takeProgress_fired hs]
  refine ⟨(progressTo_becomeFired hk _).2.1, ?_, fun tb i p l ht hp hlive hl hsent => ?_⟩
  · rw [becomeFired_of, ticketReport_lives_frame livesFired]
    exact ⟨rfl, rfl, rfl⟩
  · have hafter : lineAfter .fired l = { l with state := .fired } := by
      unfold lineAfter applyReport
      rw [hsent]
      rfl
    rw [becomeFired_of, ← hafter]
    exact line_reported livesFired ht hp hlive hl

/-- PROGRESS READY before the ticket was READY. -/
theorem row_ready {s : State} {k : Ticket} {a : Awardee} (hk : ticketOf s k.number = some k)
    (ha : k.awardee = some a) (hs : k.state = .placing ∨ k.state = .placed ∨ k.state = .fired) :
    let t := takeProgress k .ready s
    ticketOf t k.number = some (toReady (placedAfter k (now s)) (now s) k)
      ∧ Notified s t (.ready (Ticket.ref k) (ticketCode s k) a.station k.kmask)
      ∧ ∀ (tb : Tab) (i p : Nat) (l : TabLine), tabIn s k.slot = some tb →
          k.positions[p]? = some i → k.live.getLsbD p = true → tb.lines[i]? = some l →
          l.state = .sent ∨ l.state = .fired →
          ((tabIn t k.slot).bind fun tb' => tb'.lines[i]?) = some { l with state := .ready } := by
  dsimp only
  rw [takeProgress_ready hs]
  refine ⟨(progressTo_becomeReady hk _).2.1, ?_, fun tb i p l ht hp hlive hl hstate => ?_⟩
  · have hf := ticketReport_lives_frame livesReady k (Ticket.livePositions k)
      (updTicket k.number (toReady (placedAfter k (now s)) (now s)) s)
    rw [becomeReady_of ha]
    exact notified_notify _ (congrArg State.notices hf :) (congrArg State.overflow hf :)
      (congrArg State.link hf :) (congrArg State.clock hf :)
  · have hafter : lineAfter .ready l = { l with state := .ready } := by
      unfold lineAfter applyReport
      rcases hstate with h | h <;> rw [h] <;> rfl
    rw [becomeReady_of ha, ← hafter, tabIn_congr (congrArg State.tabs (notify_frame _ _) :)]
    exact line_reported livesReady ht hp hlive hl

/-- PROGRESS LATE of a ticket that is placed already. -/
theorem row_late {s : State} {k : Ticket} {a : Awardee} (hk : ticketOf s k.number = some k)
    (ha : k.awardee = some a) (hs : k.state = .placed ∨ k.state = .fired ∨ k.state = .ready) :
    let t := takeProgress k .late s
    ticketOf t k.number = some (toLate k) ∧ t.tabs = s.tabs
      ∧ (k.late = false →
          Notified s t (.late (Ticket.ref k) (ticketCode s k) a.station k.kmask))
      ∧ (k.late = true → t.notices = s.notices ∧ t.overflow = s.overflow ∧ t.link = s.link) := by
  dsimp only
  rw [takeProgress_late hs]
  refine ⟨(progressTo_setLate (progressTo_self hk) k rfl).2.1, ?_, fun hl => ?_, fun hl => ?_⟩
  · cases hl : k.late with
    | true =>
      rw [setLate_again hl]
      rfl
    | false =>
      rw [setLate_first ha hl, notify_frame]
      rfl
  · rw [setLate_first ha hl]
    exact notified_notify _ rfl rfl rfl rfl
  · rw [setLate_again hl]
    exact ⟨rfl, rfl, rfl⟩

/-- PROGRESS LATE of a PLACING ticket: it is placed first. -/
theorem row_latePlacing {s : State} {k : Ticket} {a : Awardee} (hk : ticketOf s k.number = some k)
    (ha : k.awardee = some a) (hs : k.state = .placing) :
    let t := takeProgress k .late s
    let s₁ := notify (.placed (Ticket.ref k) (ticketCode s k) a.station a.depth k.kmask) s
    ticketOf t k.number = some (toLate (toPlaced (now s) k)) ∧ t.tabs = s.tabs
      ∧ (k.late = false →
          Notified s₁ t (.late (Ticket.ref k) (ticketCode s k) a.station k.kmask))
      ∧ (k.late = true → t.notices = s₁.notices ∧ t.overflow = s₁.overflow ∧ t.link = s₁.link) := by
  dsimp only
  have hplaced : becomePlaced k s
      = updTicket k.number (toPlaced (now s))
        (notify (.placed (Ticket.ref k) (ticketCode s k) a.station a.depth k.kmask) s) := by
    rw [becomePlaced_of ha, updTicket_notify]
  have hcode : ticketCode (becomePlaced k s) k = ticketCode s k :=
    (congrArg (fun t => ticketCode t k) (progressTo_becomePlaced hk).1 :)
  have htabs : (becomePlaced k s).tabs = s.tabs := by
    rw [hplaced]
    exact (congrArg State.tabs (notify_frame _ s) :)
  rw [takeProgress_latePlacing hs]
  refine ⟨(progressTo_setLate (progressTo_becomePlaced hk) k rfl).2.1, ?_, fun hl => ?_, fun hl => ?_⟩
  · cases hl : k.late with
    | true =>
      rw [setLate_again hl]
      exact htabs
    | false =>
      rw [setLate_first ha hl, notify_frame]
      exact htabs
  · rw [setLate_first ha hl, hcode, hplaced]
    exact notified_notify _ rfl rfl rfl rfl
  · rw [setLate_again hl, hplaced]
    exact ⟨rfl, rfl, rfl⟩

end Sys2Proof.Machine
end

section
-- One proof at a time: side by side, their threads' stacks outgrow the check's memory.
set_option Elab.async false
/-! A line taken back, the record it empties and the tab it may free (R75, R82, R56). -/

namespace Sys2Proof.Machine

/-! ## The line and its tab -/

theorem compute_code (f : Figures) (t : Tab) : (Tab.compute f t).code = t.code := by
  unfold Tab.compute
  split <;> rfl

/-- A tab of which the line at this index has become VOID (R48, R50). -/
def Tab.voided (f : Figures) (i : Nat) (l : TabLine) (tb : Tab) : Tab :=
  Tab.uncount f i { l with state := .void, place := none } tb

theorem voided_state (f : Figures) (i : Nat) (l : TabLine) (tb : Tab) :
    (Tab.voided f i l tb).state = tb.state := compute_state f _

theorem voided_code (f : Figures) (i : Nat) (l : TabLine) (tb : Tab) :
    (Tab.voided f i l tb).code = tb.code := compute_code f _

/-- A removed report of a WITHDRAWING line voids it and checks the tab (R47). -/
theorem lineReport_removed {s : State} {slot i : Nat} {tb : Tab} {l : TabLine}
    (ht : tabIn s slot = some tb) (hl : tb.lines[i]? = some l) (hs : l.state = .withdrawing) :
    lineReport slot i .removed s
      = checkFree slot (putTab slot (some (Tab.voided s.join.figures i l tb)) s) := by
  refine lineReport_void (l := { l with state := .void, place := none }) ht ?_ rfl
  rw [hl, Option.bind_some]
  unfold applyReport
  rw [hs]

theorem ticketReport_removed {s : State} {k : Ticket} {p i : Nat} {tb : Tab} {l : TabLine}
    (hp : k.positions[p]? = some i) (ht : tabIn s k.slot = some tb) (hl : tb.lines[i]? = some l)
    (hs : l.state = .withdrawing) : ticketReport k [p] .removed s
      = checkFree k.slot (putTab k.slot (some (Tab.voided s.join.figures i l tb)) s) := by
  rw [ticketReport_eq, linesAt_single hp]
  exact lineReport_removed ht hl hs

/-- A tab that is not CLOSED, or to which a record refers, stays when its line is voided (R56). -/
theorem ticketReport_removed_stays {s : State} {k : Ticket} {p i : Nat} {tb : Tab} {l : TabLine}
    (hp : k.positions[p]? = some i) (ht : tabIn s k.slot = some tb) (hl : tb.lines[i]? = some l)
    (hs : l.state = .withdrawing)
    (hstay : tb.state ≠ .closed ∨ ∃ x : Ticket, x ∈ s.tickets ∧ x.slot = k.slot
      ∧ x.issue = codeIssue tb.code) : ticketReport k [p] .removed s
      = putTab k.slot (some (Tab.voided s.join.figures i l tb)) s := by
  rw [ticketReport_removed hp ht hl hs]
  refine checkFree_of_kept (tabIn_putTab_self _ (lt_of_tabIn ht)) fun ⟨hc, _, href⟩ => ?_
  rw [voided_state] at hc
  rw [voided_code] at href
  rcases hstay with h | ⟨x, hx, h1, h2⟩
  · exact h hc
  · exact href x (by rw [putTab_frame]; exact hx) h1 h2

/-! ## The record freed -/

theorem filter_updTicket {n : Nat} {f : Ticket → Ticket} (hf : ∀ t, (f t).number = t.number) (s : State) :
    ((updTicket n f s).tickets.filter fun x => x.number != n)
      = s.tickets.filter fun x => x.number != n := by
  unfold updTicket
  dsimp only
  induction s.tickets with
  | nil => rfl
  | cons x xs ih =>
    rw [List.map_cons]
    by_cases hx : x.number = n
    · have h1 : (x.number != n) = false := by rw [hx, bne_self_eq_false]
      have h2 : ((f x).number != n) = false := by rw [hf, h1]
      rw [if_pos hx, List.filter_cons, List.filter_cons, h1, h2]
      exact ih
    · rw [if_neg hx, List.filter_cons, List.filter_cons, ih]

/-- The check of a tab depends on the tabs, the notices, the link and the clock before it. -/
theorem TabCheckedByEvent.congr {s s' t : State} {slot : Nat} {tb : Tab}
    (h : TabCheckedByEvent s t slot tb) (ht : s'.tabs = s.tabs) (hn : s'.notices = s.notices)
    (ho : s'.overflow = s.overflow) (hl : s'.link = s.link) (hc : s'.clock = s.clock) :
    TabCheckedByEvent s' t slot tb := by
  obtain ⟨⟨h1, h2, h3, h4⟩, h5, h6⟩ := h
  obtain ⟨n1, n2, n3⟩ := notify_congr (.tabFreed tb.code) hn ho hl hc
  refine ⟨⟨fun i hi => (h1 i hi).trans (by rw [ht]), h2.trans (by rw [ht]), fun hf => ?_, fun hf => ?_⟩,
    fun hi => (h5 hi).trans n3.symm, fun hi => (h6 hi).trans hl.symm⟩
  · obtain ⟨g1, g2, g3⟩ := h3 hf
    exact ⟨g1, g2.trans n1.symm, g3.trans n2.symm⟩
  · obtain ⟨g1, g2, g3⟩ := h4 hf
    exact ⟨g1, g2.trans hn.symm, g3.trans ho.symm⟩

/-- The last live line of a record is voided, and the record goes with its frames. -/
def emptied (k : Ticket) (p : Nat) (f : Ticket → Ticket) (s : State) : State :=
  freeTicket k.number (updTicket k.number f (ticketReport k [p] .removed s))

/-- What the record of a voided last line leaves: no record of it, its frames cancelled, and its tab
checked for freeing (R56, R82). -/
theorem emptied_of {s : State} {k : Ticket} {p i : Nat} {tb : Tab} {l : TabLine} {f : Ticket → Ticket}
    (hk : ticketOf s k.number = some k) (hf : ∀ t, (f t).number = t.number ∧ (f t).slot = t.slot)
    (hp : k.positions[p]? = some i) (ht : tabIn s k.slot = some tb) (hl : tb.lines[i]? = some l)
    (hs : l.state = .withdrawing) :
    let t := emptied k p f s
    t = { s with tickets := t.tickets, tabs := t.tabs, line := t.line, notices := t.notices,
                 overflow := t.overflow, link := t.link }
      ∧ t.tickets = s.tickets.filter (fun x => x.number != k.number)
      ∧ Cancels s t (ofTicket k.number)
      ∧ TabCheckedByEvent s t k.slot (Tab.voided s.join.figures i l tb) := by
  have hnum : ∀ t, (f t).number = t.number := fun t => (hf t).1
  have hfreed : ∀ v : State, v = { s with
        tabs := v.tabs, notices := v.notices, overflow := v.overflow, link := v.link } →
      ticketReport k [p] .removed s = v →
      emptied k p f s = checkFree k.slot { v with
        tickets := s.tickets.filter fun x => x.number != k.number
        line := { s.line with
          waiting := s.line.waiting.filter fun x => !ofTicket k.number x
          sending := s.line.sending.map (TxItem.disown (ofTicket k.number)) } } := by
    intro v hv heq
    have hkv : ticketOf v k.number = some k := by
      rw [hv]
      exact hk
    have hfilter : ((updTicket k.number f v).tickets.filter fun x => x.number != k.number)
        = s.tickets.filter fun x => x.number != k.number := by
      rw [filter_updTicket hnum, hv]
    unfold emptied
    rw [heq, freeTicket_of (ticketOf_updTicket_of hkv hnum).1, (hf k).2, hfilter]
    refine congrArg (checkFree k.slot) ?_
    unfold cancelFrames updTicket
    dsimp only
    rw [hv]
  have hput : tabIn (putTab k.slot (some (Tab.voided s.join.figures i l tb)) s) k.slot
      = some (Tab.voided s.join.figures i l tb) := tabIn_putTab_self _ (lt_of_tabIn ht)
  have hreport := ticketReport_removed hp ht hl hs
  dsimp only
  by_cases hfree : Freeable (putTab k.slot (some (Tab.voided s.join.figures i l tb)) s) k.slot
      (Tab.voided s.join.figures i l tb)
  · rw [checkFree_of_freeable hput hfree, putTab_putTab] at hreport
    have hnone : tabIn (notify (.tabFreed (Tab.voided s.join.figures i l tb).code)
        (putTab k.slot none s)) k.slot = none := by
      rw [notify_frame]
      exact tabIn_putTab_self _ (lt_of_tabIn ht)
    rw [hfreed _ (by rw [notify_frame, putTab_frame]) hreport, checkFree_of_noTab (by exact hnone)]
    obtain ⟨⟨h1, h2⟩, h3⟩ := notified_notify (s := s) (u := putTab k.slot none s)
      (.tabFreed (Tab.voided s.join.figures i l tb).code)
      (by rw [putTab_frame]) (by rw [putTab_frame]) (by rw [putTab_frame]) (by rw [putTab_frame])
    obtain ⟨hclosed, hfin, hrefs⟩ := hfree
    refine ⟨?_, rfl, rfl, tabCheckedByEvent_of_freed ht ⟨hclosed, hfin, fun x hx => ?_⟩ ?_ h1 h2 h3⟩
    · rw [notify_frame, putTab_frame]
    · have hx' : x ∈ s.tickets := List.mem_of_mem_filter (p := fun y => y.number != k.number) hx
      exact hrefs x (by rw [putTab_frame]; exact hx')
    · rw [notify_frame]
  · rw [checkFree_of_kept hput hfree] at hreport
    rw [hfreed _ (by rw [putTab_frame]) hreport]
    refine ⟨?_, ?_, ?_, ?_⟩
    · rw [checkFree_frame, putTab_frame]
    · rw [checkFree_frame]
    · dsimp only [Cancels]
      rw [checkFree_frame]
    · exact tabCheckedByEvent_putTab ht rfl

end Sys2Proof.Machine
end

section
-- One proof at a time: side by side, their threads' stacks outgrow the check's memory.
set_option Elab.async false
/-! PROGRESS REFUSED, the stale frames and the WITHDRAW-REPLY at the ticket table (R71, R75, R77). -/

namespace Sys2Proof.Machine

/-! ## PROGRESS REFUSED -/

/-- A record changed by its mask alone is reissued as it was. -/
theorem reissued_unmasked {v t : State} {m : Byte} {k : Ticket} {stale : Option StaleHolder}
    {cause : ReissueCause} {queue : List TxItem}
    (hk : ticketOf v k.number = some k)
    (h : Reissued (updTicket k.number (masked m) v) t (masked m k) stale cause queue) :
    Reissued v t k stale cause queue := by
  obtain ⟨h1, h2, h3, h4, h5⟩ := h
  have hother := (ticketOf_updTicket_of (f := masked m) hk (by exact fun _ => rfl)).2
  exact ⟨h1, h2, fun n hn => (h3 n hn).trans (hother n hn), h4.congr rfl rfl rfl rfl, h5⟩

/-- Step 2 of R77 with the frames of the ticket cancelled: a REVOKE to the old awardee. -/
theorem revokeAwardee_of {s : State} {k : Ticket} {a : Awardee} (ha : k.awardee = some a)
    (hc : CanSend s 1) : revokeAwardee true k (cancelFrames (ofTicket k.number) s)
      = { s with line := { s.line with
          waiting := joinQueue (newItem s a.station (.revoke (Ticket.ref k)) false)
            (s.line.waiting.filter fun x => !ofTicket k.number x)
          sending := s.line.sending.map (TxItem.disown (ofTicket k.number)) } } := by
  unfold revokeAwardee
  rw [ha]
  exact offerFrame_of_free (by exact hc.1) (hc.2.trans (freeTx_cancelFrames _ s))

/-- The only withdrawal of a ticket ends with its reissue: its line is voided, its position leaves. -/
theorem endWithdrawals_single {s : State} {k : Ticket} {w : Withdrawal}
    (hk : ticketOf s k.number = some k) (hw : k.withdrawals = [w]) : endWithdrawals k.number s
      = updTicket k.number (Ticket.dropPosition w.position)
        (ticketReport k [w.position] .removed s) := by
  unfold endWithdrawals
  rw [hk]
  dsimp only
  rw [hw]
  rfl

/-- A reissue of a ticket whose only live position is being withdrawn frees its record. -/
theorem reissue_emptied {s : State} {k : Ticket} {w : Withdrawal} (cause : ReissueCause)
    (hk : ticketOf s k.number = some k) (hw : k.withdrawals = [w]) (hl : without w.position k.live = 0#8)
    (hrevoked : (revokeAwardee true k (cancelFrames (ofTicket k.number) s)).tickets = s.tickets) :
    reissue k.number true none cause s = emptied k w.position (Ticket.dropPosition w.position)
      (revokeAwardee true k (cancelFrames (ofTicket k.number) s)) := by
  have hk' : ticketOf (revokeAwardee true k (cancelFrames (ofTicket k.number) s)) k.number = some k := by
    unfold ticketOf at hk ⊢
    rw [hrevoked]
    exact hk
  have hbegun : reissueBegun k.number true none k s
      = updTicket k.number (Ticket.dropPosition w.position) (ticketReport k [w.position] .removed
        (revokeAwardee true k (cancelFrames (ofTicket k.number) s))) :=
    endWithdrawals_single hk' hw
  have hk'' : ticketOf (ticketReport k [w.position] .removed
      (revokeAwardee true k (cancelFrames (ofTicket k.number) s))) k.number = some k := by
    unfold ticketOf at hk' ⊢
    rw [ticketReport_frame]
    exact hk'
  have hfound : ticketOf (reissueBegun k.number true none k s) k.number
      = some (Ticket.dropPosition w.position k) := by
    rw [hbegun]
    exact (ticketOf_updTicket_of hk'' (by exact fun _ => rfl)).1
  rw [reissue_of_some hk, hfound]
  show reissueDone _ _ _ _ _ = _
  unfold reissueDone
  refine (if_pos hl).trans ?_
  rw [hbegun]
  rfl

/-- Frames cancelled twice, with one of another kind among them, are cancelled once. -/
theorem filter_joinQueue {p : TxItem → Bool} {x : TxItem} (hx : p x = false) (q : List TxItem) :
    ((joinQueue x (q.filter fun y => !p y)).filter fun y => !p y)
      = joinQueue x (q.filter fun y => !p y) := by
  refine List.filter_eq_self.2 fun y hy => ?_
  rcases mem_joinQueue.1 hy with rfl | hy
  · rw [hx]
    rfl
  · exact (List.mem_filter.1 hy).2

theorem disown_twice (p : TxItem → Bool) (x : Option TxItem) :
    (x.map (TxItem.disown p)).map (TxItem.disown p) = x.map (TxItem.disown p) := by
  rw [Option.map_map]
  refine congrArg (fun g => x.map g) (funext fun y => ?_)
  rw [Function.comp_apply, disown_disown]
  simp only [Bool.or_self]

/-- PROGRESS REFUSED of a ticket with nothing left but the line that is being withdrawn. -/
theorem refused_emptied {s : State} {k : Ticket} {a : Awardee} {w : Withdrawal} {i : Nat} {tb : Tab}
    {l : TabLine} (m : Byte) (hk : ticketOf s k.number = some k) (ha : k.awardee = some a)
    (hw : k.withdrawals = [w]) (hlive : without w.position k.live = 0#8)
    (hp : k.positions[w.position]? = some i) (ht : tabIn s k.slot = some tb) (hl : tb.lines[i]? = some l)
    (hs : l.state = .withdrawing) (hc : CanSend s 1) :
    let t := reissue k.number true none .refused (updTicket k.number (masked m) s)
    t = { s with tickets := t.tickets, tabs := t.tabs, line := t.line, notices := t.notices,
                 overflow := t.overflow, link := t.link }
      ∧ t.tickets = s.tickets.filter (fun x => x.number != k.number)
      ∧ t.line = { s.line with
          waiting := joinQueue (newItem s a.station (.revoke ⟨k.number, k.gen⟩) false)
            (s.line.waiting.filter fun x => !ofTicket k.number x)
          sending := s.line.sending.map (TxItem.disown (ofTicket k.number)) }
      ∧ TabCheckedByEvent s t k.slot (Tab.voided s.join.figures i l tb) := by
  have hku := (ticketOf_updTicket_of (f := masked m) hk (by exact fun _ => rfl)).1
  have hrev := revokeAwardee_of (s := updTicket k.number (masked m) s) (k := masked m k) ha hc
  have hreissue := reissue_emptied (s := updTicket k.number (masked m) s) (k := masked m k) .refused hku hw
    hlive (by rw [hrev])
  rw [hrev] at hreissue
  obtain ⟨h1, h2, h3, h4⟩ := emptied_of (s := { updTicket k.number (masked m) s with line := { s.line with
      waiting := joinQueue (newItem s a.station (.revoke ⟨k.number, k.gen⟩) false)
        (s.line.waiting.filter fun x => !ofTicket k.number x)
      sending := s.line.sending.map (TxItem.disown (ofTicket k.number)) } })
    (k := masked m k) (f := Ticket.dropPosition w.position) hku (by exact fun _ => ⟨rfl, rfl⟩) hp ht hl hs
  dsimp only
  rw [show reissue k.number true none .refused (updTicket k.number (masked m) s) = _ from hreissue]
  refine ⟨h1.trans rfl, h2.trans (filter_updTicket (by exact fun _ => rfl) s), h3.trans ?_,
    h4.congr rfl rfl rfl rfl rfl⟩
  dsimp only
  rw [show (masked m k).number = k.number from rfl, filter_joinQueue rfl, disown_twice]

/-! ## Stale frames (R71, R75) -/

/-- The record without a stale holder that answered. -/
def unheld (src : Nat) (k : Ticket) : Ticket :=
  { k with stale := if k.stale.map StaleHolder.station = some src then none else k.stale }

theorem answerStale_of {s : State} {src : Nat} {ref : Ref} (hc : CanSend s 1) : answerStale src ref s
    = updTicket ref.number (unheld src) { s with line := { s.line with
        waiting := joinQueue (newItem s src (.revoke ref) false) s.line.waiting } } := by
  have hf : (fun t : Ticket => if t.stale.map StaleHolder.station = some src then { t with stale := none }
      else t) = unheld src := by
    funext t
    unfold unheld
    split <;> rfl
  unfold answerStale
  rw [hf, sendRevoke, answerFrame_of _ _ hc]

theorem stale_answered {f : Frame} {s : State} {src : Nat} {ref : Ref} {k : Ticket}
    (hk : ticketOf s ref.number = some k) (hc : CanSend s 1) :
    let t := answerStale src ref (arrived f s)
    t = { arrived f s with tickets := t.tickets, line := t.line }
      ∧ ticketOf t ref.number = some (unheld src k)
      ∧ Sends (arrived f s) t src (.revoke ref) false := by
  dsimp only
  rw [answerStale_of (canSend_arrived hc f)]
  refine ⟨rfl, ?_, rfl⟩
  exact (ticketOf_updTicket_of (s := { arrived f s with line := { (arrived f s).line with
    waiting := joinQueue (newItem (arrived f s) src (.revoke ref) false) (arrived f s).line.waiting } })
    (f := unheld src) ((ticketOf_arrived f s ref.number).trans hk) (by exact fun _ => rfl)).1

theorem ticketProgress_stale {s : State} {src : Nat} {ref : Ref} {ks : KitchenState} {m : Byte} {k : Ticket}
    (hk : ticketOf s ref.number = some k)
    (h : k.gen ≠ ref.gen ∨ k.awardee.map Awardee.station ≠ some src) :
    ticketProgress src ref ks m s = answerStale src ref s := by
  unfold ticketProgress
  rw [hk]
  exact if_neg (by rw [fromAwardee_of_stale h]; decide)

theorem ticketProgress_unknown {s : State} {src : Nat} {ref : Ref} {ks : KitchenState} {m : Byte}
    (hk : ticketOf s ref.number = none) : ticketProgress src ref ks m s = s := by
  unfold ticketProgress
  rw [hk]

theorem ticketWithdrawReply_stale {s : State} {src p : Nat} {ref : Ref} {o : WithdrawOutcome} {e : Bool}
    {k : Ticket} (hk : ticketOf s ref.number = some k)
    (h : k.gen ≠ ref.gen ∨ k.awardee.map Awardee.station ≠ some src) :
    ticketWithdrawReply src ref p o e s = answerStale src ref s := by
  unfold ticketWithdrawReply
  rw [hk]
  exact if_neg (by rw [fromAwardee_of_stale h]; decide)

theorem ticketWithdrawReply_unknown {s : State} {src p : Nat} {ref : Ref} {o : WithdrawOutcome} {e : Bool}
    (hk : ticketOf s ref.number = none) : ticketWithdrawReply src ref p o e s = s := by
  unfold ticketWithdrawReply
  rw [hk]

/-! ## WITHDRAW-REPLY -/

/-- A reply that a withdrawal waits for ends it by its outcome. -/
def endByOutcome (k : Ticket) (p : Nat) (o : WithdrawOutcome) (e : Bool) (s : State) : State :=
  match o with
  | .removed => withdrawnLine k p e s
  | .unknown => withdrawnLine k p true s
  | .fired => withdrawRefused k p s

theorem ticketWithdrawReply_of {s : State} {p : Nat} {o : WithdrawOutcome} {e : Bool} {k : Ticket}
    {a : Awardee} {w : Withdrawal} (hk : ticketOf s k.number = some k) (ha : k.awardee = some a)
    (hw : w ∈ k.withdrawals) (hp : w.position = p) :
    ticketWithdrawReply a.station ⟨k.number, k.gen⟩ p o e s = endByOutcome k p o e s := by
  have hany : (k.withdrawals.any fun w => w.position == p) = true :=
    List.any_eq_true.2 ⟨w, hw, by rw [hp]; exact beq_self_eq_true p⟩
  unfold ticketWithdrawReply
  rw [hk]
  dsimp only
  rw [if_pos (fromAwardee_of ha), if_pos hany]
  rfl

theorem ticketWithdrawReply_ignored {s : State} {p : Nat} {o : WithdrawOutcome} {e : Bool} {k : Ticket}
    {a : Awardee} (hk : ticketOf s k.number = some k) (ha : k.awardee = some a)
    (hw : ∀ w ∈ k.withdrawals, w.position ≠ p) :
    ticketWithdrawReply a.station ⟨k.number, k.gen⟩ p o e s = s := by
  have hany : ¬ (k.withdrawals.any fun w => w.position == p) = true := by
    rw [List.any_eq_true]
    rintro ⟨w, hmem, heq⟩
    exact hw w hmem (beq_iff_eq.1 heq)
  unfold ticketWithdrawReply
  rw [hk]
  dsimp only
  rw [if_pos (fromAwardee_of ha), if_neg hany]

/-- The line of a withdrawal that ended is voided; what follows depends on what the ticket has left. -/
theorem withdrawnLine_stays {s : State} {k : Ticket} {p i : Nat} {tb : Tab} {l : TabLine} {nothing : Bool}
    (hlive : without p k.live ≠ 0#8)
    (hheld : nothing = false ∨ k.state = .fired ∨ k.state = .ready)
    (hp : k.positions[p]? = some i) (ht : tabIn s k.slot = some tb) (hl : tb.lines[i]? = some l)
    (hs : l.state = .withdrawing)
    (hstay : tb.state ≠ .closed ∨ ∃ x : Ticket, x ∈ s.tickets ∧ x.slot = k.slot
      ∧ x.issue = codeIssue tb.code) : withdrawnLine k p nothing s
      = updTicket k.number (Ticket.dropPosition p)
        (putTab k.slot (some (Tab.voided s.join.figures i l tb)) s) := by
  have hno : ¬ (nothing && (k.state == .placing || k.state == .placed)) = true := by
    rcases hheld with rfl | h | h
    · exact Bool.noConfusion
    · rw [h]
      cases nothing <;> decide
    · rw [h]
      cases nothing <;> decide
  unfold withdrawnLine
  dsimp only
  rw [if_neg hlive, if_neg hno, ticketReport_removed_stays hp ht hl hs hstay]

theorem withdrawnLine_emptied {s : State} {k : Ticket} {p : Nat} {nothing : Bool}
    (hlive : without p k.live = 0#8) :
    withdrawnLine k p nothing s = emptied k p (Ticket.dropPosition p) s := if_pos hlive

theorem withdrawnLine_reissues {s : State} {k : Ticket} {p i : Nat} {tb : Tab} {l : TabLine}
    (hlive : without p k.live ≠ 0#8) (hk : k.state = .placing ∨ k.state = .placed)
    (hp : k.positions[p]? = some i) (ht : tabIn s k.slot = some tb) (hl : tb.lines[i]? = some l)
    (hs : l.state = .withdrawing)
    (hstay : tb.state ≠ .closed ∨ ∃ x : Ticket, x ∈ s.tickets ∧ x.slot = k.slot
      ∧ x.issue = codeIssue tb.code) : withdrawnLine k p true s
      = reissue k.number false none .holdsNothing (updTicket k.number (Ticket.dropPosition p)
        (putTab k.slot (some (Tab.voided s.join.figures i l tb)) s)) := by
  have hyes : (true && (k.state == .placing || k.state == .placed)) = true := by
    rcases hk with h | h <;> rw [h] <;> rfl
  unfold withdrawnLine
  dsimp only
  rw [if_neg hlive, if_pos hyes, ticketReport_removed_stays hp ht hl hs hstay]

end Sys2Proof.Machine
end

section
-- One proof at a time: side by side, their threads' stacks outgrow the check's memory.
set_option Elab.async false
/-! The outcomes of a WITHDRAW-REPLY, and the frames of a ticket's awardee taken together (R71 to R77). -/

namespace Sys2Proof.Machine

theorem ticketOf_putTab (slot : Nat) (tb : Option Tab) (s : State) (n : Nat) :
    ticketOf (putTab slot tb s) n = ticketOf s n := by
  rw [putTab_frame]
  rfl

/-- A ticket that keeps other live lines loses the position and its withdrawal. -/
theorem reply_stays {s : State} {k : Ticket} {p : Nat} {tb tb' : Tab} (hk : ticketOf s k.number = some k)
    (ht : tabIn s k.slot = some tb) :
    let t := updTicket k.number (Ticket.dropPosition p) (putTab k.slot (some tb') s)
    t = { s with tickets := t.tickets, tabs := t.tabs }
      ∧ ticketOf t k.number = some (Ticket.dropPosition p k)
      ∧ tabIn t k.slot = some tb' ∧ OtherSlots s t k.slot := by
  obtain ⟨hother, htab⟩ := putTab_changes ht (some tb')
  refine ⟨by rw [putTab_frame]; rfl, ?_, htab, hother⟩
  exact (ticketOf_updTicket_of (f := Ticket.dropPosition p) ((ticketOf_putTab _ _ _ _).trans hk)
    (by exact fun _ => rfl)).1

/-- A ticket that keeps a live position is reissued when the kitchen holds nothing of it (R75, R77);
`tabs` are the tabs with its line voided. -/
theorem reply_reissues {s : State} {k : Ticket} {w : Withdrawal} (tabs : Vector TabSlot 32)
    (hk : ticketOf s k.number = some k) (hw : k.withdrawals = [w])
    (hlive : without w.position k.live ≠ 0#8) (hc : CanSend s 1) :
    let t := reissue k.number false none .holdsNothing
      (updTicket k.number (Ticket.dropPosition w.position) { s with tabs := tabs })
    Reissued { s with tabs := tabs } t
        { k with live := without w.position k.live, withdrawals := [] } k.stale .holdsNothing
        (s.line.waiting.filter fun x => !ofTicket k.number x)
      ∧ t.tabs = tabs := by
  intro t
  have hdrop : Ticket.dropPosition w.position k
      = { k with live := without w.position k.live, withdrawals := [] } := by
    unfold Ticket.dropPosition
    rw [hw, List.filter_cons, bne_self_eq_false]
    rfl
  obtain ⟨hself, hrest⟩ := ticketOf_updTicket_of (s := { s with tabs := tabs })
    (f := Ticket.dropPosition w.position) hk (by exact fun _ => rfl)
  rw [hdrop] at hself
  obtain ⟨h1, h2, h3, h4, h5⟩ := reissued_of_canSend
    (s := updTicket k.number (Ticket.dropPosition w.position) { s with tabs := tabs })
    (k := { k with live := without w.position k.live, withdrawals := [] }) none .holdsNothing
    hself rfl hlive hc
  exact ⟨⟨h1, h2, fun n hn => (h3 n hn).trans (hrest n hn), h4.congr rfl rfl rfl rfl, h5⟩,
    (congrArg State.tabs h1 :)⟩

/-! ## FIRED: the withdrawal came too late (R75) -/

/-- The withdrawal of a line that the kitchen fired ends, and the line is FIRED. -/
def lineRefused (k : Ticket) (p i : Nat) (l : TabLine) (tb : Tab) (s : State) : State :=
  putTab k.slot (some (Tab.withLine i { l with state := .fired } tb)) (endWithdrawal k.number p s)

theorem lineRefused_of {s : State} {k : Ticket} {p i : Nat} {tb : Tab} {l : TabLine}
    (hp : k.positions[p]? = some i) (ht : tabIn s k.slot = some tb) (hl : tb.lines[i]? = some l)
    (hs : l.state = .withdrawing) :
    ticketReport k [p] .withdrawRefused (endWithdrawal k.number p s) = lineRefused k p i l tb s := by
  refine ticketReport_single (l' := { l with state := .fired }) (.inr (.inl rfl)) ht hp hl ?_
  unfold applyReport
  rw [hs]

/-- A ticket FIRED or READY before takes only the line. -/
theorem withdrawRefused_late {s : State} {k : Ticket} {p i : Nat} {tb : Tab} {l : TabLine}
    (hstate : k.state = .fired ∨ k.state = .ready) (hp : k.positions[p]? = some i)
    (ht : tabIn s k.slot = some tb) (hl : tb.lines[i]? = some l) (hs : l.state = .withdrawing) :
    withdrawRefused k p s = notify (.withdrawRefused (Ticket.ref k) (ticketCode s k) i)
      (lineRefused k p i l tb s) := by
  have hno : ¬ (k.state = .placing ∨ k.state = .placed) := by
    rcases hstate with h | h <;> rw [h] <;> decide
  have hcode : ticketCode (lineRefused k p i l tb s) k = ticketCode s k := ticketCode_putTab _ _ _ _
  rw [← hcode, ← lineRefused_of hp ht hl hs]
  unfold withdrawRefused
  dsimp only
  rw [if_neg hno, getD_of_getElem? hp]
  rfl

/-- The other lines of a ticket that was not known to be fired are reported FIRED with it. -/
def othersFired (k : Ticket) (p : Nat) (s : State) : State :=
  ticketReport k ((Ticket.livePositions k).filter fun q => q != p) .fired
    (updTicket k.number (fun t => { t with state := .fired, wait := .none }) s)

theorem withdrawRefused_early {s : State} {k : Ticket} {p i : Nat} {tb : Tab} {l : TabLine}
    (hstate : k.state = .placing ∨ k.state = .placed) (hp : k.positions[p]? = some i)
    (ht : tabIn s k.slot = some tb) (hl : tb.lines[i]? = some l) (hs : l.state = .withdrawing) :
    withdrawRefused k p s = notify (.withdrawRefused (Ticket.ref k) (ticketCode s k) i)
      (othersFired k p (lineRefused k p i l tb s)) := by
  have hcode : ticketCode (othersFired k p (lineRefused k p i l tb s)) k = ticketCode s k := by
    refine (congrArg (fun t => ticketCode t k) (ticketReport_frame _ _ _ _) :).trans ?_
    exact ticketCode_putTab _ _ _ _
  rw [← hcode, ← lineRefused_of hp ht hl hs]
  unfold withdrawRefused othersFired
  dsimp only
  rw [if_pos hstate, getD_of_getElem? hp]
  rfl

/-- What a FIRED reply leaves of a ticket that was FIRED or READY. -/
theorem reply_refused_late {s : State} {k : Ticket} {p i : Nat} {tb : Tab} {l : TabLine}
    (hk : ticketOf s k.number = some k) (hstate : k.state = .fired ∨ k.state = .ready)
    (hp : k.positions[p]? = some i) (ht : tabIn s k.slot = some tb) (hl : tb.lines[i]? = some l)
    (hs : l.state = .withdrawing) :
    let t := withdrawRefused k p s
    t = { s with tickets := t.tickets, tabs := t.tabs, notices := t.notices, overflow := t.overflow,
                 link := t.link }
      ∧ ticketOf t k.number
        = some { k with withdrawals := k.withdrawals.filter fun w => w.position != p }
      ∧ tabIn t k.slot = some (Tab.withLine i { l with state := .fired } tb)
      ∧ OtherSlots s t k.slot
      ∧ Notified s t (.withdrawRefused (Ticket.ref k) (ticketCode s k) i) := by
  obtain ⟨hother, htab⟩ := putTab_changes (s := endWithdrawal k.number p s) ht
    (some (Tab.withLine i { l with state := .fired } tb))
  have hf := notify_frame (.withdrawRefused (Ticket.ref k) (ticketCode s k) i) (lineRefused k p i l tb s)
  have htabs := (congrArg State.tabs hf :)
  dsimp only
  rw [withdrawRefused_late hstate hp ht hl hs]
  refine ⟨?_, ?_, (tabIn_congr htabs _).trans htab, fun j hj => ?_,
    notified_notify _ (congrArg State.notices (putTab_frame _ _ _) :)
      (congrArg State.overflow (putTab_frame _ _ _) :) (congrArg State.link (putTab_frame _ _ _) :)
      (congrArg State.clock (putTab_frame _ _ _) :)⟩
  · rw [hf]
    unfold lineRefused
    rw [putTab_frame]
    rfl
  · have htickets := (congrArg State.tickets hf :)
    unfold ticketOf
    rw [htickets]
    exact (ticketOf_putTab _ _ _ _).trans (ticketOf_endWithdrawal hk p)
  · rw [htabs]
    exact hother j hj

/-- The state after the reports of a FIRED reply, before its notice: the record, the lines and the quiet
rest. -/
theorem progressTo_othersFired {s : State} {k : Ticket} {p i : Nat} {tb : Tab} {l : TabLine}
    (hk : ticketOf s k.number = some k) :
    ProgressTo s (othersFired k p (lineRefused k p i l tb s)) k { k with
      state := .fired, wait := .none
      withdrawals := k.withdrawals.filter fun w => w.position != p } := by
  have hstep : ProgressTo s (lineRefused k p i l tb s) k
      { k with withdrawals := k.withdrawals.filter fun w => w.position != p } := by
    refine ⟨?_, (ticketOf_putTab _ _ _ _).trans (ticketOf_endWithdrawal hk p), fun n hn => ?_⟩
    · unfold lineRefused
      rw [putTab_frame]
      rfl
    · refine (ticketOf_putTab _ _ _ _).trans ?_
      exact (ticketOf_updTicket_of (f := fun t => { t with
        withdrawals := t.withdrawals.filter fun w => w.position != p }) hk (by exact fun _ => rfl)).2 n hn
  exact hstep.trans rfl ((progressTo_updTicket
    (k := { k with withdrawals := k.withdrawals.filter fun w => w.position != p })
    (f := fun t => { t with state := .fired, wait := .none }) hstep.2.1 (by exact fun _ => rfl)).report
    livesFired k ((Ticket.livePositions k).filter fun q => q != p))

/-- The other live lines of a ticket, by their indices. -/
def otherLines (k : Ticket) (p : Nat) : List Nat :=
  Ticket.linesAt k ((Ticket.livePositions k).filter fun q => q != p)

theorem othersFired_tabs {s : State} {k : Ticket} {p i : Nat} {tb : Tab} {l : TabLine}
    (ht : tabIn s k.slot = some tb) :
    tabIn (othersFired k p (lineRefused k p i l tb s)) k.slot
        = some (Tab.reports .fired (Tab.withLine i { l with state := .fired } tb) (otherLines k p))
      ∧ OtherSlots s (othersFired k p (lineRefused k p i l tb s)) k.slot := by
  obtain ⟨hother, htab⟩ := putTab_changes (s := endWithdrawal k.number p s) ht
    (some (Tab.withLine i { l with state := .fired } tb))
  have hbase : tabIn (updTicket k.number (fun t => { t with state := .fired, wait := .none })
      (lineRefused k p i l tb s)) k.slot = some (Tab.withLine i { l with state := .fired } tb) := htab
  obtain ⟨hother', htab'⟩ := putTab_changes hbase
    (some (Tab.reports .fired (Tab.withLine i { l with state := .fired } tb) (otherLines k p)))
  unfold othersFired
  rw [ticketReport_of_lives livesFired hbase]
  exact ⟨htab', fun j hj => (hother' j hj).trans (hother j hj)⟩

theorem othersFired_quiet (s : State) (k : Ticket) (p i : Nat) (tb : Tab) (l : TabLine) :
    othersFired k p (lineRefused k p i l tb s) = { s with
      tickets := (othersFired k p (lineRefused k p i l tb s)).tickets
      tabs := (othersFired k p (lineRefused k p i l tb s)).tabs } := by
  unfold othersFired lineRefused
  rw [ticketReport_lives_frame livesFired, putTab_frame]
  rfl

/-- The line that is fired with its withdrawal, and the others fired with it. -/
theorem lines_fired {k : Ticket} {p i : Nat} {tb : Tab} {l : TabLine} (hl : tb.lines[i]? = some l) :
    let tb' := Tab.reports .fired (Tab.withLine i { l with state := .fired } tb) (otherLines k p)
    tb'.lines[i]? = some { l with state := .fired }
      ∧ ∀ (q j : Nat) (x : TabLine), q ≠ p → k.positions[q]? = some j → j ≠ i →
          k.live.getLsbD q = true → tb.lines[j]? = some x → x.state = .sent →
          tb'.lines[j]? = some { x with state := .fired } := by
  refine ⟨?_, fun q j x hq hpos hj hlive hline hsent => ?_⟩
  · rw [getElem?_reports, getElem?_withLine hl, if_pos rfl, Option.map_some]
    split <;> rfl
  · have hmem : j ∈ otherLines k p := by
      refine List.mem_filterMap.2 ⟨q, List.mem_filter.2 ⟨?_, bne_iff_ne.2 hq⟩, hpos⟩
      exact List.mem_filter.2 ⟨List.mem_range.2 (List.getElem?_eq_some_iff.1 hpos).1, hlive⟩
    rw [getElem?_reports, getElem?_withLine hl, if_neg hj, hline, Option.map_some, if_pos hmem]
    unfold lineAfter applyReport
    rw [hsent]
    rfl

/-- What a FIRED reply leaves of a PLACING or PLACED ticket. -/
theorem reply_refused_early {s : State} {k : Ticket} {p i : Nat} {tb : Tab} {l : TabLine}
    (hk : ticketOf s k.number = some k) (hstate : k.state = .placing ∨ k.state = .placed)
    (hp : k.positions[p]? = some i) (ht : tabIn s k.slot = some tb) (hl : tb.lines[i]? = some l)
    (hs : l.state = .withdrawing) :
    let t := withdrawRefused k p s
    ProgressTo s t k { k with
        state := .fired, wait := .none
        withdrawals := k.withdrawals.filter fun w => w.position != p }
      ∧ ((tabIn t k.slot).bind fun tb' => tb'.lines[i]?) = some { l with state := .fired }
      ∧ (∀ (q j : Nat) (x : TabLine), q ≠ p → k.positions[q]? = some j → j ≠ i →
          k.live.getLsbD q = true → tb.lines[j]? = some x → x.state = .sent →
          ((tabIn t k.slot).bind fun tb' => tb'.lines[j]?) = some { x with state := .fired })
      ∧ OtherSlots s t k.slot
      ∧ Notified s t (.withdrawRefused (Ticket.ref k) (ticketCode s k) i) := by
  have hf := notify_frame (.withdrawRefused (Ticket.ref k) (ticketCode s k) i)
    (othersFired k p (lineRefused k p i l tb s))
  have htabs := (congrArg State.tabs hf :)
  have hquiet := othersFired_quiet s k p i tb l
  obtain ⟨htab, hother⟩ := othersFired_tabs (p := p) (i := i) (l := l) ht
  obtain ⟨hline, hlines⟩ := lines_fired (k := k) (p := p) hl
  have hfinal := (tabIn_congr htabs k.slot).trans htab
  dsimp only
  rw [withdrawRefused_early hstate hp ht hl hs]
  refine ⟨(progressTo_othersFired hk).notify _, ?_, fun q j x hq hpos hj hlive hx hsent => ?_,
    fun j hj => (congrArg (fun ts : Vector TabSlot 32 => ts[j]?) htabs).trans (hother j hj), ?_⟩
  · rw [hfinal]
    exact hline
  · rw [hfinal]
    exact hlines q j x hq hpos hj hlive hx hsent
  · exact notified_notify _ (congrArg State.notices hquiet :) (congrArg State.overflow hquiet :)
      (congrArg State.link hquiet :) (congrArg State.clock hquiet :)

end Sys2Proof.Machine
end

section
-- One proof at a time: side by side, their threads' stacks outgrow the check's memory.
set_option Elab.async false
/-! The frames of a ticket's awardee (R71, R72, R75, R77). -/

namespace Sys2Proof.Machine

/-- What queues a notice in the state that a delivery and a change of one record leave queues it in the
state before. -/
theorem notified_of_masked {f : Frame} {s t : State} {n : Nat} {m : Byte} {b : NoticeBody}
    (h : Notified (updTicket n (masked m) (arrived f s)) t b) : Notified s t b :=
  h.congr (arrived_notices f s) (arrived_overflow f s) (arrived_link f s) (arrived_clock f s)

/-- The same behind a notice that came before. -/
theorem notified_after_masked {f : Frame} {s t : State} {n : Nat} {m : Byte} {b c : NoticeBody}
    (h : Notified (notify c (updTicket n (masked m) (arrived f s))) t b) : Notified (notify c s) t b := by
  obtain ⟨h1, h2, h3⟩ := notify_congr c (s := s) (t := updTicket n (masked m) (arrived f s))
    (arrived_notices f s) (arrived_overflow f s) (arrived_link f s) (arrived_clock f s)
  refine h.congr h1 h2 h3 ?_
  exact (congrArg State.clock (notify_frame _ _) :).trans ((arrived_clock f s).trans
    (congrArg State.clock (notify_frame _ _) :).symm)

theorem quiet_of_masked {f : Frame} {s t : State} {n : Nat} {m : Byte}
    (h : t.notices = (updTicket n (masked m) (arrived f s)).notices
      ∧ t.overflow = (updTicket n (masked m) (arrived f s)).overflow
      ∧ t.link = (updTicket n (masked m) (arrived f s)).link) :
    t.notices = s.notices ∧ t.overflow = s.overflow ∧ t.link = s.link := by
  obtain ⟨h1, h2, h3⟩ := h
  exact ⟨h1.trans (arrived_notices f s), h2.trans (arrived_overflow f s), h3.trans (arrived_link f s)⟩

theorem quiet_after_masked {f : Frame} {s t : State} {n : Nat} {m : Byte} {c : NoticeBody}
    (h : t.notices = (notify c (updTicket n (masked m) (arrived f s))).notices
      ∧ t.overflow = (notify c (updTicket n (masked m) (arrived f s))).overflow
      ∧ t.link = (notify c (updTicket n (masked m) (arrived f s))).link) :
    t.notices = (notify c s).notices ∧ t.overflow = (notify c s).overflow
      ∧ t.link = (notify c s).link := by
  obtain ⟨g1, g2, g3⟩ := h
  obtain ⟨h1, h2, h3⟩ := notify_congr c (s := s) (t := updTicket n (masked m) (arrived f s))
    (arrived_notices f s) (arrived_overflow f s) (arrived_link f s) (arrived_clock f s)
  exact ⟨g1.trans h1, g2.trans h2, g3.trans h3⟩

theorem ticketCode_masked (f : Frame) (s : State) (n : Nat) (m : Byte) (k : Ticket) :
    ticketCode (updTicket n (masked m) (arrived f s)) (masked m k) = tabCode (station s) k.slot k.issue :=
  congrArg (fun st => tabCode st k.slot k.issue) (station_arrived f s)

theorem placedAfter_placing {k : Ticket} (h : k.state = .placing) (m : Byte) (x : Time) :
    placedAfter (masked m k) x = some x := if_pos h

theorem placedAfter_later {k : Ticket} (h : k.state = .placed ∨ k.state = .fired) (m : Byte) (x : Time) :
    placedAfter (masked m k) x = k.placed :=
  if_neg (by
    show k.state ≠ .placing
    rcases h with h | h <;> rw [h] <;> decide)

/-- A PROGRESS taken from the awardee does what its row of Table 4-3 says. -/
theorem progress_taken {s : State} {dest src : Nat} {ref : Ref} {ks : KitchenState} {m : Byte} {k : Ticket}
    {a : Awardee} (h : TillDelivers s ⟨dest, src, .progress ref ks m⟩)
    (hk : ticketOf s ref.number = some k) (hg : k.gen = ref.gen) (ha : k.awardee = some a)
    (hsrc : a.station = src) :
    let u := updTicket ref.number (masked m) (arrived ⟨dest, src, .progress ref ks m⟩ s)
    Ticket.ref (masked m k) = ref ∧ (masked m k).number = ref.number
      ∧ ticketOf u ref.number = some (masked m k)
      ∧ (∀ n : Nat, n ≠ ref.number → ticketOf u n = ticketOf s n)
      ∧ exec (.progress dest src ref ks m) s = .next (takeProgress (masked m k) ks u) := by
  obtain ⟨number, gen⟩ := ref
  obtain rfl := ticketOf_number hk
  obtain rfl : k.gen = gen := hg
  subst hsrc
  have hk' := (ticketOf_arrived ⟨dest, a.station, .progress ⟨k.number, k.gen⟩ ks m⟩ s k.number).trans hk
  obtain ⟨hself, hother⟩ := ticketOf_updTicket_of (f := masked m) hk' (by exact fun _ => rfl)
  refine ⟨rfl, rfl, hself, fun n hn => (hother n hn).trans (ticketOf_arrived _ s n), ?_⟩
  rw [exec_progress h]
  exact congrArg Host.Outcome.next (ticketProgress_of hk' ha)

/-- PROGRESS other than REFUSED. -/
theorem progress_moves {s : State} {dest src : Nat} {ref : Ref} {ks : KitchenState} {m : Byte} {k : Ticket}
    (hks : ks ≠ .refused)
    (hk : ticketOf (updTicket ref.number (masked m) (arrived ⟨dest, src, .progress ref ks m⟩ s)) ref.number
      = some (masked m k))
    (hn : (masked m k).number = ref.number)
    (hother : ∀ n : Nat, n ≠ ref.number →
      ticketOf (updTicket ref.number (masked m) (arrived ⟨dest, src, .progress ref ks m⟩ s)) n
        = ticketOf s n) :
    let v := arrived ⟨dest, src, .progress ref ks m⟩ s
    let t := takeProgress (masked m k) ks (updTicket ref.number (masked m) v)
    t = { v with tickets := t.tickets, tabs := t.tabs, notices := t.notices, overflow := t.overflow,
                 link := t.link }
      ∧ ∀ n : Nat, n ≠ ref.number → ticketOf t n = ticketOf s n := by
  rw [← hn] at hk
  obtain ⟨k', h1, -, h3⟩ := progressTo_takeProgress hk hks
  rw [hn] at h1 h3
  exact ⟨h1, fun n hne => (h3 n hne).trans (hother n hne)⟩

/-- PROGRESS by the rows of Table 4-3: the record, the notices and the lines. -/
theorem progress_rows {f : Frame} {s : State} {m : Byte} {k : Ticket} {a : Awardee} (ks : KitchenState)
    (hk : ticketOf s k.number = some k) (ha : k.awardee = some a) :
    let u := updTicket k.number (masked m) (arrived f s)
    let t := takeProgress (masked m k) ks u
    let code := tabCode (station s) k.slot k.issue
    (k.state = .placing → ks = .queued →
        ticketOf t k.number = some
            { k with kmask := m, state := .placed, wait := .none, placed := some (now s) }
          ∧ t.tabs = s.tabs ∧ Notified s t (.placed (Ticket.ref k) code a.station a.depth m))
    ∧ (k.state = .placing ∨ k.state = .placed → ks = .fired →
        ticketOf t k.number = some (toFired (placedAfter (masked m k) (now s)) (masked m k))
          ∧ (t.notices = s.notices ∧ t.overflow = s.overflow ∧ t.link = s.link)
          ∧ ∀ (tb : Tab) (i p : Nat) (l : TabLine), tabIn s k.slot = some tb →
              k.positions[p]? = some i → k.live.getLsbD p = true → tb.lines[i]? = some l →
              l.state = .sent →
              ((tabIn t k.slot).bind fun tb' => tb'.lines[i]?) = some { l with state := .fired })
    ∧ (k.state = .placing ∨ k.state = .placed ∨ k.state = .fired → ks = .ready →
        ticketOf t k.number = some (toReady (placedAfter (masked m k) (now s)) (now s) (masked m k))
          ∧ Notified s t (.ready (Ticket.ref k) code a.station m)
          ∧ ∀ (tb : Tab) (i p : Nat) (l : TabLine), tabIn s k.slot = some tb →
              k.positions[p]? = some i → k.live.getLsbD p = true → tb.lines[i]? = some l →
              l.state = .sent ∨ l.state = .fired →
              ((tabIn t k.slot).bind fun tb' => tb'.lines[i]?) = some { l with state := .ready })
    ∧ (k.state = .placing → ks = .late →
        let s₁ := notify (.placed (Ticket.ref k) code a.station a.depth m) s
        ticketOf t k.number = some
            { k with kmask := m, state := .placed, wait := .none, placed := some (now s), late := true }
          ∧ t.tabs = s.tabs
          ∧ (k.late = false → Notified s₁ t (.late (Ticket.ref k) code a.station m))
          ∧ (k.late = true → t.notices = s₁.notices ∧ t.overflow = s₁.overflow ∧ t.link = s₁.link))
    ∧ (k.state = .placed ∨ k.state = .fired ∨ k.state = .ready → ks = .late →
        ticketOf t k.number = some { k with kmask := m, late := true } ∧ t.tabs = s.tabs
          ∧ (k.late = false → Notified s t (.late (Ticket.ref k) code a.station m))
          ∧ (k.late = true → t.notices = s.notices ∧ t.overflow = s.overflow ∧ t.link = s.link))
    ∧ (k.state = .ready ∧ ks ≠ .late ∨ k.state = .fired ∧ (ks = .queued ∨ ks = .fired)
          ∨ k.state = .placed ∧ ks = .queued →
        ticketOf t k.number = some { k with kmask := m } ∧ t.tabs = s.tabs
          ∧ t.notices = s.notices ∧ t.overflow = s.overflow ∧ t.link = s.link) := by
  intro u t code
  have hself : ticketOf u (masked m k).number = some (masked m k) :=
    (ticketOf_updTicket_of (f := masked m) ((ticketOf_arrived f s k.number).trans hk)
      (by exact fun _ => rfl)).1
  have hnow : now u = now s := now_arrived f s
  have htabs : u.tabs = s.tabs := arrived_tabs f s
  have htab : ∀ i, tabIn u i = tabIn s i := tabIn_congr htabs
  have hcode : ticketCode u (masked m k) = code := ticketCode_masked f s k.number m k
  refine ⟨?_, ?_, ?_, ?_, ?_, fun hrow => ?_⟩
  · rintro hs rfl
    obtain ⟨h1, h2, h3⟩ := row_placed hself ha hs
    rw [hnow] at h1
    rw [hcode] at h3
    exact ⟨h1, h2.trans htabs, notified_of_masked h3⟩
  · rintro hs rfl
    obtain ⟨h1, h2, h3⟩ := row_fired hself hs
    rw [hnow] at h1
    exact ⟨h1, quiet_of_masked h2, fun tb i p l ht => h3 tb i p l ((htab _).trans ht)⟩
  · rintro hs rfl
    obtain ⟨h1, h2, h3⟩ := row_ready hself ha hs
    rw [hnow] at h1
    rw [hcode] at h2
    exact ⟨h1, notified_of_masked h2, fun tb i p l ht => h3 tb i p l ((htab _).trans ht)⟩
  · rintro hs rfl
    obtain ⟨h1, h2, h3, h4⟩ := row_latePlacing hself ha hs
    rw [hnow] at h1
    rw [hcode] at h3 h4
    exact ⟨h1, h2.trans htabs, fun hl => notified_after_masked (h3 hl), fun hl => quiet_after_masked (h4 hl)⟩
  · rintro hs rfl
    obtain ⟨h1, h2, h3, h4⟩ := row_late hself ha hs
    rw [hcode] at h3
    exact ⟨h1, h2.trans htabs, fun hl => notified_of_masked (h3 hl), fun hl => quiet_of_masked (h4 hl)⟩
  · have hsame : t = u := takeProgress_again hrow
    rw [hsame]
    exact ⟨hself, htabs, quiet_of_masked ⟨rfl, rfl, rfl⟩⟩

end Sys2Proof.Machine
end

section
-- One proof at a time: side by side, their threads' stacks outgrow the check's memory.
set_option Elab.async false
/-! What the obligation on the frames of a ticket's awardee asks, clause by clause. -/

namespace Sys2Proof.Machine

/-- A withdrawn line's tab, as the figures of the state before the delivery compute it. -/
theorem voided_arrived (f : Frame) (s : State) (i : Nat) (l : TabLine) (tb : Tab) :
    Tab.voided (arrived f s).join.figures i l tb = Tab.voided s.join.figures i l tb := by
  rw [arrived_join]

/-- What a delivery and the end of a record leave, told of the state before the delivery. -/
theorem checked_of_arrived {f : Frame} {s t : State} {slot i : Nat} {l : TabLine} {tb : Tab}
    (h : TabCheckedByEvent (arrived f s) t slot (Tab.voided (arrived f s).join.figures i l tb)) :
    TabCheckedByEvent s t slot (Tab.voided s.join.figures i l tb) := by
  rw [voided_arrived] at h
  exact h.congr (arrived_tabs f s).symm (arrived_notices f s).symm (arrived_overflow f s).symm
    (arrived_link f s).symm (arrived_clock f s).symm

theorem otherSlots_of_arrived {f : Frame} {s t : State} {slot : Nat} (h : OtherSlots (arrived f s) t slot) :
    OtherSlots s t slot := fun i hi => (h i hi).trans (by rw [arrived_tabs])

/-- PROGRESS REFUSED of a PLACING or PLACED ticket that has a live line and no withdrawal (R77). -/
theorem refused_reissues {s : State} {dest : Nat} {m : Byte} {k : Ticket} {a : Awardee}
    (h : TillDelivers s ⟨dest, a.station, .progress ⟨k.number, k.gen⟩ .refused m⟩)
    (hk : ticketOf s k.number = some k) (ha : k.awardee = some a)
    (hs : k.state = .placing ∨ k.state = .placed) (hw : k.withdrawals = []) (hl : k.live ≠ 0#8)
    (hc : CanSend s 2) :
    ∃ t : State, exec (.progress dest a.station ⟨k.number, k.gen⟩ .refused m) s = .next t
      ∧ Reissued (arrived ⟨dest, a.station, .progress ⟨k.number, k.gen⟩ .refused m⟩ s) t k k.stale .refused
        (joinQueue (newItem s a.station (.revoke ⟨k.number, k.gen⟩) false)
          (s.line.waiting.filter fun x => !ofTicket k.number x)) := by
  obtain ⟨-, -, hku, -, hx⟩ := progress_taken h hk rfl ha rfl
  have hk' := (ticketOf_arrived ⟨dest, a.station, .progress ⟨k.number, k.gen⟩ .refused m⟩ s k.number).trans hk
  have hcan := canSend_arrived hc ⟨dest, a.station, .progress ⟨k.number, k.gen⟩ .refused m⟩
  rw [takeProgress_refused (k := masked m k) hs] at hx
  have hre := reissued_unmasked hk' (reissued_with_revoke none .refused hku ha hw hl hcan)
  refine ⟨_, hx, ?_⟩
  have hline := arrived_line ⟨dest, a.station, .progress ⟨k.number, k.gen⟩ .refused m⟩ s
  have hitem := newItem_arrived ⟨dest, a.station, .progress ⟨k.number, k.gen⟩ .refused m⟩ s
  have hqueue : (joinQueue (newItem (updTicket k.number (masked m)
        (arrived ⟨dest, a.station, .progress ⟨k.number, k.gen⟩ .refused m⟩ s)) a.station
        (.revoke ⟨(masked m k).number, (masked m k).gen⟩) false)
      ((updTicket k.number (masked m)
        (arrived ⟨dest, a.station, .progress ⟨k.number, k.gen⟩ .refused m⟩ s)).line.waiting.filter
          fun x => !ofTicket (masked m k).number x))
      = joinQueue (newItem s a.station (.revoke ⟨k.number, k.gen⟩) false)
        (s.line.waiting.filter fun x => !ofTicket k.number x) := by
    show joinQueue (newItem (arrived _ s) _ _ _) ((arrived _ s).line.waiting.filter _) = _
    rw [hitem, hline]
    rfl
  rw [hqueue] at hre
  exact hre

/-- PROGRESS REFUSED of a ticket whose only live line is being withdrawn (R75, R77, R82). -/
theorem refused_frees {s : State} {dest : Nat} {m : Byte} {k : Ticket} {a : Awardee} {w : Withdrawal}
    {i : Nat} {tb : Tab} {l : TabLine}
    (h : TillDelivers s ⟨dest, a.station, .progress ⟨k.number, k.gen⟩ .refused m⟩)
    (hk : ticketOf s k.number = some k) (ha : k.awardee = some a)
    (hs : k.state = .placing ∨ k.state = .placed) (hw : k.withdrawals = [w])
    (hlive : without w.position k.live = 0#8) (hp : k.positions[w.position]? = some i)
    (ht : tabIn s k.slot = some tb) (hl : tb.lines[i]? = some l) (hls : l.state = .withdrawing)
    (hc : CanSend s 1) :
    let s' := arrived ⟨dest, a.station, .progress ⟨k.number, k.gen⟩ .refused m⟩ s
    ∃ t : State, exec (.progress dest a.station ⟨k.number, k.gen⟩ .refused m) s = .next t
      ∧ t = { s' with tickets := t.tickets, tabs := t.tabs, line := t.line, notices := t.notices,
                      overflow := t.overflow, link := t.link }
      ∧ t.tickets = s.tickets.filter (fun x => x.number != k.number)
      ∧ t.line = { s'.line with
          waiting := joinQueue (newItem s a.station (.revoke ⟨k.number, k.gen⟩) false)
            (s.line.waiting.filter fun x => !ofTicket k.number x)
          sending := s.line.sending.map (TxItem.disown (ofTicket k.number)) }
      ∧ TabCheckedByEvent s t k.slot (Tab.voided s.join.figures i l tb) := by
  obtain ⟨-, -, -, -, hx⟩ := progress_taken h hk rfl ha rfl
  rw [takeProgress_refused (k := masked m k) hs] at hx
  obtain ⟨h1, h2, h3, h4⟩ := refused_emptied m
    ((ticketOf_arrived ⟨dest, a.station, .progress ⟨k.number, k.gen⟩ .refused m⟩ s k.number).trans hk)
    ha hw hlive hp ((tabIn_arrived _ s _).trans ht) hl hls (canSend_arrived hc _)
  rw [arrived_tickets] at h2
  rw [newItem_arrived] at h3
  refine ⟨_, hx, h1, h2, h3.trans ?_, checked_of_arrived h4⟩
  rw [arrived_line]

/-- A WITHDRAW-REPLY that ends a withdrawal, read at the ticket table. -/
theorem reply_taken {s : State} {dest p : Nat} {o : WithdrawOutcome} {e : Bool} {k : Ticket} {a : Awardee}
    {w : Withdrawal} (h : TillDelivers s ⟨dest, a.station, .withdrawReply ⟨k.number, k.gen⟩ p o e⟩)
    (hk : ticketOf s k.number = some k) (ha : k.awardee = some a) (hw : w ∈ k.withdrawals)
    (hp : w.position = p) : exec (.withdrawReply dest a.station ⟨k.number, k.gen⟩ p o e) s
      = .next (endByOutcome k p o e
        (arrived ⟨dest, a.station, .withdrawReply ⟨k.number, k.gen⟩ p o e⟩ s)) := by
  rw [exec_withdrawReply h]
  exact congrArg Host.Outcome.next (ticketWithdrawReply_of ((ticketOf_arrived _ s _).trans hk) ha hw hp)

/-- The outcomes that end a withdrawal with the line withdrawn. -/
theorem endByOutcome_withdrawn {k : Ticket} {p : Nat} {o : WithdrawOutcome} {e : Bool} (ho : o ≠ .fired)
    (s : State) : endByOutcome k p o e s = withdrawnLine k p (o == .unknown || e) s := by
  cases o with
  | removed => rfl
  | unknown => rfl
  | fired => exact absurd rfl ho

/-- The clauses of a WITHDRAW-REPLY for which its withdrawal waits (R75). -/
theorem reply_ends {s : State} {dest p i : Nat} {o : WithdrawOutcome} {e : Bool} {k : Ticket} {a : Awardee}
    {w : Withdrawal} {tb : Tab} {l : TabLine}
    (h : TillDelivers s ⟨dest, a.station, .withdrawReply ⟨k.number, k.gen⟩ p o e⟩)
    (hk : ticketOf s k.number = some k) (ha : k.awardee = some a) (hpos : k.positions[p]? = some i)
    (hw : w ∈ k.withdrawals) (hwp : w.position = p) (ht : tabIn s k.slot = some tb)
    (hl : tb.lines[i]? = some l) (hls : l.state = .withdrawing) :
    let s' := arrived ⟨dest, a.station, .withdrawReply ⟨k.number, k.gen⟩ p o e⟩ s
    let c : Instr := .withdrawReply dest a.station ⟨k.number, k.gen⟩ p o e
    let stays : Prop := tb.state ≠ .closed
      ∨ ∃ x : Ticket, x ∈ s.tickets ∧ x.slot = k.slot ∧ x.issue = codeIssue tb.code
    (o = .removed ∧ e = false ∨ o ≠ .fired ∧ (k.state = .fired ∨ k.state = .ready) →
      without p k.live ≠ 0#8 → stays →
      ∃ t : State, exec c s = .next t
        ∧ t = { s' with tickets := t.tickets, tabs := t.tabs }
        ∧ ticketOf t k.number = some (Ticket.dropPosition p k)
        ∧ tabIn t k.slot = some (Tab.voided s.join.figures i l tb) ∧ OtherSlots s t k.slot)
    ∧ (o ≠ .fired → without p k.live = 0#8 →
      ∃ t : State, exec c s = .next t
        ∧ t = { s' with tickets := t.tickets, tabs := t.tabs, line := t.line, notices := t.notices,
                        overflow := t.overflow, link := t.link }
        ∧ t.tickets = s.tickets.filter (fun x => x.number != k.number)
        ∧ Cancels s' t (ofTicket k.number)
        ∧ TabCheckedByEvent s t k.slot (Tab.voided s.join.figures i l tb))
    ∧ (o = .unknown ∨ o = .removed ∧ e = true → k.state = .placing ∨ k.state = .placed →
      without p k.live ≠ 0#8 → k.withdrawals = [w] → stays → CanSend s 1 →
      ∃ t : State, exec c s = .next t
        ∧ Reissued { s' with tabs := t.tabs } t
          { k with live := without p k.live, withdrawals := [] } k.stale .holdsNothing
          (s.line.waiting.filter fun x => !ofTicket k.number x)
        ∧ tabIn t k.slot = some (Tab.voided s.join.figures i l tb) ∧ OtherSlots s t k.slot)
    ∧ (o = .fired → k.state = .fired ∨ k.state = .ready →
      ∃ t : State, exec c s = .next t
        ∧ t = { s' with tickets := t.tickets, tabs := t.tabs, notices := t.notices,
                        overflow := t.overflow, link := t.link }
        ∧ ticketOf t k.number
          = some { k with withdrawals := k.withdrawals.filter fun w => w.position != p }
        ∧ tabIn t k.slot = some (Tab.withLine i { l with state := .fired } tb)
        ∧ OtherSlots s t k.slot
        ∧ Notified s t (.withdrawRefused ⟨k.number, k.gen⟩ (tabCode (station s) k.slot k.issue) i))
    ∧ (o = .fired → k.state = .placing ∨ k.state = .placed →
      ∃ t : State, exec c s = .next t
        ∧ t = { s' with tickets := t.tickets, tabs := t.tabs, notices := t.notices,
                        overflow := t.overflow, link := t.link }
        ∧ ticketOf t k.number = some { k with
            state := .fired, wait := .none
            withdrawals := k.withdrawals.filter fun w => w.position != p }
        ∧ (∀ n : Nat, n ≠ k.number → ticketOf t n = ticketOf s n)
        ∧ ((tabIn t k.slot).bind fun tb' => tb'.lines[i]?) = some { l with state := .fired }
        ∧ (∀ (q j : Nat) (x : TabLine), q ≠ p → k.positions[q]? = some j → j ≠ i →
            k.live.getLsbD q = true → tb.lines[j]? = some x → x.state = .sent →
            ((tabIn t k.slot).bind fun tb' => tb'.lines[j]?) = some { x with state := .fired })
        ∧ OtherSlots s t k.slot
        ∧ Notified s t (.withdrawRefused ⟨k.number, k.gen⟩ (tabCode (station s) k.slot k.issue) i)) := by
  intro s' c stays
  have hx : exec c s = .next (endByOutcome k p o e s') := reply_taken h hk ha hw hwp
  have hk' : ticketOf s' k.number = some k := (ticketOf_arrived _ s _).trans hk
  have ht' : tabIn s' k.slot = some tb := (tabIn_arrived _ s _).trans ht
  have htickets : s'.tickets = s.tickets := arrived_tickets _ s
  have hcode : ticketCode s' k = tabCode (station s) k.slot k.issue :=
    congrArg (fun st => tabCode st k.slot k.issue) (station_arrived _ s)
  refine ⟨fun ho hlive hstay => ?_, fun ho hlive => ?_, fun ho hs hlive hws hstay hc => ?_,
    fun ho hs => ?_, fun ho hs => ?_⟩
  · have hne : o ≠ .fired := by
      rcases ho with ⟨rfl, -⟩ | ⟨ho, -⟩
      · decide
      · exact ho
    have hheld : (o == .unknown || e) = false ∨ k.state = .fired ∨ k.state = .ready := by
      rcases ho with ⟨rfl, rfl⟩ | ⟨-, hs⟩
      · exact .inl rfl
      · exact .inr hs
    rw [endByOutcome_withdrawn hne, withdrawnLine_stays hlive hheld hpos ht' hl hls
      (by rw [htickets]; exact hstay), voided_arrived] at hx
    obtain ⟨h1, h2, h3, h4⟩ := reply_stays (p := p) (tb' := Tab.voided s.join.figures i l tb) hk' ht'
    exact ⟨_, hx, h1, h2, h3, otherSlots_of_arrived h4⟩
  · rw [endByOutcome_withdrawn ho, withdrawnLine_emptied hlive] at hx
    obtain ⟨h1, h2, h3, h4⟩ := emptied_of (p := p) (f := Ticket.dropPosition p) hk'
      (by exact fun _ => ⟨rfl, rfl⟩) hpos ht' hl hls
    rw [htickets] at h2
    exact ⟨_, hx, h1, h2, h3, checked_of_arrived h4⟩
  · have hne : o ≠ .fired := by
      rcases ho with rfl | ⟨rfl, -⟩ <;> decide
    have hyes : (o == .unknown || e) = true := by
      rcases ho with rfl | ⟨rfl, rfl⟩ <;> rfl
    subst hwp
    rw [endByOutcome_withdrawn hne, hyes, withdrawnLine_reissues hlive hs hpos ht' hl hls
      (by rw [htickets]; exact hstay), voided_arrived, putTab_frame] at hx
    obtain ⟨h1, h2⟩ := reply_reissues
      (putTab k.slot (some (Tab.voided s.join.figures i l tb)) s').tabs hk' hws hlive (canSend_arrived hc _)
    obtain ⟨hother, htab⟩ := putTab_changes ht' (some (Tab.voided s.join.figures i l tb))
    have hwait : s'.line.waiting = s.line.waiting := (congrArg LineCtl.waiting (arrived_line _ s) :)
    rw [hwait] at h1
    refine ⟨_, hx, ?_, (tabIn_congr h2 _).trans htab, fun j hj => ?_⟩
    · rw [h2]
      exact h1
    · rw [h2, hother j hj, show s'.tabs = s.tabs from arrived_tabs _ s]
  · subst ho
    obtain ⟨h1, h2, h3, h4, h5⟩ := reply_refused_late hk' hs hpos ht' hl hls
    rw [hcode] at h5
    exact ⟨_, hx, h1, h2, h3, otherSlots_of_arrived h4, notified_of_arrived h5⟩
  · subst ho
    obtain ⟨⟨h1, h2, h3⟩, h4, h5, h6, h7⟩ := reply_refused_early hk' hs hpos ht' hl hls
    rw [hcode] at h7
    exact ⟨_, hx, h1, h2, fun n hn => (h3 n hn).trans (ticketOf_arrived _ s n), h4, h5,
      otherSlots_of_arrived h6, notified_of_arrived h7⟩

/-- Settles O38. -/
theorem progressAndWithdrawReplies : Obligations.ProgressAndWithdrawReplies := by
  unfold Obligations.ProgressAndWithdrawReplies
  refine ⟨⟨fun s dest src ref ks m k a h hk hg ha hsrc hks => ?_,
    fun s dest src ref m k a h hk hg ha hsrc => ?_, fun s dest src ref => ?_⟩,
    fun s dest src p i ref o e k a h hk hg ha hsrc hpos => ?_⟩
  · obtain ⟨number, gen⟩ := ref
    obtain rfl := ticketOf_number hk
    obtain rfl : k.gen = gen := hg
    subst hsrc
    obtain ⟨-, hnum, hku, hother, hx⟩ := progress_taken h hk rfl ha rfl
    obtain ⟨hframe, hrest⟩ := progress_moves hks hku hnum hother
    obtain ⟨hplaced, hfired, hready, hlateFirst, hlate, hagain⟩ :=
      progress_rows (f := ⟨dest, a.station, .progress ⟨k.number, k.gen⟩ ks m⟩) (m := m) ks hk ha
    refine ⟨_, hx, hframe, hrest, hplaced, fun hs hk => ?_, fun hs hk => ?_, fun hs hk =>
      (hlateFirst hs hk).1, fun hs hk => ?_, fun hs hk => ?_, fun hs hk => (hlate hs hk).1,
      fun hs hk => (hfired hs hk).2.1, fun hs hk => (hready hs hk).2.1,
      fun hs hk => (hlateFirst hs hk).2, fun hs hk => (hlate hs hk).2, hagain,
      fun tb i p l hs hk => (hfired hs hk).2.2 tb i p l, fun tb i p l hs hk => (hready hs hk).2.2 tb i p l⟩
    · have hrow := (hfired (.inl hs) hk).1
      rw [placedAfter_placing hs] at hrow
      exact hrow
    · have hrow := (hready (.inl hs) hk).1
      rw [placedAfter_placing hs] at hrow
      exact hrow
    · have hrow := (hfired (.inr hs) hk).1
      rw [placedAfter_later (.inl hs)] at hrow
      exact hrow
    · have hrow := (hready (.inr hs) hk).1
      rw [placedAfter_later hs] at hrow
      exact hrow
  · obtain ⟨number, gen⟩ := ref
    obtain rfl := ticketOf_number hk
    obtain rfl : k.gen = gen := hg
    subst hsrc
    refine ⟨fun hs hw hl hc => refused_reissues h hk ha hs hw hl hc,
      fun w i tb l hs hw hlive hp ht hl hls hc => refused_frees h hk ha hs hw hlive hp ht hl hls hc,
      fun hs => ?_⟩
    obtain ⟨-, -, hku, hother, hx⟩ := progress_taken h hk rfl ha rfl
    rw [takeProgress_refusedLate (k := masked m k) hs] at hx
    exact ⟨_, hx, rfl, hku, hother⟩
  · refine ⟨fun ks m h => ⟨fun k hk hstale hc => ?_, fun hk => ?_⟩,
      fun p o e h => ⟨fun k hk hstale hc => ?_, fun hk => ?_⟩⟩
    · refine ⟨_, ?_, stale_answered hk hc⟩
      rw [exec_progress h, ticketProgress_stale ((ticketOf_arrived _ s _).trans hk) hstale]
    · rw [exec_progress h, ticketProgress_unknown ((ticketOf_arrived _ s _).trans hk)]
    · refine ⟨_, ?_, stale_answered hk hc⟩
      rw [exec_withdrawReply h, ticketWithdrawReply_stale ((ticketOf_arrived _ s _).trans hk) hstale]
    · rw [exec_withdrawReply h, ticketWithdrawReply_unknown ((ticketOf_arrived _ s _).trans hk)]
  · obtain ⟨number, gen⟩ := ref
    obtain rfl := ticketOf_number hk
    obtain rfl : k.gen = gen := hg
    subst hsrc
    refine ⟨fun hno => ?_, fun w tb l hw hwp ht hl hls => reply_ends h hk ha hpos hw hwp ht hl hls⟩
    rw [exec_withdrawReply h]
    exact congrArg Host.Outcome.next
      (ticketWithdrawReply_ignored ((ticketOf_arrived _ s _).trans hk) ha hno)

end Sys2Proof.Machine
end

section
-- One proof at a time: side by side, their threads' stacks outgrow the check's memory.
set_option Elab.async false
/-! The parts of a SEND (R61 to R66): the numbers, the pieces, the reports and the OFFERs. -/

namespace Sys2Proof.Machine

/-! ## Ticket numbers (R61) -/

/-- A new ticket takes the first number, from the next one on, that no record holds. -/
theorem takeNumber_first {s : State} (h : s.tickets.length ≤ 32) :
    ∃ d : Nat, takeNumber s = (s.nextTicket - 1 + d) % 4095 + 1
      ∧ ∀ d' : Nat, d' < d → ∃ x : Ticket, x ∈ s.tickets
        ∧ x.number = (s.nextTicket - 1 + d') % 4095 + 1 := by
  obtain ⟨hfresh, hlo, hhi⟩ := takeNumber_fresh h
  have htake : takeNumber s = (((List.range 33).find? fun i =>
      (ticketOf s ((s.nextTicket - 1 + i) % 4095 + 1)).isNone).map
        fun i => (s.nextTicket - 1 + i) % 4095 + 1).getD s.nextTicket := by
    unfold takeNumber
    rw [List.find?_map]
    rfl
  cases hfind : (List.range 33).find? fun i =>
      (ticketOf s ((s.nextTicket - 1 + i) % 4095 + 1)).isNone with
  | none =>
    rw [hfind, Option.map_none, Option.getD_none] at htake
    have hheld := List.find?_eq_none.1 hfind 0 (by decide)
    have hnext : (s.nextTicket - 1 + 0) % 4095 + 1 = takeNumber s := by omega
    rw [hnext] at hheld
    refine absurd ?_ hheld
    refine Option.isNone_iff_eq_none.2 (List.find?_eq_none.2 fun x hx he => ?_)
    exact hfresh x hx (beq_iff_eq.1 he)
  | some d =>
    rw [hfind, Option.map_some, Option.getD_some] at htake
    refine ⟨d, htake, fun d' hd => ?_⟩
    have hheld := (List.find?_range_eq_some.1 hfind).2.2 d' hd
    cases hx : ticketOf s ((s.nextTicket - 1 + d') % 4095 + 1) with
    | none =>
      rw [hx] at hheld
      cases hheld
    | some x => exact ⟨x, List.mem_of_find?_eq_some hx, ticketOf_number hx⟩

theorem ticketOf_eq_none {s : State} {n : Nat} : ticketOf s n = none ↔ ∀ x ∈ s.tickets, x.number ≠ n := by
  unfold ticketOf
  rw [List.find?_eq_none]
  exact forall₂_congr fun x _ => by rw [beq_iff_eq]

/-! ## The pieces of a class (R64) -/

theorem flatten_cut8 {fuel : Nat} {xs : List Nat} (h : xs.length ≤ 8 * fuel) :
    (cut8 fuel xs).flatten = xs := by
  induction fuel generalizing xs with
  | zero =>
    obtain rfl := List.length_eq_zero_iff.1 (Nat.le_zero.1 h)
    rfl
  | succ fuel ih =>
    cases xs with
    | nil => rfl
    | cons x xs =>
      show (_ :: cut8 fuel _).flatten = _
      rw [List.flatten_cons, ih (by rw [List.length_drop]; unfold ticketSize; omega)]
      exact List.take_append_drop _ _

theorem length_of_mem_cut8 {fuel : Nat} {xs ys : List Nat} (h : ys ∈ cut8 fuel xs) :
    1 ≤ ys.length ∧ ys.length ≤ 8 := by
  induction fuel generalizing xs with
  | zero => cases xs <;> cases h
  | succ fuel ih =>
    cases xs with
    | nil => cases h
    | cons x xs =>
      rcases List.mem_cons.1 h with rfl | h
      · rw [List.length_take]
        unfold ticketSize
        rw [List.length_cons]
        omega
      · exact ih h

theorem mem_enteredOf {tb : Tab} {c i : Nat} : i ∈ enteredOf tb c
    ↔ ∃ l : TabLine, tb.lines[i]? = some l ∧ l.state = .entered ∧ l.cls = c := by
  unfold enteredOf
  rw [List.mem_map]
  constructor
  · rintro ⟨⟨l, j⟩, hmem, rfl⟩
    obtain ⟨hin, hp⟩ := List.mem_filter.1 hmem
    obtain ⟨hs, hc⟩ := Bool.and_eq_true_iff.1 hp
    exact ⟨l, List.mem_zipIdx_iff_getElem?.1 hin, beq_iff_eq.1 hs, beq_iff_eq.1 hc⟩
  · rintro ⟨l, hl, hs, hc⟩
    refine ⟨(l, i), List.mem_filter.2 ⟨List.mem_zipIdx_iff_getElem?.2 hl, ?_⟩, rfl⟩
    exact Bool.and_eq_true_iff.2 ⟨beq_iff_eq.2 hs, beq_iff_eq.2 hc⟩

theorem length_enteredOf_le (tb : Tab) (c : Nat) : (enteredOf tb c).length ≤ tb.lines.length := by
  unfold enteredOf
  rw [List.length_map]
  exact (List.length_filter_le _ _).trans (by rw [List.length_zipIdx])

theorem mem_ticketsNeeded {tb : Tab} {g : Nat × List Nat} : g ∈ ticketsNeeded tb
    ↔ (1 ≤ g.1 ∧ g.1 ≤ 7) ∧ g.2 ∈ cut8 lineCapacity (enteredOf tb g.1) := by
  have hclass : ∀ c, c ∈ (List.range 8).drop 1 ↔ 1 ≤ c ∧ c ≤ 7 := by
    intro c
    show c ∈ [1, 2, 3, 4, 5, 6, 7] ↔ _
    simp only [List.mem_cons, List.not_mem_nil, or_false]
    omega
  unfold ticketsNeeded
  rw [List.mem_flatMap]
  constructor
  · rintro ⟨c, hc, hg⟩
    obtain ⟨lines, hlines, rfl⟩ := List.mem_map.1 hg
    exact ⟨(hclass c).1 hc, hlines⟩
  · rintro ⟨hc, hlines⟩
    exact ⟨g.1, (hclass g.1).2 hc, List.mem_map.2 ⟨g.2, hlines, rfl⟩⟩

/-- A line stands in a piece of its class exactly when it is ENTERED. -/
theorem mem_of_mem_ticketsNeeded {tb : Tab} {g : Nat × List Nat} {i : Nat} (hlen : tb.lines.length ≤ 24)
    (hg : g ∈ ticketsNeeded tb) (hi : i ∈ g.2) :
    ∃ l : TabLine, tb.lines[i]? = some l ∧ l.state = .entered ∧ l.cls = g.1 := by
  obtain ⟨-, hcut⟩ := mem_ticketsNeeded.1 hg
  have hle := length_enteredOf_le tb g.1
  refine mem_enteredOf.1 ?_
  rw [← flatten_cut8 (fuel := lineCapacity) (xs := enteredOf tb g.1) (by unfold lineCapacity; omega)]
  exact List.mem_flatten.2 ⟨g.2, hcut, hi⟩

theorem exists_mem_ticketsNeeded {tb : Tab} {i : Nat} {l : TabLine} (hlen : tb.lines.length ≤ 24)
    (hl : tb.lines[i]? = some l) (hs : l.state = .entered) (h1 : 1 ≤ l.cls) (h7 : l.cls ≤ 7) :
    ∃ g ∈ ticketsNeeded tb, i ∈ g.2 := by
  have hle := length_enteredOf_le tb l.cls
  have hi : i ∈ enteredOf tb l.cls := mem_enteredOf.2 ⟨l, hl, hs, rfl⟩
  rw [← flatten_cut8 (fuel := lineCapacity) (xs := enteredOf tb l.cls) (by unfold lineCapacity; omega)] at hi
  obtain ⟨ys, hys, hiy⟩ := List.mem_flatten.1 hi
  exact ⟨(l.cls, ys), mem_ticketsNeeded.2 ⟨⟨h1, h7⟩, hys⟩, hiy⟩

/-! ## Reports on a tab that is not CLOSED -/

/-- A tab after a report to each of several lines, each with its own. -/
def Tab.reportAll {α : Type} (i : α → Nat) (r : α → Report) (tb : Tab) (xs : List α) : Tab :=
  xs.foldl (fun tb x => Tab.report (r x) tb (i x)) tb

theorem reportAll_frame {α : Type} (i : α → Nat) (r : α → Report) (tb : Tab) (xs : List α) :
    Tab.reportAll i r tb xs = { tb with lines := (Tab.reportAll i r tb xs).lines }
      ∧ (Tab.reportAll i r tb xs).lines.length = tb.lines.length := by
  unfold Tab.reportAll
  induction xs generalizing tb with
  | nil => exact ⟨rfl, rfl⟩
  | cons x xs ih =>
    obtain ⟨h1, h2⟩ := report_frame (r x) tb (i x)
    obtain ⟨h3, h4⟩ := ih (Tab.report (r x) tb (i x))
    refine ⟨?_, h4.trans h2⟩
    rw [List.foldl_cons, h3, h1]

/-- What one line becomes under the reports to it. -/
def reportedLine {α : Type} (i : α → Nat) (r : α → Report) (j : Nat) (xs : List α) (l : TabLine) : TabLine :=
  xs.foldl (fun l x => if j = i x then lineAfter (r x) l else l) l

theorem getElem?_reportAll {α : Type} (i : α → Nat) (r : α → Report) (tb : Tab) (xs : List α) (j : Nat) :
    (Tab.reportAll i r tb xs).lines[j]? = (tb.lines[j]?).map (reportedLine i r j xs) := by
  unfold Tab.reportAll
  induction xs generalizing tb with
  | nil => exact Option.map_id'.symm
  | cons x xs ih =>
    rw [List.foldl_cons, ih, getElem?_report, Option.map_map]
    rfl

/-- Reports that void nothing change the lines of a tab that is not CLOSED, and the tab stays. -/
theorem lineReports_of_open {α : Type} {s : State} {slot : Nat} {tb : Tab} (i : α → Nat) (r : α → Report)
    (hr : ∀ x, Report.target (r x) ≠ .void) (ht : tabIn s slot = some tb) (hc : tb.state ≠ .closed)
    (xs : List α) : xs.foldl (fun s x => lineReport slot (i x) (r x) s) s
      = putTab slot (some (Tab.reportAll i r tb xs)) s := by
  unfold Tab.reportAll
  induction xs generalizing s tb with
  | nil => exact (putTab_self ht).symm
  | cons x xs ih =>
    have hstate : (Tab.report (r x) tb (i x)).state ≠ .closed := by
      rw [(report_frame (r x) tb (i x)).1]
      exact hc
    rw [List.foldl_cons, List.foldl_cons, lineReport_of_open (hr x) ht hc,
      ih (tabIn_putTab_self _ (lt_of_tabIn ht)) hstate, putTab_putTab]

/-- A line that is not ENTERED is reported sent, or served at the counter, in vain. -/
theorem reportedLine_fixed {α : Type} {i : α → Nat} {r : α → Report} {l : TabLine}
    (h : ∀ x, applyReport (r x) l = none) (j : Nat) (xs : List α) : reportedLine i r j xs l = l := by
  unfold reportedLine
  induction xs with
  | nil => rfl
  | cons x xs ih =>
    have hl : lineAfter (r x) l = l := by
      unfold lineAfter
      rw [h x]
      rfl
    rw [List.foldl_cons, hl, ite_self]
    exact ih

theorem reportedLine_missed {α : Type} {i : α → Nat} {r : α → Report} {j : Nat} {xs : List α}
    (h : ∀ x ∈ xs, i x ≠ j) (l : TabLine) : reportedLine i r j xs l = l := by
  unfold reportedLine
  induction xs with
  | nil => rfl
  | cons x xs ih =>
    rw [List.foldl_cons, if_neg (Ne.symm (h x List.mem_cons_self))]
    exact ih fun y hy => h y (List.mem_cons_of_mem x hy)

/-- The first report that reaches a line changes it, if those after it change it no more. -/
theorem reportedLine_reached {α : Type} {i : α → Nat} {r : α → Report} {j : Nat} {xs : List α} {l : TabLine}
    (h : ∃ x ∈ xs, i x = j)
    (hfixed : ∀ x y, applyReport (r y) (lineAfter (r x) l) = none) :
    ∃ x ∈ xs, i x = j ∧ reportedLine i r j xs l = lineAfter (r x) l := by
  induction xs with
  | nil =>
    obtain ⟨x, hx, -⟩ := h
    cases hx
  | cons x xs ih =>
    by_cases hx : i x = j
    · refine ⟨x, List.mem_cons_self, hx, ?_⟩
      unfold reportedLine
      rw [List.foldl_cons, if_pos hx.symm]
      exact reportedLine_fixed (fun y => hfixed x y) j xs
    · obtain ⟨y, hy, hyj⟩ := h
      have hyxs : y ∈ xs := (List.mem_cons.1 hy).resolve_left fun he => hx (he ▸ hyj)
      obtain ⟨z, hz, hzj, hline⟩ := ih ⟨y, hyxs, hyj⟩
      refine ⟨z, List.mem_cons_of_mem x hz, hzj, ?_⟩
      unfold reportedLine at hline ⊢
      rw [List.foldl_cons, if_neg (Ne.symm hx)]
      exact hline

theorem applyReport_sent_of {l : TabLine} (h : l.state ≠ .entered) (n p : Nat) :
    applyReport (.sent n p) l = none := by
  unfold applyReport
  cases hs : l.state with
  | entered => exact absurd hs h
  | _ => rfl

theorem lineAfter_sent {l : TabLine} (h : l.state = .entered) (n p : Nat) :
    lineAfter (.sent n p) l = { l with state := .sent, place := some (n, p) } := by
  unfold lineAfter applyReport
  rw [h]
  rfl

theorem lineAfter_counter {l : TabLine} (h : l.state = .entered) (hc : l.cls = 0) :
    lineAfter .counterServed l = { l with state := .served } := by
  unfold lineAfter applyReport
  rw [h]
  dsimp only
  rw [if_pos hc]
  rfl

/-! ## The OFFERs (R66) -/

/-- The OFFERs of several tickets join the transmit queue in the tickets' order. -/
theorem sendOffers_of {u : State} {ks : List Ticket} (h : ∀ k ∈ ks, ticketOf u k.number = some k)
    (hc : ks ≠ [] → CanSend u ks.length) :
    (ks.map Ticket.number).foldl (fun s n => sendOffer n s) u = { u with line := { u.line with
      waiting := ks.foldl
        (fun q k => joinQueue (newItem u (64 + k.cls) (offerBody u k) true) q) u.line.waiting } } := by
  induction ks generalizing u with
  | nil => rfl
  | cons k ks ih =>
    obtain ⟨hj, hf⟩ := hc (List.cons_ne_nil k ks)
    rw [List.length_cons] at hf
    rw [List.map_cons, List.foldl_cons,
      sendOffer_of_canSend (h k List.mem_cons_self) ⟨hj, by omega⟩, ih]
    · rfl
    · exact fun x hx => h x (List.mem_cons_of_mem k hx)
    · exact fun _ => canSend_joined (s := u) ⟨hj, hf⟩ rfl rfl rfl

end Sys2Proof.Machine
end

section
-- One proof at a time: side by side, their threads' stacks outgrow the check's memory.
set_option Elab.async false
/-! The tickets that a SEND creates, one after the other (R61, R64). -/

namespace Sys2Proof.Machine

/-! ## Numbers in order (R61) -/

/-- Where the search for a number begins after these new tickets. -/
def nextAfter (s : State) (news : List Ticket) : Nat :=
  ((news.getLast?).map fun x => x.number % 4095 + 1).getD s.nextTicket

/-- A new ticket has the first number from the next one on that no earlier record holds. -/
def NumberedAt (s : State) (earlier : List Ticket) (k : Ticket) : Prop :=
  ∃ d : Nat, k.number = (nextAfter s earlier - 1 + d) % 4095 + 1
    ∧ ∀ d' : Nat, d' < d → ∃ x : Ticket, x ∈ s.tickets ++ earlier
      ∧ x.number = (nextAfter s earlier - 1 + d') % 4095 + 1

def Numbered (s : State) (news : List Ticket) : Prop :=
  ∀ (j : Nat) (k : Ticket), news[j]? = some k → NumberedAt s (news.take j) k

theorem Numbered.append {s : State} {news : List Ticket} {k : Ticket} (h : Numbered s news)
    (hk : NumberedAt s news k) : Numbered s (news ++ [k]) := by
  intro j x hx
  rcases Nat.lt_or_ge j news.length with hj | hj
  · rw [List.getElem?_append_left hj] at hx
    rw [List.take_append_of_le_length (Nat.le_of_lt hj)]
    exact h j x hx
  · rw [List.getElem?_append_right hj, List.getElem?_singleton] at hx
    split at hx
    · obtain rfl := Option.some.inj hx
      have hj' : j = news.length := by omega
      rw [hj', List.take_left']
      · exact hk
      · rfl
    · cases hx

theorem nextAfter_take {s : State} {news : List Ticket} {j : Nat} {k : Ticket} (h : news[j]? = some k) :
    nextAfter s (news.take j) = if j = 0 then s.nextTicket
      else ((news[j - 1]?).map fun x => x.number % 4095 + 1).getD 0 := by
  have hlt : j < news.length := (List.getElem?_eq_some_iff.1 h).1
  unfold nextAfter
  rw [List.getLast?_take]
  split
  · rfl
  · rw [List.getElem?_eq_getElem (by omega : j - 1 < news.length)]
    rfl

/-! ## New tickets and their lines (R64) -/

/-- The record of a new ticket, as R64 gives it. -/
def IsNew (s : State) (code : Nat) (band : Band) (k : Ticket) : Prop :=
  (k.state = .offering ∧ k.gen = 0 ∧ k.attempt = 0 ∧ k.repeats = 0
      ∧ k.slot = codeSlot code ∧ k.issue = codeIssue code ∧ k.priority = band
      ∧ k.live = byte (2 ^ k.positions.length - 1) ∧ k.awardee = none ∧ k.stale = none
      ∧ k.kmask = 0#8 ∧ k.late = false ∧ k.sent = now s ∧ k.placed = none ∧ k.ready = none)
    ∧ ticketOf s k.number = none

/-- What a line of index `i` has become when the pieces `done` are the tickets `news`. -/
def SentLine (done : List (Nat × List Nat)) (news : List Ticket) (i : Nat) (l : TabLine)
    (x : Option TabLine) : Prop :=
  (l.state ≠ .entered ∨ (∀ g ∈ done, i ∉ g.2) → x = some l)
    ∧ (l.state = .entered → (∃ g ∈ done, i ∈ g.2) →
        ∃ (k : Ticket) (p : Nat), k ∈ news ∧ k.positions[p]? = some i
          ∧ x = some { l with state := .sent, place := some (k.number, p) })

/-- A SEND on its way: the pieces `done` are the tickets `news`, and the tab `before` is the tab `after`. -/
structure Created (s : State) (before : Tab) (code : Nat) (band : Band) (done : List (Nat × List Nat))
    (news : List Ticket) (after : Tab) (acc : List Nat × State) : Prop where
  numbers : acc.1 = news.map Ticket.number
  frame : acc.2 = { s with
    tabs := acc.2.tabs, tickets := s.tickets ++ news, nextTicket := nextAfter s news }
  pieces : news.map (fun k => (k.cls, k.positions)) = done
  fresh : ∀ k ∈ news, IsNew s code band k
  nodup : (news.map Ticket.number).Nodup
  order : Numbered s news
  tab : tabIn acc.2 (codeSlot code) = some after
  same : after = { before with lines := after.lines }
  length : after.lines.length = before.lines.length
  others : OtherSlots s acc.2 (codeSlot code)
  lines : ∀ (i : Nat) (l : TabLine), before.lines[i]? = some l → SentLine done news i l after.lines[i]?

/-- The tab with the lines of one more ticket reported sent. -/
def sentTab (n : Nat) (lines : List Nat) (tb : Tab) : Tab :=
  Tab.reportAll Prod.fst (fun p : Nat × Nat => .sent n p.2) tb lines.zipIdx

theorem createTicket_of {u : State} {tb after : Tab} {band : Band} {nums : List Nat} {g : Nat × List Nat}
    (ht : tabIn u (codeSlot tb.code) = some after) (hc : after.state ≠ .closed) :
    createTicket tb band (nums, u) g
      = (nums ++ [takeNumber u], putTab (codeSlot tb.code) (some (sentTab (takeNumber u) g.2 after))
          { u with
            tickets := u.tickets ++ [newTicket u tb band g.1 g.2]
            nextTicket := takeNumber u % 4095 + 1 }) := by
  unfold createTicket sentTab
  dsimp only
  rw [← lineReports_of_open (s := { u with
      tickets := u.tickets ++ [newTicket u tb band g.1 g.2], nextTicket := takeNumber u % 4095 + 1 })
    Prod.fst (fun p : Nat × Nat => .sent (takeNumber u) p.2) (fun _ h => nomatch h) ht hc]
  rfl

/-- One more ticket sends the lines of its piece. -/
theorem SentLine.append {done : List (Nat × List Nat)} {news : List Ticket} {i : Nat} {l : TabLine}
    {tb : Tab} {k : Ticket} {g : Nat × List Nat} (h : SentLine done news i l tb.lines[i]?)
    (hk : k.positions = g.2) :
    SentLine (done ++ [g]) (news ++ [k]) i l (sentTab k.number g.2 tb).lines[i]? := by
  obtain ⟨hkept, hsent⟩ := h
  have hget := getElem?_reportAll Prod.fst (fun p : Nat × Nat => Report.sent k.number p.2) tb g.2.zipIdx i
  unfold sentTab
  rw [hget]
  refine ⟨fun hno => ?_, fun hs hin => ?_⟩
  · rcases hno with hs | hmiss
    · rw [hkept (.inl hs), Option.map_some, reportedLine_fixed fun x => applyReport_sent_of hs _ _]
    · have hdone : ∀ g' ∈ done, i ∉ g'.2 := fun g' hg' => hmiss g' (List.mem_append_left _ hg')
      rw [hkept (.inr hdone), Option.map_some, reportedLine_missed]
      rintro ⟨j, p⟩ hx rfl
      exact hmiss g (List.mem_append_right _ (List.mem_singleton.2 rfl)) (List.fst_mem_of_mem_zipIdx hx)
  · by_cases hdone : ∃ g' ∈ done, i ∈ g'.2
    · obtain ⟨x, p, hx, hp, hline⟩ := hsent hs hdone
      refine ⟨x, p, List.mem_append_left _ hx, hp, ?_⟩
      rw [hline, Option.map_some, reportedLine_fixed fun y => applyReport_sent_of (by rintro ⟨⟩) _ _]
    · have hmiss : ∀ g' ∈ done, i ∉ g'.2 := fun g' hg' hi => hdone ⟨g', hg', hi⟩
      have hig : i ∈ g.2 := by
        obtain ⟨g', hg', hi⟩ := hin
        rcases List.mem_append.1 hg' with hg' | hg'
        · exact absurd hi (hmiss g' hg')
        · rw [List.mem_singleton.1 hg'] at hi
          exact hi
      obtain ⟨p, hp⟩ := List.mem_iff_getElem?.1 hig
      obtain ⟨⟨j, q⟩, hx, hj, hline⟩ := reportedLine_reached (i := Prod.fst)
        (r := fun p : Nat × Nat => Report.sent k.number p.2) (j := i) (xs := g.2.zipIdx) (l := l)
        ⟨(i, p), List.mem_zipIdx_iff_getElem?.2 hp, rfl⟩
        (fun x y => by
          rw [lineAfter_sent hs]
          exact applyReport_sent_of (by rintro ⟨⟩) _ _)
      obtain rfl : j = i := hj
      refine ⟨k, q, List.mem_append_right _ (List.mem_singleton.2 rfl), ?_, ?_⟩
      · rw [hk]
        exact List.mem_zipIdx_iff_getElem?.1 hx
      · rw [hkept (.inr hmiss), Option.map_some, hline, lineAfter_sent hs]

/-- One more piece becomes one more ticket. -/
theorem Created.append {s : State} {tb before after : Tab} {band : Band} {done : List (Nat × List Nat)}
    {news : List Ticket} {acc : List Nat × State}
    (h : Created s before tb.code band done news after acc) (hc : before.state ≠ .closed)
    (hroom : s.tickets.length + done.length < 32) (g : Nat × List Nat) :
    ∃ (k : Ticket) (after' : Tab),
      Created s before tb.code band (done ++ [g]) (news ++ [k]) after' (createTicket tb band acc g) := by
  obtain ⟨nums, u⟩ := acc
  obtain ⟨hnums, hframe, hpieces, hfresh, hnodup, horder, htab, hsame, hlen, hothers, hlines⟩ := h
  dsimp only at hnums hframe htab hothers
  have hcount : news.length = done.length := by rw [← hpieces, List.length_map]
  have htickets : u.tickets = s.tickets ++ news := (congrArg State.tickets hframe :)
  have hnext : u.nextTicket = nextAfter s news := (congrArg State.nextTicket hframe :)
  have hle : u.tickets.length ≤ 32 := by
    rw [htickets, List.length_append]
    omega
  have hclosed : after.state ≠ .closed := by
    rw [hsame]
    exact hc
  obtain ⟨hunheld, -, -⟩ := takeNumber_fresh hle
  rw [htickets] at hunheld
  have hput := putTab_changes (s := { u with
      tickets := u.tickets ++ [newTicket u tb band g.1 g.2], nextTicket := takeNumber u % 4095 + 1 })
    htab (some (sentTab (takeNumber u) g.2 after))
  obtain ⟨hsent1, hsent2⟩ := reportAll_frame Prod.fst (fun p : Nat × Nat => Report.sent (takeNumber u) p.2)
    after g.2.zipIdx
  refine ⟨newTicket u tb band g.1 g.2, sentTab (takeNumber u) g.2 after, ?_⟩
  rw [createTicket_of htab hclosed]
  refine ⟨?_, ?_, ?_, ?_, ?_, ?_, hput.2, ?_, hsent2.trans hlen, ?_, ?_⟩
  · dsimp only
    rw [hnums, List.map_append]
    rfl
  · dsimp only
    rw [putTab_frame]
    dsimp only
    have hafter : nextAfter s (news ++ [newTicket u tb band g.1 g.2]) = takeNumber u % 4095 + 1 := by
      unfold nextAfter
      rw [List.getLast?_concat]
      rfl
    rw [hafter, ← List.append_assoc, ← htickets]
    rw [hframe]
  · rw [List.map_append, hpieces]
    rfl
  · intro x hx
    rcases List.mem_append.1 hx with hx | hx
    · exact hfresh x hx
    · rw [List.mem_singleton.1 hx]
      have hnow : now u = now s := (congrArg now hframe :)
      refine ⟨⟨rfl, rfl, rfl, rfl, rfl, rfl, rfl, rfl, rfl, rfl, rfl, rfl, hnow, rfl, rfl⟩,
        ticketOf_eq_none.2 fun y hy => hunheld y (List.mem_append_left _ hy)⟩
  · rw [List.map_append, List.map_singleton, List.nodup_append]
    refine ⟨hnodup, List.nodup_singleton _, fun a ha b hb => ?_⟩
    obtain ⟨y, hy, rfl⟩ := List.mem_map.1 ha
    rw [List.mem_singleton.1 hb]
    exact hunheld y (List.mem_append_right _ hy)
  · refine horder.append ?_
    obtain ⟨d, hd, hfirst⟩ := takeNumber_first hle
    rw [hnext] at hd hfirst
    rw [htickets] at hfirst
    exact ⟨d, hd, hfirst⟩
  · exact hsent1.trans (by rw [hsame]; rfl)
  · exact fun i hi => (hput.1 i hi).trans (hothers i hi)
  · exact fun i l hl => (hlines i l hl).append rfl

/-- All the pieces become tickets, one after the other. -/
theorem created_all {s : State} {tb before : Tab} {band : Band} (hc : before.state ≠ .closed)
    (gs : List (Nat × List Nat)) {done : List (Nat × List Nat)} {news : List Ticket} {after : Tab}
    {acc : List Nat × State} (h : Created s before tb.code band done news after acc)
    (hroom : s.tickets.length + done.length + gs.length ≤ 32) :
    ∃ (news' : List Ticket) (after' : Tab),
      Created s before tb.code band (done ++ gs) news' after' (gs.foldl (createTicket tb band) acc) := by
  induction gs generalizing done news after acc with
  | nil => exact ⟨news, after, by rw [List.append_nil]; exact h⟩
  | cons g gs ih =>
    rw [List.length_cons] at hroom
    obtain ⟨k, after', h'⟩ := h.append hc (by omega) g
    obtain ⟨news', after'', h''⟩ := ih h' (by rw [List.length_append, List.length_singleton]; omega)
    rw [List.append_assoc, List.singleton_append] at h''
    exact ⟨news', after'', h''⟩

end Sys2Proof.Machine
end

section
-- One proof at a time: side by side, their threads' stacks outgrow the check's memory.
set_option Elab.async false
/-! SEND (R61 to R66). -/

namespace Sys2Proof.Machine

/-! ## The counter's lines (R64) -/

/-- The tab with the lines of the counter served. -/
def counterServedTab (tb : Tab) : Tab :=
  Tab.reportAll id (fun _ : Nat => .counterServed) tb (enteredOf tb 0)

theorem applyReport_counter_of {l : TabLine} (h : l.state ≠ .entered) :
    applyReport .counterServed l = none := by
  unfold applyReport
  cases hs : l.state with
  | entered => exact absurd hs h
  | _ => rfl

/-- What a line has become once the counter's lines are served. -/
theorem counterServedTab_lines {tb : Tab} {i : Nat} {l : TabLine} (hl : tb.lines[i]? = some l) :
    (l.state ≠ .entered ∨ l.cls ≠ 0 → (counterServedTab tb).lines[i]? = some l)
      ∧ (l.state = .entered → l.cls = 0 →
          (counterServedTab tb).lines[i]? = some { l with state := .served }) := by
  unfold counterServedTab
  rw [getElem?_reportAll, hl, Option.map_some]
  refine ⟨fun h => ?_, fun hs hc => ?_⟩
  · rcases h with hs | hc
    · rw [reportedLine_fixed fun _ => applyReport_counter_of hs]
    · rw [reportedLine_missed]
      rintro j hj rfl
      obtain ⟨l', hl', -, hc'⟩ := mem_enteredOf.1 hj
      obtain rfl := Option.some.inj (hl.symm.trans hl')
      exact hc hc'
  · obtain ⟨j, -, -, hline⟩ := reportedLine_reached (i := id) (r := fun _ : Nat => Report.counterServed)
      (j := i) (xs := enteredOf tb 0) (l := l) ⟨i, mem_enteredOf.2 ⟨l, hl, hs, hc⟩, rfl⟩
      (fun _ _ => by
        rw [lineAfter_counter hs hc]
        exact applyReport_counter_of (by rintro ⟨⟩))
    rw [hline, lineAfter_counter hs hc]

/-! ## The effect of a SEND -/

theorem created_none {s : State} {tb : Tab} {code : Nat} {band : Band} {served : Tab}
    (ht : tabIn s (codeSlot code) = some tb) :
    Created s served code band [] [] served ([], putTab (codeSlot code) (some served) s) := by
  obtain ⟨hother, htab⟩ := putTab_changes ht (some served)
  refine ⟨rfl, ?_, rfl, fun k hk => (by cases hk), List.nodup_nil, fun j k hk => (by cases hk), htab, rfl, rfl,
    hother, fun i l hl => ⟨fun _ => hl, fun _ hin => ?_⟩⟩
  · dsimp only
    rw [putTab_frame, List.append_nil]
    rfl
  · obtain ⟨g, hg, -⟩ := hin
    cases hg

/-- A new ticket is the record of its number. -/
theorem Created.ticketOf_new {s : State} {before after : Tab} {code : Nat} {band : Band}
    {done : List (Nat × List Nat)} {news : List Ticket} {acc : List Nat × State}
    (h : Created s before code band done news after acc) {k : Ticket} (hk : k ∈ news) :
    ticketOf acc.2 k.number = some k := by
  have htickets : acc.2.tickets = s.tickets ++ news := (congrArg State.tickets h.frame :)
  have hold : ticketOf s k.number = none := (h.fresh k hk).2
  have hnew : news.find? (fun t => t.number == k.number) = some k :=
    find?_of_nodup h.nodup hk fun y => beq_iff_eq
  unfold ticketOf at hold ⊢
  rw [htickets, List.find?_append, hold, hnew]
  rfl

theorem Created.pieces_mem {s : State} {before after : Tab} {code : Nat} {band : Band}
    {done : List (Nat × List Nat)} {news : List Ticket} {acc : List Nat × State}
    (h : Created s before code band done news after acc) {k : Ticket} (hk : k ∈ news) :
    (k.cls, k.positions) ∈ done := by
  rw [← h.pieces]
  exact List.mem_map_of_mem hk

/-- The state after a SEND whose pieces became these tickets: their OFFERs are queued. -/
def offered (news : List Ticket) (u : State) : State :=
  { u with line := { u.line with
      waiting := news.foldl
        (fun q k => joinQueue (newItem u (64 + k.cls) (offerBody u k) true) q) u.line.waiting } }

theorem sendEffect_of {s : State} {tb : Tab} {band : Band} (ht : tabIn s (codeSlot tb.code) = some tb)
    (hc : tb.state ≠ .closed) (hroom : s.tickets.length + (ticketsNeeded tb).length ≤ 32)
    (hcan : ticketsNeeded tb ≠ [] → CanSend s (ticketsNeeded tb).length) :
    ∃ (news : List Ticket) (after : Tab) (u : State),
      Created s (counterServedTab tb) tb.code band (ticketsNeeded tb) news after (news.map Ticket.number, u)
        ∧ sendEffect tb band s = (news.map Ticket.number, offered news u) := by
  have hserved : (enteredOf tb 0).foldl (fun s i => lineReport (codeSlot tb.code) i .counterServed s) s
      = putTab (codeSlot tb.code) (some (counterServedTab tb)) s :=
    lineReports_of_open id (fun _ : Nat => .counterServed) (fun _ h => nomatch h) ht hc (enteredOf tb 0)
  have hclosed : (counterServedTab tb).state ≠ .closed := by
    unfold counterServedTab
    rw [(reportAll_frame _ _ _ _).1]
    exact hc
  obtain ⟨news, after, hall⟩ := created_all hclosed (ticketsNeeded tb)
    (created_none (band := band) (served := counterServedTab tb) ht)
    (by rw [List.length_nil]; omega)
  rw [List.nil_append] at hall
  have hcount : news.length = (ticketsNeeded tb).length := by rw [← hall.pieces, List.length_map]
  have hoffers := sendOffers_of (fun k hk => hall.ticketOf_new hk) fun hne => by
    have hneeded : ticketsNeeded tb ≠ [] := by
      rw [← List.length_pos_iff, ← hcount]
      exact List.length_pos_iff.2 hne
    rw [hcount, hall.frame]
    exact hcan hneeded
  rw [← hall.numbers] at hoffers
  refine ⟨news, after, _, by rw [← hall.numbers]; exact hall, ?_⟩
  unfold sendEffect
  dsimp only
  rw [hserved, hoffers, hall.numbers]
  rfl

/-- The lines of the tab after a SEND (R64). -/
theorem sent_lines {s : State} {tb after : Tab} {code : Nat} {band : Band} {news : List Ticket}
    {acc : List Nat × State}
    (h : Created s (counterServedTab tb) code band (ticketsNeeded tb) news after acc)
    (hlen : tb.lines.length ≤ 24) {i : Nat} {l : TabLine} (hl : tb.lines[i]? = some l) :
    (l.state ≠ .entered → after.lines[i]? = some l)
      ∧ (l.state = .entered → l.cls = 0 → after.lines[i]? = some { l with state := .served })
      ∧ (l.state = .entered → 1 ≤ l.cls → l.cls ≤ 7 →
          ∃ (k : Ticket) (p : Nat), k ∈ news ∧ k.cls = l.cls ∧ k.positions[p]? = some i
            ∧ after.lines[i]? = some { l with state := .sent, place := some (k.number, p) }) := by
  obtain ⟨hkept, hcounter⟩ := counterServedTab_lines hl
  refine ⟨fun hs => (h.lines i l (hkept (.inl hs))).1 (.inl hs), fun hs hc =>
    (h.lines i _ (hcounter hs hc)).1 (.inl (by rintro ⟨⟩)), fun hs h1 h7 => ?_⟩
  obtain ⟨k, p, hk, hp, hline⟩ := (h.lines i l (hkept (.inr (by omega)))).2 hs
    (exists_mem_ticketsNeeded hlen hl hs h1 h7)
  obtain ⟨l', hl', -, hcls⟩ := mem_of_mem_ticketsNeeded hlen (h.pieces_mem hk) (List.mem_of_getElem? hp)
  obtain rfl := Option.some.inj (hl.symm.trans hl')
  exact ⟨k, p, hk, hcls.symm, hp, hline⟩

theorem sendResult_of {s : State} {slot code prio : Nat} {r : SlotRecord} {tb : Tab} {band : Band}
    (h : TillSlot s slot 3 r) (ht : tabOf s code = some tb) (hc : tb.state ≠ .closed)
    (hband : prio = 0 ∧ band = .normal ∨ prio = 1 ∧ band = .rush)
    (hroom : s.tickets.length + (ticketsNeeded tb).length ≤ 32)
    (hcan : ticketsNeeded tb ≠ [] → CanSend s (ticketsNeeded tb).length) :
    sendResult slot code prio s = taken (byte (sendEffect tb band s).1.length
      :: (sendEffect tb band s).1.flatMap be16) (sendEffect tb band s).2 := by
  have hcode : Band.ofCode prio = some band := by
    rcases hband with ⟨rfl, rfl⟩ | ⟨rfl, rfl⟩ <;> rfl
  have hframes : ∀ k : RequestResult, needFrames s (ticketsNeeded tb).length k = k := by
    intro k
    by_cases hnil : ticketsNeeded tb = []
    · rw [hnil]
      rfl
    · exact needFrames_of (hcan hnil) k
  have hfree : (ticketsNeeded tb).length ≤ ticketCapacity - s.tickets.length := by
    unfold ticketCapacity
    omega
  unfold sendResult
  rw [tabRequest_of h ht, need_of hc, hcode]
  dsimp only
  rw [need_of hfree, hframes]

/-! ## One OFFER (R66) -/

/-- The fields of a ticket's OFFER, from the lines of its tab. -/
def offerFields (k : Ticket) (lines : List TabLine) : OfferFields :=
  { ref := Ticket.ref k, cls := k.cls, priority := k.priority, attempt := k.attempt
    items := k.positions.filterMap fun i =>
      lines[i]?.map fun l => { qty := l.qty, label := l.label, note := l.note } }

theorem offerBody_of {s : State} {k : Ticket} {tb : Tab} (ht : tabIn s k.slot = some tb) :
    offerBody s k = .offer (offerFields k tb.lines) := by
  unfold offerBody
  rw [ht]
  rfl

/-- A filter that keeps everything is a map. -/
theorem map_some_filterMap {α β : Type} {f : α → Option β} {xs : List α} (h : ∀ x ∈ xs, f x ≠ none) :
    (xs.filterMap f).map some = xs.map f := by
  induction xs with
  | nil => rfl
  | cons x xs ih =>
    obtain ⟨y, hy⟩ := Option.ne_none_iff_exists'.1 (h x List.mem_cons_self)
    rw [List.filterMap_cons_some hy, List.map_cons, List.map_cons, hy,
      ih fun z hz => h z (List.mem_cons_of_mem x hz)]

/-- Settles O34. -/
theorem sendCutsTicketsAndOffers : Obligations.SendCutsTicketsAndOffers := by
  unfold Obligations.SendCutsTicketsAndOffers
  refine ⟨fun s slot code prio r tb band h ht hc hlen hband hroom hcan => ?_,
    fun s n k tb hk ht hin hcan => ?_⟩
  · obtain ⟨-, htab, hcode⟩ := tabIn_of_tabOf ht
    subst hcode
    obtain ⟨news, after, u, hall, heffect⟩ := sendEffect_of (band := band) htab hc hroom hcan
    have hres := sendResult_of h ht hc hband hroom hcan
    rw [heffect] at hres
    have hframe : u = { s with
      tabs := u.tabs, tickets := s.tickets ++ news, nextTicket := nextAfter s news } := hall.frame
    have hitem : newItem u = newItem s := by rw [hframe]; rfl
    have hline : u.line = s.line := by rw [hframe]
    obtain ⟨hserved1, hserved2⟩ := reportAll_frame id (fun _ : Nat => Report.counterServed) tb (enteredOf tb 0)
    refine ⟨_, news, after, request_ok rfl h.1 hres, ?_, ?_, hall.pieces, fun k hk => ?_, hall.nodup,
      fun j k hj => ?_, ?_, hall.tab, ?_, hall.others, hall.length.trans hserved2,
      fun i l hl => sent_lines hall hlen hl, ?_, ?_, ?_⟩
    · unfold offered
      rw [hframe]
    · exact (congrArg State.tickets hframe :)
    · obtain ⟨hfields, hunheld⟩ := hall.fresh k hk
      obtain ⟨-, hcut⟩ := mem_ticketsNeeded.1 (hall.pieces_mem hk)
      obtain ⟨h1, h8⟩ := length_of_mem_cut8 hcut
      obtain ⟨f1, f2, f3, f4, f5, f6, f7, f8, f9, f10, f11, f12, f13, f14, f15⟩ := hfields
      exact ⟨f1, f2, f3, f4, f5, f6, f7, f8, f9, f10, f11, f12, f13, f14, f15, h1, h8, hunheld⟩
    · have hnumbered := hall.order j k hj
      unfold NumberedAt at hnumbered
      rw [nextAfter_take hj] at hnumbered
      exact hnumbered
    · exact (congrArg State.nextTicket hframe :)
    · exact hall.same.trans (by unfold counterServedTab; rw [hserved1])
    · unfold offered
      dsimp only
      rw [hitem, hline]
      rfl
    · unfold offered
      dsimp only
      rw [hline]
    · rw [List.length_map, List.flatMap_map]
      exact replied_replying _ _ _ _
  · obtain rfl := ticketOf_number hk
    refine ⟨offerFields k tb.lines, ?_, rfl, rfl, rfl, rfl, offerBody_of ht, ?_⟩
    · rw [sendOffer_of_canSend hk hcan, offerBody_of ht]
    · refine map_some_filterMap fun i hi => ?_
      rw [List.getElem?_eq_getElem (hin i hi)]
      exact Option.some_ne_none _

end Sys2Proof.Machine
end
